-- ==== Sys2Proof/Word.lean ====
section
/-! DEFINITION. Words of the machine: bytes, longwords and the plainest helpers on them (20_memory.md R270 to R272). -/
namespace Sys2Proof

/-- A byte, 20_memory.md R272. -/
abbrev Byte := BitVec 8
/-- A 16-bit word, R272. -/
abbrev Word16 := BitVec 16
/-- A longword, R272: the width of a general register. -/
abbrev Long := BitVec 32
/-- A quadword, R272. -/
abbrev Quad := BitVec 64
/-- An octaword, R272. -/
abbrev Octa := BitVec 128
/-- A register number, 10_state.md R30. -/
abbrev Reg := Fin 16

end Sys2Proof
end

