-- ==== Sys2Proof/Syntax.lean ====
section
/-! DEFINITION. The instruction set as syntax: operand specifiers (30_encoding.md R410 to R424) and one constructor of Instr for each row of spec/opcode_table.json. -/
namespace Sys2Proof

/-- Operand data types, 30_encoding.md R402. -/
inductive DT where
  | b | w | l | q | o | f | d | g | h
  deriving DecidableEq, Repr

/-- Size of a datum in bytes, 30_encoding.md R402. -/
@[reducible] def DT.len : DT → Nat
  | .b => 1 | .w => 2 | .l => 4 | .q => 8 | .o => 16 | .f => 4 | .d => 8 | .g => 8 | .h => 16

/-- Size of a datum in bits. -/
@[reducible] def DT.bits : DT → Nat
  | .b => 8 | .w => 16 | .l => 32 | .q => 64 | .o => 128 | .f => 32 | .d => 64 | .g => 64 | .h => 128

/-- Operand access types, 30_encoding.md R402, R420 (branch displacements are separate fields). -/
inductive Access where
  | r | w | m | a | v
  deriving DecidableEq, Repr

/-- Specifier modes, 30_encoding.md R410. `index` stands for a specifier byte 4x where no base specifier
belongs to it (Rx = PC, or the base of another indexed specifier): always the reserved addressing mode fault. -/
inductive Mode where
  | lit (v : BitVec 6)
  | index (n : Reg)
  | reg (n : Reg)
  | regDef (n : Reg)
  | autoDec (n : Reg)
  | autoInc (n : Reg)
  | autoIncDef (n : Reg)
  | imm (v : Octa)
  | absolute (a : Long)
  | dispB (n : Reg) (d : Byte)
  | dispBDef (n : Reg) (d : Byte)
  | dispW (n : Reg) (d : Word16)
  | dispWDef (n : Reg) (d : Word16)
  | dispL (n : Reg) (d : Long)
  | dispLDef (n : Reg) (d : Long)
  deriving DecidableEq, Repr

/-- An operand specifier: a mode, indexed or not (30_encoding.md R424). -/
structure Opnd where
  idx : Option Reg := none
  mode : Mode
  deriving DecidableEq, Repr

/-- The instructions: one constructor per row of spec/opcode_table.json, operands in the table's order. -/
inductive Instr where
  | halt -- 00 R980
  | nop -- 01 R967
  | rei -- 02 R985
  | bpt -- 03 R982
  | ret -- 04 R747
  | rsb -- 05 R726
  | ldpctx -- 06 R995
  | svpctx -- 07 R996
  | cvtps (srclen srcaddr dstlen dstaddr : Opnd) -- 08 R947
  | cvtsp (srclen srcaddr dstlen dstaddr : Opnd) -- 09 R948
  | index (subscript low high size indexin indexout : Opnd) -- 0A R966
  | crc (tbl inicrc strlen stream : Opnd) -- 0B R968
  | prober (modeOp len base : Opnd) -- 0C R1005
  | probew (modeOp len base : Opnd) -- 0D R1006
  | insque (entry pred : Opnd) -- 0E R764
  | remque (entry addr : Opnd) -- 0F R765
  | bsbb (displ : BitVec 8) -- 10 R723
  | brb (displ : BitVec 8) -- 11 R675
  | bneq (displ : BitVec 8) -- 12 R680
  | bnequ (displ : BitVec 8) -- 12 R680
  | beql (displ : BitVec 8) -- 13 R681
  | beqlu (displ : BitVec 8) -- 13 R681
  | bgtr (displ : BitVec 8) -- 14 R682
  | bleq (displ : BitVec 8) -- 15 R683
  | jsb (dst : Opnd) -- 16 R725
  | jmp (dst : Opnd) -- 17 R677
  | bgeq (displ : BitVec 8) -- 18 R684
  | blss (displ : BitVec 8) -- 19 R685
  | bgtru (displ : BitVec 8) -- 1A R686
  | blequ (displ : BitVec 8) -- 1B R687
  | bvc (displ : BitVec 8) -- 1C R688
  | bvs (displ : BitVec 8) -- 1D R689
  | bcc (displ : BitVec 8) -- 1E R690
  | bgequ (displ : BitVec 8) -- 1E R690
  | bcs (displ : BitVec 8) -- 1F R691
  | blssu (displ : BitVec 8) -- 1F R691
  | addp4 (addlen addaddr sumlen sumaddr : Opnd) -- 20 R938
  | addp6 (add1len add1addr add2len add2addr sumlen sumaddr : Opnd) -- 21 R939
  | subp4 (sublen subaddr diflen difaddr : Opnd) -- 22 R940
  | subp6 (sublen subaddr minlen minaddr diflen difaddr : Opnd) -- 23 R941
  | cvtpt (srclen srcaddr tbladdr dstlen dstaddr : Opnd) -- 24 R949
  | mulp (mulrlen mulraddr muldlen muldaddr prodlen prodaddr : Opnd) -- 25 R942
  | cvttp (srclen srcaddr tbladdr dstlen dstaddr : Opnd) -- 26 R950
  | divp (divrlen divraddr divdlen divdaddr quolen quoaddr : Opnd) -- 27 R943
  | movc3 (len srcaddr dstaddr : Opnd) -- 28 R905
  | cmpc3 (len src1addr src2addr : Opnd) -- 29 R910
  | scanc (len addr tbladdr mask : Opnd) -- 2A R915
  | spanc (len addr tbladdr mask : Opnd) -- 2B R916
  | movc5 (srclen srcaddr fill dstlen dstaddr : Opnd) -- 2C R906
  | cmpc5 (src1len src1addr fill src2len src2addr : Opnd) -- 2D R911
  | movtc (srclen srcaddr fill tbladdr dstlen dstaddr : Opnd) -- 2E R907
  | movtuc (srclen srcaddr esc tbladdr dstlen dstaddr : Opnd) -- 2F R908
  | bsbw (displ : BitVec 16) -- 30 R724
  | brw (displ : BitVec 16) -- 31 R676
  | cvtwl (src dst : Opnd) -- 32 R496
  | cvtwb (src dst : Opnd) -- 33 R495
  | movp (len srcaddr dstaddr : Opnd) -- 34 R935
  | cmpp3 (len src1addr src2addr : Opnd) -- 35 R936
  | cvtpl (srclen srcaddr dst : Opnd) -- 36 R946
  | cmpp4 (src1len src1addr src2len src2addr : Opnd) -- 37 R937
  | editpc (srclen srcaddr pattern dstaddr : Opnd) -- 38 R951
  | matchc (objlen objaddr srclen srcaddr : Opnd) -- 39 R919
  | locc (char len addr : Opnd) -- 3A R917
  | skpc (char len addr : Opnd) -- 3B R918
  | movzwl (src dst : Opnd) -- 3C R492
  | acbw (limit add idx : Opnd) (displ : BitVec 16) -- 3D R709
  | movaw (src dst : Opnd) -- 3E R622
  | pushaw (src : Opnd) -- 3F R627
  | addf2 (add sum : Opnd) -- 40 R806
  | addf3 (add1 add2 sum : Opnd) -- 41 R807
  | subf2 (sub dif : Opnd) -- 42 R814
  | subf3 (sub min dif : Opnd) -- 43 R815
  | mulf2 (mulr prod : Opnd) -- 44 R822
  | mulf3 (mulr muld prod : Opnd) -- 45 R823
  | divf2 (divr quo : Opnd) -- 46 R830
  | divf3 (divr divd quo : Opnd) -- 47 R831
  | cvtfb (src dst : Opnd) -- 48 R850
  | cvtfw (src dst : Opnd) -- 49 R854
  | cvtfl (src dst : Opnd) -- 4A R858
  | cvtrfl (src dst : Opnd) -- 4B R862
  | cvtbf (src dst : Opnd) -- 4C R838
  | cvtwf (src dst : Opnd) -- 4D R842
  | cvtlf (src dst : Opnd) -- 4E R846
  | acbf (limit add idx : Opnd) (displ : BitVec 16) -- 4F R877
  | movf (src dst : Opnd) -- 50 R790
  | cmpf (src1 src2 : Opnd) -- 51 R802
  | mnegf (src dst : Opnd) -- 52 R794
  | tstf (src : Opnd) -- 53 R798
  | emodf (mulr mulrx muld intg fract : Opnd) -- 54 R882
  | polyf (arg degree tbladdr : Opnd) -- 55 R887
  | cvtfd (src dst : Opnd) -- 56 R866
  | adawi (add sum : Opnd) -- 58 R517
  | insqhi (entry header : Opnd) -- 5C R770
  | insqti (entry header : Opnd) -- 5D R771
  | remqhi (header addr : Opnd) -- 5E R772
  | remqti (header addr : Opnd) -- 5F R773
  | addd2 (add sum : Opnd) -- 60 R808
  | addd3 (add1 add2 sum : Opnd) -- 61 R809
  | subd2 (sub dif : Opnd) -- 62 R816
  | subd3 (sub min dif : Opnd) -- 63 R817
  | muld2 (mulr prod : Opnd) -- 64 R824
  | muld3 (mulr muld prod : Opnd) -- 65 R825
  | divd2 (divr quo : Opnd) -- 66 R832
  | divd3 (divr divd quo : Opnd) -- 67 R833
  | cvtdb (src dst : Opnd) -- 68 R851
  | cvtdw (src dst : Opnd) -- 69 R855
  | cvtdl (src dst : Opnd) -- 6A R859
  | cvtrdl (src dst : Opnd) -- 6B R863
  | cvtbd (src dst : Opnd) -- 6C R839
  | cvtwd (src dst : Opnd) -- 6D R843
  | cvtld (src dst : Opnd) -- 6E R847
  | acbd (limit add idx : Opnd) (displ : BitVec 16) -- 6F R878
  | movd (src dst : Opnd) -- 70 R791
  | cmpd (src1 src2 : Opnd) -- 71 R803
  | mnegd (src dst : Opnd) -- 72 R795
  | tstd (src : Opnd) -- 73 R799
  | emodd (mulr mulrx muld intg fract : Opnd) -- 74 R883
  | polyd (arg degree tbladdr : Opnd) -- 75 R888
  | cvtdf (src dst : Opnd) -- 76 R867
  | ashl (cnt src dst : Opnd) -- 78 R590
  | ashq (cnt src dst : Opnd) -- 79 R591
  | emul (mulr muld add prod : Opnd) -- 7A R546
  | ediv (divr divd quo rem : Opnd) -- 7B R553
  | clrd (dst : Opnd) -- 7C R479
  | clrg (dst : Opnd) -- 7C R479
  | clrq (dst : Opnd) -- 7C R479
  | movq (src dst : Opnd) -- 7D R473
  | movad (src dst : Opnd) -- 7E R624
  | movag (src dst : Opnd) -- 7E R624
  | movaq (src dst : Opnd) -- 7E R624
  | pushad (src : Opnd) -- 7F R629
  | pushag (src : Opnd) -- 7F R629
  | pushaq (src : Opnd) -- 7F R629
  | addb2 (add sum : Opnd) -- 80 R510
  | addb3 (add1 add2 sum : Opnd) -- 81 R511
  | subb2 (sub dif : Opnd) -- 82 R524
  | subb3 (sub min dif : Opnd) -- 83 R525
  | mulb2 (mulr prod : Opnd) -- 84 R540
  | mulb3 (mulr muld prod : Opnd) -- 85 R541
  | divb2 (divr quo : Opnd) -- 86 R547
  | divb3 (divr divd quo : Opnd) -- 87 R548
  | bisb2 (mask dst : Opnd) -- 88 R563
  | bisb3 (mask src dst : Opnd) -- 89 R564
  | bicb2 (mask dst : Opnd) -- 8A R569
  | bicb3 (mask src dst : Opnd) -- 8B R570
  | xorb2 (mask dst : Opnd) -- 8C R575
  | xorb3 (mask src dst : Opnd) -- 8D R576
  | mnegb (src dst : Opnd) -- 8E R481
  | caseb (selector base limit : Opnd) -- 8F R716
  | movb (src dst : Opnd) -- 90 R470
  | cmpb (src1 src2 : Opnd) -- 91 R500
  | mcomb (src dst : Opnd) -- 92 R484
  | bitb (mask src : Opnd) -- 93 R560
  | clrb (dst : Opnd) -- 94 R476
  | tstb (src : Opnd) -- 95 R503
  | incb (sum : Opnd) -- 96 R518
  | decb (dif : Opnd) -- 97 R521
  | cvtbl (src dst : Opnd) -- 98 R494
  | cvtbw (src dst : Opnd) -- 99 R493
  | movzbl (src dst : Opnd) -- 9A R491
  | movzbw (src dst : Opnd) -- 9B R490
  | rotl (cnt src dst : Opnd) -- 9C R592
  | acbb (limit add idx : Opnd) (displ : BitVec 16) -- 9D R708
  | movab (src dst : Opnd) -- 9E R621
  | pushab (src : Opnd) -- 9F R626
  | addw2 (add sum : Opnd) -- A0 R512
  | addw3 (add1 add2 sum : Opnd) -- A1 R513
  | subw2 (sub dif : Opnd) -- A2 R526
  | subw3 (sub min dif : Opnd) -- A3 R527
  | mulw2 (mulr prod : Opnd) -- A4 R542
  | mulw3 (mulr muld prod : Opnd) -- A5 R543
  | divw2 (divr quo : Opnd) -- A6 R549
  | divw3 (divr divd quo : Opnd) -- A7 R550
  | bisw2 (mask dst : Opnd) -- A8 R565
  | bisw3 (mask src dst : Opnd) -- A9 R566
  | bicw2 (mask dst : Opnd) -- AA R571
  | bicw3 (mask src dst : Opnd) -- AB R572
  | xorw2 (mask dst : Opnd) -- AC R577
  | xorw3 (mask src dst : Opnd) -- AD R578
  | mnegw (src dst : Opnd) -- AE R482
  | casew (selector base limit : Opnd) -- AF R717
  | movw (src dst : Opnd) -- B0 R471
  | cmpw (src1 src2 : Opnd) -- B1 R501
  | mcomw (src dst : Opnd) -- B2 R485
  | bitw (mask src : Opnd) -- B3 R561
  | clrw (dst : Opnd) -- B4 R477
  | tstw (src : Opnd) -- B5 R504
  | incw (sum : Opnd) -- B6 R519
  | decw (dif : Opnd) -- B7 R522
  | bispsw (mask : Opnd) -- B8 R964
  | bicpsw (mask : Opnd) -- B9 R965
  | popr (mask : Opnd) -- BA R962
  | pushr (mask : Opnd) -- BB R961
  | chmk (code : Opnd) -- BC R991
  | chme (code : Opnd) -- BD R992
  | chms (code : Opnd) -- BE R993
  | chmu (code : Opnd) -- BF R994
  | addl2 (add sum : Opnd) -- C0 R514
  | addl3 (add1 add2 sum : Opnd) -- C1 R515
  | subl2 (sub dif : Opnd) -- C2 R528
  | subl3 (sub min dif : Opnd) -- C3 R529
  | mull2 (mulr prod : Opnd) -- C4 R544
  | mull3 (mulr muld prod : Opnd) -- C5 R545
  | divl2 (divr quo : Opnd) -- C6 R551
  | divl3 (divr divd quo : Opnd) -- C7 R552
  | bisl2 (mask dst : Opnd) -- C8 R567
  | bisl3 (mask src dst : Opnd) -- C9 R568
  | bicl2 (mask dst : Opnd) -- CA R573
  | bicl3 (mask src dst : Opnd) -- CB R574
  | xorl2 (mask dst : Opnd) -- CC R579
  | xorl3 (mask src dst : Opnd) -- CD R580
  | mnegl (src dst : Opnd) -- CE R483
  | casel (selector base limit : Opnd) -- CF R718
  | movl (src dst : Opnd) -- D0 R472
  | cmpl (src1 src2 : Opnd) -- D1 R502
  | mcoml (src dst : Opnd) -- D2 R486
  | bitl (mask src : Opnd) -- D3 R562
  | clrf (dst : Opnd) -- D4 R478
  | clrl (dst : Opnd) -- D4 R478
  | tstl (src : Opnd) -- D5 R505
  | incl (sum : Opnd) -- D6 R520
  | decl (dif : Opnd) -- D7 R523
  | adwc (add sum : Opnd) -- D8 R516
  | sbwc (sub dif : Opnd) -- D9 R530
  | mtpr (src procreg : Opnd) -- DA R1000
  | mfpr (procreg dst : Opnd) -- DB R1001
  | movpsl (dst : Opnd) -- DC R963
  | pushl (src : Opnd) -- DD R475
  | movaf (src dst : Opnd) -- DE R623
  | moval (src dst : Opnd) -- DE R623
  | pushaf (src : Opnd) -- DF R628
  | pushal (src : Opnd) -- DF R628
  | bbs (pos base : Opnd) (displ : BitVec 8) -- E0 R696
  | bbc (pos base : Opnd) (displ : BitVec 8) -- E1 R697
  | bbss (pos base : Opnd) (displ : BitVec 8) -- E2 R698
  | bbcs (pos base : Opnd) (displ : BitVec 8) -- E3 R699
  | bbsc (pos base : Opnd) (displ : BitVec 8) -- E4 R700
  | bbcc (pos base : Opnd) (displ : BitVec 8) -- E5 R701
  | bbssi (pos base : Opnd) (displ : BitVec 8) -- E6 R702
  | bbcci (pos base : Opnd) (displ : BitVec 8) -- E7 R703
  | blbs (src : Opnd) (displ : BitVec 8) -- E8 R704
  | blbc (src : Opnd) (displ : BitVec 8) -- E9 R705
  | ffs (startpos size base findpos : Opnd) -- EA R648
  | ffc (startpos size base findpos : Opnd) -- EB R649
  | cmpv (pos size base src : Opnd) -- EC R646
  | cmpzv (pos size base src : Opnd) -- ED R647
  | extv (pos size base dst : Opnd) -- EE R643
  | extzv (pos size base dst : Opnd) -- EF R644
  | insv (src pos size base : Opnd) -- F0 R645
  | acbl (limit add idx : Opnd) (displ : BitVec 16) -- F1 R710
  | aoblss (limit idx : Opnd) (displ : BitVec 8) -- F2 R711
  | aobleq (limit idx : Opnd) (displ : BitVec 8) -- F3 R712
  | sobgeq (idx : Opnd) (displ : BitVec 8) -- F4 R713
  | sobgtr (idx : Opnd) (displ : BitVec 8) -- F5 R714
  | cvtlb (src dst : Opnd) -- F6 R497
  | cvtlw (src dst : Opnd) -- F7 R498
  | ashp (cnt srclen srcaddr round dstlen dstaddr : Opnd) -- F8 R944
  | cvtlp (src dstlen dstaddr : Opnd) -- F9 R945
  | callg (arglist dst : Opnd) -- FA R745
  | calls (numarg dst : Opnd) -- FB R746
  | xfc -- FC R1012
  | cvtdh (src dst : Opnd) -- FD 32 R872
  | cvtgf (src dst : Opnd) -- FD 33 R869
  | addg2 (add sum : Opnd) -- FD 40 R810
  | addg3 (add1 add2 sum : Opnd) -- FD 41 R811
  | subg2 (sub dif : Opnd) -- FD 42 R818
  | subg3 (sub min dif : Opnd) -- FD 43 R819
  | mulg2 (mulr prod : Opnd) -- FD 44 R826
  | mulg3 (mulr muld prod : Opnd) -- FD 45 R827
  | divg2 (divr quo : Opnd) -- FD 46 R834
  | divg3 (divr divd quo : Opnd) -- FD 47 R835
  | cvtgb (src dst : Opnd) -- FD 48 R852
  | cvtgw (src dst : Opnd) -- FD 49 R856
  | cvtgl (src dst : Opnd) -- FD 4A R860
  | cvtrgl (src dst : Opnd) -- FD 4B R864
  | cvtbg (src dst : Opnd) -- FD 4C R840
  | cvtwg (src dst : Opnd) -- FD 4D R844
  | cvtlg (src dst : Opnd) -- FD 4E R848
  | acbg (limit add idx : Opnd) (displ : BitVec 16) -- FD 4F R879
  | movg (src dst : Opnd) -- FD 50 R792
  | cmpg (src1 src2 : Opnd) -- FD 51 R804
  | mnegg (src dst : Opnd) -- FD 52 R796
  | tstg (src : Opnd) -- FD 53 R800
  | emodg (mulr mulrx muld intg fract : Opnd) -- FD 54 R884
  | polyg (arg degree tbladdr : Opnd) -- FD 55 R889
  | cvtgh (src dst : Opnd) -- FD 56 R874
  | addh2 (add sum : Opnd) -- FD 60 R812
  | addh3 (add1 add2 sum : Opnd) -- FD 61 R813
  | subh2 (sub dif : Opnd) -- FD 62 R820
  | subh3 (sub min dif : Opnd) -- FD 63 R821
  | mulh2 (mulr prod : Opnd) -- FD 64 R828
  | mulh3 (mulr muld prod : Opnd) -- FD 65 R829
  | divh2 (divr quo : Opnd) -- FD 66 R836
  | divh3 (divr divd quo : Opnd) -- FD 67 R837
  | cvthb (src dst : Opnd) -- FD 68 R853
  | cvthw (src dst : Opnd) -- FD 69 R857
  | cvthl (src dst : Opnd) -- FD 6A R861
  | cvtrhl (src dst : Opnd) -- FD 6B R865
  | cvtbh (src dst : Opnd) -- FD 6C R841
  | cvtwh (src dst : Opnd) -- FD 6D R845
  | cvtlh (src dst : Opnd) -- FD 6E R849
  | acbh (limit add idx : Opnd) (displ : BitVec 16) -- FD 6F R880
  | movh (src dst : Opnd) -- FD 70 R793
  | cmph (src1 src2 : Opnd) -- FD 71 R805
  | mnegh (src dst : Opnd) -- FD 72 R797
  | tsth (src : Opnd) -- FD 73 R801
  | emodh (mulr mulrx muld intg fract : Opnd) -- FD 74 R885
  | polyh (arg degree tbladdr : Opnd) -- FD 75 R890
  | cvthg (src dst : Opnd) -- FD 76 R875
  | clrh (dst : Opnd) -- FD 7C R480
  | clro (dst : Opnd) -- FD 7C R480
  | movo (src dst : Opnd) -- FD 7D R474
  | movah (src dst : Opnd) -- FD 7E R625
  | movao (src dst : Opnd) -- FD 7E R625
  | pushah (src : Opnd) -- FD 7F R630
  | pushao (src : Opnd) -- FD 7F R630
  | cvtfh (src dst : Opnd) -- FD 98 R870
  | cvtfg (src dst : Opnd) -- FD 99 R868
  | cvthf (src dst : Opnd) -- FD F6 R871
  | cvthd (src dst : Opnd) -- FD F7 R873
  deriving DecidableEq, Repr

/-- One operand of an instruction with the access and data type its rule gives it, or a branch displacement (30_encoding.md R402, R403). -/
inductive Slot where
  | op (acc : Access) (t : DT) (o : Opnd)
  | brB (d : Byte)
  | brW (d : Word16)
  deriving DecidableEq, Repr

/-- The operands of an instruction in specifier order, with their access and data types (the operand lists of the table). -/
def Instr.slots : Instr → List Slot
  | .halt => []
  | .nop => []
  | .rei => []
  | .bpt => []
  | .ret => []
  | .rsb => []
  | .ldpctx => []
  | .svpctx => []
  | .cvtps x0 x1 x2 x3 => [.op .r .w x0, .op .a .b x1, .op .r .w x2, .op .a .b x3]
  | .cvtsp x0 x1 x2 x3 => [.op .r .w x0, .op .a .b x1, .op .r .w x2, .op .a .b x3]
  | .index x0 x1 x2 x3 x4 x5 => [.op .r .l x0, .op .r .l x1, .op .r .l x2, .op .r .l x3, .op .r .l x4, .op .w .l x5]
  | .crc x0 x1 x2 x3 => [.op .a .b x0, .op .r .l x1, .op .r .w x2, .op .a .b x3]
  | .prober x0 x1 x2 => [.op .r .b x0, .op .r .w x1, .op .a .b x2]
  | .probew x0 x1 x2 => [.op .r .b x0, .op .r .w x1, .op .a .b x2]
  | .insque x0 x1 => [.op .a .b x0, .op .a .b x1]
  | .remque x0 x1 => [.op .a .b x0, .op .w .l x1]
  | .bsbb x0 => [.brB x0]
  | .brb x0 => [.brB x0]
  | .bneq x0 => [.brB x0]
  | .bnequ x0 => [.brB x0]
  | .beql x0 => [.brB x0]
  | .beqlu x0 => [.brB x0]
  | .bgtr x0 => [.brB x0]
  | .bleq x0 => [.brB x0]
  | .jsb x0 => [.op .a .b x0]
  | .jmp x0 => [.op .a .b x0]
  | .bgeq x0 => [.brB x0]
  | .blss x0 => [.brB x0]
  | .bgtru x0 => [.brB x0]
  | .blequ x0 => [.brB x0]
  | .bvc x0 => [.brB x0]
  | .bvs x0 => [.brB x0]
  | .bcc x0 => [.brB x0]
  | .bgequ x0 => [.brB x0]
  | .bcs x0 => [.brB x0]
  | .blssu x0 => [.brB x0]
  | .addp4 x0 x1 x2 x3 => [.op .r .w x0, .op .a .b x1, .op .r .w x2, .op .a .b x3]
  | .addp6 x0 x1 x2 x3 x4 x5 => [.op .r .w x0, .op .a .b x1, .op .r .w x2, .op .a .b x3, .op .r .w x4, .op .a .b x5]
  | .subp4 x0 x1 x2 x3 => [.op .r .w x0, .op .a .b x1, .op .r .w x2, .op .a .b x3]
  | .subp6 x0 x1 x2 x3 x4 x5 => [.op .r .w x0, .op .a .b x1, .op .r .w x2, .op .a .b x3, .op .r .w x4, .op .a .b x5]
  | .cvtpt x0 x1 x2 x3 x4 => [.op .r .w x0, .op .a .b x1, .op .a .b x2, .op .r .w x3, .op .a .b x4]
  | .mulp x0 x1 x2 x3 x4 x5 => [.op .r .w x0, .op .a .b x1, .op .r .w x2, .op .a .b x3, .op .r .w x4, .op .a .b x5]
  | .cvttp x0 x1 x2 x3 x4 => [.op .r .w x0, .op .a .b x1, .op .a .b x2, .op .r .w x3, .op .a .b x4]
  | .divp x0 x1 x2 x3 x4 x5 => [.op .r .w x0, .op .a .b x1, .op .r .w x2, .op .a .b x3, .op .r .w x4, .op .a .b x5]
  | .movc3 x0 x1 x2 => [.op .r .w x0, .op .a .b x1, .op .a .b x2]
  | .cmpc3 x0 x1 x2 => [.op .r .w x0, .op .a .b x1, .op .a .b x2]
  | .scanc x0 x1 x2 x3 => [.op .r .w x0, .op .a .b x1, .op .a .b x2, .op .r .b x3]
  | .spanc x0 x1 x2 x3 => [.op .r .w x0, .op .a .b x1, .op .a .b x2, .op .r .b x3]
  | .movc5 x0 x1 x2 x3 x4 => [.op .r .w x0, .op .a .b x1, .op .r .b x2, .op .r .w x3, .op .a .b x4]
  | .cmpc5 x0 x1 x2 x3 x4 => [.op .r .w x0, .op .a .b x1, .op .r .b x2, .op .r .w x3, .op .a .b x4]
  | .movtc x0 x1 x2 x3 x4 x5 => [.op .r .w x0, .op .a .b x1, .op .r .b x2, .op .a .b x3, .op .r .w x4, .op .a .b x5]
  | .movtuc x0 x1 x2 x3 x4 x5 => [.op .r .w x0, .op .a .b x1, .op .r .b x2, .op .a .b x3, .op .r .w x4, .op .a .b x5]
  | .bsbw x0 => [.brW x0]
  | .brw x0 => [.brW x0]
  | .cvtwl x0 x1 => [.op .r .w x0, .op .w .l x1]
  | .cvtwb x0 x1 => [.op .r .w x0, .op .w .b x1]
  | .movp x0 x1 x2 => [.op .r .w x0, .op .a .b x1, .op .a .b x2]
  | .cmpp3 x0 x1 x2 => [.op .r .w x0, .op .a .b x1, .op .a .b x2]
  | .cvtpl x0 x1 x2 => [.op .r .w x0, .op .a .b x1, .op .w .l x2]
  | .cmpp4 x0 x1 x2 x3 => [.op .r .w x0, .op .a .b x1, .op .r .w x2, .op .a .b x3]
  | .editpc x0 x1 x2 x3 => [.op .r .w x0, .op .a .b x1, .op .a .b x2, .op .a .b x3]
  | .matchc x0 x1 x2 x3 => [.op .r .w x0, .op .a .b x1, .op .r .w x2, .op .a .b x3]
  | .locc x0 x1 x2 => [.op .r .b x0, .op .r .w x1, .op .a .b x2]
  | .skpc x0 x1 x2 => [.op .r .b x0, .op .r .w x1, .op .a .b x2]
  | .movzwl x0 x1 => [.op .r .w x0, .op .w .l x1]
  | .acbw x0 x1 x2 x3 => [.op .r .w x0, .op .r .w x1, .op .m .w x2, .brW x3]
  | .movaw x0 x1 => [.op .a .w x0, .op .w .l x1]
  | .pushaw x0 => [.op .a .w x0]
  | .addf2 x0 x1 => [.op .r .f x0, .op .m .f x1]
  | .addf3 x0 x1 x2 => [.op .r .f x0, .op .r .f x1, .op .w .f x2]
  | .subf2 x0 x1 => [.op .r .f x0, .op .m .f x1]
  | .subf3 x0 x1 x2 => [.op .r .f x0, .op .r .f x1, .op .w .f x2]
  | .mulf2 x0 x1 => [.op .r .f x0, .op .m .f x1]
  | .mulf3 x0 x1 x2 => [.op .r .f x0, .op .r .f x1, .op .w .f x2]
  | .divf2 x0 x1 => [.op .r .f x0, .op .m .f x1]
  | .divf3 x0 x1 x2 => [.op .r .f x0, .op .r .f x1, .op .w .f x2]
  | .cvtfb x0 x1 => [.op .r .f x0, .op .w .b x1]
  | .cvtfw x0 x1 => [.op .r .f x0, .op .w .w x1]
  | .cvtfl x0 x1 => [.op .r .f x0, .op .w .l x1]
  | .cvtrfl x0 x1 => [.op .r .f x0, .op .w .l x1]
  | .cvtbf x0 x1 => [.op .r .b x0, .op .w .f x1]
  | .cvtwf x0 x1 => [.op .r .w x0, .op .w .f x1]
  | .cvtlf x0 x1 => [.op .r .l x0, .op .w .f x1]
  | .acbf x0 x1 x2 x3 => [.op .r .f x0, .op .r .f x1, .op .m .f x2, .brW x3]
  | .movf x0 x1 => [.op .r .f x0, .op .w .f x1]
  | .cmpf x0 x1 => [.op .r .f x0, .op .r .f x1]
  | .mnegf x0 x1 => [.op .r .f x0, .op .w .f x1]
  | .tstf x0 => [.op .r .f x0]
  | .emodf x0 x1 x2 x3 x4 => [.op .r .f x0, .op .r .b x1, .op .r .f x2, .op .w .l x3, .op .w .f x4]
  | .polyf x0 x1 x2 => [.op .r .f x0, .op .r .w x1, .op .a .b x2]
  | .cvtfd x0 x1 => [.op .r .f x0, .op .w .d x1]
  | .adawi x0 x1 => [.op .r .w x0, .op .m .w x1]
  | .insqhi x0 x1 => [.op .a .b x0, .op .a .q x1]
  | .insqti x0 x1 => [.op .a .b x0, .op .a .q x1]
  | .remqhi x0 x1 => [.op .a .q x0, .op .w .l x1]
  | .remqti x0 x1 => [.op .a .q x0, .op .w .l x1]
  | .addd2 x0 x1 => [.op .r .d x0, .op .m .d x1]
  | .addd3 x0 x1 x2 => [.op .r .d x0, .op .r .d x1, .op .w .d x2]
  | .subd2 x0 x1 => [.op .r .d x0, .op .m .d x1]
  | .subd3 x0 x1 x2 => [.op .r .d x0, .op .r .d x1, .op .w .d x2]
  | .muld2 x0 x1 => [.op .r .d x0, .op .m .d x1]
  | .muld3 x0 x1 x2 => [.op .r .d x0, .op .r .d x1, .op .w .d x2]
  | .divd2 x0 x1 => [.op .r .d x0, .op .m .d x1]
  | .divd3 x0 x1 x2 => [.op .r .d x0, .op .r .d x1, .op .w .d x2]
  | .cvtdb x0 x1 => [.op .r .d x0, .op .w .b x1]
  | .cvtdw x0 x1 => [.op .r .d x0, .op .w .w x1]
  | .cvtdl x0 x1 => [.op .r .d x0, .op .w .l x1]
  | .cvtrdl x0 x1 => [.op .r .d x0, .op .w .l x1]
  | .cvtbd x0 x1 => [.op .r .b x0, .op .w .d x1]
  | .cvtwd x0 x1 => [.op .r .w x0, .op .w .d x1]
  | .cvtld x0 x1 => [.op .r .l x0, .op .w .d x1]
  | .acbd x0 x1 x2 x3 => [.op .r .d x0, .op .r .d x1, .op .m .d x2, .brW x3]
  | .movd x0 x1 => [.op .r .d x0, .op .w .d x1]
  | .cmpd x0 x1 => [.op .r .d x0, .op .r .d x1]
  | .mnegd x0 x1 => [.op .r .d x0, .op .w .d x1]
  | .tstd x0 => [.op .r .d x0]
  | .emodd x0 x1 x2 x3 x4 => [.op .r .d x0, .op .r .b x1, .op .r .d x2, .op .w .l x3, .op .w .d x4]
  | .polyd x0 x1 x2 => [.op .r .d x0, .op .r .w x1, .op .a .b x2]
  | .cvtdf x0 x1 => [.op .r .d x0, .op .w .f x1]
  | .ashl x0 x1 x2 => [.op .r .b x0, .op .r .l x1, .op .w .l x2]
  | .ashq x0 x1 x2 => [.op .r .b x0, .op .r .q x1, .op .w .q x2]
  | .emul x0 x1 x2 x3 => [.op .r .l x0, .op .r .l x1, .op .r .l x2, .op .w .q x3]
  | .ediv x0 x1 x2 x3 => [.op .r .l x0, .op .r .q x1, .op .w .l x2, .op .w .l x3]
  | .clrd x0 => [.op .w .q x0]
  | .clrg x0 => [.op .w .q x0]
  | .clrq x0 => [.op .w .q x0]
  | .movq x0 x1 => [.op .r .q x0, .op .w .q x1]
  | .movad x0 x1 => [.op .a .q x0, .op .w .l x1]
  | .movag x0 x1 => [.op .a .q x0, .op .w .l x1]
  | .movaq x0 x1 => [.op .a .q x0, .op .w .l x1]
  | .pushad x0 => [.op .a .q x0]
  | .pushag x0 => [.op .a .q x0]
  | .pushaq x0 => [.op .a .q x0]
  | .addb2 x0 x1 => [.op .r .b x0, .op .m .b x1]
  | .addb3 x0 x1 x2 => [.op .r .b x0, .op .r .b x1, .op .w .b x2]
  | .subb2 x0 x1 => [.op .r .b x0, .op .m .b x1]
  | .subb3 x0 x1 x2 => [.op .r .b x0, .op .r .b x1, .op .w .b x2]
  | .mulb2 x0 x1 => [.op .r .b x0, .op .m .b x1]
  | .mulb3 x0 x1 x2 => [.op .r .b x0, .op .r .b x1, .op .w .b x2]
  | .divb2 x0 x1 => [.op .r .b x0, .op .m .b x1]
  | .divb3 x0 x1 x2 => [.op .r .b x0, .op .r .b x1, .op .w .b x2]
  | .bisb2 x0 x1 => [.op .r .b x0, .op .m .b x1]
  | .bisb3 x0 x1 x2 => [.op .r .b x0, .op .r .b x1, .op .w .b x2]
  | .bicb2 x0 x1 => [.op .r .b x0, .op .m .b x1]
  | .bicb3 x0 x1 x2 => [.op .r .b x0, .op .r .b x1, .op .w .b x2]
  | .xorb2 x0 x1 => [.op .r .b x0, .op .m .b x1]
  | .xorb3 x0 x1 x2 => [.op .r .b x0, .op .r .b x1, .op .w .b x2]
  | .mnegb x0 x1 => [.op .r .b x0, .op .w .b x1]
  | .caseb x0 x1 x2 => [.op .r .b x0, .op .r .b x1, .op .r .b x2]
  | .movb x0 x1 => [.op .r .b x0, .op .w .b x1]
  | .cmpb x0 x1 => [.op .r .b x0, .op .r .b x1]
  | .mcomb x0 x1 => [.op .r .b x0, .op .w .b x1]
  | .bitb x0 x1 => [.op .r .b x0, .op .r .b x1]
  | .clrb x0 => [.op .w .b x0]
  | .tstb x0 => [.op .r .b x0]
  | .incb x0 => [.op .m .b x0]
  | .decb x0 => [.op .m .b x0]
  | .cvtbl x0 x1 => [.op .r .b x0, .op .w .l x1]
  | .cvtbw x0 x1 => [.op .r .b x0, .op .w .w x1]
  | .movzbl x0 x1 => [.op .r .b x0, .op .w .l x1]
  | .movzbw x0 x1 => [.op .r .b x0, .op .w .w x1]
  | .rotl x0 x1 x2 => [.op .r .b x0, .op .r .l x1, .op .w .l x2]
  | .acbb x0 x1 x2 x3 => [.op .r .b x0, .op .r .b x1, .op .m .b x2, .brW x3]
  | .movab x0 x1 => [.op .a .b x0, .op .w .l x1]
  | .pushab x0 => [.op .a .b x0]
  | .addw2 x0 x1 => [.op .r .w x0, .op .m .w x1]
  | .addw3 x0 x1 x2 => [.op .r .w x0, .op .r .w x1, .op .w .w x2]
  | .subw2 x0 x1 => [.op .r .w x0, .op .m .w x1]
  | .subw3 x0 x1 x2 => [.op .r .w x0, .op .r .w x1, .op .w .w x2]
  | .mulw2 x0 x1 => [.op .r .w x0, .op .m .w x1]
  | .mulw3 x0 x1 x2 => [.op .r .w x0, .op .r .w x1, .op .w .w x2]
  | .divw2 x0 x1 => [.op .r .w x0, .op .m .w x1]
  | .divw3 x0 x1 x2 => [.op .r .w x0, .op .r .w x1, .op .w .w x2]
  | .bisw2 x0 x1 => [.op .r .w x0, .op .m .w x1]
  | .bisw3 x0 x1 x2 => [.op .r .w x0, .op .r .w x1, .op .w .w x2]
  | .bicw2 x0 x1 => [.op .r .w x0, .op .m .w x1]
  | .bicw3 x0 x1 x2 => [.op .r .w x0, .op .r .w x1, .op .w .w x2]
  | .xorw2 x0 x1 => [.op .r .w x0, .op .m .w x1]
  | .xorw3 x0 x1 x2 => [.op .r .w x0, .op .r .w x1, .op .w .w x2]
  | .mnegw x0 x1 => [.op .r .w x0, .op .w .w x1]
  | .casew x0 x1 x2 => [.op .r .w x0, .op .r .w x1, .op .r .w x2]
  | .movw x0 x1 => [.op .r .w x0, .op .w .w x1]
  | .cmpw x0 x1 => [.op .r .w x0, .op .r .w x1]
  | .mcomw x0 x1 => [.op .r .w x0, .op .w .w x1]
  | .bitw x0 x1 => [.op .r .w x0, .op .r .w x1]
  | .clrw x0 => [.op .w .w x0]
  | .tstw x0 => [.op .r .w x0]
  | .incw x0 => [.op .m .w x0]
  | .decw x0 => [.op .m .w x0]
  | .bispsw x0 => [.op .r .w x0]
  | .bicpsw x0 => [.op .r .w x0]
  | .popr x0 => [.op .r .w x0]
  | .pushr x0 => [.op .r .w x0]
  | .chmk x0 => [.op .r .w x0]
  | .chme x0 => [.op .r .w x0]
  | .chms x0 => [.op .r .w x0]
  | .chmu x0 => [.op .r .w x0]
  | .addl2 x0 x1 => [.op .r .l x0, .op .m .l x1]
  | .addl3 x0 x1 x2 => [.op .r .l x0, .op .r .l x1, .op .w .l x2]
  | .subl2 x0 x1 => [.op .r .l x0, .op .m .l x1]
  | .subl3 x0 x1 x2 => [.op .r .l x0, .op .r .l x1, .op .w .l x2]
  | .mull2 x0 x1 => [.op .r .l x0, .op .m .l x1]
  | .mull3 x0 x1 x2 => [.op .r .l x0, .op .r .l x1, .op .w .l x2]
  | .divl2 x0 x1 => [.op .r .l x0, .op .m .l x1]
  | .divl3 x0 x1 x2 => [.op .r .l x0, .op .r .l x1, .op .w .l x2]
  | .bisl2 x0 x1 => [.op .r .l x0, .op .m .l x1]
  | .bisl3 x0 x1 x2 => [.op .r .l x0, .op .r .l x1, .op .w .l x2]
  | .bicl2 x0 x1 => [.op .r .l x0, .op .m .l x1]
  | .bicl3 x0 x1 x2 => [.op .r .l x0, .op .r .l x1, .op .w .l x2]
  | .xorl2 x0 x1 => [.op .r .l x0, .op .m .l x1]
  | .xorl3 x0 x1 x2 => [.op .r .l x0, .op .r .l x1, .op .w .l x2]
  | .mnegl x0 x1 => [.op .r .l x0, .op .w .l x1]
  | .casel x0 x1 x2 => [.op .r .l x0, .op .r .l x1, .op .r .l x2]
  | .movl x0 x1 => [.op .r .l x0, .op .w .l x1]
  | .cmpl x0 x1 => [.op .r .l x0, .op .r .l x1]
  | .mcoml x0 x1 => [.op .r .l x0, .op .w .l x1]
  | .bitl x0 x1 => [.op .r .l x0, .op .r .l x1]
  | .clrf x0 => [.op .w .l x0]
  | .clrl x0 => [.op .w .l x0]
  | .tstl x0 => [.op .r .l x0]
  | .incl x0 => [.op .m .l x0]
  | .decl x0 => [.op .m .l x0]
  | .adwc x0 x1 => [.op .r .l x0, .op .m .l x1]
  | .sbwc x0 x1 => [.op .r .l x0, .op .m .l x1]
  | .mtpr x0 x1 => [.op .r .l x0, .op .r .l x1]
  | .mfpr x0 x1 => [.op .r .l x0, .op .w .l x1]
  | .movpsl x0 => [.op .w .l x0]
  | .pushl x0 => [.op .r .l x0]
  | .movaf x0 x1 => [.op .a .l x0, .op .w .l x1]
  | .moval x0 x1 => [.op .a .l x0, .op .w .l x1]
  | .pushaf x0 => [.op .a .l x0]
  | .pushal x0 => [.op .a .l x0]
  | .bbs x0 x1 x2 => [.op .r .l x0, .op .v .b x1, .brB x2]
  | .bbc x0 x1 x2 => [.op .r .l x0, .op .v .b x1, .brB x2]
  | .bbss x0 x1 x2 => [.op .r .l x0, .op .v .b x1, .brB x2]
  | .bbcs x0 x1 x2 => [.op .r .l x0, .op .v .b x1, .brB x2]
  | .bbsc x0 x1 x2 => [.op .r .l x0, .op .v .b x1, .brB x2]
  | .bbcc x0 x1 x2 => [.op .r .l x0, .op .v .b x1, .brB x2]
  | .bbssi x0 x1 x2 => [.op .r .l x0, .op .v .b x1, .brB x2]
  | .bbcci x0 x1 x2 => [.op .r .l x0, .op .v .b x1, .brB x2]
  | .blbs x0 x1 => [.op .r .l x0, .brB x1]
  | .blbc x0 x1 => [.op .r .l x0, .brB x1]
  | .ffs x0 x1 x2 x3 => [.op .r .l x0, .op .r .b x1, .op .v .b x2, .op .w .l x3]
  | .ffc x0 x1 x2 x3 => [.op .r .l x0, .op .r .b x1, .op .v .b x2, .op .w .l x3]
  | .cmpv x0 x1 x2 x3 => [.op .r .l x0, .op .r .b x1, .op .v .b x2, .op .r .l x3]
  | .cmpzv x0 x1 x2 x3 => [.op .r .l x0, .op .r .b x1, .op .v .b x2, .op .r .l x3]
  | .extv x0 x1 x2 x3 => [.op .r .l x0, .op .r .b x1, .op .v .b x2, .op .w .l x3]
  | .extzv x0 x1 x2 x3 => [.op .r .l x0, .op .r .b x1, .op .v .b x2, .op .w .l x3]
  | .insv x0 x1 x2 x3 => [.op .r .l x0, .op .r .l x1, .op .r .b x2, .op .v .b x3]
  | .acbl x0 x1 x2 x3 => [.op .r .l x0, .op .r .l x1, .op .m .l x2, .brW x3]
  | .aoblss x0 x1 x2 => [.op .r .l x0, .op .m .l x1, .brB x2]
  | .aobleq x0 x1 x2 => [.op .r .l x0, .op .m .l x1, .brB x2]
  | .sobgeq x0 x1 => [.op .m .l x0, .brB x1]
  | .sobgtr x0 x1 => [.op .m .l x0, .brB x1]
  | .cvtlb x0 x1 => [.op .r .l x0, .op .w .b x1]
  | .cvtlw x0 x1 => [.op .r .l x0, .op .w .w x1]
  | .ashp x0 x1 x2 x3 x4 x5 => [.op .r .b x0, .op .r .w x1, .op .a .b x2, .op .r .b x3, .op .r .w x4, .op .a .b x5]
  | .cvtlp x0 x1 x2 => [.op .r .l x0, .op .r .w x1, .op .a .b x2]
  | .callg x0 x1 => [.op .a .b x0, .op .a .b x1]
  | .calls x0 x1 => [.op .r .l x0, .op .a .b x1]
  | .xfc => []
  | .cvtdh x0 x1 => [.op .r .d x0, .op .w .h x1]
  | .cvtgf x0 x1 => [.op .r .g x0, .op .w .f x1]
  | .addg2 x0 x1 => [.op .r .g x0, .op .m .g x1]
  | .addg3 x0 x1 x2 => [.op .r .g x0, .op .r .g x1, .op .w .g x2]
  | .subg2 x0 x1 => [.op .r .g x0, .op .m .g x1]
  | .subg3 x0 x1 x2 => [.op .r .g x0, .op .r .g x1, .op .w .g x2]
  | .mulg2 x0 x1 => [.op .r .g x0, .op .m .g x1]
  | .mulg3 x0 x1 x2 => [.op .r .g x0, .op .r .g x1, .op .w .g x2]
  | .divg2 x0 x1 => [.op .r .g x0, .op .m .g x1]
  | .divg3 x0 x1 x2 => [.op .r .g x0, .op .r .g x1, .op .w .g x2]
  | .cvtgb x0 x1 => [.op .r .g x0, .op .w .b x1]
  | .cvtgw x0 x1 => [.op .r .g x0, .op .w .w x1]
  | .cvtgl x0 x1 => [.op .r .g x0, .op .w .l x1]
  | .cvtrgl x0 x1 => [.op .r .g x0, .op .w .l x1]
  | .cvtbg x0 x1 => [.op .r .b x0, .op .w .g x1]
  | .cvtwg x0 x1 => [.op .r .w x0, .op .w .g x1]
  | .cvtlg x0 x1 => [.op .r .l x0, .op .w .g x1]
  | .acbg x0 x1 x2 x3 => [.op .r .g x0, .op .r .g x1, .op .m .g x2, .brW x3]
  | .movg x0 x1 => [.op .r .g x0, .op .w .g x1]
  | .cmpg x0 x1 => [.op .r .g x0, .op .r .g x1]
  | .mnegg x0 x1 => [.op .r .g x0, .op .w .g x1]
  | .tstg x0 => [.op .r .g x0]
  | .emodg x0 x1 x2 x3 x4 => [.op .r .g x0, .op .r .w x1, .op .r .g x2, .op .w .l x3, .op .w .g x4]
  | .polyg x0 x1 x2 => [.op .r .g x0, .op .r .w x1, .op .a .b x2]
  | .cvtgh x0 x1 => [.op .r .g x0, .op .w .h x1]
  | .addh2 x0 x1 => [.op .r .h x0, .op .m .h x1]
  | .addh3 x0 x1 x2 => [.op .r .h x0, .op .r .h x1, .op .w .h x2]
  | .subh2 x0 x1 => [.op .r .h x0, .op .m .h x1]
  | .subh3 x0 x1 x2 => [.op .r .h x0, .op .r .h x1, .op .w .h x2]
  | .mulh2 x0 x1 => [.op .r .h x0, .op .m .h x1]
  | .mulh3 x0 x1 x2 => [.op .r .h x0, .op .r .h x1, .op .w .h x2]
  | .divh2 x0 x1 => [.op .r .h x0, .op .m .h x1]
  | .divh3 x0 x1 x2 => [.op .r .h x0, .op .r .h x1, .op .w .h x2]
  | .cvthb x0 x1 => [.op .r .h x0, .op .w .b x1]
  | .cvthw x0 x1 => [.op .r .h x0, .op .w .w x1]
  | .cvthl x0 x1 => [.op .r .h x0, .op .w .l x1]
  | .cvtrhl x0 x1 => [.op .r .h x0, .op .w .l x1]
  | .cvtbh x0 x1 => [.op .r .b x0, .op .w .h x1]
  | .cvtwh x0 x1 => [.op .r .w x0, .op .w .h x1]
  | .cvtlh x0 x1 => [.op .r .l x0, .op .w .h x1]
  | .acbh x0 x1 x2 x3 => [.op .r .h x0, .op .r .h x1, .op .m .h x2, .brW x3]
  | .movh x0 x1 => [.op .r .h x0, .op .w .h x1]
  | .cmph x0 x1 => [.op .r .h x0, .op .r .h x1]
  | .mnegh x0 x1 => [.op .r .h x0, .op .w .h x1]
  | .tsth x0 => [.op .r .h x0]
  | .emodh x0 x1 x2 x3 x4 => [.op .r .h x0, .op .r .w x1, .op .r .h x2, .op .w .l x3, .op .w .h x4]
  | .polyh x0 x1 x2 => [.op .r .h x0, .op .r .w x1, .op .a .b x2]
  | .cvthg x0 x1 => [.op .r .h x0, .op .w .g x1]
  | .clrh x0 => [.op .w .o x0]
  | .clro x0 => [.op .w .o x0]
  | .movo x0 x1 => [.op .r .o x0, .op .w .o x1]
  | .movah x0 x1 => [.op .a .o x0, .op .w .l x1]
  | .movao x0 x1 => [.op .a .o x0, .op .w .l x1]
  | .pushah x0 => [.op .a .o x0]
  | .pushao x0 => [.op .a .o x0]
  | .cvtfh x0 x1 => [.op .r .f x0, .op .w .h x1]
  | .cvtfg x0 x1 => [.op .r .f x0, .op .w .g x1]
  | .cvthf x0 x1 => [.op .r .h x0, .op .w .f x1]
  | .cvthd x0 x1 => [.op .r .h x0, .op .w .d x1]

/-- The opcode as the table numbers it: the one byte, or FD with the second byte in bits 15:8 (30_encoding.md R430, R432). -/
def Instr.opcode : Instr → Nat
  | .halt => 0x00
  | .nop => 0x01
  | .rei => 0x02
  | .bpt => 0x03
  | .ret => 0x04
  | .rsb => 0x05
  | .ldpctx => 0x06
  | .svpctx => 0x07
  | .cvtps _ _ _ _ => 0x08
  | .cvtsp _ _ _ _ => 0x09
  | .index _ _ _ _ _ _ => 0x0A
  | .crc _ _ _ _ => 0x0B
  | .prober _ _ _ => 0x0C
  | .probew _ _ _ => 0x0D
  | .insque _ _ => 0x0E
  | .remque _ _ => 0x0F
  | .bsbb _ => 0x10
  | .brb _ => 0x11
  | .bneq _ => 0x12
  | .bnequ _ => 0x12
  | .beql _ => 0x13
  | .beqlu _ => 0x13
  | .bgtr _ => 0x14
  | .bleq _ => 0x15
  | .jsb _ => 0x16
  | .jmp _ => 0x17
  | .bgeq _ => 0x18
  | .blss _ => 0x19
  | .bgtru _ => 0x1A
  | .blequ _ => 0x1B
  | .bvc _ => 0x1C
  | .bvs _ => 0x1D
  | .bcc _ => 0x1E
  | .bgequ _ => 0x1E
  | .bcs _ => 0x1F
  | .blssu _ => 0x1F
  | .addp4 _ _ _ _ => 0x20
  | .addp6 _ _ _ _ _ _ => 0x21
  | .subp4 _ _ _ _ => 0x22
  | .subp6 _ _ _ _ _ _ => 0x23
  | .cvtpt _ _ _ _ _ => 0x24
  | .mulp _ _ _ _ _ _ => 0x25
  | .cvttp _ _ _ _ _ => 0x26
  | .divp _ _ _ _ _ _ => 0x27
  | .movc3 _ _ _ => 0x28
  | .cmpc3 _ _ _ => 0x29
  | .scanc _ _ _ _ => 0x2A
  | .spanc _ _ _ _ => 0x2B
  | .movc5 _ _ _ _ _ => 0x2C
  | .cmpc5 _ _ _ _ _ => 0x2D
  | .movtc _ _ _ _ _ _ => 0x2E
  | .movtuc _ _ _ _ _ _ => 0x2F
  | .bsbw _ => 0x30
  | .brw _ => 0x31
  | .cvtwl _ _ => 0x32
  | .cvtwb _ _ => 0x33
  | .movp _ _ _ => 0x34
  | .cmpp3 _ _ _ => 0x35
  | .cvtpl _ _ _ => 0x36
  | .cmpp4 _ _ _ _ => 0x37
  | .editpc _ _ _ _ => 0x38
  | .matchc _ _ _ _ => 0x39
  | .locc _ _ _ => 0x3A
  | .skpc _ _ _ => 0x3B
  | .movzwl _ _ => 0x3C
  | .acbw _ _ _ _ => 0x3D
  | .movaw _ _ => 0x3E
  | .pushaw _ => 0x3F
  | .addf2 _ _ => 0x40
  | .addf3 _ _ _ => 0x41
  | .subf2 _ _ => 0x42
  | .subf3 _ _ _ => 0x43
  | .mulf2 _ _ => 0x44
  | .mulf3 _ _ _ => 0x45
  | .divf2 _ _ => 0x46
  | .divf3 _ _ _ => 0x47
  | .cvtfb _ _ => 0x48
  | .cvtfw _ _ => 0x49
  | .cvtfl _ _ => 0x4A
  | .cvtrfl _ _ => 0x4B
  | .cvtbf _ _ => 0x4C
  | .cvtwf _ _ => 0x4D
  | .cvtlf _ _ => 0x4E
  | .acbf _ _ _ _ => 0x4F
  | .movf _ _ => 0x50
  | .cmpf _ _ => 0x51
  | .mnegf _ _ => 0x52
  | .tstf _ => 0x53
  | .emodf _ _ _ _ _ => 0x54
  | .polyf _ _ _ => 0x55
  | .cvtfd _ _ => 0x56
  | .adawi _ _ => 0x58
  | .insqhi _ _ => 0x5C
  | .insqti _ _ => 0x5D
  | .remqhi _ _ => 0x5E
  | .remqti _ _ => 0x5F
  | .addd2 _ _ => 0x60
  | .addd3 _ _ _ => 0x61
  | .subd2 _ _ => 0x62
  | .subd3 _ _ _ => 0x63
  | .muld2 _ _ => 0x64
  | .muld3 _ _ _ => 0x65
  | .divd2 _ _ => 0x66
  | .divd3 _ _ _ => 0x67
  | .cvtdb _ _ => 0x68
  | .cvtdw _ _ => 0x69
  | .cvtdl _ _ => 0x6A
  | .cvtrdl _ _ => 0x6B
  | .cvtbd _ _ => 0x6C
  | .cvtwd _ _ => 0x6D
  | .cvtld _ _ => 0x6E
  | .acbd _ _ _ _ => 0x6F
  | .movd _ _ => 0x70
  | .cmpd _ _ => 0x71
  | .mnegd _ _ => 0x72
  | .tstd _ => 0x73
  | .emodd _ _ _ _ _ => 0x74
  | .polyd _ _ _ => 0x75
  | .cvtdf _ _ => 0x76
  | .ashl _ _ _ => 0x78
  | .ashq _ _ _ => 0x79
  | .emul _ _ _ _ => 0x7A
  | .ediv _ _ _ _ => 0x7B
  | .clrd _ => 0x7C
  | .clrg _ => 0x7C
  | .clrq _ => 0x7C
  | .movq _ _ => 0x7D
  | .movad _ _ => 0x7E
  | .movag _ _ => 0x7E
  | .movaq _ _ => 0x7E
  | .pushad _ => 0x7F
  | .pushag _ => 0x7F
  | .pushaq _ => 0x7F
  | .addb2 _ _ => 0x80
  | .addb3 _ _ _ => 0x81
  | .subb2 _ _ => 0x82
  | .subb3 _ _ _ => 0x83
  | .mulb2 _ _ => 0x84
  | .mulb3 _ _ _ => 0x85
  | .divb2 _ _ => 0x86
  | .divb3 _ _ _ => 0x87
  | .bisb2 _ _ => 0x88
  | .bisb3 _ _ _ => 0x89
  | .bicb2 _ _ => 0x8A
  | .bicb3 _ _ _ => 0x8B
  | .xorb2 _ _ => 0x8C
  | .xorb3 _ _ _ => 0x8D
  | .mnegb _ _ => 0x8E
  | .caseb _ _ _ => 0x8F
  | .movb _ _ => 0x90
  | .cmpb _ _ => 0x91
  | .mcomb _ _ => 0x92
  | .bitb _ _ => 0x93
  | .clrb _ => 0x94
  | .tstb _ => 0x95
  | .incb _ => 0x96
  | .decb _ => 0x97
  | .cvtbl _ _ => 0x98
  | .cvtbw _ _ => 0x99
  | .movzbl _ _ => 0x9A
  | .movzbw _ _ => 0x9B
  | .rotl _ _ _ => 0x9C
  | .acbb _ _ _ _ => 0x9D
  | .movab _ _ => 0x9E
  | .pushab _ => 0x9F
  | .addw2 _ _ => 0xA0
  | .addw3 _ _ _ => 0xA1
  | .subw2 _ _ => 0xA2
  | .subw3 _ _ _ => 0xA3
  | .mulw2 _ _ => 0xA4
  | .mulw3 _ _ _ => 0xA5
  | .divw2 _ _ => 0xA6
  | .divw3 _ _ _ => 0xA7
  | .bisw2 _ _ => 0xA8
  | .bisw3 _ _ _ => 0xA9
  | .bicw2 _ _ => 0xAA
  | .bicw3 _ _ _ => 0xAB
  | .xorw2 _ _ => 0xAC
  | .xorw3 _ _ _ => 0xAD
  | .mnegw _ _ => 0xAE
  | .casew _ _ _ => 0xAF
  | .movw _ _ => 0xB0
  | .cmpw _ _ => 0xB1
  | .mcomw _ _ => 0xB2
  | .bitw _ _ => 0xB3
  | .clrw _ => 0xB4
  | .tstw _ => 0xB5
  | .incw _ => 0xB6
  | .decw _ => 0xB7
  | .bispsw _ => 0xB8
  | .bicpsw _ => 0xB9
  | .popr _ => 0xBA
  | .pushr _ => 0xBB
  | .chmk _ => 0xBC
  | .chme _ => 0xBD
  | .chms _ => 0xBE
  | .chmu _ => 0xBF
  | .addl2 _ _ => 0xC0
  | .addl3 _ _ _ => 0xC1
  | .subl2 _ _ => 0xC2
  | .subl3 _ _ _ => 0xC3
  | .mull2 _ _ => 0xC4
  | .mull3 _ _ _ => 0xC5
  | .divl2 _ _ => 0xC6
  | .divl3 _ _ _ => 0xC7
  | .bisl2 _ _ => 0xC8
  | .bisl3 _ _ _ => 0xC9
  | .bicl2 _ _ => 0xCA
  | .bicl3 _ _ _ => 0xCB
  | .xorl2 _ _ => 0xCC
  | .xorl3 _ _ _ => 0xCD
  | .mnegl _ _ => 0xCE
  | .casel _ _ _ => 0xCF
  | .movl _ _ => 0xD0
  | .cmpl _ _ => 0xD1
  | .mcoml _ _ => 0xD2
  | .bitl _ _ => 0xD3
  | .clrf _ => 0xD4
  | .clrl _ => 0xD4
  | .tstl _ => 0xD5
  | .incl _ => 0xD6
  | .decl _ => 0xD7
  | .adwc _ _ => 0xD8
  | .sbwc _ _ => 0xD9
  | .mtpr _ _ => 0xDA
  | .mfpr _ _ => 0xDB
  | .movpsl _ => 0xDC
  | .pushl _ => 0xDD
  | .movaf _ _ => 0xDE
  | .moval _ _ => 0xDE
  | .pushaf _ => 0xDF
  | .pushal _ => 0xDF
  | .bbs _ _ _ => 0xE0
  | .bbc _ _ _ => 0xE1
  | .bbss _ _ _ => 0xE2
  | .bbcs _ _ _ => 0xE3
  | .bbsc _ _ _ => 0xE4
  | .bbcc _ _ _ => 0xE5
  | .bbssi _ _ _ => 0xE6
  | .bbcci _ _ _ => 0xE7
  | .blbs _ _ => 0xE8
  | .blbc _ _ => 0xE9
  | .ffs _ _ _ _ => 0xEA
  | .ffc _ _ _ _ => 0xEB
  | .cmpv _ _ _ _ => 0xEC
  | .cmpzv _ _ _ _ => 0xED
  | .extv _ _ _ _ => 0xEE
  | .extzv _ _ _ _ => 0xEF
  | .insv _ _ _ _ => 0xF0
  | .acbl _ _ _ _ => 0xF1
  | .aoblss _ _ _ => 0xF2
  | .aobleq _ _ _ => 0xF3
  | .sobgeq _ _ => 0xF4
  | .sobgtr _ _ => 0xF5
  | .cvtlb _ _ => 0xF6
  | .cvtlw _ _ => 0xF7
  | .ashp _ _ _ _ _ _ => 0xF8
  | .cvtlp _ _ _ => 0xF9
  | .callg _ _ => 0xFA
  | .calls _ _ => 0xFB
  | .xfc => 0xFC
  | .cvtdh _ _ => 0x32FD
  | .cvtgf _ _ => 0x33FD
  | .addg2 _ _ => 0x40FD
  | .addg3 _ _ _ => 0x41FD
  | .subg2 _ _ => 0x42FD
  | .subg3 _ _ _ => 0x43FD
  | .mulg2 _ _ => 0x44FD
  | .mulg3 _ _ _ => 0x45FD
  | .divg2 _ _ => 0x46FD
  | .divg3 _ _ _ => 0x47FD
  | .cvtgb _ _ => 0x48FD
  | .cvtgw _ _ => 0x49FD
  | .cvtgl _ _ => 0x4AFD
  | .cvtrgl _ _ => 0x4BFD
  | .cvtbg _ _ => 0x4CFD
  | .cvtwg _ _ => 0x4DFD
  | .cvtlg _ _ => 0x4EFD
  | .acbg _ _ _ _ => 0x4FFD
  | .movg _ _ => 0x50FD
  | .cmpg _ _ => 0x51FD
  | .mnegg _ _ => 0x52FD
  | .tstg _ => 0x53FD
  | .emodg _ _ _ _ _ => 0x54FD
  | .polyg _ _ _ => 0x55FD
  | .cvtgh _ _ => 0x56FD
  | .addh2 _ _ => 0x60FD
  | .addh3 _ _ _ => 0x61FD
  | .subh2 _ _ => 0x62FD
  | .subh3 _ _ _ => 0x63FD
  | .mulh2 _ _ => 0x64FD
  | .mulh3 _ _ _ => 0x65FD
  | .divh2 _ _ => 0x66FD
  | .divh3 _ _ _ => 0x67FD
  | .cvthb _ _ => 0x68FD
  | .cvthw _ _ => 0x69FD
  | .cvthl _ _ => 0x6AFD
  | .cvtrhl _ _ => 0x6BFD
  | .cvtbh _ _ => 0x6CFD
  | .cvtwh _ _ => 0x6DFD
  | .cvtlh _ _ => 0x6EFD
  | .acbh _ _ _ _ => 0x6FFD
  | .movh _ _ => 0x70FD
  | .cmph _ _ => 0x71FD
  | .mnegh _ _ => 0x72FD
  | .tsth _ => 0x73FD
  | .emodh _ _ _ _ _ => 0x74FD
  | .polyh _ _ _ => 0x75FD
  | .cvthg _ _ => 0x76FD
  | .clrh _ => 0x7CFD
  | .clro _ => 0x7CFD
  | .movo _ _ => 0x7DFD
  | .movah _ _ => 0x7EFD
  | .movao _ _ => 0x7EFD
  | .pushah _ => 0x7FFD
  | .pushao _ => 0x7FFD
  | .cvtfh _ _ => 0x98FD
  | .cvtfg _ _ => 0x99FD
  | .cvthf _ _ => 0xF6FD
  | .cvthd _ _ => 0xF7FD

/-- Number of opcode bytes (30_encoding.md R401). -/
def Instr.opLen (i : Instr) : Nat := if i.opcode < 256 then 1 else 2

end Sys2Proof
end

