-- ==== Sys2Proof/WellFormed.lean ====
section
/-! DEFINITION. Which instructions are well formed: specifiers the source neither faults on by mode nor calls
UNPREDICTABLE (30_encoding.md R445), and that an instruction stream can hold. -/
namespace Sys2Proof

/-- Longwords a datum takes in register mode, 30_encoding.md R412. -/
def DT.regs : DT → Nat
  | .b | .w | .l | .f => 1
  | .q | .d | .g => 2
  | .o | .h => 4

/-- A mode that may stand alone for an operand of access `acc` and type `t`. -/
def Mode.legal (acc : Access) (t : DT) : Mode → Bool
  | .lit _ => acc == .r
  | .index _ => false
  | .reg n => acc != .a && decide (n.val + t.regs ≤ 15)
  | .regDef n | .autoDec n | .autoInc n | .autoIncDef n => n != 15
  | .imm v => acc != .w && acc != .m && decide (v.toNat < 2 ^ t.bits)
  | _ => true

/-- A mode that may be the base of an indexed specifier with index register `x`. -/
def Mode.legalBase (x : Reg) : Mode → Bool
  | .lit _ | .index _ | .reg _ | .imm _ => false
  | .autoDec n | .autoInc n | .autoIncDef n => n != 15 && n != x
  | .regDef n => n != 15
  | _ => true

def Opnd.legal (acc : Access) (t : DT) (o : Opnd) : Bool :=
  match o.idx with
  | none => o.mode.legal acc t
  | some x => x != 15 && o.mode.legalBase x

def Slot.legal : Slot → Bool
  | .op acc t o => o.legal acc t
  | _ => true

/-- A well-formed instruction: every specifier is legal for its access and type. -/
def Instr.wellFormed (i : Instr) : Bool := i.slots.all Slot.legal

end Sys2Proof
end

