-- ==== Sys2Proof/Decode.lean ====
section
/-! DEFINITION. Decoding an instruction from the bytes at its address, and the encoder (30_encoding.md R400 to R450). -/
namespace Sys2Proof

/-- The instruction stream from the opcode on: the byte at an offset, none where it cannot be read. -/
abbrev Stream := Nat → Option Byte

/-- What decoding answers: an instruction and its length; an unassigned opcode (R446); or the offset of the first
byte that is needed and cannot be read, with the opcode (0 if the opcode itself) and the specifiers before it. -/
inductive Decoded where
  | ok (i : Instr) (len : Nat)
  | reserved (opcode : Nat)
  | missing (opcode : Nat) (seen : List Slot) (pos : Nat)
  deriving DecidableEq, Repr

/-- One byte of the stream. -/
def getByte (f : Stream) (pos : Nat) : Except Nat Byte :=
  match f pos with
  | some b => .ok b
  | none => .error pos

/-- `n` bytes, low byte first (R404), as a number. -/
def getLE (f : Stream) (pos : Nat) : Nat → Except Nat Nat
  | 0 => .ok 0
  | n + 1 =>
    match getByte f pos with
    | .error e => .error e
    | .ok b =>
      match getLE f (pos + 1) n with
      | .error e => .error e
      | .ok v => .ok (b.toNat + 256 * v)

/-- A specifier without index, R410: its mode and the offset after it. A byte 4x is answered as `index`. -/
def parseMode (t : DT) (f : Stream) (pos : Nat) : Except Nat (Mode × Nat) :=
  match getByte f pos with
  | .error e => .error e
  | .ok b =>
    let n : Reg := ⟨b.toNat % 16, Nat.mod_lt _ (by decide)⟩
    let ext (k : Nat) (mk : Nat → Mode) : Except Nat (Mode × Nat) :=
      match getLE f (pos + 1) k with
      | .error e => .error e
      | .ok v => .ok (mk v, pos + 1 + k)
    match b.toNat / 16 with
    | 4 => .ok (.index n, pos + 1)
    | 5 => .ok (.reg n, pos + 1)
    | 6 => .ok (.regDef n, pos + 1)
    | 7 => .ok (.autoDec n, pos + 1)
    | 8 => if n = 15 then ext t.len fun v => .imm (BitVec.ofNat _ v) else .ok (.autoInc n, pos + 1)
    | 9 => if n = 15 then ext 4 fun v => .absolute (BitVec.ofNat _ v) else .ok (.autoIncDef n, pos + 1)
    | 10 => ext 1 fun v => .dispB n (BitVec.ofNat _ v)
    | 11 => ext 1 fun v => .dispBDef n (BitVec.ofNat _ v)
    | 12 => ext 2 fun v => .dispW n (BitVec.ofNat _ v)
    | 13 => ext 2 fun v => .dispWDef n (BitVec.ofNat _ v)
    | 14 => ext 4 fun v => .dispL n (BitVec.ofNat _ v)
    | 15 => ext 4 fun v => .dispLDef n (BitVec.ofNat _ v)
    | _ => .ok (.lit (BitVec.ofNat _ b.toNat), pos + 1)

/-- An operand specifier, R410 and R424. -/
def parseOpnd (t : DT) (f : Stream) (pos : Nat) : Except Nat (Opnd × Nat) :=
  match getByte f pos with
  | .error e => .error e
  | .ok b =>
    if b.toNat / 16 = 4 ∧ b.toNat ≠ 0x4F then
      match parseMode t f (pos + 1) with
      | .error e => .error e
      | .ok (m, p) => .ok (⟨some ⟨b.toNat % 16, Nat.mod_lt _ (by decide)⟩, m⟩, p)
    else
      match parseMode t f pos with
      | .error e => .error e
      | .ok (m, p) => .ok (⟨none, m⟩, p)

/-- What reads the rest of an instruction: from the opcode, the stream, the offset and the specifiers so far. -/
abbrev Parser := Nat → Stream → Nat → List Slot → Decoded

/-- The instruction is complete. -/
def ret (i : Instr) : Parser := fun _ _ pos _ => .ok i pos

/-- The stream a specifier is read from: an address or field operand in immediate mode names its constant but does not
refer to it, so constant bytes that cannot be read do not matter (R420, R421). -/
def constantFree (acc : Access) (t : DT) (f : Stream) (pos : Nat) : Stream := fun k =>
  if (acc = .a ∨ acc = .v) ∧ f pos = some 0x8F ∧ pos < k ∧ k ≤ pos + t.len then some ((f k).getD 0) else f k

/-- Read one operand specifier. -/
def opd (acc : Access) (t : DT) (k : Opnd → Parser) : Parser := fun op f pos seen =>
  match parseOpnd t (constantFree acc t f pos) pos with
  | .error e => .missing op seen e
  | .ok (o, p) => k o op f p (seen ++ [.op acc t o])

/-- Read a byte branch displacement, R403. -/
def brB (k : Byte → Parser) : Parser := fun op f pos seen =>
  match getLE f pos 1 with
  | .error e => .missing op seen e
  | .ok v => k (BitVec.ofNat _ v) op f (pos + 1) (seen ++ [.brB (BitVec.ofNat _ v)])

/-- Read a word branch displacement, R403. -/
def brW (k : Word16 → Parser) : Parser := fun op f pos seen =>
  match getLE f pos 2 with
  | .error e => .missing op seen e
  | .ok v => k (BitVec.ofNat _ v) op f (pos + 2) (seen ++ [.brW (BitVec.ofNat _ v)])


/-- The one-byte opcodes, 30_encoding.md R430: what follows the opcode byte `n`; none for an unassigned opcode. -/
noncomputable def parse1 (n : Nat) : Option Parser :=
  match n with
  | 0x00 => some (ret (.halt))
  | 0x01 => some (ret (.nop))
  | 0x02 => some (ret (.rei))
  | 0x03 => some (ret (.bpt))
  | 0x04 => some (ret (.ret))
  | 0x05 => some (ret (.rsb))
  | 0x06 => some (ret (.ldpctx))
  | 0x07 => some (ret (.svpctx))
  | 0x08 => some (opd .r .w fun x0 => opd .a .b fun x1 => opd .r .w fun x2 => opd .a .b fun x3 => ret (.cvtps x0 x1 x2 x3))
  | 0x09 => some (opd .r .w fun x0 => opd .a .b fun x1 => opd .r .w fun x2 => opd .a .b fun x3 => ret (.cvtsp x0 x1 x2 x3))
  | 0x0A => some (opd .r .l fun x0 => opd .r .l fun x1 => opd .r .l fun x2 => opd .r .l fun x3 => opd .r .l fun x4 => opd .w .l fun x5 => ret (.index x0 x1 x2 x3 x4 x5))
  | 0x0B => some (opd .a .b fun x0 => opd .r .l fun x1 => opd .r .w fun x2 => opd .a .b fun x3 => ret (.crc x0 x1 x2 x3))
  | 0x0C => some (opd .r .b fun x0 => opd .r .w fun x1 => opd .a .b fun x2 => ret (.prober x0 x1 x2))
  | 0x0D => some (opd .r .b fun x0 => opd .r .w fun x1 => opd .a .b fun x2 => ret (.probew x0 x1 x2))
  | 0x0E => some (opd .a .b fun x0 => opd .a .b fun x1 => ret (.insque x0 x1))
  | 0x0F => some (opd .a .b fun x0 => opd .w .l fun x1 => ret (.remque x0 x1))
  | 0x10 => some (brB fun x0 => ret (.bsbb x0))
  | 0x11 => some (brB fun x0 => ret (.brb x0))
  | 0x12 => some (brB fun x0 => ret (.bneq x0))
  | 0x13 => some (brB fun x0 => ret (.beql x0))
  | 0x14 => some (brB fun x0 => ret (.bgtr x0))
  | 0x15 => some (brB fun x0 => ret (.bleq x0))
  | 0x16 => some (opd .a .b fun x0 => ret (.jsb x0))
  | 0x17 => some (opd .a .b fun x0 => ret (.jmp x0))
  | 0x18 => some (brB fun x0 => ret (.bgeq x0))
  | 0x19 => some (brB fun x0 => ret (.blss x0))
  | 0x1A => some (brB fun x0 => ret (.bgtru x0))
  | 0x1B => some (brB fun x0 => ret (.blequ x0))
  | 0x1C => some (brB fun x0 => ret (.bvc x0))
  | 0x1D => some (brB fun x0 => ret (.bvs x0))
  | 0x1E => some (brB fun x0 => ret (.bcc x0))
  | 0x1F => some (brB fun x0 => ret (.bcs x0))
  | 0x20 => some (opd .r .w fun x0 => opd .a .b fun x1 => opd .r .w fun x2 => opd .a .b fun x3 => ret (.addp4 x0 x1 x2 x3))
  | 0x21 => some (opd .r .w fun x0 => opd .a .b fun x1 => opd .r .w fun x2 => opd .a .b fun x3 => opd .r .w fun x4 => opd .a .b fun x5 => ret (.addp6 x0 x1 x2 x3 x4 x5))
  | 0x22 => some (opd .r .w fun x0 => opd .a .b fun x1 => opd .r .w fun x2 => opd .a .b fun x3 => ret (.subp4 x0 x1 x2 x3))
  | 0x23 => some (opd .r .w fun x0 => opd .a .b fun x1 => opd .r .w fun x2 => opd .a .b fun x3 => opd .r .w fun x4 => opd .a .b fun x5 => ret (.subp6 x0 x1 x2 x3 x4 x5))
  | 0x24 => some (opd .r .w fun x0 => opd .a .b fun x1 => opd .a .b fun x2 => opd .r .w fun x3 => opd .a .b fun x4 => ret (.cvtpt x0 x1 x2 x3 x4))
  | 0x25 => some (opd .r .w fun x0 => opd .a .b fun x1 => opd .r .w fun x2 => opd .a .b fun x3 => opd .r .w fun x4 => opd .a .b fun x5 => ret (.mulp x0 x1 x2 x3 x4 x5))
  | 0x26 => some (opd .r .w fun x0 => opd .a .b fun x1 => opd .a .b fun x2 => opd .r .w fun x3 => opd .a .b fun x4 => ret (.cvttp x0 x1 x2 x3 x4))
  | 0x27 => some (opd .r .w fun x0 => opd .a .b fun x1 => opd .r .w fun x2 => opd .a .b fun x3 => opd .r .w fun x4 => opd .a .b fun x5 => ret (.divp x0 x1 x2 x3 x4 x5))
  | 0x28 => some (opd .r .w fun x0 => opd .a .b fun x1 => opd .a .b fun x2 => ret (.movc3 x0 x1 x2))
  | 0x29 => some (opd .r .w fun x0 => opd .a .b fun x1 => opd .a .b fun x2 => ret (.cmpc3 x0 x1 x2))
  | 0x2A => some (opd .r .w fun x0 => opd .a .b fun x1 => opd .a .b fun x2 => opd .r .b fun x3 => ret (.scanc x0 x1 x2 x3))
  | 0x2B => some (opd .r .w fun x0 => opd .a .b fun x1 => opd .a .b fun x2 => opd .r .b fun x3 => ret (.spanc x0 x1 x2 x3))
  | 0x2C => some (opd .r .w fun x0 => opd .a .b fun x1 => opd .r .b fun x2 => opd .r .w fun x3 => opd .a .b fun x4 => ret (.movc5 x0 x1 x2 x3 x4))
  | 0x2D => some (opd .r .w fun x0 => opd .a .b fun x1 => opd .r .b fun x2 => opd .r .w fun x3 => opd .a .b fun x4 => ret (.cmpc5 x0 x1 x2 x3 x4))
  | 0x2E => some (opd .r .w fun x0 => opd .a .b fun x1 => opd .r .b fun x2 => opd .a .b fun x3 => opd .r .w fun x4 => opd .a .b fun x5 => ret (.movtc x0 x1 x2 x3 x4 x5))
  | 0x2F => some (opd .r .w fun x0 => opd .a .b fun x1 => opd .r .b fun x2 => opd .a .b fun x3 => opd .r .w fun x4 => opd .a .b fun x5 => ret (.movtuc x0 x1 x2 x3 x4 x5))
  | 0x30 => some (brW fun x0 => ret (.bsbw x0))
  | 0x31 => some (brW fun x0 => ret (.brw x0))
  | 0x32 => some (opd .r .w fun x0 => opd .w .l fun x1 => ret (.cvtwl x0 x1))
  | 0x33 => some (opd .r .w fun x0 => opd .w .b fun x1 => ret (.cvtwb x0 x1))
  | 0x34 => some (opd .r .w fun x0 => opd .a .b fun x1 => opd .a .b fun x2 => ret (.movp x0 x1 x2))
  | 0x35 => some (opd .r .w fun x0 => opd .a .b fun x1 => opd .a .b fun x2 => ret (.cmpp3 x0 x1 x2))
  | 0x36 => some (opd .r .w fun x0 => opd .a .b fun x1 => opd .w .l fun x2 => ret (.cvtpl x0 x1 x2))
  | 0x37 => some (opd .r .w fun x0 => opd .a .b fun x1 => opd .r .w fun x2 => opd .a .b fun x3 => ret (.cmpp4 x0 x1 x2 x3))
  | 0x38 => some (opd .r .w fun x0 => opd .a .b fun x1 => opd .a .b fun x2 => opd .a .b fun x3 => ret (.editpc x0 x1 x2 x3))
  | 0x39 => some (opd .r .w fun x0 => opd .a .b fun x1 => opd .r .w fun x2 => opd .a .b fun x3 => ret (.matchc x0 x1 x2 x3))
  | 0x3A => some (opd .r .b fun x0 => opd .r .w fun x1 => opd .a .b fun x2 => ret (.locc x0 x1 x2))
  | 0x3B => some (opd .r .b fun x0 => opd .r .w fun x1 => opd .a .b fun x2 => ret (.skpc x0 x1 x2))
  | 0x3C => some (opd .r .w fun x0 => opd .w .l fun x1 => ret (.movzwl x0 x1))
  | 0x3D => some (opd .r .w fun x0 => opd .r .w fun x1 => opd .m .w fun x2 => brW fun x3 => ret (.acbw x0 x1 x2 x3))
  | 0x3E => some (opd .a .w fun x0 => opd .w .l fun x1 => ret (.movaw x0 x1))
  | 0x3F => some (opd .a .w fun x0 => ret (.pushaw x0))
  | 0x40 => some (opd .r .f fun x0 => opd .m .f fun x1 => ret (.addf2 x0 x1))
  | 0x41 => some (opd .r .f fun x0 => opd .r .f fun x1 => opd .w .f fun x2 => ret (.addf3 x0 x1 x2))
  | 0x42 => some (opd .r .f fun x0 => opd .m .f fun x1 => ret (.subf2 x0 x1))
  | 0x43 => some (opd .r .f fun x0 => opd .r .f fun x1 => opd .w .f fun x2 => ret (.subf3 x0 x1 x2))
  | 0x44 => some (opd .r .f fun x0 => opd .m .f fun x1 => ret (.mulf2 x0 x1))
  | 0x45 => some (opd .r .f fun x0 => opd .r .f fun x1 => opd .w .f fun x2 => ret (.mulf3 x0 x1 x2))
  | 0x46 => some (opd .r .f fun x0 => opd .m .f fun x1 => ret (.divf2 x0 x1))
  | 0x47 => some (opd .r .f fun x0 => opd .r .f fun x1 => opd .w .f fun x2 => ret (.divf3 x0 x1 x2))
  | 0x48 => some (opd .r .f fun x0 => opd .w .b fun x1 => ret (.cvtfb x0 x1))
  | 0x49 => some (opd .r .f fun x0 => opd .w .w fun x1 => ret (.cvtfw x0 x1))
  | 0x4A => some (opd .r .f fun x0 => opd .w .l fun x1 => ret (.cvtfl x0 x1))
  | 0x4B => some (opd .r .f fun x0 => opd .w .l fun x1 => ret (.cvtrfl x0 x1))
  | 0x4C => some (opd .r .b fun x0 => opd .w .f fun x1 => ret (.cvtbf x0 x1))
  | 0x4D => some (opd .r .w fun x0 => opd .w .f fun x1 => ret (.cvtwf x0 x1))
  | 0x4E => some (opd .r .l fun x0 => opd .w .f fun x1 => ret (.cvtlf x0 x1))
  | 0x4F => some (opd .r .f fun x0 => opd .r .f fun x1 => opd .m .f fun x2 => brW fun x3 => ret (.acbf x0 x1 x2 x3))
  | 0x50 => some (opd .r .f fun x0 => opd .w .f fun x1 => ret (.movf x0 x1))
  | 0x51 => some (opd .r .f fun x0 => opd .r .f fun x1 => ret (.cmpf x0 x1))
  | 0x52 => some (opd .r .f fun x0 => opd .w .f fun x1 => ret (.mnegf x0 x1))
  | 0x53 => some (opd .r .f fun x0 => ret (.tstf x0))
  | 0x54 => some (opd .r .f fun x0 => opd .r .b fun x1 => opd .r .f fun x2 => opd .w .l fun x3 => opd .w .f fun x4 => ret (.emodf x0 x1 x2 x3 x4))
  | 0x55 => some (opd .r .f fun x0 => opd .r .w fun x1 => opd .a .b fun x2 => ret (.polyf x0 x1 x2))
  | 0x56 => some (opd .r .f fun x0 => opd .w .d fun x1 => ret (.cvtfd x0 x1))
  | 0x58 => some (opd .r .w fun x0 => opd .m .w fun x1 => ret (.adawi x0 x1))
  | 0x5C => some (opd .a .b fun x0 => opd .a .q fun x1 => ret (.insqhi x0 x1))
  | 0x5D => some (opd .a .b fun x0 => opd .a .q fun x1 => ret (.insqti x0 x1))
  | 0x5E => some (opd .a .q fun x0 => opd .w .l fun x1 => ret (.remqhi x0 x1))
  | 0x5F => some (opd .a .q fun x0 => opd .w .l fun x1 => ret (.remqti x0 x1))
  | 0x60 => some (opd .r .d fun x0 => opd .m .d fun x1 => ret (.addd2 x0 x1))
  | 0x61 => some (opd .r .d fun x0 => opd .r .d fun x1 => opd .w .d fun x2 => ret (.addd3 x0 x1 x2))
  | 0x62 => some (opd .r .d fun x0 => opd .m .d fun x1 => ret (.subd2 x0 x1))
  | 0x63 => some (opd .r .d fun x0 => opd .r .d fun x1 => opd .w .d fun x2 => ret (.subd3 x0 x1 x2))
  | 0x64 => some (opd .r .d fun x0 => opd .m .d fun x1 => ret (.muld2 x0 x1))
  | 0x65 => some (opd .r .d fun x0 => opd .r .d fun x1 => opd .w .d fun x2 => ret (.muld3 x0 x1 x2))
  | 0x66 => some (opd .r .d fun x0 => opd .m .d fun x1 => ret (.divd2 x0 x1))
  | 0x67 => some (opd .r .d fun x0 => opd .r .d fun x1 => opd .w .d fun x2 => ret (.divd3 x0 x1 x2))
  | 0x68 => some (opd .r .d fun x0 => opd .w .b fun x1 => ret (.cvtdb x0 x1))
  | 0x69 => some (opd .r .d fun x0 => opd .w .w fun x1 => ret (.cvtdw x0 x1))
  | 0x6A => some (opd .r .d fun x0 => opd .w .l fun x1 => ret (.cvtdl x0 x1))
  | 0x6B => some (opd .r .d fun x0 => opd .w .l fun x1 => ret (.cvtrdl x0 x1))
  | 0x6C => some (opd .r .b fun x0 => opd .w .d fun x1 => ret (.cvtbd x0 x1))
  | 0x6D => some (opd .r .w fun x0 => opd .w .d fun x1 => ret (.cvtwd x0 x1))
  | 0x6E => some (opd .r .l fun x0 => opd .w .d fun x1 => ret (.cvtld x0 x1))
  | 0x6F => some (opd .r .d fun x0 => opd .r .d fun x1 => opd .m .d fun x2 => brW fun x3 => ret (.acbd x0 x1 x2 x3))
  | 0x70 => some (opd .r .d fun x0 => opd .w .d fun x1 => ret (.movd x0 x1))
  | 0x71 => some (opd .r .d fun x0 => opd .r .d fun x1 => ret (.cmpd x0 x1))
  | 0x72 => some (opd .r .d fun x0 => opd .w .d fun x1 => ret (.mnegd x0 x1))
  | 0x73 => some (opd .r .d fun x0 => ret (.tstd x0))
  | 0x74 => some (opd .r .d fun x0 => opd .r .b fun x1 => opd .r .d fun x2 => opd .w .l fun x3 => opd .w .d fun x4 => ret (.emodd x0 x1 x2 x3 x4))
  | 0x75 => some (opd .r .d fun x0 => opd .r .w fun x1 => opd .a .b fun x2 => ret (.polyd x0 x1 x2))
  | 0x76 => some (opd .r .d fun x0 => opd .w .f fun x1 => ret (.cvtdf x0 x1))
  | 0x78 => some (opd .r .b fun x0 => opd .r .l fun x1 => opd .w .l fun x2 => ret (.ashl x0 x1 x2))
  | 0x79 => some (opd .r .b fun x0 => opd .r .q fun x1 => opd .w .q fun x2 => ret (.ashq x0 x1 x2))
  | 0x7A => some (opd .r .l fun x0 => opd .r .l fun x1 => opd .r .l fun x2 => opd .w .q fun x3 => ret (.emul x0 x1 x2 x3))
  | 0x7B => some (opd .r .l fun x0 => opd .r .q fun x1 => opd .w .l fun x2 => opd .w .l fun x3 => ret (.ediv x0 x1 x2 x3))
  | 0x7C => some (opd .w .q fun x0 => ret (.clrq x0))
  | 0x7D => some (opd .r .q fun x0 => opd .w .q fun x1 => ret (.movq x0 x1))
  | 0x7E => some (opd .a .q fun x0 => opd .w .l fun x1 => ret (.movaq x0 x1))
  | 0x7F => some (opd .a .q fun x0 => ret (.pushaq x0))
  | 0x80 => some (opd .r .b fun x0 => opd .m .b fun x1 => ret (.addb2 x0 x1))
  | 0x81 => some (opd .r .b fun x0 => opd .r .b fun x1 => opd .w .b fun x2 => ret (.addb3 x0 x1 x2))
  | 0x82 => some (opd .r .b fun x0 => opd .m .b fun x1 => ret (.subb2 x0 x1))
  | 0x83 => some (opd .r .b fun x0 => opd .r .b fun x1 => opd .w .b fun x2 => ret (.subb3 x0 x1 x2))
  | 0x84 => some (opd .r .b fun x0 => opd .m .b fun x1 => ret (.mulb2 x0 x1))
  | 0x85 => some (opd .r .b fun x0 => opd .r .b fun x1 => opd .w .b fun x2 => ret (.mulb3 x0 x1 x2))
  | 0x86 => some (opd .r .b fun x0 => opd .m .b fun x1 => ret (.divb2 x0 x1))
  | 0x87 => some (opd .r .b fun x0 => opd .r .b fun x1 => opd .w .b fun x2 => ret (.divb3 x0 x1 x2))
  | 0x88 => some (opd .r .b fun x0 => opd .m .b fun x1 => ret (.bisb2 x0 x1))
  | 0x89 => some (opd .r .b fun x0 => opd .r .b fun x1 => opd .w .b fun x2 => ret (.bisb3 x0 x1 x2))
  | 0x8A => some (opd .r .b fun x0 => opd .m .b fun x1 => ret (.bicb2 x0 x1))
  | 0x8B => some (opd .r .b fun x0 => opd .r .b fun x1 => opd .w .b fun x2 => ret (.bicb3 x0 x1 x2))
  | 0x8C => some (opd .r .b fun x0 => opd .m .b fun x1 => ret (.xorb2 x0 x1))
  | 0x8D => some (opd .r .b fun x0 => opd .r .b fun x1 => opd .w .b fun x2 => ret (.xorb3 x0 x1 x2))
  | 0x8E => some (opd .r .b fun x0 => opd .w .b fun x1 => ret (.mnegb x0 x1))
  | 0x8F => some (opd .r .b fun x0 => opd .r .b fun x1 => opd .r .b fun x2 => ret (.caseb x0 x1 x2))
  | 0x90 => some (opd .r .b fun x0 => opd .w .b fun x1 => ret (.movb x0 x1))
  | 0x91 => some (opd .r .b fun x0 => opd .r .b fun x1 => ret (.cmpb x0 x1))
  | 0x92 => some (opd .r .b fun x0 => opd .w .b fun x1 => ret (.mcomb x0 x1))
  | 0x93 => some (opd .r .b fun x0 => opd .r .b fun x1 => ret (.bitb x0 x1))
  | 0x94 => some (opd .w .b fun x0 => ret (.clrb x0))
  | 0x95 => some (opd .r .b fun x0 => ret (.tstb x0))
  | 0x96 => some (opd .m .b fun x0 => ret (.incb x0))
  | 0x97 => some (opd .m .b fun x0 => ret (.decb x0))
  | 0x98 => some (opd .r .b fun x0 => opd .w .l fun x1 => ret (.cvtbl x0 x1))
  | 0x99 => some (opd .r .b fun x0 => opd .w .w fun x1 => ret (.cvtbw x0 x1))
  | 0x9A => some (opd .r .b fun x0 => opd .w .l fun x1 => ret (.movzbl x0 x1))
  | 0x9B => some (opd .r .b fun x0 => opd .w .w fun x1 => ret (.movzbw x0 x1))
  | 0x9C => some (opd .r .b fun x0 => opd .r .l fun x1 => opd .w .l fun x2 => ret (.rotl x0 x1 x2))
  | 0x9D => some (opd .r .b fun x0 => opd .r .b fun x1 => opd .m .b fun x2 => brW fun x3 => ret (.acbb x0 x1 x2 x3))
  | 0x9E => some (opd .a .b fun x0 => opd .w .l fun x1 => ret (.movab x0 x1))
  | 0x9F => some (opd .a .b fun x0 => ret (.pushab x0))
  | 0xA0 => some (opd .r .w fun x0 => opd .m .w fun x1 => ret (.addw2 x0 x1))
  | 0xA1 => some (opd .r .w fun x0 => opd .r .w fun x1 => opd .w .w fun x2 => ret (.addw3 x0 x1 x2))
  | 0xA2 => some (opd .r .w fun x0 => opd .m .w fun x1 => ret (.subw2 x0 x1))
  | 0xA3 => some (opd .r .w fun x0 => opd .r .w fun x1 => opd .w .w fun x2 => ret (.subw3 x0 x1 x2))
  | 0xA4 => some (opd .r .w fun x0 => opd .m .w fun x1 => ret (.mulw2 x0 x1))
  | 0xA5 => some (opd .r .w fun x0 => opd .r .w fun x1 => opd .w .w fun x2 => ret (.mulw3 x0 x1 x2))
  | 0xA6 => some (opd .r .w fun x0 => opd .m .w fun x1 => ret (.divw2 x0 x1))
  | 0xA7 => some (opd .r .w fun x0 => opd .r .w fun x1 => opd .w .w fun x2 => ret (.divw3 x0 x1 x2))
  | 0xA8 => some (opd .r .w fun x0 => opd .m .w fun x1 => ret (.bisw2 x0 x1))
  | 0xA9 => some (opd .r .w fun x0 => opd .r .w fun x1 => opd .w .w fun x2 => ret (.bisw3 x0 x1 x2))
  | 0xAA => some (opd .r .w fun x0 => opd .m .w fun x1 => ret (.bicw2 x0 x1))
  | 0xAB => some (opd .r .w fun x0 => opd .r .w fun x1 => opd .w .w fun x2 => ret (.bicw3 x0 x1 x2))
  | 0xAC => some (opd .r .w fun x0 => opd .m .w fun x1 => ret (.xorw2 x0 x1))
  | 0xAD => some (opd .r .w fun x0 => opd .r .w fun x1 => opd .w .w fun x2 => ret (.xorw3 x0 x1 x2))
  | 0xAE => some (opd .r .w fun x0 => opd .w .w fun x1 => ret (.mnegw x0 x1))
  | 0xAF => some (opd .r .w fun x0 => opd .r .w fun x1 => opd .r .w fun x2 => ret (.casew x0 x1 x2))
  | 0xB0 => some (opd .r .w fun x0 => opd .w .w fun x1 => ret (.movw x0 x1))
  | 0xB1 => some (opd .r .w fun x0 => opd .r .w fun x1 => ret (.cmpw x0 x1))
  | 0xB2 => some (opd .r .w fun x0 => opd .w .w fun x1 => ret (.mcomw x0 x1))
  | 0xB3 => some (opd .r .w fun x0 => opd .r .w fun x1 => ret (.bitw x0 x1))
  | 0xB4 => some (opd .w .w fun x0 => ret (.clrw x0))
  | 0xB5 => some (opd .r .w fun x0 => ret (.tstw x0))
  | 0xB6 => some (opd .m .w fun x0 => ret (.incw x0))
  | 0xB7 => some (opd .m .w fun x0 => ret (.decw x0))
  | 0xB8 => some (opd .r .w fun x0 => ret (.bispsw x0))
  | 0xB9 => some (opd .r .w fun x0 => ret (.bicpsw x0))
  | 0xBA => some (opd .r .w fun x0 => ret (.popr x0))
  | 0xBB => some (opd .r .w fun x0 => ret (.pushr x0))
  | 0xBC => some (opd .r .w fun x0 => ret (.chmk x0))
  | 0xBD => some (opd .r .w fun x0 => ret (.chme x0))
  | 0xBE => some (opd .r .w fun x0 => ret (.chms x0))
  | 0xBF => some (opd .r .w fun x0 => ret (.chmu x0))
  | 0xC0 => some (opd .r .l fun x0 => opd .m .l fun x1 => ret (.addl2 x0 x1))
  | 0xC1 => some (opd .r .l fun x0 => opd .r .l fun x1 => opd .w .l fun x2 => ret (.addl3 x0 x1 x2))
  | 0xC2 => some (opd .r .l fun x0 => opd .m .l fun x1 => ret (.subl2 x0 x1))
  | 0xC3 => some (opd .r .l fun x0 => opd .r .l fun x1 => opd .w .l fun x2 => ret (.subl3 x0 x1 x2))
  | 0xC4 => some (opd .r .l fun x0 => opd .m .l fun x1 => ret (.mull2 x0 x1))
  | 0xC5 => some (opd .r .l fun x0 => opd .r .l fun x1 => opd .w .l fun x2 => ret (.mull3 x0 x1 x2))
  | 0xC6 => some (opd .r .l fun x0 => opd .m .l fun x1 => ret (.divl2 x0 x1))
  | 0xC7 => some (opd .r .l fun x0 => opd .r .l fun x1 => opd .w .l fun x2 => ret (.divl3 x0 x1 x2))
  | 0xC8 => some (opd .r .l fun x0 => opd .m .l fun x1 => ret (.bisl2 x0 x1))
  | 0xC9 => some (opd .r .l fun x0 => opd .r .l fun x1 => opd .w .l fun x2 => ret (.bisl3 x0 x1 x2))
  | 0xCA => some (opd .r .l fun x0 => opd .m .l fun x1 => ret (.bicl2 x0 x1))
  | 0xCB => some (opd .r .l fun x0 => opd .r .l fun x1 => opd .w .l fun x2 => ret (.bicl3 x0 x1 x2))
  | 0xCC => some (opd .r .l fun x0 => opd .m .l fun x1 => ret (.xorl2 x0 x1))
  | 0xCD => some (opd .r .l fun x0 => opd .r .l fun x1 => opd .w .l fun x2 => ret (.xorl3 x0 x1 x2))
  | 0xCE => some (opd .r .l fun x0 => opd .w .l fun x1 => ret (.mnegl x0 x1))
  | 0xCF => some (opd .r .l fun x0 => opd .r .l fun x1 => opd .r .l fun x2 => ret (.casel x0 x1 x2))
  | 0xD0 => some (opd .r .l fun x0 => opd .w .l fun x1 => ret (.movl x0 x1))
  | 0xD1 => some (opd .r .l fun x0 => opd .r .l fun x1 => ret (.cmpl x0 x1))
  | 0xD2 => some (opd .r .l fun x0 => opd .w .l fun x1 => ret (.mcoml x0 x1))
  | 0xD3 => some (opd .r .l fun x0 => opd .r .l fun x1 => ret (.bitl x0 x1))
  | 0xD4 => some (opd .w .l fun x0 => ret (.clrl x0))
  | 0xD5 => some (opd .r .l fun x0 => ret (.tstl x0))
  | 0xD6 => some (opd .m .l fun x0 => ret (.incl x0))
  | 0xD7 => some (opd .m .l fun x0 => ret (.decl x0))
  | 0xD8 => some (opd .r .l fun x0 => opd .m .l fun x1 => ret (.adwc x0 x1))
  | 0xD9 => some (opd .r .l fun x0 => opd .m .l fun x1 => ret (.sbwc x0 x1))
  | 0xDA => some (opd .r .l fun x0 => opd .r .l fun x1 => ret (.mtpr x0 x1))
  | 0xDB => some (opd .r .l fun x0 => opd .w .l fun x1 => ret (.mfpr x0 x1))
  | 0xDC => some (opd .w .l fun x0 => ret (.movpsl x0))
  | 0xDD => some (opd .r .l fun x0 => ret (.pushl x0))
  | 0xDE => some (opd .a .l fun x0 => opd .w .l fun x1 => ret (.moval x0 x1))
  | 0xDF => some (opd .a .l fun x0 => ret (.pushal x0))
  | 0xE0 => some (opd .r .l fun x0 => opd .v .b fun x1 => brB fun x2 => ret (.bbs x0 x1 x2))
  | 0xE1 => some (opd .r .l fun x0 => opd .v .b fun x1 => brB fun x2 => ret (.bbc x0 x1 x2))
  | 0xE2 => some (opd .r .l fun x0 => opd .v .b fun x1 => brB fun x2 => ret (.bbss x0 x1 x2))
  | 0xE3 => some (opd .r .l fun x0 => opd .v .b fun x1 => brB fun x2 => ret (.bbcs x0 x1 x2))
  | 0xE4 => some (opd .r .l fun x0 => opd .v .b fun x1 => brB fun x2 => ret (.bbsc x0 x1 x2))
  | 0xE5 => some (opd .r .l fun x0 => opd .v .b fun x1 => brB fun x2 => ret (.bbcc x0 x1 x2))
  | 0xE6 => some (opd .r .l fun x0 => opd .v .b fun x1 => brB fun x2 => ret (.bbssi x0 x1 x2))
  | 0xE7 => some (opd .r .l fun x0 => opd .v .b fun x1 => brB fun x2 => ret (.bbcci x0 x1 x2))
  | 0xE8 => some (opd .r .l fun x0 => brB fun x1 => ret (.blbs x0 x1))
  | 0xE9 => some (opd .r .l fun x0 => brB fun x1 => ret (.blbc x0 x1))
  | 0xEA => some (opd .r .l fun x0 => opd .r .b fun x1 => opd .v .b fun x2 => opd .w .l fun x3 => ret (.ffs x0 x1 x2 x3))
  | 0xEB => some (opd .r .l fun x0 => opd .r .b fun x1 => opd .v .b fun x2 => opd .w .l fun x3 => ret (.ffc x0 x1 x2 x3))
  | 0xEC => some (opd .r .l fun x0 => opd .r .b fun x1 => opd .v .b fun x2 => opd .r .l fun x3 => ret (.cmpv x0 x1 x2 x3))
  | 0xED => some (opd .r .l fun x0 => opd .r .b fun x1 => opd .v .b fun x2 => opd .r .l fun x3 => ret (.cmpzv x0 x1 x2 x3))
  | 0xEE => some (opd .r .l fun x0 => opd .r .b fun x1 => opd .v .b fun x2 => opd .w .l fun x3 => ret (.extv x0 x1 x2 x3))
  | 0xEF => some (opd .r .l fun x0 => opd .r .b fun x1 => opd .v .b fun x2 => opd .w .l fun x3 => ret (.extzv x0 x1 x2 x3))
  | 0xF0 => some (opd .r .l fun x0 => opd .r .l fun x1 => opd .r .b fun x2 => opd .v .b fun x3 => ret (.insv x0 x1 x2 x3))
  | 0xF1 => some (opd .r .l fun x0 => opd .r .l fun x1 => opd .m .l fun x2 => brW fun x3 => ret (.acbl x0 x1 x2 x3))
  | 0xF2 => some (opd .r .l fun x0 => opd .m .l fun x1 => brB fun x2 => ret (.aoblss x0 x1 x2))
  | 0xF3 => some (opd .r .l fun x0 => opd .m .l fun x1 => brB fun x2 => ret (.aobleq x0 x1 x2))
  | 0xF4 => some (opd .m .l fun x0 => brB fun x1 => ret (.sobgeq x0 x1))
  | 0xF5 => some (opd .m .l fun x0 => brB fun x1 => ret (.sobgtr x0 x1))
  | 0xF6 => some (opd .r .l fun x0 => opd .w .b fun x1 => ret (.cvtlb x0 x1))
  | 0xF7 => some (opd .r .l fun x0 => opd .w .w fun x1 => ret (.cvtlw x0 x1))
  | 0xF8 => some (opd .r .b fun x0 => opd .r .w fun x1 => opd .a .b fun x2 => opd .r .b fun x3 => opd .r .w fun x4 => opd .a .b fun x5 => ret (.ashp x0 x1 x2 x3 x4 x5))
  | 0xF9 => some (opd .r .l fun x0 => opd .r .w fun x1 => opd .a .b fun x2 => ret (.cvtlp x0 x1 x2))
  | 0xFA => some (opd .a .b fun x0 => opd .a .b fun x1 => ret (.callg x0 x1))
  | 0xFB => some (opd .r .l fun x0 => opd .a .b fun x1 => ret (.calls x0 x1))
  | 0xFC => some (ret (.xfc))
  | _ => none

/-- The two-byte opcodes, 30_encoding.md R432: what follows FD and the byte `n`. -/
noncomputable def parse2 (n : Nat) : Option Parser :=
  match n with
  | 0x32 => some (opd .r .d fun x0 => opd .w .h fun x1 => ret (.cvtdh x0 x1))
  | 0x33 => some (opd .r .g fun x0 => opd .w .f fun x1 => ret (.cvtgf x0 x1))
  | 0x40 => some (opd .r .g fun x0 => opd .m .g fun x1 => ret (.addg2 x0 x1))
  | 0x41 => some (opd .r .g fun x0 => opd .r .g fun x1 => opd .w .g fun x2 => ret (.addg3 x0 x1 x2))
  | 0x42 => some (opd .r .g fun x0 => opd .m .g fun x1 => ret (.subg2 x0 x1))
  | 0x43 => some (opd .r .g fun x0 => opd .r .g fun x1 => opd .w .g fun x2 => ret (.subg3 x0 x1 x2))
  | 0x44 => some (opd .r .g fun x0 => opd .m .g fun x1 => ret (.mulg2 x0 x1))
  | 0x45 => some (opd .r .g fun x0 => opd .r .g fun x1 => opd .w .g fun x2 => ret (.mulg3 x0 x1 x2))
  | 0x46 => some (opd .r .g fun x0 => opd .m .g fun x1 => ret (.divg2 x0 x1))
  | 0x47 => some (opd .r .g fun x0 => opd .r .g fun x1 => opd .w .g fun x2 => ret (.divg3 x0 x1 x2))
  | 0x48 => some (opd .r .g fun x0 => opd .w .b fun x1 => ret (.cvtgb x0 x1))
  | 0x49 => some (opd .r .g fun x0 => opd .w .w fun x1 => ret (.cvtgw x0 x1))
  | 0x4A => some (opd .r .g fun x0 => opd .w .l fun x1 => ret (.cvtgl x0 x1))
  | 0x4B => some (opd .r .g fun x0 => opd .w .l fun x1 => ret (.cvtrgl x0 x1))
  | 0x4C => some (opd .r .b fun x0 => opd .w .g fun x1 => ret (.cvtbg x0 x1))
  | 0x4D => some (opd .r .w fun x0 => opd .w .g fun x1 => ret (.cvtwg x0 x1))
  | 0x4E => some (opd .r .l fun x0 => opd .w .g fun x1 => ret (.cvtlg x0 x1))
  | 0x4F => some (opd .r .g fun x0 => opd .r .g fun x1 => opd .m .g fun x2 => brW fun x3 => ret (.acbg x0 x1 x2 x3))
  | 0x50 => some (opd .r .g fun x0 => opd .w .g fun x1 => ret (.movg x0 x1))
  | 0x51 => some (opd .r .g fun x0 => opd .r .g fun x1 => ret (.cmpg x0 x1))
  | 0x52 => some (opd .r .g fun x0 => opd .w .g fun x1 => ret (.mnegg x0 x1))
  | 0x53 => some (opd .r .g fun x0 => ret (.tstg x0))
  | 0x54 => some (opd .r .g fun x0 => opd .r .w fun x1 => opd .r .g fun x2 => opd .w .l fun x3 => opd .w .g fun x4 => ret (.emodg x0 x1 x2 x3 x4))
  | 0x55 => some (opd .r .g fun x0 => opd .r .w fun x1 => opd .a .b fun x2 => ret (.polyg x0 x1 x2))
  | 0x56 => some (opd .r .g fun x0 => opd .w .h fun x1 => ret (.cvtgh x0 x1))
  | 0x60 => some (opd .r .h fun x0 => opd .m .h fun x1 => ret (.addh2 x0 x1))
  | 0x61 => some (opd .r .h fun x0 => opd .r .h fun x1 => opd .w .h fun x2 => ret (.addh3 x0 x1 x2))
  | 0x62 => some (opd .r .h fun x0 => opd .m .h fun x1 => ret (.subh2 x0 x1))
  | 0x63 => some (opd .r .h fun x0 => opd .r .h fun x1 => opd .w .h fun x2 => ret (.subh3 x0 x1 x2))
  | 0x64 => some (opd .r .h fun x0 => opd .m .h fun x1 => ret (.mulh2 x0 x1))
  | 0x65 => some (opd .r .h fun x0 => opd .r .h fun x1 => opd .w .h fun x2 => ret (.mulh3 x0 x1 x2))
  | 0x66 => some (opd .r .h fun x0 => opd .m .h fun x1 => ret (.divh2 x0 x1))
  | 0x67 => some (opd .r .h fun x0 => opd .r .h fun x1 => opd .w .h fun x2 => ret (.divh3 x0 x1 x2))
  | 0x68 => some (opd .r .h fun x0 => opd .w .b fun x1 => ret (.cvthb x0 x1))
  | 0x69 => some (opd .r .h fun x0 => opd .w .w fun x1 => ret (.cvthw x0 x1))
  | 0x6A => some (opd .r .h fun x0 => opd .w .l fun x1 => ret (.cvthl x0 x1))
  | 0x6B => some (opd .r .h fun x0 => opd .w .l fun x1 => ret (.cvtrhl x0 x1))
  | 0x6C => some (opd .r .b fun x0 => opd .w .h fun x1 => ret (.cvtbh x0 x1))
  | 0x6D => some (opd .r .w fun x0 => opd .w .h fun x1 => ret (.cvtwh x0 x1))
  | 0x6E => some (opd .r .l fun x0 => opd .w .h fun x1 => ret (.cvtlh x0 x1))
  | 0x6F => some (opd .r .h fun x0 => opd .r .h fun x1 => opd .m .h fun x2 => brW fun x3 => ret (.acbh x0 x1 x2 x3))
  | 0x70 => some (opd .r .h fun x0 => opd .w .h fun x1 => ret (.movh x0 x1))
  | 0x71 => some (opd .r .h fun x0 => opd .r .h fun x1 => ret (.cmph x0 x1))
  | 0x72 => some (opd .r .h fun x0 => opd .w .h fun x1 => ret (.mnegh x0 x1))
  | 0x73 => some (opd .r .h fun x0 => ret (.tsth x0))
  | 0x74 => some (opd .r .h fun x0 => opd .r .w fun x1 => opd .r .h fun x2 => opd .w .l fun x3 => opd .w .h fun x4 => ret (.emodh x0 x1 x2 x3 x4))
  | 0x75 => some (opd .r .h fun x0 => opd .r .w fun x1 => opd .a .b fun x2 => ret (.polyh x0 x1 x2))
  | 0x76 => some (opd .r .h fun x0 => opd .w .g fun x1 => ret (.cvthg x0 x1))
  | 0x7C => some (opd .w .o fun x0 => ret (.clro x0))
  | 0x7D => some (opd .r .o fun x0 => opd .w .o fun x1 => ret (.movo x0 x1))
  | 0x7E => some (opd .a .o fun x0 => opd .w .l fun x1 => ret (.movao x0 x1))
  | 0x7F => some (opd .a .o fun x0 => ret (.pushao x0))
  | 0x98 => some (opd .r .f fun x0 => opd .w .h fun x1 => ret (.cvtfh x0 x1))
  | 0x99 => some (opd .r .f fun x0 => opd .w .g fun x1 => ret (.cvtfg x0 x1))
  | 0xF6 => some (opd .r .h fun x0 => opd .w .f fun x1 => ret (.cvthf x0 x1))
  | 0xF7 => some (opd .r .h fun x0 => opd .w .d fun x1 => ret (.cvthd x0 x1))
  | _ => none

/-- The constructor an opcode decodes to: rows that share an opcode are names of one instruction (R430). -/
noncomputable def Instr.canonical : Instr → Instr
  | .bnequ x0 => .bneq x0
  | .beqlu x0 => .beql x0
  | .bgequ x0 => .bcc x0
  | .blssu x0 => .bcs x0
  | .clrd x0 => .clrq x0
  | .clrg x0 => .clrq x0
  | .movad x0 x1 => .movaq x0 x1
  | .movag x0 x1 => .movaq x0 x1
  | .pushad x0 => .pushaq x0
  | .pushag x0 => .pushaq x0
  | .clrf x0 => .clrl x0
  | .movaf x0 x1 => .moval x0 x1
  | .pushaf x0 => .pushal x0
  | .clrh x0 => .clro x0
  | .movah x0 x1 => .movao x0 x1
  | .pushah x0 => .pushao x0
  | i => i

/-- Decode the instruction at the start of the stream (R450). -/
noncomputable def decode (f : Stream) : Decoded :=
  match f 0 with
  | none => .missing 0 [] 0
  | some b =>
    if b = 0xFD#8 then
      match f 1 with
      | none => .missing 0xFD [] 1
      | some c =>
        match parse2 c.toNat with
        | none => .reserved (0xFD + 256 * c.toNat)
        | some p => p (0xFD + 256 * c.toNat) f 2 []
    else
      match parse1 b.toNat with
      | none => .reserved b.toNat
      | some p => p b.toNat f 1 []

/-- The low `n` bytes of a number, low byte first (R404). -/
def bytesLE (v : Nat) : Nat → List Byte
  | 0 => []
  | n + 1 => BitVec.ofNat 8 v :: bytesLE (v / 256) n

/-- A specifier byte from its mode number and register number, R410. -/
def specByte (m : Nat) (n : Reg) : Byte := BitVec.ofNat 8 (16 * m + n.val)

/-- The bytes of a specifier without its index byte, R410. -/
def Mode.encode (t : DT) : Mode → List Byte
  | .lit v => [v.setWidth 8]
  | .index n => [specByte 4 n]
  | .reg n => [specByte 5 n]
  | .regDef n => [specByte 6 n]
  | .autoDec n => [specByte 7 n]
  | .autoInc n => [specByte 8 n]
  | .autoIncDef n => [specByte 9 n]
  | .imm v => 0x8F#8 :: bytesLE v.toNat t.len
  | .absolute a => 0x9F#8 :: bytesLE a.toNat 4
  | .dispB n d => specByte 10 n :: bytesLE d.toNat 1
  | .dispBDef n d => specByte 11 n :: bytesLE d.toNat 1
  | .dispW n d => specByte 12 n :: bytesLE d.toNat 2
  | .dispWDef n d => specByte 13 n :: bytesLE d.toNat 2
  | .dispL n d => specByte 14 n :: bytesLE d.toNat 4
  | .dispLDef n d => specByte 15 n :: bytesLE d.toNat 4

/-- The bytes of an operand specifier, R410 and R424. -/
def Opnd.encode (t : DT) (o : Opnd) : List Byte :=
  match o.idx with
  | none => o.mode.encode t
  | some x => specByte 4 x :: o.mode.encode t

def Slot.encode : Slot → List Byte
  | .op _ t o => o.encode t
  | .brB d => bytesLE d.toNat 1
  | .brW d => bytesLE d.toNat 2

/-- The bytes of an instruction: the opcode, then its specifiers (R400). -/
def encode (i : Instr) : List Byte :=
  bytesLE i.opcode i.opLen ++ i.slots.flatMap Slot.encode

/-- The stream of a list of bytes. -/
def streamOf (l : List Byte) : Stream := fun k => l[k]?

/-- The longest instruction has an opcode of 2 bytes and specifiers of at most 18 bytes, at most 6 of them. -/
def maxInstrBytes : Nat := 110

/-- The bytes of a table word: its `nbits` bits low byte first, then zeros. -/
def tableBytes (nbits w : Nat) : List Byte :=
  bytesLE w ((nbits + 7) / 8) ++ bytesLE 0 (maxInstrBytes - (nbits + 7) / 8)

/-- The instruction read from a word of the opcode table, every bit above `nbits` zero. -/
noncomputable def decodeTableWord (nbits w : Nat) : Option Instr :=
  match decode (streamOf (tableBytes nbits w)) with
  | .ok i _ => some i
  | _ => none

end Sys2Proof
end

