-- ==== Sys2Proof/Config.lean ====
section
/-! DEFINITION. What an installation fixes (00_scope.md R8, R9; 92_eei_decisions.md section 2) and the free values of the model. -/
namespace Sys2Proof

/-- Which of the two processors the machine is (00_scope.md R2). -/
inductive Cpu where
  | v750 | v780
  deriving DecidableEq, Repr

/-- Position of the V750 POWER ON ACTION switch, 61_platform_750.md R1122 (b). -/
inductive PowerOnAction where
  | halt | boot | restartHalt | restartBoot
  deriving DecidableEq, Repr

/-- What sits at a TR number of the V780 (NEXUS_MAP, 62_platform_780.md R1340). The number is the adapter's index among its kind. -/
inductive Nexus where
  | memory (k : Nat)
  | uba (k : Nat)
  | mba (k : Nat)
  | dr780
  | ma780
  deriving DecidableEq, Repr

/-- The host inputs of the V780 boot: image, load_pa, start_pa and register deposits (92_eei_decisions.md D62). -/
structure Boot780 where
  image : List Byte
  loadPa : Nat
  startPa : Long
  regs : List (Reg × Long)
  deriving DecidableEq, Repr

/-- The installation. No step changes it; every statement holds for every value of it. -/
structure Config where
  cpu : Cpu
  /-- G and H floating and octaword instructions present, 45_floating.md R781. -/
  hasGH : Bool
  /-- Floating point accelerator (V780), 62_platform_780.md R1426. -/
  hasFPA : Bool
  /-- User control store, 61_platform_750.md R1156. -/
  hasUCS : Bool
  /-- Battery backup present, 70_reset_and_hazards.md R1606; whether it holds is said at each return of power. -/
  batteryOk : Bool
  /-- Time-of-year clock installed, 11_processor_registers.md R175. -/
  todrPresent : Bool
  /-- MEM_SIZE, bytes of main memory, 00_scope.md R9; `Config.memBytes` holds it to the maximum of R8. -/
  memSize : Nat
  /-- SID<23:0>, 11_processor_registers.md R190. -/
  sid : BitVec 24
  /-- Blocks of user control store, as bits of WCSD PRESENT; `Config.present` is what WCSD shows. -/
  wcsPresent : Byte
  /-- Longwords of the machine check frame, 60_exceptions.md R1045. -/
  mchkLongwords : Nat
  /-- V750 MASSBUS adapter interrupt level, 61_platform_750.md R1230. -/
  mba750Ipl : Nat
  /-- V750 MASSBUS adapter vectors, 61_platform_750.md R1230. -/
  mba750Vector : List Nat
  /-- V750 addresses of the buffered data path registers 1 to 3, 61_platform_750.md R1206. -/
  bdpCsr : List Nat
  /-- MBA_COUNT, 00_scope.md R9; `Config.mbas` holds it to the maximum of R8. -/
  mbaCount : Nat
  /-- The four V750 boot ROMs (256 bytes each), absent where none, 61_platform_750.md R1165. -/
  bootRoms : List (Option (List Byte))
  /-- V750 keylock in a secure position, or V780 mode switch at DISABLE: Control-P is ignored. -/
  keySecure : Bool
  powerOn : PowerOnAction
  /-- V750 BOOT DEVICE switch, 0 to 3 for A to D. -/
  bootDevice : Nat
  /-- NEXUS_MAP: TR number and adapter, V780; `Config.nexusMap` holds it to what R1340 and 63_platform_780_uba.md R1591 allow. -/
  nexus : List (Nat × Nexus)
  /-- UBA_SPACE of each V780 UNIBUS adapter, 63_platform_780_uba.md R1501; see `Config.ubaSpaces`. -/
  ubaSpace : List Nat
  /-- UBA_REQ of each V780 UNIBUS adapter, 63_platform_780_uba.md R1553; see `Config.ubaReqOf`. -/
  ubaReq : List Nat
  /-- Request level of the V780 MASSBUS adapters, 64_platform_780_adapters.md R1458; see `Config.mbaReq`. -/
  mba780Req : Nat
  /-- Size of each V780 memory controller in units of 64K bytes, 62_platform_780.md R1400; see `Config.ctlUnits`. -/
  memCtlUnits : List Nat
  /-- Starting addresses of the V780 memory controllers in units of 64K bytes, set by jumpers; one without an entry starts at
  its multiple of 4 Mbytes, 62_platform_780.md R1408, 64_platform_780_adapters.md R1489. -/
  memCtlStart : List Nat
  /-- Memory type, register A<4:3>: 00 no array cards, 01 4K chips, 10 16K chips, 11 mixed, 62_platform_780.md R1407. -/
  memType : BitVec 2
  /-- The memory is strapped to inhibit ROM decode, 62_platform_780.md R1407. -/
  memStrapped : Bool
  /-- Starting address and size in bytes of the MA780 memories, 64_platform_780_adapters.md R1485. -/
  ma780 : List (Nat × Nat)
  /-- The character Micro Verify types when it finds a failure; none where it finds none, 61_platform_750.md R1134. -/
  verifyError : Option Byte
  /-- V780 boot ROM, 62_platform_780.md R1412. -/
  bootRom780 : Option (List Long)
  /-- AUTO_RESTART and what the console then does, 62_platform_780.md R1320, 92_eei_decisions.md D52. -/
  autoRestart : Option Boot780
  deriving DecidableEq, Repr

/-- DESIGN CHOICE (notes/assumptions/8.md): the configuration of State.reset, a V750 with 2 Mbytes and every
processor option the spec's defaults give it, without adapters or ROM images. -/
def Config.standard : Config where
  cpu := .v750
  hasGH := true
  hasFPA := false
  hasUCS := false
  batteryOk := false
  todrPresent := true
  memSize := 0x200000
  sid := 0
  wcsPresent := 0
  mchkLongwords := 10
  mba750Ipl := 0x15
  mba750Vector := [0x150, 0x154, 0x158, 0x15C]
  bdpCsr := [0xF30004, 0xF30008, 0xF3000C]
  mbaCount := 0
  bootRoms := [none, none, none, none]
  keySecure := false
  powerOn := .halt
  bootDevice := 0
  nexus := []
  ubaSpace := []
  ubaReq := []
  mba780Req := 5
  memCtlUnits := []
  memCtlStart := []
  memType := 2
  memStrapped := false
  ma780 := []
  verifyError := none
  bootRom780 := none
  autoRestart := none

/-- The free values (UNPRED(n) of 00_scope.md R14, R15): nothing is known of any of them. The machine applies it to
its draw counter, so that each use is a fresh value; a value of n bits is its low n bits. -/
opaque Config.unpred : Nat → Octa

/-- Sizes held to 64 units each and `left` units in all. -/
def capUnits (left : Nat) : List Nat → List Nat
  | [] => []
  | u :: rest => min (min u 64) left :: capUnits (left - min (min u 64) left) rest

/-- Sizes of the V780 memory controllers: at most 4 Mbytes each (62_platform_780.md R1400) and 8 Mbytes in all (00_scope.md R8). -/
def Config.ctlUnits (c : Config) : List Nat := capUnits 128 c.memCtlUnits

/-- Bytes of main memory, at most the maximum of 00_scope.md R8; with V780 controllers listed the sum of their sizes
(62_platform_780.md R1400). -/
def Config.memBytes (c : Config) : Nat :=
  match c.cpu with
  | .v750 => min c.memSize 0x200000
  | .v780 => if c.memCtlUnits = [] then min c.memSize 0x800000 else 0x10000 * c.ctlUnits.sum

/-- MASSBUS adapters: at most 3 on the V750 and 4 on the V780 (00_scope.md R8). -/
def Config.mbas (c : Config) : Nat := min c.mbaCount (match c.cpu with | .v750 => 3 | .v780 => 4)

/-- May an adapter stand at one TR number only? There may be several DR780s and two MA780s (64_platform_780_adapters.md R1485). -/
def Nexus.single : Nexus → Bool
  | .dr780 | .ma780 => false
  | _ => true

/-- The entries of a NEXUS_MAP that can be: TR 1 to 15, each TR and each adapter once, after those `seen`. -/
def distinctNexus (seen : List (Nat × Nexus)) : List (Nat × Nexus) → List (Nat × Nexus)
  | [] => []
  | (tr, n) :: rest =>
    if tr = 0 ∨ 15 < tr ∨ seen.any (fun e => e.1 == tr || (n.single && e.2 == n)) then distinctNexus seen rest
    else (tr, n) :: distinctNexus ((tr, n) :: seen) rest

/-- NEXUS_MAP: TR 1 to 15 (62_platform_780.md R1340), every TR and every adapter once (63_platform_780_uba.md R1591). An entry
that breaks this is not there (DESIGN CHOICE, notes/assumptions/8.md). -/
def Config.nexusMap (c : Config) : List (Nat × Nexus) := distinctNexus [] c.nexus

/-- UBA_SPACE of each V780 UNIBUS adapter: 0 to 3 and distinct, so at most four adapters, 63_platform_780_uba.md R1501, R1591.
An entry that breaks this is no adapter (DESIGN CHOICE, notes/assumptions/8.md). -/
def Config.ubaSpaces (c : Config) : List Nat := (c.ubaSpace.filter fun x => decide (x < 4)).eraseDups

/-- A request level of the SBI, 4 to 7; `usual` for any other number. -/
def requestLevel (usual q : Nat) : Nat := if 4 ≤ q ∧ q ≤ 7 then q else usual

/-- UBA_REQ of adapter `k`, 4 to 7 (63_platform_780_uba.md R1553, R1591); 4 where the configuration gives none (DESIGN CHOICE,
notes/assumptions/8.md). -/
def Config.ubaReqOf (c : Config) (k : Nat) : Nat := requestLevel 4 (c.ubaReq.getD k 4)

/-- MBA780_REQ, one of the four request lines; the hint 5 of 64_platform_780_adapters.md R1458 for any other number. -/
def Config.mbaReq (c : Config) : Nat := requestLevel 5 c.mba780Req

/-- Is there MA780 memory at `pa`? At most two of at most 2 Mbytes, 64_platform_780_adapters.md R1485. -/
def Config.hasMa780 (c : Config) (pa : Nat) : Bool :=
  (c.ma780.take 2).any fun (a, n) => decide (a ≤ pa ∧ pa < a + min n 0x200000)

/-- Starting address of memory controller `k` after a cold start, in units of 64K bytes. -/
def Config.ctlStart (c : Config) (k : Nat) : BitVec 13 := BitVec.ofNat 13 (c.memCtlStart.getD k (64 * k))

/-- WCSD PRESENT, 11_processor_registers.md R233: the diagnostic control store (bit 4) every V780 has (62_platform_780.md
R1421), and the user control store where it is installed. Which of its blocks are there is the installation's
(DESIGN CHOICE, notes/assumptions/8.md). -/
def Config.present (c : Config) : Byte := (if c.hasUCS then c.wcsPresent else 0) ||| 0x10

/-- The SID type field, 11_processor_registers.md R190. -/
def Config.sidValue (c : Config) : Long :=
  (match c.cpu with | .v780 => 0x01000000#32 | .v750 => 0x02000000#32) ||| c.sid.setWidth 32

/-- Width of a physical byte address, 20_memory.md R262. -/
def Config.paw (c : Config) : Nat := match c.cpu with | .v780 => 30 | .v750 => 24

/-- Width of the page frame number used, 21_memory_management.md R352. -/
def Config.pfnw (c : Config) : Nat := match c.cpu with | .v780 => 21 | .v750 => 15

end Sys2Proof
end

