-- ==== Sys2Proof/Machine/State.lean ====
section
/-! DEFINITION. The state of the machine as plain data (10_state.md), why a step stops, and the state after reset (10_state.md R72, 70_reset_and_hazards.md R1601, R1605). -/
namespace Sys2Proof.Machine

/-- Values kept by number: numbers strictly rising, no entry 0; an unlisted number holds 0. -/
abbrev Sparse (w : Nat) := List (Nat × BitVec w)

/-- Main memory: (address, byte) pairs in the same canonical form (20_memory.md R261). An unlisted byte reads 0:
on the V750 what 20_memory.md R267 says; on the V780 a DESIGN CHOICE (notes/assumptions/7.md). -/
abbrev Memory := List Host.Cell

/-- Why the model stops for good. -/
inductive Fault where
  /-- A vector is needed and the SCB base names a device register: raised by exception initiation; safe (the source
  says operation is UNDEFINED and gives no effect, 10_state.md R55). -/
  | scbUndefined
  deriving DecidableEq, Repr

/-- Why the model gives no meaning. -/
inductive Refusal where
  /-- An instruction whose meaning is not written; safe. -/
  | notModelled (mnemonic : String)
  /-- A specifier the architecture calls UNPREDICTABLE, 30_encoding.md R445: raised by operand evaluation; safe. -/
  | unpredictableSpecifier
  /-- A reference through a PTE with protection code 1, 21_memory_management.md R353: raised by translation; safe. -/
  | reservedProtection
  /-- Compatibility mode, 30_encoding.md R448: raised by step; safe. -/
  | compatibilityMode
  /-- A suspendable instruction entered with PSL<FPD> = 1, 46_string.md R901, D35: raised by the meanings; safe. -/
  | firstPartDone
  /-- An operand type the source calls UNDEFINED in I/O space, 20_memory.md R290: raised by memory accesses; safe. -/
  | ioSpaceReference
  /-- A device register reference of a size or alignment the device does not define, 20_memory.md R290 (2): raised
  by memory accesses; safe. -/
  | ioSpaceSize
  /-- An SCB vector with code 2 and a user control store, 60_exceptions.md R1033: raised by initiation; safe. -/
  | userControlStore
  /-- Diagnostic use of a register the source calls UNDEFINED, 11_processor_registers.md R212, R218: raised by
  MTPR, MFPR and translation; safe. -/
  | diagnosticRegister
  /-- A DR780 or MA780 register block, 64_platform_780_adapters.md R1483, R1487: raised by memory accesses; safe. -/
  | unknownAdapter
  /-- UNIBUS space of an adapter that is initializing, 63_platform_780_uba.md R1515: raised by memory accesses; safe. -/
  | adapterInitializing
  /-- A PSL that breaks the invariants of 10_state.md R50, possible only by console deposit (I13): raised by step; safe. -/
  | illegalPsl
  /-- A move of the environment the spec refuses or that names a unit the machine does not have: micro-machine commands
  (93_implementation_defined.md I66), CONTINUE after an error halt (60_exceptions.md R1095, I68), a bad device vector
  (I78), a deposit to microcode working state or the V bus (62_platform_780.md R1420): raised by events; safe. -/
  | hostEvent
  deriving DecidableEq, Repr

/-- The stored copies of the five stack pointers, 10_state.md R35. The copy of the current one is stale. -/
structure Stacks where
  ksp : Long
  esp : Long
  ssp : Long
  usp : Long
  isp : Long
  deriving DecidableEq, Repr

/-- Memory management registers, 10_state.md R53. -/
structure Mapping where
  p0br : Long
  p0lr : BitVec 22
  p1br : Long
  p1lr : BitVec 22
  sbr : Long
  slr : BitVec 22
  mapen : Bool
  deriving DecidableEq, Repr

/-- Interval and time-of-year clocks, 11_processor_registers.md R170 to R175. -/
structure Clock where
  err : Bool
  int : Bool
  ie : Bool
  run : Bool
  nicr : Long
  icr : Long
  todr : Long
  todrHeld : Bool
  deriving DecidableEq, Repr

/-- A receiver (`ready` = Done) or transmitter (`ready` = RDY) status register,
11_processor_registers.md R180, R182, R200, R202. -/
structure Line where
  ready : Bool
  ie : Bool
  deriving DecidableEq, Repr

/-- Console terminal registers, 11_processor_registers.md R180 to R184. -/
structure Terminal where
  rx : Line
  rxdb : Long
  overrun : Bool
  tx : Line
  deriving DecidableEq, Repr

/-- A V750 buffered data path, 61_platform_750.md R1205, R1206. -/
structure Bdp750 where
  data : Long
  addr : Word16
  cd : Bool
  bf : BitVec 4
  nxm : Bool
  uce : Bool
  deriving DecidableEq, Repr

/-- Registers and devices of the V750 alone: 11_processor_registers.md R200 to R217, 61_platform_750.md. -/
structure V750 where
  storeRx : Line
  csrd : Byte
  storeTx : Line
  tbdr : BitVec 4
  cadr : Bool
  mcesr : BitVec 4
  mcsr : Long
  caer : BitVec 4
  coldStart : Bool
  csr0 : Long
  csr1 : Long
  /-- The model's own: an access in ECC Disable Mode has copied check bits to CSR1<6:0> since CSR1 was written, R1162. -/
  checkCopied : Bool
  battFail : Bool
  ubMap : Sparse 32
  bdps : List Bdp750
  /-- UNIBUS device requests: interrupt level 14 to 17 (hex) and vector, 61_platform_750.md R1207. -/
  ubReqs : List (Nat × Nat)
  /-- The memory read lock a UNIBUS device holds between DATIP and DATO(B), 61_platform_750.md R1204. -/
  lock : Bool
  deriving DecidableEq, Repr

/-- What a data transfer command does, 61_platform_750.md R1229. -/
inductive Transfer where
  | toMemory | toDrive | writeCheck
  deriving DecidableEq, Repr

/-- A MASSBUS adapter, 61_platform_750.md R1220 to R1230, 64_platform_780_adapters.md R1440 to R1458. -/
structure Mba where
  /-- CSR<23:22>, V780 only. -/
  pd : Bool
  pu : Bool
  ibc : Bool
  ie : Bool
  abort : Bool
  /-- CR<3>, massbus maintenance mode. -/
  mmm : Bool
  sr : Long
  var : BitVec 17
  bcrBus : Word16
  bcrMem : Word16
  /-- The model's own: the drive-side counter has come to 0 in this transfer, R1224. -/
  busOut : Bool
  /-- The model's own: OCC or SCLK has been seen since the command, R1222 (MXE). -/
  occ : Bool
  /-- The read/write bits <31:21> of DR, in maintenance mode, 61_platform_750.md R1225. -/
  dr : Long
  /-- The MASSBUS data in buffer, which maintenance mode moves words through, R1225. -/
  mdib : Word16
  map : Sparse 32
  /-- The request made at a byte count overflow with IBC set, 61_platform_750.md R1230. -/
  req : Bool
  /-- The attention line of the drives, R1222, 64_platform_780_adapters.md R1450. -/
  attn : Bool
  /-- The transfer in progress, and whether its first memory cycle is still to come. -/
  kind : Transfer
  first : Bool
  /-- The transfer in progress is being aborted: the adapter waits for the drive's end of block, 64_platform_780_adapters.md R1444. -/
  stop : Bool
  /-- Bytes on their way, oldest first, R1440. -/
  buf : List Byte
  deriving DecidableEq, Repr

/-- The initialization status of a V780 memory controller, register B <13:12>, 62_platform_780.md R1408, 70_reset_and_hazards.md R1606. -/
inductive MemStatus where
  /-- 00: the initialization after a cold start is in progress; a command to the array is answered BSY. -/
  | initializing
  /-- 01: valid data, saved through the power failure. -/
  | saved
  /-- 11: the initialization is complete and no data was preserved. -/
  | cold
  deriving DecidableEq, Repr

/-- A V780 memory controller, 62_platform_780.md R1407 to R1409. -/
structure MemCtl where
  pwrDown : Bool
  pwrUp : Bool
  interleave : Bool
  start : BitVec 13
  status : MemStatus
  /-- Register B <9>, <8>, <7:0>: force ERR, ECC bypass, substitute ECC bits. -/
  forceErr : Bool
  eccBypass : Bool
  subst : Byte
  regC : Long
  deriving DecidableEq, Repr

/-- A V780 UNIBUS adapter data path, 63_platform_780_uba.md R1523: the eight buffered bytes and the register's fields. The
last four fields are the model's own, for R1540: a block is under way, it broke the rule for blocks (so its data and its
memory are free, 92_eei_decisions.md D61), the UNIBUS address that comes next in it, and
the numbers of the physical quadwords its writes have been at. -/
structure Bdp780 where
  data : Quad
  bne : Bool
  bte : Bool
  dpf : Bool
  bs : Byte
  buba : Word16
  block : Bool
  wild : Bool
  expect : BitVec 18
  seen : List Nat
  deriving DecidableEq, Repr

/-- A V780 UNIBUS adapter, 63_platform_780_uba.md R1510 to R1530, R1590. -/
structure Uba where
  adPdn : Bool
  adPup : Bool
  ubInit : Bool
  ubPdn : Bool
  ubic : Bool
  cr : Long
  sr : Long
  dcr : BitVec 4
  fmer : BitVec 9
  fubar : Word16
  brsvr : List Word16
  brrvr : List Word16
  paths : List Bdp780
  map : Sparse 32
  /-- UNIBUS device requests: BR level 4 to 7 and vector, nearest device first. -/
  reqs : List (Nat × Word16)
  /-- The adapter's interlock flag for UNIBUS space, R1561. -/
  lock : Bool
  /-- A device's DATIP through the direct data path is open, R1545. -/
  datip : Bool
  /-- That DATIP holds the interlock of the SBI memory. -/
  holds : Bool
  /-- An initialization is pending: UNIBUS AC LO is asserted, R1515, R1590. -/
  initPending : Bool
  deriving DecidableEq, Repr

/-- Address spaces of the console, 61_platform_750.md R1129, 62_platform_780.md R1306. -/
inductive ConSpace where
  | physical | virtual | internal | general
  /-- The ID bus and the V bus of the V780. -/
  | idBus | vBus
  deriving DecidableEq, Repr

/-- An address of a console EXAMINE or DEPOSIT. -/
inductive ConAddr where
  | at (a : Nat) | last | next | psl
  /-- V780: the location before the last one, and the last data as an address, 62_platform_780.md R1306. -/
  | prev | data
  deriving DecidableEq, Repr

/-- What SET STEP and CLEAR STEP choose, 62_platform_780.md R1315. -/
inductive StepKind where
  | none | instruction | state | bus
  deriving DecidableEq, Repr

/-- Console commands: 61_platform_750.md R1127 to R1135, 62_platform_780.md R1310 to R1319. -/
inductive ConCmd where
  /-- `device`: the two letters as a number (first letter high), adapter, unit; `noVerify` is /X. -/
  | boot (noVerify : Bool) (flags : Nat) (device : Option (Nat × Nat × Nat))
  /-- Boot with the host's image, 70_reset_and_hazards.md R1603. -/
  | bootImage (b : Boot780)
  | continue
  | deposit (space : Option ConSpace) (size : Option Nat) (a : ConAddr) (v : Quad)
  | examine (space : Option ConSpace) (size : Option Nat) (a : ConAddr)
  /-- EXAMINE IR, 62_platform_780.md R1310. -/
  | examineIr
  | initializeCpu
  | haltNop
  /-- NEXT, `n` passes: 61_platform_750.md R1132, 62_platform_780.md R1315. -/
  | next (n : Nat)
  | setStep (k : StepKind)
  | start (a : Option Long)
  | test
  /-- LOAD of the V780, 62_platform_780.md R1316. -/
  | load (a : Nat) (bytes : List Byte)
  /-- BINARY LOAD and UNLOAD of the V750, 61_platform_750.md R1135: the command string with its address and count, its
  checksum byte, and for LOAD the data bytes with the checksum byte after them. -/
  | binary (line : List Byte) (check : Byte) (a : Nat) (count : Long) (data : List Byte)
  | unjam
  | qclear (a : Nat)
  /-- SET DEFAULT, 62_platform_780.md R1308; `octal` is the radix. -/
  | setDefault (space : Option ConSpace) (size : Option Nat) (octal : Option Bool)
  | relocation (v : Long)
  | terminalProgram
  /-- SET TERMINAL FILL. The commands from here on are those of the V780, 62_platform_780.md R1319. -/
  | terminalFill (n : Nat)
  /-- SHOW. -/
  | showState
  | showVersion
  | help
  | waitDone
  | link
  | perform
  /-- `@`, an indirect command file of floppy drive 0 or 1; BOOT and DIAGNOSE with a device name execute a file too, R1311. -/
  | indirect (second : Bool) (file : Nat)
  /-- REPEAT. -/
  | repeated (c : ConCmd)
  | enableDx1
  | reboot
  /-- SET CLOCK, SET SOMM, CLEAR SOMM, TEST, TEST/COM, WCS and LOAD/WCS, which a model refuses, 62_platform_780.md R1318,
  93_implementation_defined.md I66. -/
  | microMachine
  deriving DecidableEq, Repr

/-- The console's examine and deposit defaults (61_platform_750.md R1129, 62_platform_780.md R1308), and the last
reference: its address, the addresses before and after it, its data. -/
structure ConDefaults where
  space : ConSpace
  size : Nat
  last : Nat
  next : Nat
  prev : Nat
  data : Long
  /-- The next-location reference is an error (after a processor register or the PSL), error ?19. -/
  noNext : Bool
  /-- The default radix of the V780 is octal, 62_platform_780.md R1308; the commands of the model carry numbers. -/
  octal : Bool
  deriving DecidableEq, Repr

/-- A command the console program of the V780 is still to execute by itself: once, or again and again (REPEAT). -/
structure Queued where
  again : Bool
  cmd : ConCmd
  deriving DecidableEq, Repr

/-- The console program of the V780, 62_platform_780.md R1308, R1319. -/
structure ConProgram where
  relocation : Long
  /-- The blanks after carriage return and line feed. -/
  fill : Nat
  /-- Floppy drive 1 is enabled. -/
  dx1 : Bool
  /-- Commands typed are stored in the file of LINK. -/
  linking : Bool
  /-- That file, where there is one. -/
  linked : Option (List ConCmd)
  /-- The lines of the command files under way and the commands of REPEAT, the next one first. -/
  todo : List Queued
  /-- A WAIT DONE suspends them. -/
  waiting : Bool
  deriving DecidableEq, Repr

/-- Registers and devices of the V780 alone: 11_processor_registers.md R230 to R247, 62_platform_780.md. -/
structure V780 where
  accEnb : Bool
  /-- ACCS UNF, OVF and RSV, 11_processor_registers.md R230. -/
  accErr : BitVec 3
  /-- SBIER Read Data Substitute, 62_platform_780.md R1402. -/
  rds : Bool
  accTrap : Byte
  accMatch : BitVec 9
  wcsa : Long
  mbrk : BitVec 13
  sbifs : Long
  sbisc : Long
  sbimt : Long
  sbier : Long
  sbita : Long
  mems : List MemCtl
  ubas : List Uba
  /-- The processor has latched FAULT, 62_platform_780.md R1351. -/
  fault : Bool
  /-- The SBI fault bits <31:26> each NEXUS holds while FAULT is latched, by TR number, 62_platform_780.md R1351. -/
  faults : Sparse 6
  /-- The interrupt requests of the DR780 and MA780 NEXUSes: TR number and REQ line 4 to 7, 62_platform_780.md R1354,
  64_platform_780_adapters.md R1482, R1487. -/
  nexusReqs : List (Nat × Nat)
  /-- The SBI memory interlock, held by an agent between its interlock read and write, 62_platform_780.md R1352, R1405. -/
  interlock : Bool
  /-- The console is in command mode, 62_platform_780.md R1301. -/
  command : Bool
  program : ConProgram
  /-- The indirect command files on the floppies, by `fileKey`, 62_platform_780.md R1305, R1319. -/
  files : List (Nat × List ConCmd)
  deriving DecidableEq, Repr

/-- What an injected machine check is due to, as the V750 latches it: 11_processor_registers.md R210, R211. -/
inductive CheckCause where
  | unstated
  /-- Translation buffer parity; the groups are MCSR<11:8>. -/
  | tb (groups : BitVec 4)
  /-- Prefetch (XB) error. -/
  | xb
  /-- Cache parity: tag error, data error, 11_processor_registers.md R217. -/
  | cache (tag data : Bool)
  deriving DecidableEq, Repr

/-- Pending requests other than the clock, terminal, memory and adapter ones, 10_state.md R66, 60_exceptions.md R1064. -/
structure Pending where
  memWrite : Bool
  /-- A second memory write error before the first was serviced (V750): the processor halts, 60_exceptions.md R1095 (g). -/
  doubleWrite : Bool
  powerFail : Bool
  sbiFault : Bool
  siloCompare : Bool
  machineCheck : Option CheckCause
  /-- How deep the handler that runs is nested in a machine check handler that has not executed REI yet; 0 where there is
  none, 60_exceptions.md R1095 (g). -/
  inMachineCheck : Nat
  /-- The arithmetic trap the instruction just completed has left, R1100. -/
  trap : Option Nat
  consoleHalt : Bool
  /-- The processor has halted for an error and not been started anew: there is no CONTINUE, 60_exceptions.md R1095. -/
  errorHalt : Bool
  deriving DecidableEq, Repr

/-- Why the processor is halted: 60_exceptions.md R1095, 61_platform_750.md R1124, 62_platform_780.md R1320. -/
inductive HaltCause where
  | haltInstruction
  | consoleHalt
  | singleStep
  | testDone
  | microVerify
  /-- The micro-machine time out of the V780. -/
  | microTimeout
  | interruptStack
  | doubleWriteError
  | illegalVector
  | noControlStore
  | chmOnInterruptStack
  | chmVector
  | machineCheckVector
  | doubleError
  | noRestartBlock
  | warmStartFlag
  | noGoodMemory
  | noBootRom
  | coldStartFlag
  | powerUp
  deriving DecidableEq, Repr

/-- Run state, 10_state.md R68. -/
inductive Run where
  | running
  | halted (why : HaltCause)
  deriving DecidableEq, Repr

/-- What a UNIBUS device answers at a word address: the word, and whether it asserts PB (63_platform_780_uba.md R1503). -/
structure Reply where
  data : Word16
  pb : Bool
  deriving DecidableEq, Repr

/-- UNIBUS cycles, 63_platform_780_uba.md R1503. -/
inductive UbCycle where
  | dati | datip | dato | datob
  deriving DecidableEq, Repr

/-- What leaves the machine. Console error numbers: on the V750 those of 61_platform_750.md R1136 (hex); on the V780
(62_platform_780.md R1322) 100 ?INT-REG ERR, 200 + XX ?MEM-MAN FAULT, 300 ?MIC-ERR, 400 ?CPU NOT IN CONSOLE WAIT LOOP,
500 ? IS INCORRECT, 600 ?FILE NOT FOUND. -/
inductive Sent where
  | char (unit : BitVec 4) (c : Byte)
  | storage (c : Byte)
  | lineBreak
  | unibusRead (adapter : Nat) (c : UbCycle) (ua : Nat)
  | unibusWrite (adapter : Nat) (c : UbCycle) (ua : Nat) (data : Word16)
  | unibusInit (adapter : Nat)
  | unibusGrant (adapter level : Nat) (vector : Word16)
  | driveRead (adapter drive reg : Nat)
  | driveWrite (adapter drive reg : Nat) (data : Word16)
  | massbusInit (adapter : Nat)
  /-- The answer to a DMA cycle: none where the adapter does not respond. -/
  | dmaReply (adapter : Nat) (r : Option Reply)
  | massbusData (adapter : Nat) (data : List Byte)
  /-- The data bytes of an UNLOAD and their checksum byte, 61_platform_750.md R1135. -/
  | unloaded (addr : Nat) (data : List Byte)
  /-- A character the console itself types: the marks of Micro Verify, 61_platform_750.md R1134. -/
  | typed (c : Byte)
  | examined (space : Nat) (addr : Nat) (data : Long)
  | consoleError (code : Nat)
  /-- The V780's INT PENDING, 62_platform_780.md R1320. -/
  | interruptPending
  /-- What SHOW shows: console and processor state, 62_platform_780.md R1319. -/
  | shown (run : Run) (defaults : ConDefaults) (program : ConProgram)
  /-- What SHOW VERSION shows: the versions of microcode and console. -/
  | versions (microcode console : Word16)
  /-- The help file. -/
  | help
  | halted (why : HaltCause) (pc : Long)
  /-- A failure of Micro Verify: a halt message with a code in place of the PC, 61_platform_750.md R1134. -/
  | haltCode (code : Nat)
  deriving DecidableEq, Repr

/-- What the environment does between two instructions (00_scope.md R18; each constructor names its rule). -/
inductive Event where
  /-- One microsecond of model time, 11_processor_registers.md R173. -/
  | microsecond
  /-- Ten milliseconds of model time, 11_processor_registers.md R175. -/
  | tenMilliseconds
  /-- A character arrives, 11_processor_registers.md R184. -/
  | received (unit : BitVec 4) (c : Byte) (err : Bool)
  | transmitted
  | storageReceived (c : Byte)
  | storageTransmitted
  /-- Control-P, 61_platform_750.md R1126, 62_platform_780.md R1307. -/
  | controlP
  /-- The V780 console HALT command, 62_platform_780.md R1312. -/
  | haltCommand
  | console (c : ConCmd)
  /-- A UNIBUS device raises a request, 61_platform_750.md R1207, 63_platform_780_uba.md R1504. -/
  | unibusRequest (adapter level : Nat) (vector : Word16)
  | unibusDrop (adapter level : Nat)
  /-- A UNIBUS device does one DMA cycle, 61_platform_750.md R1204, R1205, 63_platform_780_uba.md R1547. -/
  | unibusDma (adapter : Nat) (c : UbCycle) (ua : BitVec 18) (data : Word16)
  /-- A UNIBUS device changes what it answers at a word address. -/
  | unibusPresent (adapter ua : Nat) (r : Option Reply)
  /-- The UNIBUS power sequence of a V780 adapter ends, 63_platform_780_uba.md R1515. -/
  | unibusReady (adapter : Nat)
  /-- UNIBUS power fails at a V780 adapter, 63_platform_780_uba.md R1556 (3). -/
  | unibusPowerFail (adapter : Nat)
  /-- A drive register takes a value, or the drive is removed, 61_platform_750.md R1227. -/
  | drivePresent (adapter drive reg : Nat) (r : Option Word16)
  /-- A value of a drive register is a data transfer command, or no longer one, 61_platform_750.md R1227. -/
  | driveCommand (adapter drive reg : Nat) (code : Word16) (what : Option Transfer)
  /-- Bytes of a drive arrive at an adapter, 61_platform_750.md R1229, 64_platform_780_adapters.md R1457. -/
  | massbusIn (adapter : Nat) (data : List Byte)
  /-- One memory cycle of an adapter's transfer. -/
  | massbusMemory (adapter : Nat)
  /-- A drive takes `n` bytes. -/
  | massbusOut (adapter n : Nat)
  /-- The drive ends the transfer. -/
  | massbusEnd (adapter : Nat)
  /-- The adapter finds an error on the MASSBUS: SR bits that the drive side sets, 61_platform_750.md R1222. -/
  | massbusError (adapter : Nat) (bits : Long)
  /-- The drives assert or drop attention, SR<16>. -/
  | massbusAttention (adapter : Nat) (on : Bool)
  /-- Another agent of the bus writes a byte of main memory, 00_scope.md R18 (c), 64_platform_780_adapters.md R1483. -/
  | agentWrite (pa : Nat) (b : Byte)
  /-- The DR780 or another port of an MA780 takes the interlock (none), or writes bytes and gives it up,
  64_platform_780_adapters.md R1481, R1486. -/
  | agentInterlock (pa : Nat) (write : Option (List Byte))
  /-- The interlock timer of a V780 memory runs out, 62_platform_780.md R1405. -/
  | interlockTimeout
  | powerFail
  /-- Power returns; `held`: the battery backup, where there is one, held memory, 70_reset_and_hazards.md R1600, R1606. -/
  | powerUp (held : Bool)
  /-- The RESET button of the V750, 61_platform_750.md R1122 (d). -/
  | resetButton
  /-- Injected hardware errors, 92_eei_decisions.md D40. -/
  | machineCheck (cause : CheckCause)
  | correctedData (controller : Nat)
  /-- The longword (V750) or quadword (V780) at `pa` gets an uncorrectable error, 20_memory.md R268. -/
  | memoryError (pa : Nat)
  /-- The NEXUS at `tr` detects an SBI fault, 62_platform_780.md R1351. -/
  | sbiFault (tr : Nat) (bits : BitVec 6)
  /-- The latched FAULT is cleared, 62_platform_780.md R1351 (notes/assumptions/39.md). -/
  | sbiFaultClear
  /-- A DR780 or MA780 NEXUS asserts or drops a request line, 00_scope.md R18 (c), 64_platform_780_adapters.md R1482, R1487. -/
  | nexusRequest (tr level : Nat) (on : Bool)
  /-- The initialization of a V780 memory controller after a cold start ends, 62_platform_780.md R1408. -/
  | memoryReady (controller : Nat)
  /-- The SBI is dead, 63_platform_780_uba.md R1556 (2). -/
  | sbiDead
  /-- Power comes up or goes down at a V780 memory controller, which asserts ALERT, 62_platform_780.md R1355, R1407. -/
  | sbiAlert (controller : Nat) (up : Bool)
  | siloCompare
  /-- A memory cycle of an adapter or another agent that falls inside an instruction: before the memory cycle of the processor
  that comes after `cycles` others, 62_platform_780.md R1344, 20_memory.md R308. -/
  | during (cycles : Nat) (e : Event)
  /-- The model's own: ends the passes that a console NEXT starts, 61_platform_750.md R1132. -/
  | stepDone
  /-- Control-C at the console terminal of the V780, 62_platform_780.md R1307. -/
  | controlC
  /-- The console program goes on with a command file or a REPEAT, 62_platform_780.md R1319. -/
  | consoleLine
  /-- The program running in the V780 sends its done signal, 62_platform_780.md R1319. -/
  | consoleDone
  /-- The commands of a file on a floppy of the console; none: there is no such file. -/
  | consoleFile (second : Bool) (file : Nat) (lines : Option (List ConCmd))
  deriving DecidableEq, Repr

/-- The whole state. The last five fields are the model's own (INVENTORY.md): the configuration, the number of free
values drawn, the events still to come (each with the number of boundaries that pass before it), the cycles of other agents
still to come inside instructions (each with the number of memory cycles of the processor before it), and what was sent. -/
structure State where
  /-- R0 to R15; R14 is the live SP, R15 the PC, 10_state.md R30, R35. -/
  r : Vector Long 16
  psl : Long
  sp : Stacks
  mm : Mapping
  /-- Entries written through V750 register 3B, by page number, with bit 32 set, 11_processor_registers.md R218. -/
  tb : Sparse 33
  pcbb : Long
  scbb : Long
  astlvl : BitVec 3
  sisr : Word16
  pme : Bool
  clock : Clock
  term : Terminal
  v750 : V750
  v780 : V780
  mbas : List Mba
  mem : Memory
  /-- The longwords (V750) or quadwords (V780) of memory with an uncorrectable error, by number, 20_memory.md R268,
  62_platform_780.md R1402. -/
  badMem : Sparse 1
  pend : Pending
  run : Run
  con : ConDefaults
  /-- What UNIBUS devices present: key = adapter number * 40000 (hex) + word address. -/
  ubWords : List (Nat × Reply)
  /-- What drives present: key = adapter * 256 + drive * 32 + register. -/
  driveRegs : List (Nat × Word16)
  /-- The data transfer commands of the drives: key = register key * 65536 + code. -/
  driveCmds : List (Nat × Transfer)
  cfg : Config
  draw : Nat
  events : List (Nat × Event)
  during : List (Nat × Event)
  sent : List Sent
  deriving DecidableEq, Repr

/-- Nothing is pending. -/
def Pending.none : Pending := ⟨false, false, false, false, false, .none, 0, .none, false, false⟩

/-- A V750 buffered data path after UNIBUS INIT, 61_platform_750.md R1200. -/
def Bdp750.empty : Bdp750 := ⟨0, 0, false, 0, false, false⟩

/-- V750 registers after power-up: 11_processor_registers.md R200 to R217, 61_platform_750.md R1161 to R1163. -/
def V750.reset : V750 where
  storeRx := ⟨false, false⟩
  csrd := 0
  storeTx := ⟨true, false⟩
  tbdr := 0
  cadr := false
  mcesr := 0
  mcsr := 0
  caer := 0
  coldStart := false
  csr0 := 0
  csr1 := 0x10000000
  checkCopied := false
  battFail := true
  ubMap := []
  bdps := [Bdp750.empty, Bdp750.empty, Bdp750.empty]
  ubReqs := []
  lock := false

/-- An empty V780 data path, 63_platform_780_uba.md R1515. -/
def Bdp780.empty : Bdp780 := ⟨0, false, false, false, 0, 0, false, false, 0, []⟩

/-- A V780 UNIBUS adapter after power-up with its UNIBUS sequence ended, 63_platform_780_uba.md R1557. -/
def Uba.powerUp : Uba where
  adPdn := false
  adPup := true
  ubInit := false
  ubPdn := false
  ubic := true
  cr := 4
  sr := 0
  dcr := 0
  fmer := 0
  fubar := 0
  brsvr := [0, 0, 0, 0]
  brrvr := [0, 0, 0, 0]
  paths := List.replicate 16 Bdp780.empty
  map := []
  reqs := []
  lock := false
  datip := false
  holds := false
  initPending := false

/-- A MASSBUS adapter after power-up: V780 64_platform_780_adapters.md R1443, R1444 (PU sets IE), V750 61_platform_750.md R1221. -/
def Mba.powerUp (v780 : Bool) : Mba where
  pd := false
  pu := v780
  ibc := false
  ie := v780
  abort := false
  mmm := false
  sr := 0
  var := 0
  bcrBus := 0
  bcrMem := 0
  busOut := false
  occ := false
  dr := 0
  mdib := 0
  map := []
  req := false
  attn := false
  kind := .toMemory
  first := false
  stop := false
  buf := []

/-- A V780 memory controller after a cold start, its initialization ended (notes/assumptions/40.md), 62_platform_780.md R1407 to
R1409. -/
def MemCtl.powerUp (start : BitVec 13) : MemCtl where
  pwrDown := false
  pwrUp := false
  interleave := false
  start := start
  status := .cold
  forceErr := false
  eccBypass := false
  subst := 0
  regC := 0

/-- The console program of the V780 once it is loaded, 62_platform_780.md R1308. -/
def ConProgram.initial : ConProgram := ⟨0, 0, false, false, none, [], false⟩

/-- V780 registers after power-up: 11_processor_registers.md R230 to R247, 62_platform_780.md R1415, 63_platform_780_uba.md R1557. -/
def V780.reset (c : Config) : V780 where
  accEnb := c.hasFPA
  accErr := 0
  rds := false
  accTrap := 0
  accMatch := 0
  wcsa := 0
  mbrk := 0
  sbifs := 0
  sbisc := 0
  sbimt := 0
  sbier := 0
  sbita := 0
  mems := (List.range c.memCtlUnits.length).map fun k =>
    { MemCtl.powerUp (c.ctlStart k) with pwrUp := c.memStrapped }
  ubas := List.replicate c.ubaSpaces.length Uba.powerUp
  fault := false
  faults := []
  nexusReqs := []
  interlock := false
  command := false
  program := ConProgram.initial
  files := []

/-- The console's defaults, 61_platform_750.md R1129, 62_platform_780.md R1308. -/
def ConDefaults.initial : ConDefaults := ⟨.physical, 4, 0, 0, 0, 0, false, false⟩

/-- The machine of configuration `c` right after reset (10_state.md R72, 70_reset_and_hazards.md R1601): PC 0, PSL 041F0000, mapping
off, nothing in memory, running. Registers without a reset value are zero (notes/assumptions/1.md to 6.md). -/
def State.resetWith (c : Config) : State where
  r := Vector.replicate 16 0
  psl := 0x041F0000
  sp := ⟨0, 0, 0, 0, 0⟩
  mm := ⟨0, 0, 0, 0, 0, 0, false⟩
  tb := []
  pcbb := 0
  scbb := 0
  astlvl := 4
  sisr := 0
  pme := false
  clock := ⟨false, false, false, false, 0, 0, 0, c.cpu == .v750⟩
  term := ⟨⟨false, false⟩, 0, false, ⟨true, false⟩⟩
  v750 := V750.reset
  v780 := V780.reset c
  mbas := List.replicate c.mbas (Mba.powerUp (c.cpu == .v780))
  mem := []
  badMem := []
  pend := Pending.none
  run := .running
  con := ConDefaults.initial
  ubWords := []
  driveRegs := []
  driveCmds := []
  cfg := c
  draw := 0
  events := []
  during := []
  sent := []

/-- The machine right after reset: a V750 of the standard configuration (notes/assumptions/8.md). -/
def State.reset : State := State.resetWith Config.standard

end Sys2Proof.Machine
end

