-- ==== Sys2Proof/Machine/Base.lean ====
section
/-! DEFINITION. The monad the meanings are written in, bit fields, canonical sparse lists, the PSL, general registers and free values. -/
namespace Sys2Proof.Machine

/-- An exception an instruction runs into (60_exceptions.md R1031, R1034): fault or abort, the offset of its SCB vector
and its parameters in push order. -/
structure Exc where
  abort : Bool
  offset : Nat
  params : List Long
  deriving DecidableEq, Repr

/-- How a meaning ends early. `retry`: the instruction waits for the memory interlock (62_platform_780.md R1352) and starts again. -/
inductive Stop where
  | exc (e : Exc)
  | refuse (r : Refusal)
  | fault (f : Fault)
  | retry
  deriving DecidableEq, Repr

/-- A meaning: it reads and changes the state, or stops. The state is kept when it stops. -/
abbrev M := EStateM Stop State

/-- Run `x` and hand on how it ended. -/
def attempt {α : Type} (x : M α) : M (Except Stop α) := fun s =>
  match x s with
  | .ok a t => .ok (.ok a) t
  | .error e t => .ok (.error e) t

/-! ### Bit fields -/

/-- Bits <lo+n-1:lo> of a word, as a number. -/
def field {w : Nat} (x : BitVec w) (lo n : Nat) : Nat := (x.extractLsb' lo n).toNat

/-- A longword with ones in <lo+n-1:lo>. -/
def fieldMask (lo n : Nat) : Long := ((1#32 <<< n) - 1#32) <<< lo

/-- `x` with <lo+n-1:lo> replaced by the low bits of `v`. -/
def putField (x : Long) (lo n : Nat) (v : Long) : Long :=
  (x &&& ~~~ fieldMask lo n) ||| ((v <<< lo) &&& fieldMask lo n)

/-- A Bool as a longword bit. -/
def bitL (b : Bool) : Long := if b then 1 else 0

/-- `x` with bit `k` set to `b`. -/
def putBit (x : Long) (k : Nat) (b : Bool) : Long := putField x k 1 (bitL b)

/-! ### Canonical sparse lists (memory and register files), State.lean -/

/-- What is held at `a`; 0 where nothing is listed. -/
def Sparse.get {w : Nat} : List (Nat × BitVec w) → Nat → BitVec w
  | [], _ => 0
  | (k, v) :: rest, a => if a = k then v else Sparse.get rest a

/-- Put `v` at `a`, keeping the list canonical. -/
def Sparse.set {w : Nat} (l : List (Nat × BitVec w)) (a : Nat) (v : BitVec w) : List (Nat × BitVec w) :=
  match l with
  | [] => if v = 0 then [] else [(a, v)]
  | (k, x) :: rest =>
    if a < k then (if v = 0 then (k, x) :: rest else (a, v) :: (k, x) :: rest)
    else if a = k then (if v = 0 then rest else (a, v) :: rest)
    else (k, x) :: Sparse.set rest a v

/-- The canonical form: numbers strictly rising from `lo` on, no entry 0. -/
def Sparse.wfFrom {w : Nat} : Nat → List (Nat × BitVec w) → Bool
  | _, [] => true
  | lo, (k, v) :: rest => decide (lo ≤ k) && v != 0 && Sparse.wfFrom (k + 1) rest

/-- The canonical form of memory (20_memory.md R261): what every memory operation keeps. -/
def Memory.wf (m : Memory) : Bool := Sparse.wfFrom 0 m

/-! ### Free values -/

/-- The next free value (UNPRED of 00_scope.md R14). -/
def draw : M Octa := fun s => .ok (Config.unpred s.draw) { s with draw := s.draw + 1 }

/-- A free value of `n` bits. -/
def drawBits (n : Nat) : M (BitVec n) := do return (← draw).setWidth n

/-- A free bit. -/
def drawBool : M Bool := do return (← draw).getLsbD 0

/-! ### Stopping -/

def raise {α : Type} (e : Exc) : M α := throw (.exc e)
def refuse {α : Type} (r : Refusal) : M α := throw (.refuse r)

/-- Reserved or privileged instruction fault, vector 10, 60_exceptions.md R1054. -/
def reservedInstruction : Exc := ⟨false, 0x10, []⟩
/-- Customer reserved instruction fault, vector 14, R1055. -/
def customerReserved : Exc := ⟨false, 0x14, []⟩
/-- Reserved operand fault, vector 18, R1057. -/
def reservedOperand : Exc := ⟨false, 0x18, []⟩
/-- Reserved operand abort, vector 18, R1057. -/
def reservedOperandAbort : Exc := ⟨true, 0x18, []⟩
/-- Reserved addressing mode fault, vector 1C, R1058. -/
def reservedAddressing : Exc := ⟨false, 0x1C, []⟩
/-- Breakpoint fault, vector 2C, R1059. -/
def breakpoint : Exc := ⟨false, 0x2C, []⟩
/-- Arithmetic fault, vector 34, with its type code, R1083. -/
def arithFault (code : Nat) : Exc := ⟨false, 0x34, [BitVec.ofNat 32 code]⟩

/-! ### The processor status longword, 10_state.md R40 -/

def State.ccC (s : State) : Bool := s.psl.getLsbD 0
def State.ccV (s : State) : Bool := s.psl.getLsbD 1
def State.ccZ (s : State) : Bool := s.psl.getLsbD 2
def State.ccN (s : State) : Bool := s.psl.getLsbD 3
/-- Trace enable. -/
def State.t (s : State) : Bool := s.psl.getLsbD 4
/-- Integer overflow enable. -/
def State.iv (s : State) : Bool := s.psl.getLsbD 5
/-- Floating underflow enable. -/
def State.fu (s : State) : Bool := s.psl.getLsbD 6
/-- Decimal overflow enable. -/
def State.dv (s : State) : Bool := s.psl.getLsbD 7
/-- Interrupt priority level. -/
def State.ipl (s : State) : Nat := field s.psl 16 5
/-- Previous access mode. -/
def State.prv (s : State) : Nat := field s.psl 22 2
/-- Current access mode. -/
def State.cur (s : State) : Nat := field s.psl 24 2
/-- On the interrupt stack. -/
def State.is (s : State) : Bool := s.psl.getLsbD 26
/-- First part done. -/
def State.fpd (s : State) : Bool := s.psl.getLsbD 27
/-- Trace pending. -/
def State.tp (s : State) : Bool := s.psl.getLsbD 30
/-- Compatibility mode. -/
def State.cm (s : State) : Bool := s.psl.getLsbD 31

/-- The bits of the PSL that must be zero, 10_state.md R49. -/
def pslMbz : Long := 0x3020FF00

/-- The four condition codes as PSL<3:0>. -/
def ccBits (n z v c : Bool) : Long := bitL n <<< 3 ||| bitL z <<< 2 ||| bitL v <<< 1 ||| bitL c

/-- The state with new condition codes. -/
def State.withCC (s : State) (n z v c : Bool) : State := { s with psl := putField s.psl 0 4 (ccBits n z v c) }

/-- Set the condition codes. -/
def setCC (n z v c : Bool) : M Unit := modify fun s => s.withCC n z v c

/-- Set N, Z, V and keep C. -/
def setNZV (n z v : Bool) : M Unit := modify fun s => s.withCC n z v s.ccC

/-! ### General registers, 10_state.md R30 -/

def State.reg (s : State) (n : Reg) : Long := s.r[n]
def State.setReg (s : State) (n : Reg) (v : Long) : State := { s with r := s.r.set n v }
/-- The program counter, R15. -/
def State.pc (s : State) : Long := s.reg 15

def getR (n : Reg) : M Long := do return (← get).reg n
def setR (n : Reg) (v : Long) : M Unit := modify fun s => s.setReg n v
def getPC : M Long := getR 15
def setPC (v : Long) : M Unit := setR 15 v

/-- Register n + k for multi-register operands; the callers keep it below 16. -/
def Reg.plus (n : Reg) (k : Nat) : Reg := ⟨(n.val + k) % 16, Nat.mod_lt _ (by decide)⟩

/-- Number of little-endian bytes, 20_memory.md R270. -/
def leNat : List Byte → Nat
  | [] => 0
  | b :: rest => b.toNat + 256 * leNat rest

end Sys2Proof.Machine
end

