-- ==== Sys2Proof/Machine/Bus.lean ====
section
/-! DEFINITION. Physical memory, the physical address map of each processor and bus errors (20_memory.md R262 to R266, R281). -/
namespace Sys2Proof.Machine

/-- What an access is for: which references may reach I/O space (20_memory.md R290, R292, R293) goes by it. -/
inductive Use where
  /-- A byte, word or longword read or written. -/
  | data
  /-- The two halves of a byte or word modify operand. -/
  | modify
  /-- An interlocked read and write (R310). -/
  | interlocked
  /-- A page table entry (R281). -/
  | table
  /-- Strings, quadwords, octawords, floating data, fields, queues, stacks, control blocks, and the operands of R293. -/
  | other
  deriving DecidableEq, Repr

/-- What answers at a physical address. -/
inductive Device where
  | memoryCsr750 (k : Nat)
  | rom750 (off : Nat)
  | bdp750 (p : Nat)
  | ubMap750 (i : Nat)
  | memory780 (k off : Nat)
  | rom780 (off : Nat)
  | uba (k off : Nat)
  | mba (k off : Nat)
  | unibus (k ua : Nat)
  | unknown
  deriving DecidableEq, Repr

/-- Does no register of a V780 adapter answer there? A reference gets no response, whatever its function and mask:
63_platform_780_uba.md R1510, 64_platform_780_adapters.md R1441. -/
def noRegister : Device → Bool
  | .uba _ off => decide ((0x80 ≤ off ∧ off < 0x800) ∨ 0xFC0 ≤ off)
  | .mba _ off => decide ((0x20 ≤ off ∧ off < 0x400) ∨ 0xC00 ≤ off)
  | _ => false

inductive Place where
  | ram
  | device (d : Device)
  | nothing
  deriving DecidableEq, Repr

/-! ### Parts of the state -/

def modV750 (f : V750 → V750) : M Unit := modify fun s => { s with v750 := f s.v750 }
def modV780 (f : V780 → V780) : M Unit := modify fun s => { s with v780 := f s.v780 }
def modPend (f : Pending → Pending) : M Unit := modify fun s => { s with pend := f s.pend }
def send (x : Sent) : M Unit := modify fun s => { s with sent := s.sent ++ [x] }

/-- Apply `f` to entry `k` of a list, where there is one. -/
def updAt {α : Type} (l : List α) (k : Nat) (f : α → α) : List α :=
  match l, k with
  | [], _ => []
  | x :: rest, 0 => f x :: rest
  | x :: rest, k + 1 => x :: updAt rest k f

def State.is750 (s : State) : Bool := s.cfg.cpu == .v750

def State.uba? (s : State) (k : Nat) : Uba := s.v780.ubas.getD k Uba.powerUp
def modUba (k : Nat) (f : Uba → Uba) : M Unit := modV780 fun v => { v with ubas := updAt v.ubas k f }
def State.mba? (s : State) (k : Nat) : Mba := s.mbas.getD k (Mba.powerUp (!s.is750))
def modMba (k : Nat) (f : Mba → Mba) : M Unit := modify fun s => { s with mbas := updAt s.mbas k f }
def State.memCtl? (s : State) (k : Nat) : MemCtl := s.v780.mems.getD k (MemCtl.powerUp (s.cfg.ctlStart k))
def modMemCtl (k : Nat) (f : MemCtl → MemCtl) : M Unit := modV780 fun v => { v with mems := updAt v.mems k f }

/-- The SBI fault bits a NEXUS holds, in <31:26>, 62_platform_780.md R1351. -/
def State.faultBits (s : State) (n : Nexus) : Long :=
  match s.cfg.nexusMap.find? fun e => e.2 == n with
  | some (tr, _) => (Sparse.get s.v780.faults tr).setWidth 32 <<< 26
  | none => 0

/-- A NEXUS detects an SBI fault: unless FAULT is latched already the processor latches it, the bits are held, and the request
is made, 62_platform_780.md R1351, 63_platform_780_uba.md R1511. -/
def raiseFault (tr : Nat) (bits : BitVec 6) : M Unit := modify fun s =>
  if s.v780.fault then s
  else
    { s with
      v780 := { s.v780 with fault := true, faults := Sparse.set s.v780.faults tr bits }
      pend := { s.pend with sbiFault := true } }

/-! ### Main memory -/

/-- Size in bytes of V780 memory controller `k`, 62_platform_780.md R1400. -/
def State.ctlSize (s : State) (k : Nat) : Nat := 0x10000 * s.cfg.ctlUnits.getD k 0

/-- Start and length of the addresses V780 memory controller `k` answers, 62_platform_780.md R1408, R1411 (an
interleaved controller answers, with its partner, twice its size). -/
def State.ctlRange (s : State) (k : Nat) : Nat × Nat :=
  let c := s.memCtl? k
  (0x10000 * c.start.toNat, if c.interleave then 2 * s.ctlSize k else s.ctlSize k)

/-- Does `pa` lie in the range of controller `k`? -/
def State.inCtl (s : State) (pa k : Nat) : Bool := let (a, n) := s.ctlRange k; decide (a ≤ pa ∧ pa < a + n)

/-- The TR number of a NEXUS; 0 where NEXUS_MAP does not list it. -/
def State.nexusTr (s : State) (n : Nexus) : Nat :=
  match s.cfg.nexusMap.find? fun e => e.2 == n with
  | some (tr, _) => tr
  | none => 0

/-- The TR number of memory controller `k`; one that NEXUS_MAP does not list counts as TR `k + 1`. -/
def State.ctlTr (s : State) (k : Nat) : Nat := if s.nexusTr (.memory k) = 0 then k + 1 else s.nexusTr (.memory k)

/-- Is it controller `k` of an interleaved pair that takes the quadword at `pa`? Physical address bit 3 selects, R1411: 0 the
one with the even TR number (DESIGN CHOICE, notes/assumptions/60.md). -/
def State.ctlTurn (s : State) (pa k : Nat) : Bool := !(s.memCtl? k).interleave || pa / 8 % 2 == s.ctlTr k % 2

/-- The V780 memory controller that answers at `pa`; one of an interleaved pair whose partner does not answer takes all. -/
def State.ctlOf (s : State) (pa : Nat) : Option Nat :=
  let ks := (List.range s.v780.mems.length).filter (s.inCtl pa)
  match ks.find? (s.ctlTurn pa) with
  | some k => some k
  | none => ks.head?

/-- The memory controller whose register A records a fault at `pa`. -/
def State.memoryTr (s : State) (pa : Nat) : Nat := s.ctlTr ((s.ctlOf pa).getD 0)

/-- Is there main memory at `pa`? 20_memory.md R262 to R264; a V780 without listed controllers is populated from 0 on;
MA780 memory is ordinary memory (64_platform_780_adapters.md R1485). -/
def State.hasRam (s : State) (pa : Nat) : Bool :=
  match s.cfg.cpu with
  | .v750 => decide (pa < s.cfg.memBytes)
  | .v780 =>
    decide (pa < 0x20000000) &&
    (s.cfg.hasMa780 pa ||
      match s.v780.mems with
      | [] => decide (pa < s.cfg.memBytes)
      | _ => (s.ctlOf pa).isSome)

/-- `n` bytes of memory from `pa` on. -/
def ramBytes (m : Memory) (pa : Nat) : Nat → List Byte
  | 0 => []
  | n + 1 => Sparse.get m pa :: ramBytes m (pa + 1) n

/-- The value of `n` bytes of main memory. -/
def State.ramValue (s : State) (pa n : Nat) : Octa := BitVec.ofNat 128 (leNat (ramBytes s.mem pa n))

/-- Store the low `n` bytes of `v` from `pa` on, low byte first (R270). -/
def ramWrite (m : Memory) (pa : Nat) : Nat → Octa → Memory
  | 0, _ => m
  | n + 1, v => ramWrite (Sparse.set m pa (v.setWidth 8)) (pa + 1) n (v >>> 8)

/-- The same, but the bytes at lost addresses stay. -/
def ramMerge (lost : Nat → Bool) (m : Memory) (pa : Nat) : Nat → Octa → Memory
  | 0, _ => m
  | n + 1, v => ramMerge lost (if lost pa then m else Sparse.set m pa (v.setWidth 8)) (pa + 1) n (v >>> 8)

/-- Put free bytes at `n` addresses from `pa` on (contents the source leaves unspecified). -/
def freeRam (pa : Nat) : Nat → M Unit
  | 0 => pure ()
  | n + 1 => do
    let b ← drawBits 8
    modify fun s => { s with mem := Sparse.set s.mem pa b }
    freeRam (pa + 1) n

/-- The memory of the V780's own controllers becomes unspecified, with good check bits, 62_platform_780.md R1408, R1411,
R1413; MA780 memory stays. -/
def freeAllRam : M Unit := do
  let s ← get
  set { s with
    mem := s.mem.filter fun e => s.cfg.hasMa780 e.1
    badMem := s.badMem.filter fun e => s.cfg.hasMa780 (8 * e.1) }
  match s.v780.mems with
  | [] => freeRam 0 s.cfg.memBytes
  | ms => (List.range ms.length).forM fun k => let (a, n) := s.ctlRange k; freeRam a n

/-! ### Uncorrectable errors, 20_memory.md R268, 61_platform_750.md R1161, 62_platform_780.md R1402 to R1404 -/

/-- Bytes that share check bits: a longword on the V750, a quadword on the V780. -/
def State.unit (s : State) : Nat := if s.is750 then 4 else 8

/-- Does a reference to `n` bytes at `pa` touch unit `k` of `u` bytes? -/
def touches (u pa n k : Nat) : Bool := decide (pa < (k + 1) * u ∧ k * u < pa + n)

/-- Diagnostic Check Mode at `pa` (V750): a read takes CSR1<6:0> in place of the check bits of memory. Page Mode must be set, and
Disable Mode not, R1162 (DESIGN CHOICE otherwise, notes/assumptions/60.md). -/
def State.checkMode (s : State) (pa : Nat) : Bool :=
  let c := s.v750.csr1
  s.is750 && c.getLsbD 26 && c.getLsbD 27 && !c.getLsbD 25 && field c 9 15 == pa / 512

/-- Does one of the `n` bytes at `pa` lie in a unit whose check bits show an uncorrectable error? Those that Diagnostic Check Mode
replaces show nothing. -/
def State.spoiled (s : State) (pa n : Nat) : Bool :=
  s.badMem.any fun e => touches s.unit pa n e.1 && !s.checkMode (s.unit * e.1)

/-- Are the check bits at `pa` substituted? By Diagnostic Check Mode on the V750; by FORCE ERR of a V780 controller where SBI
address bits 3 and 12 are set, which are physical address bits 5 and 14, 62_platform_780.md R1408. -/
def State.forcedAt (s : State) (pa : Nat) : Bool :=
  if s.is750 then s.checkMode pa
  else pa / 32 % 2 == 1 && pa / 16384 % 2 == 1
    && match s.ctlOf pa with
      | some k => (s.memCtl? k).forceErr
      | none => false

/-- The same for one of the `n` bytes at `pa`. -/
def State.forced (s : State) (pa n : Nat) : Bool :=
  s.forcedAt (pa + n - 1) || (List.range (n / 8 + 1)).any fun j => decide (8 * j < n) && s.forcedAt (pa + 8 * j)

/-- Is V780 controller `k` initializing its array? -/
def State.initializes (s : State) (k : Nat) : Bool := (s.memCtl? k).status == .initializing

/-- Does one of the `n` bytes at `pa` lie in an array that a V780 controller is initializing after a cold start? A command to
it is answered BSY, 62_platform_780.md R1408. -/
def State.initializing (s : State) (pa n : Nat) : Bool :=
  !s.is750 && s.v780.mems.any (fun c => c.status == .initializing)
    && (List.range n).any fun j => match s.ctlOf (pa + j) with
      | some k => s.initializes k
      | none => false

/-- The controller's initialization is complete, R1408. -/
def MemCtl.ready (c : MemCtl) : MemCtl := if c.status = .initializing then { c with status := .cold } else c

/-- The state once `n` bytes at `pa` answer: who refers to an array that is being initialized repeats its command until the
initialization has ended (62_platform_780.md R1350, R1408; DESIGN CHOICE, notes/assumptions/40.md). -/
def State.answered (s : State) (pa n : Nat) : State :=
  { s with v780 :=
      if s.initializing pa n then
        { s.v780 with
          mems := s.v780.mems.mapIdx fun k c => if (List.range n).any fun j => s.ctlOf (pa + j) == some k then c.ready else c }
      else s.v780 }

/-- Is a reference to the `n` bytes at `pa` other than a plain one: may their check bits be found wrong, or is their array being
initialized? -/
def State.bad (s : State) (pa n : Nat) : Bool := s.spoiled pa n || s.forced pa n || s.initializing pa n

/-- Does a write of `n` bytes at `pa` cover unit `k` of `u` bytes? -/
def covers (u pa n k : Nat) : Bool := decide (pa ≤ k * u ∧ (k + 1) * u ≤ pa + n)

/-- Does a write of `n` bytes at `pa` cover an aligned longword? -/
def coversLongword (pa n : Nat) : Bool := decide ((pa + 3) / 4 * 4 + 4 ≤ pa + n)

/-- Neither detection nor logging at `pa` (V750): ECC Disable Mode, or Diagnostic Check Mode in another page, R1162. -/
def State.eccOff (s : State) (pa : Nat) : Bool :=
  let c := s.v750.csr1
  let here := field c 9 15 == pa / 512
  (c.getLsbD 25 && (!c.getLsbD 27 || here)) || (c.getLsbD 26 && !here)

/-- ECC Disable Mode at `pa` (V750): check bits are not looked at, and every write makes good ones, R1162. -/
def State.eccDisabled (s : State) (pa : Nat) : Bool := s.is750 && s.v750.csr1.getLsbD 25 && s.eccOff pa

/-- Does an access at `pa` not look at memory's own check bits, and a write there make good ones in any case? ECC Disable and
Diagnostic Check Mode, R1162. -/
def State.checksAside (s : State) (pa : Nat) : Bool := s.eccDisabled pa || s.checkMode pa

/-- Is byte `a` of a write of `n` bytes at `pa` lost? It is merged into a unit with an error: R1403, and DEDUCED for the
byte writes of the V750 (notes/assumptions/60.md). -/
def State.lost (s : State) (pa n a : Nat) : Bool :=
  Sparse.get s.badMem (a / s.unit) != 0 && !(s.is750 && covers 4 pa n (a / 4)) && !s.checksAside a

/-- An access at `pa` in ECC Disable Mode copies check bits to CSR1, R1162. -/
def V750.copyCheck (v : V750) (off : Bool) : V750 := { v with checkCopied := v.checkCopied || off }

/-- The same for the state. -/
def State.noteEcc (s : State) (pa : Nat) : State := { s with v750 := s.v750.copyCheck (s.eccDisabled pa) }

/-- Store to existing memory, once it answers. On the V750 a longword write clears CSR2<16>, 61_platform_750.md R1163, and makes its
check bits good. -/
def State.storeRam (s : State) (pa n : Nat) (v : Octa) : State :=
  { s with
    mem := if s.bad pa n then ramMerge (s.lost pa n) s.mem pa n v else ramWrite s.mem pa n v
    badMem := if s.is750 then
        s.badMem.filter fun e => !(covers 4 pa n e.1 || touches 4 pa n e.1 && s.checksAside (4 * e.1))
      else s.badMem
    v750 := (if s.is750 && coversLongword pa n then { s.v750 with battFail := false } else s.v750).copyCheck (s.eccDisabled pa)
    v780 := (s.answered pa n).v780 }

/-- The full write of a quadword, which makes its check bits good, 62_platform_780.md R1404. -/
def State.storeQuad (s : State) (pa : Nat) (v : Quad) : State :=
  { s with
    mem := ramWrite s.mem (pa / 8 * 8) 8 (v.setWidth 128)
    badMem := s.badMem.filter fun e => e.1 != pa / 8
    v780 := (s.answered (pa / 8 * 8) 8).v780 }

/-- Does V780 controller of `pa` send its data unchecked? ECC Bypass, 62_platform_780.md R1408. -/
def State.eccBypassed (s : State) (pa : Nat) : Bool :=
  !s.is750 && match s.ctlOf pa with
    | some k => (s.memCtl? k).eccBypass
    | none => false

/-- Can the `n` bytes at `pa` not be read? ECC Disable Mode and ECC Bypass read what is there, R1162, 62_platform_780.md R1408. -/
def State.unreadable (s : State) (pa n : Nat) : Bool :=
  s.spoiled pa n && !s.eccDisabled pa && !s.eccBypassed pa

/-- Register C <27:8> for an error at `pa`, R1409: with 4K chips the card stands in <27:24> and <23:22> hold nothing. -/
def State.logAddress (s : State) (pa : Nat) : Long :=
  BitVec.ofNat 32 (if s.cfg.memType = 1 then pa / 4 % 0x4000 + pa / 0x10000 % 16 * 0x10000 else pa / 4 % 0x100000) <<< 8

/-- A V780 controller's error log after an error at `pa` with syndrome `x`, R1409. -/
def MemCtl.logged (c : MemCtl) (address x : Long) : MemCtl :=
  if c.regC.getLsbD 28 then { c with regC := c.regC ||| 0x20000000 }
  else { c with regC := (c.regC &&& 0x60000000) ||| 0x10000000 ||| address ||| (x &&& 0xFF) }

/-- CSR0<23:9>, <6:0>: the page of an error at `pa` and its syndrome `x`. -/
def csr0Info (pa : Nat) (x : Long) : Long := (BitVec.ofNat 32 pa &&& 0x00FFFE00) ||| (x &&& 0x7F)

/-- CSR0 after an uncorrectable error on a read, R1161. -/
def V750.uncorrected (v : V750) (info : Long) : V750 :=
  { v with
    csr0 := if v.csr0.getLsbD 31 then v.csr0 ||| 0x40000000 else (v.csr0 &&& 0x60000000) ||| 0x80000000 ||| info }

/-- CSR0 and MCSR after a corrected error on a read, unless CSR1 inhibits it, R1161, R1162. -/
def V750.corrected (v : V750) (info : Long) : V750 :=
  if v.csr1.getLsbD 28 then v
  else
    { v with
      mcsr := v.mcsr ||| 1
      csr0 := if v.csr0 &&& 0xA0000000 = 0 then info ||| 0x20000000 else v.csr0 ||| 0x20000000 }

/-- An uncorrectable error on a read at `pa` is logged: CSR0 (R1161), or register C of the controller (62_platform_780.md
R1409); the syndrome is free. -/
def logUncorrectable (pa : Nat) : M Unit := do
  let s ← get
  let x ← drawBits 32
  if s.is750 then
    if s.eccOff pa then pure () else modV750 fun v => v.uncorrected (csr0Info pa x)
  else
    match s.ctlOf pa with
    | none => pure ()
    | some k => modMemCtl k fun c => c.logged (s.logAddress pa) x

/-! ### Substituted check bits: FORCE ERR, 62_platform_780.md R1408, and Diagnostic Check Mode, 61_platform_750.md R1162 -/

/-- What substituted check bits make of a cycle. -/
inductive Forced where
  | none
  /-- The data come corrected; is that reported to who asked? -/
  | corrected (reported : Bool)
  | uncorrectable
  deriving DecidableEq, Repr

def Forced.isReported : Forced → Bool
  | .corrected r => r
  | _ => false

/-- Is a correction at `pa` reported? Not while CSR1 inhibits it, R1162, or register C does or its log is full, R1409. -/
def State.reportsCrd (s : State) (pa : Nat) : Bool :=
  if s.is750 then !s.v750.csr1.getLsbD 28
  else match s.ctlOf pa with
  | some k => !(s.memCtl? k).regC.getLsbD 30 && !(s.memCtl? k).regC.getLsbD 28
  | none => false

/-- A correction at `pa` is logged. -/
def logCorrected (pa : Nat) : M Unit := do
  if (← get).is750 then
    let x ← drawBits 32
    modV750 fun v => v.corrected (csr0Info pa x)
  else logUncorrectable pa

/-- A cycle within one unit of check bits. The code is not in the source (61_platform_750.md R1162, 93_implementation_defined.md
I80, 91_not_in_source.md N75), so which of the three it is stays free at each cycle; an error is logged. -/
def forcedCycle (pa n : Nat) : M Forced := do
  let s ← get
  if ¬ s.forced pa n then return .none
  match (← drawBits 2).toNat with
  | 0 => return .none
  | 1 => do
    logCorrected pa
    return .corrected (s.reportsCrd pa)
  | _ => do
    logUncorrectable pa
    return .uncorrectable

/-- A correction may change one bit, which one is free. The memory itself keeps its data (DESIGN CHOICE,
notes/assumptions/60.md). -/
def flipBit (x : Octa) (n : Nat) (v : Octa) : Octa := if x.getLsbD 7 then v ^^^ (1#128 <<< (x.toNat % (8 * n))) else v

/-- What such a read answers. -/
def forcedData (f : Forced) (n : Nat) (v : Octa) : M Octa := do
  match f with
  | .corrected _ => return flipBit (← draw) n v
  | _ => return v

/-- An adapter's read of `n` bytes at `pa`, within one unit of check bits: none where the data cannot be corrected; with the
data whether a correction is reported, 20_memory.md R268, 62_platform_780.md R1402. -/
def adapterRead (pa n : Nat) : M (Option (Octa × Bool)) := do
  let s ← get
  modify fun s => s.answered pa n
  if s.spoiled pa n then logUncorrectable pa
  modify fun s => s.noteEcc pa
  let f ← forcedCycle pa n
  let f := if s.eccBypassed pa then .none else f
  if s.unreadable pa n ∨ f = .uncorrectable then return none
  return some (← forcedData f n (s.ramValue pa n), f.isReported)

/-- The parts of `n` bytes at `pa` that share check bits: address and length, the lowest first. -/
def unitParts (u : Nat) : Nat → Nat → Nat → List (Nat × Nat)
  | 0, _, _ => []
  | more + 1, pa, n =>
    if n = 0 then [] else (pa, min n (u - pa % u)) :: unitParts u more (pa + min n (u - pa % u)) (n - min n (u - pa % u))

/-- Is a write of `n` bytes at `pa`, within one unit of check bits, carried out? One of less than the unit reads it first, and
where the substituted check bits make that read uncorrectable it is lost: 61_platform_750.md R1164 (c), which logs nothing, and
62_platform_780.md R1403. -/
def writeTaken (pa n : Nat) : M Bool := do
  let s ← get
  if s.is750 then
    if ¬ s.forced pa n ∨ covers 4 pa n (pa / 4) then return true
    return decide ((← drawBits 2).toNat < 2)
  return decide ((← forcedCycle pa n) ≠ .uncorrectable)

/-- Store to parts of existing memory. -/
def storeParts : List (Nat × Nat) → Octa → M Unit
  | [], _ => pure ()
  | (pa, n) :: rest, v => do
    if ← writeTaken pa n then modify fun s => s.storeRam pa n v
    storeParts rest (v >>> (8 * n))

/-- Store to existing memory. -/
def storeAt (pa n : Nat) (v : Octa) : M Unit := do
  let s ← get
  if s.forced pa n then storeParts (unitParts s.unit n pa n) v else modify fun s => s.storeRam pa n v

/-! ### The address map -/

/-- V750, 20_memory.md R263. -/
def place750 (s : State) (pa : Nat) : Place :=
  if s.hasRam pa then .ram
  else if 0xFC0000 ≤ pa then .device (.unibus 0 (pa - 0xFC0000))
  else if 0xF20000 ≤ pa ∧ pa < 0xF2000C then .device (.memoryCsr750 ((pa - 0xF20000) / 4))
  else if 0xF20400 ≤ pa ∧ pa < 0xF20800 then
    match s.cfg.bootRoms.getD ((pa - 0xF20400) / 256) none with
    | some _ => .device (.rom750 (pa - 0xF20400))
    | none => .nothing
  else if 0xF28000 ≤ pa ∧ pa < 0xF30000 then
    if (pa - 0xF28000) / 0x2000 < s.cfg.mbas then .device (.mba ((pa - 0xF28000) / 0x2000) ((pa - 0xF28000) % 0x2000))
    else .nothing
  else if 0xF30800 ≤ pa ∧ pa < 0xF31000 then .device (.ubMap750 ((pa - 0xF30800) / 4))
  else match s.cfg.bdpCsr.idxOf? (pa / 4 * 4) with
    | some p => .device (.bdp750 p)
    | none => .nothing

/-- V780, 20_memory.md R264, 62_platform_780.md R1340, R1406, R1412, 63_platform_780_uba.md R1501. -/
def place780 (s : State) (pa : Nat) : Place :=
  if s.hasRam pa then .ram
  else if pa < 0x20000000 then .nothing
  else if pa < 0x20020000 then
    let off := pa % 0x2000
    match s.cfg.nexusMap.lookup ((pa - 0x20000000) / 0x2000) with
    | some (.memory k) =>
      if off < 12 then .device (.memory780 k off)
      else if 0x1000 ≤ off ∧ k = 0 ∧ s.cfg.bootRom780.isSome ∧ ¬ s.cfg.memStrapped then .device (.rom780 (off - 0x1000))
      else .nothing
    | some (.uba k) => if k < s.cfg.ubaSpaces.length then .device (.uba k off) else .nothing
    | some (.mba k) => if k < s.cfg.mbas then .device (.mba k off) else .nothing
    | some .dr780 => .device .unknown
    | some .ma780 => .device .unknown
    | none => .nothing
  else if 0x20100000 ≤ pa ∧ pa < 0x20200000 then
    match s.cfg.ubaSpaces.idxOf? ((pa - 0x20100000) / 0x40000) with
    | some k => .device (.unibus k ((pa - 0x20100000) % 0x40000))
    | none => .nothing
  else .nothing

/-- What answers at physical address `pa`. -/
def place (s : State) (pa : Nat) : Place :=
  match s.cfg.cpu with
  | .v750 => place750 s pa
  | .v780 => place780 s pa

/-! ### Bus errors, 20_memory.md R266 -/

/-- `n` free longwords. -/
def freeLongs : Nat → M (List Long)
  | 0 => pure []
  | n + 1 => do
    let x ← drawBits 32
    return x :: (← freeLongs n)

/-- Machine check abort: error longwords (free) and the byte count, 60_exceptions.md R1045. -/
def machineCheck {α : Type} : M α := do
  let n := (← get).cfg.mchkLongwords
  let xs ← freeLongs n
  raise ⟨true, 0x04, xs ++ [BitVec.ofNat 32 (4 * n)]⟩

/-- The V750 latches a bus error: MCESR<3> and bit `cause` of MCSR (11_processor_registers.md R210, R211: 3 nonexistent
memory or read lock time-out, 2 uncorrectable data), with MCSR<12> for a read lock time-out. An error before the last
one was cleared is a lost one, MCSR<1> (DEDUCED, notes/assumptions/61.md). -/
def latchBusError (cause : Nat) (readLock : Bool) : M Unit := modV750 fun v =>
  { v with
    mcesr := v.mcesr ||| 8
    mcsr := putBit (v.mcsr ||| (1#32 <<< cause) ||| (if v.mcesr.getLsbD 3 then 2 else 0)) 12 readLock }

/-- A failed read: machine check. -/
def busReadError {α : Type} (cause : Nat) : M α := do
  if (← get).is750 then latchBusError cause false
  machineCheck

/-- The end of a read of memory with an uncorrectable error that has been logged. -/
def loggedError {α : Type} : M α := do
  if ¬ (← get).is750 then modV780 fun v => { v with rds := true }
  busReadError 2

/-- A read of memory with an uncorrectable error, 20_memory.md R268, 62_platform_780.md R1402: logged; the V750 takes a
machine check, the V780 too and requests the read data substitute interrupt. -/
def uncorrectable {α : Type} (pa : Nat) : M α := do
  logUncorrectable pa
  loggedError

/-- A failed write: the memory write error request; on the V750 a second one before the first is serviced halts at the
next boundary (60_exceptions.md R1064, R1095 (g)). The request is there at once, so that the interrupt comes at the first boundary
whose IPL allows it: R314 leaves open after how many instructions it comes (DESIGN CHOICE, notes/assumptions/57.md). -/
def busWriteError : M Unit := do
  let s ← get
  modPend fun p => { p with memWrite := true, doubleWrite := p.doubleWrite || (s.is750 && p.memWrite) }

/-- `n` bytes of a register value starting at byte `lo`. -/
def subLong (x : Long) (lo n : Nat) : Long := (x >>> (8 * lo)) &&& fieldMask 0 (8 * n)

/-- Put an event in the queue, `d` boundaries from now: before those that come as late. -/
def insertEvent (d : Nat) (e : Event) : List (Nat × Event) → List (Nat × Event)
  | [] => [(d, e)]
  | (n, x) :: rest => if d ≤ n then (d, e) :: (n - d, x) :: rest else (n, x) :: insertEvent (d - n) e rest

/-- Choose one of several alternatives the source does not order (92_eei_decisions.md D47). -/
def pick {α : Type} (l : List α) : M (Option α) :=
  match l with
  | [] => pure none
  | [x] => pure (some x)
  | l => do
    let d ← draw
    return l[d.toNat % l.length]?

end Sys2Proof.Machine
end

