-- ==== Sys2Proof/Machine/Massbus.lean ====
section
/-! DEFINITION. The MASSBUS adapters of both processors (61_platform_750.md R1220 to R1230, 64_platform_780_adapters.md R1440 to R1458). -/
namespace Sys2Proof.Machine

/-- Bits of SR software may clear: V750 61_platform_750.md R1222, V780 64_platform_780_adapters.md R1450. -/
def mbaClearable (v750 : Bool) : Long := if v750 then 0x208F7FFA else 0x600F3FFF

/-- SR bits that abort a transfer, R1222, R1450. -/
def mbaAborts (v750 : Bool) : Long := if v750 then 0x4EFA else 0xEFF

/-- SR bits that come from the MASSBUS side: CRD, MCPE, DLT to MAPPE, on the V750 CBHUNG and SPE, on the V780 RD TIMEOUT. -/
def mbaHostBits (v750 : Bool) : Long := if v750 then 0x20824FE0 else 0x20020FE1

/-- SR bits that request an interrupt when IE is set: PGE, NED, MCPE, ATTN, DTCMP, DTABT, MXE (R1230, R1458). -/
def mbaCauses : Long := 0x000F3100

def Mba.busy (m : Mba) : Bool := m.sr.getLsbD 31

/-- The adapter requests an interrupt, 61_platform_750.md R1230, 64_platform_780_adapters.md R1458. -/
def Mba.requesting (m : Mba) : Bool := (m.ie && (m.sr &&& mbaCauses != 0 || m.req)) || m.pd || m.pu

/-- ATTN follows the attention line, which DR simulates in maintenance mode, R1225, R1450. -/
def Mba.follow (m : Mba) : Mba :=
  if (if m.mmm then m.dr.getLsbD 24 else m.attn) then { m with sr := m.sr ||| 0x00010000 } else m

def mbaSet (k : Nat) (bits : Long) : M Unit := modMba k fun m => { m with sr := m.sr ||| bits }

/-- Programming error: SR<19>. -/
def mbaProgrammingError (k : Nat) : M Unit := mbaSet k 0x00080000

/-- Physical address of VAR through the map. -/
def Mba.address (m : Mba) (v750 : Bool) : Nat :=
  field (Sparse.get m.map (m.var.toNat / 512)) 0 (if v750 then 15 else 21) * 512 + m.var.toNat % 512

/-- The transfer ends: DTCMP, and DTABT when aborted. -/
def Mba.finish (m : Mba) (aborted : Bool) : Mba :=
  { m with sr := (m.sr &&& 0x7FFFFFFF) ||| 0x2000 ||| bitL aborted <<< 12, stop := false, buf := [] }

/-- The transfer in progress is aborted: the V750 ends it at once, the V780 at the drive's end of block (R1222, R1444). -/
def Mba.abortNow (m : Mba) (v750 : Bool) : Mba :=
  if ¬ m.busy then m else if v750 then m.finish true else { m with stop := true }

/-- Errors: they are or-ed into SR and abort the transfer if they are of that kind. -/
def Mba.error (m : Mba) (v750 : Bool) (bits : Long) : Mba :=
  let m := { m with sr := m.sr ||| bits }
  if bits &&& mbaAborts v750 = 0 then m else m.abortNow v750

def mbaError (k : Nat) (bits : Long) : M Unit := do
  let v750 := (← get).is750
  modMba k fun m => m.error v750 bits

/-- MASSBUS INIT to the drives and the INIT effects on the adapter: V750 R1221 with BCR cleared (70_reset_and_hazards.md
R1605), V780 R1444. -/
def mbaInit (k : Nat) : M Unit := do
  let v750 := (← get).is750
  modMba k fun m =>
    let m :=
      { m with
        ie := false, abort := false, sr := 0, bcrBus := 0, bcrMem := 0, busOut := false, occ := false, dr := 0, attn := false
        stop := false, buf := [] }
    if v750 then { m with ibc := false, mmm := false, req := false } else { m with pd := false, pu := false }
  send (.massbusInit k)

/-- Write CR, R1221, R1444. Setting MMM during a transfer is a programming error and the write is ignored. The V780's INIT
does not clear MMM, which the write stores. -/
def mbaWriteCr (k : Nat) (w : Long) : M Unit := do
  let s ← get
  let m := s.mba? k
  if w.getLsbD 3 && !m.mmm && m.busy then mbaProgrammingError k
  else if w.getLsbD 0 then
    mbaInit k
    modMba k fun m => { m with mmm := !s.is750 && w.getLsbD 3 }
  else modMba k fun m =>
    let m := { m with ibc := s.is750 && w.getLsbD 4, mmm := w.getLsbD 3, ie := w.getLsbD 2, abort := w.getLsbD 1 }.follow
    if w.getLsbD 1 then m.abortNow s.is750 else m

/-- Key of a drive register, R1227, R1456, as in `State.driveRegs`. -/
def driveKey (k off : Nat) : Nat := k * 256 + (off - 0x400) / 4

/-- Bytes a memory cycle starts at: VAR names the first one, later cycles start at byte 0 of their unit. -/
def Mba.firstByte (m : Mba) (unit : Nat) : Nat := if m.first then m.var.toNat % unit else 0

/-- Bytes left for the drive side: a transfer goes by its counter, R1224, R1229, 64_platform_780_adapters.md R1452. -/
def Mba.busLeft (m : Mba) : Nat := if m.busOut then 0 else 65536 - m.bcrBus.toNat

/-- Bytes left for the memory side: those the drive side still moves, and what is on its way. -/
def Mba.memLeft (m : Mba) : Nat :=
  match m.kind with
  | .toMemory => m.busLeft + m.buf.length
  | _ => m.busLeft - m.buf.length

/-- Bytes the next memory cycle moves. -/
def Mba.cycleBytes (m : Mba) (unit : Nat) : Nat :=
  min (unit - m.firstByte unit) (if m.ibc then unit else m.memLeft)

/-- CAR during a transfer: V750 R1226, V780 64_platform_780_adapters.md R1455, 62_platform_780.md R1348. Between two cycles the
V750 shows the one that comes next, and while its adapter requests an interrupt freely that one or the Write Vector cycle
(operation 110), whose mask and address are free (DESIGN CHOICE, notes/assumptions/62.md: R1226 says the current cycle). -/
def Mba.car (m : Mba) (v750 : Bool) (free : Long) : Long :=
  let write := m.kind == .toMemory
  if v750 && m.requesting && free.getLsbD 25 then putField free 25 3 6
  else if v750 then
    putField (free &&& 0x01000000) 0 24 (BitVec.ofNat 32 (m.address true / 4 * 4)) ||| bitL write <<< 27
      ||| ((fieldMask 0 (m.cycleBytes 4) <<< m.firstByte 4) &&& 0xF) <<< 28
  else (if write then 0xB0000000 else 0x80000000) ||| BitVec.ofNat 32 (m.address false / 8 * 2)

/-- Does bit `b` of DR act? Only in maintenance mode, R1225, 64_platform_780_adapters.md R1453. -/
def Mba.simulates (m : Mba) (b : Nat) : Bool := m.mmm && m.dr.getLsbD b

/-- Is EXC asserted with the drives detached? By SIMEXC of the V750, and by the adapter while it waits for the end of block of a
transfer it aborts, R1225, 64_platform_780_adapters.md R1440, R1444. -/
def Mba.exc (m : Mba) (v750 : Bool) : Bool := m.stop || v750 && m.simulates 21

/-- DR as it reads in maintenance mode: the bits software wrote, MEXC, and the data in buffer as MDIB SEL selects it. On the V780
MFAIL is set and MRUN clear, since maintenance mode asserts FAIL and blocks RUN (64_platform_780_adapters.md R1444); the other
copies of lines are free (notes/assumptions/62.md). -/
def Mba.diagnostic (m : Mba) (v750 : Bool) (x : Long) : Long :=
  let sel := m.dr.getLsbD 23
  m.dr ||| bitL (m.exc v750) <<< 17
    ||| (if v750 then (if sel then (x &&& 0x001D0000) ||| m.mdib.setWidth 32
      else (x &&& 0x001DFF00) ||| (m.mdib.setWidth 32 &&& 0xFF))
    else 0x00100000 ||| (x &&& 0x0005FF00) ||| ((m.mdib >>> (if sel then 8 else 0)).setWidth 32 &&& 0xFF))

/-- IMCPG inverts the parity of the control bus in a cycle to a drive register: whether that shows as MCPE with no drive to check
it is free (DESIGN CHOICE, notes/assumptions/62.md). -/
def mbaControlParity (k : Nat) : M Unit := do
  if ((← get).mba? k).simulates 30 then
    if ← drawBool then mbaSet k 0x00020000

/-- Read of an adapter register: aligned longwords only, anything else gets no response (R1220) or ERR (R1442). -/
def mbaRead (k off n : Nat) : M Long := do
  let s ← get
  let m := s.mba? k
  if n ≠ 4 ∨ off % 4 ≠ 0 then busReadError 3
  else if 0x400 ≤ off ∧ off < 0x800 then
    if m.mmm then do
      mbaControlParity k
      mbaSet k 0x00040000
      return 0
    else do
      send (.driveRead k ((off - 0x400) / 128) ((off - 0x400) / 4 % 32))
      match s.driveRegs.lookup (driveKey k off) with
      | some w => return w.setWidth 32
      | none => do mbaSet k 0x00040000; return 0
  else if 0x800 ≤ off ∧ off < 0xC00 then return Sparse.get m.map ((off - 0x800) / 4)
  else match off with
    | 0x00 =>
      if s.is750 then busReadError 3
      else return 0x20 ||| bitL m.pd <<< 23 ||| bitL m.pu <<< 22 ||| (s.faultBits (.mba k) &&& 0xEC000000)
    | 0x04 => return bitL m.ibc <<< 4 ||| bitL m.mmm <<< 3 ||| bitL m.ie <<< 2 ||| bitL m.abort <<< 1
    | 0x08 => return m.sr
    | 0x0C => return m.var.setWidth 32
    | 0x10 => return m.bcrBus.setWidth 32 <<< 16 ||| m.bcrMem.setWidth 32
    | 0x14 => do
      if s.is750 ∧ ¬ m.mmm then return 0
      let x ← drawBits 32
      return if m.mmm then m.diagnostic s.is750 x else x
    | 0x18 => if s.is750 then busReadError 3 else if m.busy then return Sparse.get m.map (m.var.toNat / 512) else drawBits 32
    | 0x1C => do
      let x ← drawBits 32
      return if m.busy then m.car s.is750 x else x
    | _ => busReadError 3

/-! ### Starting a transfer -/

/-- A data transfer command reaches the adapter, R1227, R1229, R1457: not while CBHUNG is set (R1222). The V780 loads the
MASSBUS byte counter here, the V750 has done so at the write of BCR (R1224). -/
def Mba.start (m : Mba) (v750 : Bool) (kind : Transfer) : Mba :=
  if v750 && m.sr.getLsbD 23 then m
  else
    { m with
      sr := (if v750 then m.sr &&& ~~~ 0x200F7FFA else m.sr) ||| 0x80000000
      bcrBus := if v750 then m.bcrBus else m.bcrMem, busOut := false, occ := m.simulates 25, kind := kind, first := true
      stop := !v750 && m.abort, buf := [] }.follow

/-- Write of a drive register: the V750 and V780 adapters watch for data transfer commands; one that comes during a
transfer is a programming error and is ignored (R1227, R1457). In maintenance mode the drives are detached, so the write
finds no drive, but the adapter starts the transfer, which DR then clocks; whether it does when BLKSCOM of the V750 blocks the
sending of commands to the MASSBUS is free (DESIGN CHOICE, notes/assumptions/62.md). -/
def mbaWriteDrive (k off : Nat) (w : Long) : M Unit := do
  let s ← get
  let m := s.mba? k
  let kind := s.driveCmds.lookup (driveKey k off * 65536 + (w.setWidth 16 : Word16).toNat)
  if m.busy && kind.isSome then mbaProgrammingError k
  else
    let sent ← if s.is750 && m.simulates 28 then drawBool else pure true
    match kind with
    | some x => if sent then modMba k fun m => m.start s.is750 x
    | none => pure ()
    mbaControlParity k
    if m.mmm || (s.driveRegs.lookup (driveKey k off)).isNone then mbaSet k 0x00040000
    if ¬ m.mmm then send (.driveWrite k ((off - 0x400) / 128) ((off - 0x400) / 4 % 32) (w.setWidth 16))

/-! ### Data transfers, R1229, R1457 -/

/-- After bytes have moved: the transfer is complete when the drive-side counter has come to 0 (which it does not with IBC)
and no data for memory are on their way, R1224, R1229. -/
def Mba.checkEnd (m : Mba) : Mba := if m.busOut && (m.kind != .toMemory || m.buf.isEmpty) then m.finish false else m

/-- The drive side has moved `n` bytes and the buffer is `buf`: an overflow of the count ends the drive's part, or requests an
interrupt with IBC; one that comes while IE is 0 is held until IE is set (R1230 does not say; DESIGN CHOICE, notes/assumptions/62.md). -/
def Mba.busMoved (m : Mba) (n : Nat) (buf : List Byte) : Mba :=
  let wraps := decide (65536 ≤ m.bcrBus.toNat + n)
  { m with
    bcrBus := m.bcrBus + BitVec.ofNat 16 n, buf := buf, occ := true, req := m.req || (m.ibc && wraps)
    busOut := m.busOut || (!m.ibc && wraps) }.checkEnd

/-- The memory side has moved `n` bytes: VAR advances by the unit whatever they are. -/
def Mba.memMoved (m : Mba) (unit n : Nat) (buf : List Byte) : Mba :=
  { m with var := m.var + BitVec.ofNat 17 unit, bcrMem := m.bcrMem + BitVec.ofNat 16 n, buf := buf, first := false }.checkEnd

/-- The first word of drive data that differs from memory data: how many bytes stand before it, and the error bits, SR<9>
for its lower byte and SR<10> for its upper one. -/
def writeCheck : Nat → List Byte → List Byte → Option (Nat × Long)
  | k, x :: x' :: xs, y :: y' :: ys =>
    if x = y ∧ x' = y' then writeCheck (k + 2) xs ys
    else some (k, (if x = y then 0 else 0x200) ||| (if x' = y' then 0 else 0x400))
  | k, [x], y :: _ => if x = y then none else some (k, 0x200)
  | _, _, _ => none

/-- Is a transfer moving data? -/
def Mba.moving (m : Mba) : Bool := m.busy && !m.stop

/-- Drive data arrive: on their way to memory, or to be compared. More than the buffer takes is data late. A write check error
leaves the count of bytes at the word in error, 64_platform_780_adapters.md R1451. -/
def mbaIn (k : Nat) (data : List Byte) : M Unit := do
  let s ← get
  let m := s.mba? k
  let left := if m.ibc then data.length else m.busLeft
  let data := data.take left
  if ¬ m.moving ∨ data = [] then pure ()
  else match m.kind with
    | .toMemory =>
      if 32 < m.buf.length + data.length then mbaError k 0x800
      else modMba k fun m => m.busMoved data.length (m.buf ++ data)
    | .writeCheck =>
      if m.buf.length < data.length then mbaError k 0x800
      else
        match writeCheck 0 data m.buf with
        | some (good, bits) => do
          modMba k fun m => { m with bcrBus := m.bcrBus + BitVec.ofNat 16 good }
          mbaError k bits
        | none => modMba k fun m => m.busMoved data.length (m.buf.drop data.length)
    | .toDrive => pure ()

/-- `n` bytes leave the buffer for the drive; fewer in it is data late. -/
def mbaTake (k n : Nat) : M Unit := do
  let m := (← get).mba? k
  let n := if m.ibc then n else min n m.busLeft
  if ¬ m.moving ∨ m.kind ≠ .toDrive ∨ n = 0 then pure ()
  else if m.buf.length < n then mbaError k 0x800
  else
    if ¬ m.mmm then send (.massbusData k (m.buf.take n))
    modMba k fun m => m.busMoved n (m.buf.drop n)

/-- The error of a memory cycle at `pa`, if it has one: inverted map parity, invalid map entry, no memory (V780: NRCONF and
then IS TIMEOUT), a device that answers ERR (V780). -/
def mbaCycleError (s : State) (m : Mba) (pa : Nat) : Long :=
  if m.simulates 29 then 0x20
  else if (Sparse.get m.map (m.var.toNat / 512)).getLsbD 31 = false then 0x10
  else if ¬ s.hasRam pa then
    if s.is750 then 0x2 else match place s pa with
      | .device d => if noRegister d then 0x40000002 else 0x8
      | _ => 0x40000002
  else 0

/-- A memory cycle that reads `n` bytes at `pa` for the drive: data that cannot be corrected are an error, a reported correction
sets CRD. -/
def mbaFetch (k pa n : Nat) : M Unit := do
  let s ← get
  match ← adapterRead pa n with
  | none => mbaError k (if s.is750 then 0x8 else 0x4)
  | some (v, crd) => do
    if crd then mbaSet k 0x20000000
    modMba k fun m => m.memMoved s.unit n (m.buf ++ (List.range n).map fun j => (v >>> (8 * j)).setWidth 8)

/-- The memory cycle itself: `n` bytes at `pa`. Inverted silo parity fails when the silo is read (V750). -/
def mbaCycle (k pa n : Nat) : M Unit := do
  let s ← get
  let m := s.mba? k
  let e := mbaCycleError s m pa
  if e ≠ 0 then mbaError k e
  else if m.kind = .toMemory then
    if s.is750 && m.simulates 22 then mbaError k 0x4000
    else
      let v := leNat (m.buf.take n)
      if n = 8 then modify fun s => s.storeQuad pa (BitVec.ofNat 64 v) else storeAt pa n (BitVec.ofNat 128 v)
      modMba k fun m => m.memMoved s.unit n (m.buf.drop n)
  else mbaFetch k pa n

/-- One memory cycle of the transfer, R1229, R1457: a longword (V750) or quadword (V780), of which only the bytes of the
transfer are written. It waits for data or room in the buffer, unless `rest` says to write what is there; BLKSCOM of the V780 keeps
it back. -/
def mbaMemory (k : Nat) (rest : Bool) : M Unit := do
  let s ← get
  let m := s.mba? k
  let n := m.cycleBytes s.unit
  let n := if rest then min n m.buf.length else n
  let ready := if m.kind = .toMemory then decide (n ≤ m.buf.length) else decide (m.buf.length + n ≤ 32)
  if ¬ m.moving ∨ n = 0 ∨ ¬ ready ∨ (¬ s.is750 ∧ m.simulates 28) then pure ()
  else mbaCycle k (m.address s.is750 / s.unit * s.unit + m.firstByte s.unit) n

/-- How a transfer ends at the end of block: data for memory that BLKSCOM has kept back are late, 64_platform_780_adapters.md
R1453, and the transfer is aborted. -/
def Mba.endBlock (m : Mba) : Mba :=
  if ¬ m.busy then m
  else if m.kind == .toMemory && !m.buf.isEmpty && !m.stop then { m with sr := m.sr ||| 0x800 }.finish true
  else m.finish m.stop

/-- The drive ends the block. The V750 ends the transfer (R1229), and what the buffer still holds for memory goes there first;
the V780 does so if it is being aborted or no bytes remain, and else goes on with the next sector (64_platform_780_adapters.md
R1452, R1457). -/
def mbaEnd (k : Nat) : M Unit := do
  let s ← get
  let m := s.mba? k
  if m.busy ∧ (s.is750 ∨ m.stop ∨ m.busLeft = 0) then
    if m.kind = .toMemory then (List.range 9).forM fun _ => mbaMemory k true
    modMba k Mba.endBlock

/-- SIMSCLK clocks one word of a transfer. No drive holds the data lines: a word that comes in is free, one that goes out comes
back to the data in buffer (DESIGN CHOICE, notes/assumptions/62.md). Inverted parity shows as the parity errors of R1222. -/
def mbaClock (k : Nat) : M Unit := do
  let s ← get
  let m := s.mba? k
  if m.moving then
    if m.kind = .toDrive then
      modMba k fun m => { m with mdib := BitVec.ofNat 16 (leNat (m.buf.take 2)) }
      if s.is750 && m.simulates 22 then mbaError k 0x4000 else mbaTake k 2
    else
      let x ← drawBits 16
      modMba k fun m => { m with mdib := x }
      if m.simulates 31 then mbaError k 0x40
      else mbaIn k [x.setWidth 8, (x >>> 8).setWidth 8]

/-! ### Writes of the adapter's registers -/

/-- Write of DR in maintenance mode, R1225, 64_platform_780_adapters.md R1453: the lines it simulates. SIMEXC is the V750's. A
rising SIMSCLK clocks one word, a falling SIMEBL ends the block; SIMOCC and SIMSCLK keep a transfer from being a missed one. -/
def mbaDiagnose (k : Nat) (w : Long) : M Unit := do
  let s ← get
  let old := (s.mba? k).dr
  modMba k fun m => { m with dr := w &&& 0xFFE00000, occ := m.occ || w.getLsbD 25 || w.getLsbD 27 }.follow
  if s.is750 && w.getLsbD 21 then mbaError k 0x80
  if w.getLsbD 27 && !old.getLsbD 27 then mbaClock k
  if !w.getLsbD 26 && old.getLsbD 26 then mbaEnd k

/-- Write of an adapter register. -/
def mbaWrite (k off n : Nat) (w : Long) : M Unit := do
  let s ← get
  let m := s.mba? k
  if n ≠ 4 ∨ off % 4 ≠ 0 then busWriteError
  else if 0x400 ≤ off ∧ off < 0x800 then mbaWriteDrive k off w
  else if 0x800 ≤ off ∧ off < 0xC00 then
    if m.busy && !(s.is750 && m.ibc) then mbaProgrammingError k
    else modMba k fun m => { m with map := Sparse.set m.map ((off - 0x800) / 4) (w &&& (if s.is750 then 0x80007FFF else 0x801FFFFF)) }
  else match off with
    | 0x00 =>
      if s.is750 then busWriteError
      else modMba k fun m => { m with pd := m.pd && !w.getLsbD 23, pu := m.pu && !w.getLsbD 22 }
    | 0x04 => mbaWriteCr k w
    | 0x08 => modMba k fun m => { m with sr := m.sr &&& ~~~ (w &&& mbaClearable s.is750) }.follow
    | 0x0C => if m.busy then mbaProgrammingError k else modMba k fun m => { m with var := w.setWidth 17 }
    | 0x10 =>
      if m.busy then mbaProgrammingError k
      else modMba k fun m => { m with bcrBus := w.setWidth 16, bcrMem := w.setWidth 16 }
    | 0x14 => if m.mmm then mbaDiagnose k w else pure ()
    | 0x18 => if s.is750 then busWriteError else pure ()
    | 0x1C => pure ()
    | _ => busWriteError

/-! ### What the drives do -/

/-- What the adapter finds wrong on the MASSBUS, R1222. A transfer is missed only where neither OCC nor SCLK has come since its
command. -/
def mbaFinds (k : Nat) (bits : Long) : M Unit := do
  let s ← get
  let m := s.mba? k
  mbaError k (bits &&& mbaHostBits s.is750 &&& (if m.busy && !m.occ then 0xFFFFFFFF else 0xFFFFFEFF))

/-- A move of the drives of an adapter, which maintenance mode detaches, R1221. -/
def unlessDetached (k : Nat) (x : M Unit) : M Unit := do if ((← get).mba? k).mmm then pure () else x

end Sys2Proof.Machine
end

