-- ==== Sys2Proof/Machine/Unibus750.lean ====
section
/-! DEFINITION. The V750 memory controller registers, boot ROMs and integral UNIBUS adapter (61_platform_750.md R1160 to R1207). -/
namespace Sys2Proof.Machine

/-- CSR2: battery failure and the memory present map, R1163. -/
def State.csr2 (s : State) : Long :=
  bitL s.v750.battFail <<< 16 ||| fieldMask 0 (2 * (s.cfg.memBytes / 0x40000))

/-- Read of CSR0 to CSR2, R1161 to R1163; the check bits of CSR1 are free once an access in ECC Disable Mode has put them there. -/
def csr750Read (k : Nat) : M Long := do
  let s ← get
  match k with
  | 0 => return s.v750.csr0
  | 1 =>
    if s.v750.checkCopied then return putField s.v750.csr1 0 7 (← drawBits 32) else return s.v750.csr1
  | _ => return s.csr2

/-- CSR0 after a write: bits 30 and 29 clear on a 1; bit 31 only if bit 30 is clear or is being cleared, R1161. -/
def csr0Write (old w : Long) : Long :=
  let ok := !old.getLsbD 30 || w.getLsbD 30
  old &&& ~~~ (w &&& (if ok then 0xE0000000 else 0x60000000))

/-- Write of CSR0 to CSR2; CSR2 ignores it. -/
def csr750Write (k : Nat) (w : Long) : M Unit :=
  match k with
  | 0 => modV750 fun v => { v with csr0 := csr0Write v.csr0 w }
  | 1 => modV750 fun v => { v with csr1 := w &&& 0x1EFFFE7F, checkCopied := false }
  | _ => pure ()

/-- A byte of the boot ROMs, R1165. -/
def State.rom750Byte (s : State) (off : Nat) : Byte :=
  match s.cfg.bootRoms.getD (off / 256) none with
  | some bytes => bytes.getD (off % 256) 0
  | none => 0

/-- The register fields of a map register, R1203. -/
def ubMap750Mask : Long := 0x82607FFF

/-! ### Buffered data paths, R1205, R1206 -/

def modBdp (p : Nat) (f : Bdp750 → Bdp750) : M Unit := modV750 fun v => { v with bdps := updAt v.bdps p f }
def State.bdp (s : State) (p : Nat) : Bdp750 := s.v750.bdps.getD p Bdp750.empty

/-- Physical address of the DMA byte at UNIBUS address `ua`. -/
def State.ub750Address (s : State) (ua : Nat) : Nat :=
  field (Sparse.get s.v750.ubMap (ua / 512)) 0 15 * 512 + ua % 512

/-- Write the bytes marked in `mask` of a longword; false where no memory answers. -/
def writeMarked (pa : Nat) (data : Long) (mask : BitVec 4) : M Bool := do
  if ¬ (← get).hasRam pa then return false
  if mask = 0xF then modify fun s => s.storeRam pa 4 (data.setWidth 128)
  else if ← writeTaken pa 1 then
    (List.range 4).forM fun k =>
      if mask.getLsbD k then modify fun s => s.storeRam (pa + k) 1 ((data >>> (8 * k)).setWidth 128) else pure ()
  return true

/-- A read of `n` bytes of one longword of memory for a device: what cannot be corrected comes as it is, with PB, R1164 (a). -/
def ubiRead (pa n : Nat) : M (Octa × Bool) := do
  match ← adapterRead pa n with
  | some (v, _) => return (v, false)
  | none => return ((← get).ramValue pa n, true)

/-- The low `n` bytes of a value, the lowest first. -/
def lowBytes (v : Octa) (n : Nat) : List Byte := (List.range n).map fun j => (v >>> (8 * j)).setWidth 8

/-- Empty path `p`: UNIBUS data it holds go to memory; no response there sets NXM. -/
def bdpFlush (p : Nat) : M Unit := do
  let s ← get
  let b := s.bdp p
  if ¬ b.cd ∧ b.bf ≠ 0 then
    unless ← writeMarked (s.ub750Address (b.addr.toNat * 4)) b.data b.bf do modBdp p fun b => { b with nxm := true }
  modBdp p fun b => { b with cd := false, bf := 0 }

/-- Control and status register of path `p`, R1206. -/
def bdpRead (p : Nat) : M Long := do
  let b := (← get).bdp p
  let x ← drawBits 32
  return bitL (b.nxm || b.uce) <<< 31 ||| bitL b.nxm <<< 30 ||| bitL b.uce <<< 29 ||| (x &&& 0x1FFFFFFE)

/-- Write of the control and status register: a purge first, then NXM and UCE cleared by ones, so that an NXM which the purge finds
is cleared by a one in the same write (R1206 gives no order; DESIGN CHOICE, notes/assumptions/35.md). -/
def bdpWrite (p : Nat) (w : Long) : M Unit := do
  if w.getLsbD 0 then bdpFlush p
  modBdp p fun b => { b with nxm := b.nxm && !w.getLsbD 30, uce := b.uce && !w.getLsbD 29 }

/-- UNIBUS INIT, R1200: the data paths empty, the devices see INIT. -/
def unibusInit750 : M Unit := do
  modV750 fun v => { v with bdps := v.bdps.map fun _ => Bdp750.empty, ubReqs := [], lock := false }
  send (.unibusInit 0)

/-! ### Processor access to the UNIBUS, R1201, R1202 -/

/-- Key of a UNIBUS word in `State.ubWords`. -/
def ubKey (k ua : Nat) : Nat := k * 0x40000 + ua / 2 * 2

/-- The addressed byte or word of a UNIBUS word. -/
def ubPart (w : Word16) (ua n : Nat) : Long := subLong (w.setWidth 32) (if n = 1 then ua % 2 else 0) n

/-- The word a byte write drives on the data lines. -/
def ubDrive (ua n : Nat) (w : Long) : Word16 := if n = 1 ∧ ua % 2 = 1 then w.setWidth 16 <<< 8 else w.setWidth 16

def unibus750Read (ua n : Nat) (u : Use) : M Long := do
  if ¬ (n = 1 ∨ (n = 2 ∧ ua % 2 = 0)) then refuse .ioSpaceSize
  let s ← get
  send (.unibusRead 0 (if u = .modify ∨ u = .interlocked then .datip else .dati) ua)
  match s.ubWords.lookup (ubKey 0 ua) with
  | none => busReadError 3
  | some r => if r.pb then busReadError 2 else return ubPart r.data ua n

/-- A device that asserts PB makes a machine check of a write too, R1202. -/
def unibus750Write (ua n : Nat) (w : Long) : M Unit := do
  if ¬ (n = 1 ∨ (n = 2 ∧ ua % 2 = 0)) then refuse .ioSpaceSize
  let s ← get
  send (.unibusWrite 0 (if n = 1 then .datob else .dato) ua (ubDrive ua n w))
  match s.ubWords.lookup (ubKey 0 ua) with
  | none => busWriteError
  | some r => if r.pb then busReadError 2 else pure ()

/-! ### DMA, R1203 to R1205 -/

/-- The bytes a cycle moves: UNIBUS address and number. -/
def ubCycleBytes (c : UbCycle) (ua : Nat) : Nat × Nat :=
  match c with
  | .datob => (ua, 1)
  | _ => (ua / 2 * 2, 2)

/-- The data byte `k` of a write cycle. -/
def ubCycleByte (c : UbCycle) (ua k : Nat) (data : Word16) : Byte :=
  match c with
  | .datob => if ua % 2 = 1 then (data >>> 8).setWidth 8 else data.setWidth 8
  | _ => (data >>> (8 * k)).setWidth 8

/-- A read of `n` bytes of the longword at `ua` (after the offset) through buffered path `p`; none where no memory answers
for it or for the data written out before it. An uncorrectable error sets UCE and asserts PB once, R1206. -/
def bdpReadPart (p ua n : Nat) : M (Option (List Byte × Bool)) := do
  let l : Word16 := BitVec.ofNat 16 (ua / 4)
  if ¬ ((← get).bdp p).cd then bdpFlush p
  let s ← get
  let b := s.bdp p
  let hit := b.cd && b.addr == l
  let pa := s.ub750Address (ua / 4 * 4)
  if b.nxm then return none
  if ¬ hit ∧ ¬ s.hasRam pa then
    modBdp p fun b => { b with nxm := true }
    return none
  let (x, pb) ← if hit then pure (b.data.setWidth 128, false) else ubiRead pa 4
  if ¬ hit then
    modBdp p fun b => { b with data := x.setWidth 32, addr := l, cd := true, bf := 0, uce := b.uce || pb }
  return some (lowBytes (x >>> (8 * (ua % 4))) n, pb)

/-- A write of bytes of the longword at `ua` (after the offset) into buffered path `p`; `apart` forces the address match to
fail. False where no memory answers for what had to be written out. -/
def bdpWritePart (p ua : Nat) (bytes : List Byte) (apart : Bool) : M Bool := do
  let l : Word16 := BitVec.ofNat 16 (ua / 4)
  let b := (← get).bdp p
  if ¬ b.cd ∧ b.bf ≠ 0 ∧ (apart ∨ b.addr ≠ l) then bdpFlush p
  if ((← get).bdp p).nxm then return false
  modBdp p fun b =>
    { b with
      bf := (if b.cd then 0 else b.bf) ||| ((1#4 <<< bytes.length) - 1#4) <<< (ua % 4)
      cd := false
      addr := l
      data := putField b.data (8 * (ua % 4)) (8 * bytes.length) (BitVec.ofNat 32 (leNat bytes)) }
  if ((← get).bdp p).bf = 0xF then bdpFlush p
  return !((← get).bdp p).nxm

/-- A read of `n` bytes of one longword through the direct data path; an uncorrectable error asserts PB. -/
def directReadPart (ua n : Nat) : M (Option (List Byte × Bool)) := do
  let s ← get
  let pa := s.ub750Address ua
  if ¬ s.hasRam pa then return none
  let (x, pb) ← ubiRead pa n
  return some (lowBytes x n, pb)

/-- A write through the direct data path. -/
def directWritePart (ua : Nat) (bytes : List Byte) : M Bool := do
  let pa := (← get).ub750Address ua
  if ¬ (← get).hasRam pa then return false
  storeAt pa bytes.length (BitVec.ofNat 128 (leNat bytes))
  return true

/-- The valid bit and data path of the map entry of the page a byte falls in (93_implementation_defined.md I33). -/
def State.ub750Path (s : State) (ua : Nat) : Option Nat :=
  let m := Sparse.get s.v750.ubMap (ua / 512)
  if m.getLsbD 31 then some (field m 21 2) else none

/-- The parts a cycle of `n` bytes at `ua` (after the offset) is made in: a word that lies in two longwords is two bytes. -/
def dmaParts (ua n : Nat) : List (Nat × Nat) :=
  if n = 2 ∧ ua % 4 = 3 then [(ua, 1), ((ua + 1) % 0x40000, 1)] else [(ua, n)]

def dmaReadParts : List (Nat × Nat) → M (Option (List Byte × Bool))
  | [] => pure (some ([], false))
  | (ua, n) :: rest => do
    let x ← match (← get).ub750Path ua with
      | none => pure none
      | some 0 => directReadPart ua n
      | some (p + 1) => if ((← get).bdp p).nxm then pure none else bdpReadPart p ua n
    match x with
    | none => return none
    | some (bytes, pb) => do
      match ← dmaReadParts rest with
      | none => return none
      | some (more, pb') => return some (bytes ++ more, pb || pb')

def dmaWriteParts (apart : Bool) (bytes : List Byte) : List (Nat × Nat) → M Bool
  | [] => pure true
  | (ua, n) :: rest => do
    let ok ← match (← get).ub750Path ua with
      | none => pure false
      | some 0 => directWritePart ua (bytes.take n)
      | some (p + 1) => if ((← get).bdp p).nxm then pure false else bdpWritePart p ua (bytes.take n) apart
    return ok && (← dmaWriteParts apart (bytes.drop n) rest)

/-- One DMA cycle of a UNIBUS device at `ua`: what it gets, or no response. The entry of its own page says whether the
adapter takes the cycle and gives the offset; each byte then goes by the entry of the page it falls in (I33). A DATIP
through the direct path waits while the memory is locked. -/
def dma750 (c : UbCycle) (ua : Nat) (data : Word16) : M (Option Reply) := do
  let s ← get
  let m := Sparse.get s.v750.ubMap (ua / 512)
  if m.getLsbD 31 = false then return none
  let (u, n) := ubCycleBytes c ua
  let u := (u + (if m.getLsbD 25 then 1 else 0)) % 0x40000
  let parts := dmaParts u n
  let direct := field m 21 2 == 0
  match c with
  | .dati | .datip =>
    if c = .datip ∧ direct ∧ s.v750.lock then throw .retry
    match ← dmaReadParts parts with
    | none => return none
    | some (bytes, pb) =>
      if c = .datip ∧ direct then modV750 fun v => { v with lock := true }
      return some ⟨BitVec.ofNat 16 (leNat bytes), pb⟩
  | .dato | .datob =>
    let bytes := (List.range n).map fun k => ubCycleByte c ua k data
    let ok ← dmaWriteParts (decide (c = .datob ∧ u / 4 ≠ ua / 4)) bytes parts
    if direct then modV750 fun v => { v with lock := false }
    return if ok then some ⟨0, false⟩ else none

end Sys2Proof.Machine
end

