-- ==== Sys2Proof/Machine/Unibus780.lean ====
section
/-! DEFINITION. The V780 UNIBUS adapters (63_platform_780_uba.md R1500 to R1561) and memory controllers (62_platform_780.md R1406 to R1412). -/
namespace Sys2Proof.Machine

/-! ### Adapter state -/

/-- CNFGR, R1511, R1512. -/
def State.cnfgr (s : State) (k : Nat) : Long :=
  let a := s.uba? k
  s.faultBits (.uba k) ||| bitL a.adPdn <<< 23 ||| bitL a.adPup <<< 22 ||| bitL a.ubInit <<< 18 ||| bitL a.ubPdn <<< 17 ||| bitL a.ubic <<< 16
    ||| BitVec.ofNat 32 (0x28 + s.cfg.ubaSpaces.getD k 0)

/-- The adapter's own interrupt condition, R1553. -/
def Uba.adapterIntr (a : Uba) : Bool :=
  (a.cr.getLsbD 2 && (a.adPdn || a.adPup || a.ubInit || a.ubPdn || a.ubic))
    || (a.cr.getLsbD 4 && a.sr &&& 0x6F8 != 0)
    || (a.cr.getLsbD 3 && a.sr &&& 3 != 0)

/-- A DMA error with bit `bit` of UBASR on map register `m`, R1517. -/
def ubaDmaError (k bit m : Nat) : M Unit :=
  modUba k fun a =>
    if a.sr &&& 0x6F8 != 0 then { a with sr := a.sr ||| 4 }
    else { a with sr := a.sr ||| (1#32 <<< bit), fmer := BitVec.ofNat 9 m }

/-- A UNIBUS power fail sequence starts, R1556: its end is the host event unibusReady. -/
def ubaPowerSequence (k : Nat) : M Unit := do
  modUba k fun a => { a with ubPdn := true, ubInit := true, ubic := false, reqs := [], initPending := true }
  send (.unibusInit k)

/-- The interlock a device holds through adapter `k` is released. -/
def ubaReleaseInterlock (k : Nat) : M Unit := do
  if ((← get).uba? k).holds then modV780 fun v => { v with interlock := false }
  modUba k fun a => { a with datip := false, holds := false }

/-- Adapter INIT, R1515. -/
def ubaAdapterInit (k : Nat) : M Unit := do
  ubaReleaseInterlock k
  modUba k fun a =>
    { a with
      cr := 0, sr := 0, dcr := 0, lock := false, map := []
      brsvr := [0, 0, 0, 0], brrvr := [0, 0, 0, 0], paths := List.replicate 16 Bdp780.empty }
  ubaPowerSequence k

def State.path (s : State) (k p : Nat) : Bdp780 := (s.uba? k).paths.getD p Bdp780.empty
def modPath (k p : Nat) (f : Bdp780 → Bdp780) : M Unit := modUba k fun a => { a with paths := updAt a.paths p f }

/-- Map register of UNIBUS address `ua`. -/
def State.ubaMap (s : State) (k ua : Nat) : Long := Sparse.get (s.uba? k).map (ua / 512)

/-! ### Translation and the buffered paths, R1531 to R1543 -/

/-- The physical page a map register names, as a byte address. -/
def mapPage (m : Long) : Nat := field m 0 21 * 512

/-- Offset a cycle through path `p` adds, R1542: none on the direct path and for I/O addresses. -/
def mapOffset (m : Long) (p : Nat) : Nat := if p ≠ 0 ∧ m.getLsbD 25 ∧ ¬ m.getLsbD 20 then 1 else 0

/-- A byte replaced in a quadword. -/
def putByte64 (q : Quad) (j : Nat) (x : Byte) : Quad :=
  (q &&& ~~~ (0xFF#64 <<< (8 * j))) ||| (x.setWidth 64 <<< (8 * j))

/-- Byte `j` of a quadword. -/
def byte64 (q : Quad) (j : Nat) : Byte := (q >>> (8 * j)).setWidth 8

/-- One bus cycle that stores the bytes of `data` that `mask` marks to the quadword at `pa`: the UBASR bit of its error,
CXTO where nothing answers and CXTER where a device does. -/
def storeMasked (pa : Nat) (data : Quad) (mask : Byte) : M (Option Nat) := do
  match place (← get) pa with
  | .ram => do
    if mask = 0xFF then modify fun s => s.storeQuad pa data
    else if (← forcedCycle pa 8) ≠ .uncorrectable then
      (List.range 8).forM fun j =>
        if mask.getLsbD j then modify fun s => s.storeRam (pa + j) 1 ((byte64 data j).setWidth 128) else pure ()
    return none
  | .device d => return some (if noRegister d then 6 else 7)
  | .nothing => return some 6

/-- Is the number of ones even? Then a defeated parity bit makes the byte fail, R1518. -/
def evenOnes (b : Byte) : Bool := !((List.range 8).foldl (fun p i => p ^^ b.getLsbD i) false)

/-- Do bytes `lo` to `lo + 1` of a map register fail with DMP set? -/
def Uba.mapFails (a : Uba) (m : Long) (lo : Nat) : Bool :=
  a.dcr.getLsbD 1 && (evenOnes ((m >>> (8 * lo)).setWidth 8) || evenOnes ((m >>> (8 * (lo + 1))).setWidth 8))

/-- Do the marked bytes of a buffer fail with DDPP set? -/
def Uba.dataFails (a : Uba) (data : Quad) (mask : Byte) : Bool :=
  a.dcr.getLsbD 0 && (List.range 8).any fun j => mask.getLsbD j && evenOnes (byte64 data j)

/-- Is the cycle at `ua` recognised? R1533: not the device registers, not a disabled map register. -/
def State.ubaRecognised (s : State) (k ua : Nat) : Bool :=
  decide (ua / 512 < 496 ∧ 16 * field (s.uba? k).cr 26 5 ≤ ua / 512)

/-- An error of a buffered path's write, purge or data parity: recorded, and BTE set, R1546. -/
def pathError (k p bit ua : Nat) : M Unit := do
  ubaDmaError k bit (ua / 512)
  modPath k p fun b => { b with bte := true }

/-- Does the buffered address fail with DDPP set? A purge fetches it, R1546. -/
def Uba.addressFails (a : Uba) (buba : Word16) : Bool :=
  a.dcr.getLsbD 0 && (evenOnes (buba.setWidth 8) || evenOnes ((buba >>> 8).setWidth 8))

/-- How an adapter writes the marked bytes of a longword of I/O space: the UBASR bit of the error (Devices.lean). -/
abbrev IoWrite := Nat → Long → BitVec 4 → M (Option Nat)

/-- The longwords of a buffer at the quadword `pa` of I/O space, each with its marked bytes, the lower one first, R1540. -/
def purgeLongwords (io : IoWrite) (k p ua pa : Nat) (b : Bdp780) : List Nat → M Unit
  | [] => pure ()
  | j :: rest => do
    let mask : BitVec 4 := (b.bs >>> j).setWidth 4
    if mask ≠ 0 then
      match ← io (pa + j) ((b.data >>> (8 * j)).setWidth 32) mask with
      | some bit => pathError k p bit ua
      | none => pure ()
    purgeLongwords io k p ua pa b rest

/-- The device data `b` that a purge has taken out of path `p` go to memory as a quadword, or to I/O space as longwords (R1540):
the buffered address goes through R1531 and R1533. -/
def purgeWrite (io : IoWrite) (k p : Nat) (b : Bdp780) : M Unit := do
  let s ← get
  let a := s.uba? k
  let ua := b.buba.toNat * 4
  let m := s.ubaMap k ua
  if a.addressFails b.buba then pathError k p 5 ua
  else if ¬ s.ubaRecognised k ua then pure ()
  else if a.mapFails m 2 || a.mapFails m 0 then pathError k p 3 ua
  else if ¬ m.getLsbD 31 then pathError k p 4 ua
  else if a.dataFails b.data b.bs then pathError k p 5 ua
  else if m.getLsbD 20 then purgeLongwords io k p ua ((mapPage m + ua % 512) / 8 * 8) b [0, 4]
  else match ← storeMasked ((mapPage m + ua % 512) / 8 * 8) b.data b.bs with
    | some bit => pathError k p bit ua
    | none => pure ()

/-- Purge of path `p`, R1543. It leaves the path in its initialized state (R1571: the register reads 0) but for BTE. -/
def ubaPurge (io : IoWrite) (k p : Nat) : M Unit := do
  let b := (← get).path k p
  if p ≠ 0 ∧ b.bne then
    modPath k p fun b => { Bdp780.empty with bte := b.bte }
    if b.dpf then purgeWrite io k p b
  else modPath k p fun b => { b with block := false, wild := false, seen := [] }

/-! ### The adapter's registers, R1510 to R1530 -/

/-- Data path register, R1523. -/
def Bdp780.register (b : Bdp780) : Long :=
  bitL b.bne <<< 31 ||| bitL b.bte <<< 30 ||| bitL b.dpf <<< 29 ||| b.bs.setWidth 32 <<< 16 ||| b.buba.setWidth 32

/-- Read of BRRVR4 + i: it grants a pending UNIBUS request and delivers its vector, R1550. -/
def brrvrRead (k i : Nat) : M Long := do
  let s ← get
  let a := s.uba? k
  let own : Long := if a.adapterIntr ∧ s.cfg.ubaReqOf k = i + 4 then 0x80000000 else 0
  let held := a.reqs.filter fun r => r.1 == i + 4
  if ¬ a.sr.getLsbD (24 + i) ∧ ¬ a.initPending ∧ a.cr.getLsbD 6 ∧ ¬ a.dcr.getLsbD 2 then
    match ← pick held with
    | some r =>
      modUba k fun a => { a with reqs := a.reqs.erase r }
      send (.unibusGrant k (i + 4) r.2)
      return own ||| r.2.setWidth 32
    | none => return own
  else
    modUba k fun a => { a with brrvr := a.brrvr.set i 0, sr := a.sr &&& ~~~ (1#32 <<< (24 + i)) }
    return own ||| (a.brrvr.getD i 0).setWidth 32

/-- The 32-bit value of the register at `off`. -/
def ubaRegister (k off : Nat) : M Long := do
  let s ← get
  let a := s.uba? k
  if 0x800 ≤ off ∧ off < 0xFC0 then return Sparse.get a.map ((off - 0x800) / 4)
  else if 0x40 ≤ off ∧ off < 0x80 then
    return if off = 0x40 then 0 else (s.path k ((off - 0x40) / 4)).register
  else if 0x30 ≤ off ∧ off < 0x40 then brrvrRead k ((off - 0x30) / 4)
  else if 0x20 ≤ off ∧ off < 0x30 then return (a.brsvr.getD ((off - 0x20) / 4) 0).setWidth 32
  else match off with
    | 0x00 => return s.cnfgr k
    | 0x04 => return a.cr
    | 0x08 => return a.sr
    | 0x0C => return a.dcr.setWidth 32 <<< 28 ||| 0x08000000 ||| (s.cnfgr k &&& 0x00FFFFFF)
    | 0x10 | 0x18 => return a.fmer.setWidth 32
    | 0x14 | 0x1C => return a.fubar.setWidth 32
    | _ => busReadError 3

/-- Read of `n` bytes of one register, whatever they are, R1510. -/
def ubaRead (k off n : Nat) : M Long := do return subLong (← ubaRegister k (off / 4 * 4)) (off % 4) n

/-- Write of UBACR, R1513. -/
def ubaWriteCr (k : Nat) (w : Long) : M Unit := do
  if w.getLsbD 0 then ubaAdapterInit k
  else
    let old := ((← get).uba? k).cr
    modUba k fun a => { a with cr := w &&& 0x7C00007E }
    if w.getLsbD 1 ∧ ¬ old.getLsbD 1 then ubaPowerSequence k

/-- Write of a register: longwords only, anything else and the read-only registers get ERR. A write of a data path register
purges first and then clears BTE, so that the BTE of a purge that fails is cleared by a one in the same write (R1523 gives no
order; DESIGN CHOICE, notes/assumptions/64.md). -/
def ubaWrite (io : IoWrite) (k off n : Nat) (w : Long) : M Unit := do
  if n ≠ 4 ∨ off % 4 ≠ 0 then busWriteError
  else if 0x800 ≤ off ∧ off < 0xFC0 then modUba k fun a => { a with map := Sparse.set a.map ((off - 0x800) / 4) w }
  else if 0x40 ≤ off ∧ off < 0x80 then do
    let p := (off - 0x40) / 4
    if w.getLsbD 31 then ubaPurge io k p
    if w.getLsbD 30 then modPath k p fun b => { b with bte := false }
  else if 0x20 ≤ off ∧ off < 0x30 then
    modUba k fun a => { a with brsvr := a.brsvr.set ((off - 0x20) / 4) (w.setWidth 16) }
  else match off with
    | 0x00 => modUba k fun a =>
        { a with
          adPdn := a.adPdn && !w.getLsbD 23, adPup := a.adPup && !w.getLsbD 22, ubInit := a.ubInit && !w.getLsbD 18
          ubPdn := a.ubPdn && !w.getLsbD 17, ubic := a.ubic && !w.getLsbD 16 }
    | 0x04 => ubaWriteCr k w
    | 0x08 => modUba k fun a => { a with sr := a.sr &&& ~~~ (w &&& 0x7FF) }
    | 0x0C => modUba k fun a => { a with dcr := (w >>> 28).setWidth 4 }
    | _ => busWriteError

/-! ### Processor access to UNIBUS space, R1560, R1561 -/

/-- Is a reference to `n` bytes of one longword a UNIBUS cycle? Any other function and mask is answered ERR. -/
def ubaCycle (ua n : Nat) : Bool := n == 1 || (n == 2 && ua % 2 == 0)

/-- FUBAR follows every transfer until an error locks it, R1520. -/
def ubaFollow (k ua : Nat) : M Unit :=
  modUba k fun a => if a.sr &&& 3 = 0 then { a with fubar := BitVec.ofNat 16 (ua / 4) } else a

/-- No slave answered, R1560 (b). -/
def ubaNoSlave (k : Nat) : M Unit := modUba k fun a => { a with sr := a.sr ||| 1 }

/-- One read cycle. -/
def ubaReadCycle (k ua n : Nat) (u : Use) : M Long := do
  let s ← get
  ubaFollow k ua
  if u = .interlocked then modUba k fun a => { a with lock := true }
  send (.unibusRead k (if u = .interlocked then .datip else .dati) (ua / 2 * 2))
  match s.ubWords.lookup (ubKey k ua) with
  | none => do ubaNoSlave k; return 0
  | some r => if r.pb then busReadError 2 else return ubPart r.data ua n

/-- One write cycle. An interlock write that comes without an interlock read is an interlock sequence fault, R1511, and like
that of memory (62_platform_780.md R1405) it is not executed (DESIGN CHOICE, notes/assumptions/36.md). -/
def ubaWriteCycle (k ua n : Nat) (w : Long) (u : Use) : M Unit := do
  let s ← get
  if u = .interlocked && !(s.uba? k).lock then raiseFault (s.nexusTr (.uba k)) 4
  else
    ubaFollow k ua
    if u = .interlocked then modUba k fun a => { a with lock := false }
    send (.unibusWrite k (if n = 1 then .datob else .dato) ua (ubDrive ua n w))
    if (s.ubWords.lookup (ubKey k ua)).isNone then ubaNoSlave k

/-- A reference within one longword. UNIBUS space may not be touched until its initialization has ended (92_eei_decisions.md
D58): that is the pending flag of R1590, since software may clear UBIC itself when it has seen it. -/
def unibus780Read (k ua n : Nat) (u : Use) : M Long := do
  if ((← get).uba? k).initPending then refuse .adapterInitializing
  if ubaCycle ua n then ubaReadCycle k ua n u else busReadError 3

def unibus780Write (k ua n : Nat) (w : Long) (u : Use) : M Unit := do
  if ((← get).uba? k).initPending then refuse .adapterInitializing
  if ubaCycle ua n then ubaWriteCycle k ua n w u else busWriteError

/-! ### Memory controllers, 62_platform_780.md R1406 to R1412 -/

/-- Size field of register A: units of 64K bytes, less one; four bits of it with 4K chips, R1407. -/
def State.memSizeField (s : State) (k : Nat) : Nat :=
  (s.cfg.ctlUnits.getD k 1 - 1) % (if s.cfg.memType = 1 then 16 else 64)

/-- Register B <13:12>. -/
def MemStatus.bits : MemStatus → Long
  | .initializing => 0
  | .saved => 0x1000
  | .cold => 0x3000

/-- Registers A, B and C: longwords only. The refresh bit of B is free, R1408; the rest of R1415. -/
def memCtlRead (k off n : Nat) : M Long := do
  if n ≠ 4 ∨ off % 4 ≠ 0 then busReadError 3
  else
    let s ← get
    let c := s.memCtl? k
    match off with
    | 0 => return s.faultBits (.memory k) ||| bitL c.pwrDown <<< 23 ||| bitL c.pwrUp <<< 22
        ||| BitVec.ofNat 32 (s.memSizeField k) <<< 9 ||| s.cfg.memType.setWidth 32 <<< 3 ||| bitL c.interleave
    | 4 => do
      let x ← drawBits 32
      return (x &&& 0x00000400) ||| c.start.setWidth 32 <<< 15 ||| c.status.bits
        ||| bitL c.forceErr <<< 9 ||| bitL c.eccBypass <<< 8 ||| c.subst.setWidth 32
    | _ => return c.regC

/-- Writes; a change of the interleave bit or the starting address leaves all memory unspecified, R1411. The diagnostic
bits of B act at each memory cycle (Bus.lean). -/
def memCtlWrite (k off n : Nat) (w : Long) : M Unit := do
  if n ≠ 4 ∨ off % 4 ≠ 0 then busWriteError
  else
    let c := (← get).memCtl? k
    match off with
    | 0 =>
      modMemCtl k fun c => { c with pwrDown := c.pwrDown && !w.getLsbD 23, pwrUp := c.pwrUp && !w.getLsbD 22 }
      if w.getLsbD 8 ∧ w.getLsbD 0 ≠ c.interleave then
        modMemCtl k fun c => { c with interleave := w.getLsbD 0 }
        freeAllRam
    | 4 =>
      modMemCtl k fun c => { c with subst := w.setWidth 8, forceErr := w.getLsbD 9, eccBypass := w.getLsbD 8 }
      let start : BitVec 13 := w.extractLsb' 15 13
      if w.getLsbD 14 ∧ start ≠ c.start then
        modMemCtl k fun c => { c with start := start }
        freeAllRam
    | _ => modMemCtl k fun c =>
        { c with regC := putBit (c.regC &&& ~~~ (w &&& 0x30000000)) 30 (w.getLsbD 30) }

end Sys2Proof.Machine
end

