-- ==== Sys2Proof/Machine/Devices.lean ====
section
/-! DEFINITION. Physical reads and writes: main memory, device registers and addresses where nothing answers (20_memory.md R281, R290, R291). -/
namespace Sys2Proof.Machine

/-- A 32-bit register that takes aligned longword references only; others are refused (R290 (2)). -/
def longwordOnly {α : Type} (pa n : Nat) (x : M α) : M α :=
  if n = 4 ∧ pa % 4 = 0 then x else refuse .ioSpaceSize

/-- Naturally aligned references of at most four bytes, for ROMs. -/
def alignedOnly {α : Type} (pa n : Nat) (x : M α) : M α :=
  if n ≤ 4 ∧ pa % n = 0 then x else refuse .ioSpaceSize

/-- `n` bytes of one of a list of longwords. -/
def longsPart (l : List Long) (off n : Nat) : Long := subLong (l.getD (off / 4) 0) (off % 4) n

/-- Read of a device: on the V780 of bytes within one longword. -/
def readDevice (d : Device) (pa n : Nat) (u : Use) : M Long := do
  let s ← get
  match d with
  | .memoryCsr750 k => longwordOnly pa n (csr750Read k)
  | .rom750 off => alignedOnly pa n (return BitVec.ofNat 32 (leNat ((List.range n).map fun k => s.rom750Byte (off + k))))
  | .bdp750 p => longwordOnly pa n (bdpRead p)
  | .ubMap750 i => longwordOnly pa n (return Sparse.get s.v750.ubMap i)
  | .memory780 k off => memCtlRead k off n
  | .rom780 off => return longsPart (s.cfg.bootRom780.getD []) off n
  | .uba k off => ubaRead k off n
  | .mba k off => mbaRead k off n
  | .unibus k ua => if s.is750 then unibus750Read ua n u else unibus780Read k ua n u
  | .unknown => refuse .unknownAdapter

/-- Write of a device; `io` is what a purge of a data path that it starts writes with. -/
def writeDeviceBy (io : IoWrite) (d : Device) (pa n : Nat) (w : Long) (u : Use) : M Unit := do
  let s ← get
  match d with
  | .memoryCsr750 k => longwordOnly pa n (csr750Write k w)
  | .rom750 _ => busWriteError
  | .bdp750 p => longwordOnly pa n (bdpWrite p w)
  -- any other write leaves the entry UNPREDICTABLE and is refused, 93_implementation_defined.md I33
  | .ubMap750 i => longwordOnly pa n (modV750 fun v => { v with ubMap := Sparse.set v.ubMap i (w &&& ubMap750Mask) })
  | .memory780 k off => memCtlWrite k off n w
  | .rom780 _ => busWriteError
  | .uba k off => ubaWrite io k off n w
  | .mba k off => mbaWrite k off n w
  | .unibus k ua => if s.is750 then unibus750Write ua n w else unibus780Write k ua n w u
  | .unknown => refuse .unknownAdapter

/-! ### Writes of an adapter on the SBI -/

/-- Write to a device: the processor's own write error request is not meant by it. CXTO where no register answers, CXTER for an
ERR confirmation, R1516. -/
def sbiDeviceWriteBy (io : IoWrite) (d : Device) (u : Use) (pa n : Nat) (v : Long) : M (Option Nat) := do
  if noRegister d then return some 6
  let p := (← get).pend
  modPend fun p => { p with memWrite := false }
  writeDeviceBy io d pa n v u
  let failed := (← get).pend.memWrite
  modPend fun q => { q with memWrite := p.memWrite, doubleWrite := p.doubleWrite }
  return if failed then some 7 else none

/-- Write of `n` bytes at `pa` by an adapter: the UBASR bit of the error. -/
def sbiWriteBy (io : IoWrite) (u : Use) (pa n : Nat) (v : Long) : M (Option Nat) := do
  match place (← get) pa with
  | .ram => do
    storeAt pa n (v.setWidth 128)
    return none
  | .device d => sbiDeviceWriteBy io d u pa n v
  | .nothing => return some 6

/-- The bytes of a longword that a mask marks, if they are consecutive: the first one and how many. -/
def maskRun (mask : BitVec 4) : Option (Nat × Nat) :=
  match mask.toNat with
  | 1 => some (0, 1)
  | 2 => some (1, 1)
  | 3 => some (0, 2)
  | 4 => some (2, 1)
  | 6 => some (1, 2)
  | 7 => some (0, 3)
  | 8 => some (3, 1)
  | 12 => some (2, 2)
  | 14 => some (1, 3)
  | 15 => some (0, 4)
  | _ => none

/-- Write the marked bytes of a longword to I/O space: what takes the mask and what answers ERR is the responder's
(R1510, R1561); a mask with a gap no responder takes. -/
def sbiWriteMaskedBy (io : IoWrite) (base : Nat) (data : Long) (mask : BitVec 4) : M (Option Nat) := do
  match place (← get) base, maskRun mask with
  | .device d, none => return some (if noRegister d then 6 else 7)
  | .nothing, _ => return some 6
  | _, some (j, n) => sbiWriteBy io .data (base + j) n (data >>> (8 * j))
  | .ram, none => return none

/-- What a purge writes to I/O space with. The register it reaches may start a purge of another path; since a path is empty
before its purge writes, no more than the 60 buffered paths of four adapters follow each other, and the 0 is never reached. -/
def purgeOut : Nat → IoWrite
  | 0, _, _, _ => pure (some 6)
  | more + 1, base, data, mask => sbiWriteMaskedBy (purgeOut more) base data mask

/-- Write of a device. -/
def writeDevice (d : Device) (pa n : Nat) (w : Long) (u : Use) : M Unit := writeDeviceBy (purgeOut 64) d pa n w u

/-- Write of `n` bytes at `pa` by an adapter. -/
def sbiWrite (u : Use) (pa n : Nat) (v : Long) : M (Option Nat) := sbiWriteBy (purgeOut 64) u pa n v

/-- Write of the marked bytes of a longword to I/O space by an adapter. -/
def sbiWriteMasked (base : Nat) (data : Long) (mask : BitVec 4) : M (Option Nat) := sbiWriteMaskedBy (purgeOut 64) base data mask

/-! ### References of the processor -/

/-- May a reference of this kind reach I/O space? 20_memory.md R290 (4), (5): interlocked ones only UNIBUS space and
the registers of a V780 UNIBUS adapter (63_platform_780_uba.md R1510). A page table entry is delivered to whatever device
there is, as one read or write (R281). -/
def ioAllowed (d : Device) (u : Use) : Bool :=
  match u, d with
  | .other, _ => false
  | .interlocked, .unibus _ _ => true
  | .interlocked, .uba _ _ => true
  | .interlocked, _ => false
  | _, _ => true

/-- A read of main memory with substituted check bits, 61_platform_750.md R1162, 62_platform_780.md R1408. -/
def forcedRead (pa n : Nat) : M Octa := do
  let s ← get
  let f ← forcedCycle pa n
  if s.eccBypassed pa then return s.ramValue pa n
  if f = .uncorrectable then loggedError
  forcedData f n (s.ramValue pa n)

/-- A read of parts of main memory, 20_memory.md R268: each is a cycle of its own unit of check bits, whose error is
logged at its own address (62_platform_780.md R1409). -/
def ramReadParts : List (Nat × Nat) → M Octa
  | [] => pure 0
  | (pa, n) :: rest => do
    let s ← get
    if s.unreadable pa n then uncorrectable pa
    if s.spoiled pa n then logUncorrectable pa
    let lo ← if s.forced pa n then forcedRead pa n else pure (s.ramValue pa n)
    let hi ← ramReadParts rest
    return lo ||| hi <<< (8 * n)

/-- A read of main memory, 20_memory.md R268. -/
def ramRead (pa n : Nat) : M Octa := do
  let s ← get
  if s.bad pa n || s.eccDisabled pa then
    modify fun s => (s.answered pa n).noteEcc pa
    ramReadParts (unitParts s.unit n pa n)
  else return s.ramValue pa n

/-- Bytes up to the end of a longword. -/
def leftInLongword (pa : Nat) : Nat := 4 - pa % 4

/-- A read of bytes that one device, memory or nothing answers. -/
def physReadPart (u : Use) (pa n : Nat) : M Octa := do
  match place (← get) pa with
  | .ram => ramRead pa n
  | .device d => if ioAllowed d u then return (← readDevice d pa n u).setWidth 128 else refuse .ioSpaceReference
  | .nothing => busReadError 3

/-- A write of such bytes. -/
def physWritePart (u : Use) (pa n : Nat) (v : Octa) : M Unit := do
  match place (← get) pa with
  | .ram => storeAt pa n v
  | .device d => if ioAllowed d u then writeDevice d pa n (v.setWidth 32) u else refuse .ioSpaceReference
  | .nothing => busWriteError

/-- Does a reference to a device leave its longword? The V780 then makes two of it, the lower one first, each of which is
judged by what answers it (20_memory.md R285); the V750 makes none (R290 (2)). -/
def splits (s : State) (pa n : Nat) : Bool :=
  match place s pa with
  | .device _ => !s.is750 && decide (leftInLongword pa < n ∧ n ≤ 4)
  | _ => false

/-- `n` bytes at `pa` without another agent between them, all in one page. -/
def physReadWhole (u : Use) (pa n : Nat) : M Octa := do
  if splits (← get) pa n then
    let lo ← physReadPart u pa (leftInLongword pa)
    let hi ← physReadPart u (pa + leftInLongword pa) (n - leftInLongword pa)
    return lo ||| hi <<< (8 * leftInLongword pa)
  else physReadPart u pa n

/-- The low `n` bytes of `v`, all in one page. -/
def physWriteWhole (u : Use) (pa n : Nat) (v : Octa) : M Unit := do
  if splits (← get) pa n then
    physWritePart u pa (leftInLongword pa) v
    physWritePart u (pa + leftInLongword pa) (n - leftInLongword pa) (v >>> (8 * leftInLongword pa))
  else physWritePart u pa n v

/-- Are check bits substituted somewhere? Then the free values of an instruction's bytes come after some of their own. -/
def State.forcing (s : State) : Bool :=
  if s.is750 then s.v750.csr1.getLsbD 26 && s.v750.csr1.getLsbD 27 else s.v780.mems.any fun c => c.forceErr

/-- The state after the free values of `n` bytes. -/
def State.drawn (s : State) (n : Nat) : State := if s.forcing then { s with draw := s.draw + 2 * n } else s

/-- What substituted check bits make of the read of an instruction byte: free value `k` of the instruction decides, R1408. -/
def State.fetchForced (s : State) (k pa : Nat) : Forced :=
  if s.forcedAt pa then
    match ((Config.unpred (s.draw + 2 * k)).setWidth 2).toNat with
    | 0 => .none
    | 1 => .corrected (s.reportsCrd pa)
    | _ => .uncorrectable
  else .none

/-- A byte of memory or ROM at a physical address, without any effect: byte `k` of an instruction. -/
def peekByte (s : State) (k pa : Nat) : Option Byte :=
  match place s pa with
  | .ram =>
    if s.unreadable pa 1 then none
    else
      match if s.eccBypassed pa then .none else s.fetchForced k pa with
      | .none => some (Sparse.get s.mem pa)
      | .corrected _ => some ((flipBit (Config.unpred (s.draw + 2 * k + 1)) 1 ((Sparse.get s.mem pa).setWidth 128)).setWidth 8)
      | .uncorrectable => none
  | .device (.rom750 off) => some (s.rom750Byte off)
  | .device (.rom780 off) => some ((longsPart (s.cfg.bootRom780.getD []) off 1).setWidth 8)
  | _ => none

/-- The state after instruction byte `k` has been read at `pa`: an error is in the log of the controller (R1161, R1402, R1408,
R1409), the check bits in CSR1 in ECC Disable Mode (R1162). -/
def State.fetchedByte (s : State) (k pa : Nat) : State :=
  let x : Long := (Config.unpred (s.draw + 2 * k + 1)).setWidth 32
  if s.is750 then
    let v := (s.noteEcc pa).v750
    { s with
      v750 := match s.fetchForced k pa with
        | .none => v
        | .corrected _ => v.corrected (csr0Info pa x)
        | .uncorrectable => v.uncorrected (csr0Info pa x) }
  else
    let s := s.answered pa 1
    match s.ctlOf pa with
    | none => s
    | some j =>
      if s.spoiled pa 1 || s.fetchForced k pa != .none then
        { s with v780 := { s.v780 with mems := updAt s.v780.mems j fun c => c.logged (s.logAddress pa) x } }
      else s

/-- An error in using prefetched data: MCESR<0> of the V750, 11_processor_registers.md R210. -/
def noteXb : M Unit := do
  if (← get).is750 then modV750 fun v => { v with mcesr := v.mcesr ||| 1 }

/-- An instruction byte could not be read: no memory, an uncorrectable error, or a device (the PC cannot point to I/O space,
20_memory.md R293, reason 2). -/
def unreadableByte {α : Type} (pa : Nat) : M α := do
  match place (← get) pa with
  | .nothing => do
    noteXb
    busReadError 3
  | .ram => do
    noteXb
    uncorrectable pa
  | .device _ => refuse .ioSpaceReference

end Sys2Proof.Machine
end

