-- ==== Sys2Proof/Machine/UbaDma.lean ====
section
/-! DEFINITION. DMA of UNIBUS devices through a V780 adapter: checks, data paths, the bus cycles behind them (63_platform_780_uba.md R1531 to R1547). -/
namespace Sys2Proof.Machine

/-! ### Cycles of an adapter on the SBI -/

/-- The UBASR bit of a device's failure to read: RDS for data a device marks bad, CXTER for an ERR confirmation, R1516. -/
def readError : Device → Nat → Nat
  | .unibus _ ua, n => if ubaCycle ua n then 9 else 7
  | _, _ => 7

/-- Read of `n` bytes at `pa` by adapter `k`: the number read, or the UBASR bit of the error: RDS, CXTER, or RDTO where nothing
answers. A reported correction sets CRD, R1516. -/
def sbiRead (k : Nat) (u : Use) (pa n : Nat) : M (Except Nat Nat) := do
  match place (← get) pa with
  | .ram =>
    match ← adapterRead pa n with
    | none => return .error 9
    | some (x, crd) => do
      if crd then modUba k fun a => { a with sr := a.sr ||| 0x100 }
      return .ok x.toNat
  | .device d => do
    if noRegister d then return .error 10
    if n = 8 then return .error 7
    match ← attempt (readDevice d pa n u) with
    | .ok x => return .ok x.toNat
    | .error (.exc _) => return .error (readError d n)
    | .error e => throw e
  | .nothing => return .error 10

/-! ### The direct data path, R1545 -/

/-- DATI and DATIP. A DATIP of memory waits while the interlock is held, and takes it (62_platform_780.md R1352); a DATIP of a
device's register makes the cycle after it an interlock write all the same (R1532). -/
def ubaDirectRead (k ua pa : Nat) (lock : Bool) : M (Option Reply) := do
  let s ← get
  if lock then
    match place s pa with
    | .ram => do
      if s.v780.interlock then throw .retry
      modV780 fun v => { v with interlock := true }
      modUba k fun a => { a with datip := true, holds := true }
    | .device _ => modUba k fun a => { a with datip := true }
    | .nothing => pure ()
  match ← sbiRead k (if lock then .interlocked else .data) pa 2 with
  | .ok x => return some ⟨BitVec.ofNat 16 x, false⟩
  | .error bit => do
    ubaDmaError k bit (ua / 512)
    return none

/-- DATO and DATOB; after a DATIP an interlock write, which is not executed once the interlock has been lost and is then
an interlock sequence fault of the memory (62_platform_780.md R1405). -/
def ubaDirectWrite (k ua pa n : Nat) (v : Long) : M (Option Reply) := do
  let s ← get
  let locked := (s.uba? k).datip
  if (s.uba? k).holds && !s.v780.interlock then
    modUba k fun a => { a with datip := false, holds := false }
    raiseFault (s.memoryTr pa) 4
    return some ⟨0, false⟩
  ubaReleaseInterlock k
  match ← sbiWrite (if locked then .interlocked else .data) pa n v with
  | none => return some ⟨0, false⟩
  | some bit => do
    ubaDmaError k bit (ua / 512)
    return none

/-- The data of a write cycle as a number. -/
def ubCycleData (c : UbCycle) (ua n : Nat) (data : Word16) : Long :=
  BitVec.ofNat 32 (leNat ((List.range n).map fun j => ubCycleByte c ua j data))

def ubaDirect (k ua pa : Nat) (c : UbCycle) (data : Word16) : M (Option Reply) :=
  match c with
  | .dati => ubaDirectRead k ua pa false
  | .datip => ubaDirectRead k ua pa true
  | .dato | .datob => ubaDirectWrite k ua pa (ubCycleBytes c ua).2 (ubCycleData c ua (ubCycleBytes c ua).2 data)

/-! ### Buffered data paths, R1540 to R1542 -/

/-- What the buffer of path `p` stands for: a quadword of memory, or a longword of a register, which takes the half of the
buffer it lies in (R1540). -/
def pathUnit (m : Long) : Nat := if m.getLsbD 20 then 4 else 8

/-- The buffer's write to the bus, when byte `pa` has completed its unit. -/
def pathSpill (k p ua pa unit : Nat) : M Unit := do
  let s ← get
  let b := s.path k p
  let part : Byte := if unit = 8 then 0xFF else if pa % 8 < 4 then 0x0F else 0xF0
  let mask := b.bs &&& part
  if (s.uba? k).mapFails (s.ubaMap k ua) 0 then pathError k p 3 ua
  else if (s.uba? k).dataFails b.data mask then pathError k p 5 ua
  else
    let base := pa / unit * unit
    let r ← if unit = 8 then storeMasked base b.data mask
      else sbiWriteMasked base ((b.data >>> (8 * (base % 8))).setWidth 32) ((mask >>> (base % 8)).setWidth 4)
    match r with
    | some bit => pathError k p bit ua
    | none => pure ()
  modPath k p fun b => { b with bs := b.bs &&& ~~~part, bne := b.bs &&& ~~~part != 0 }

/-- One byte of a device write through path `p`: buffered, and the unit written once its last byte has come, R1540. -/
def pathPut (k p ua pa unit : Nat) (x : Byte) : M Unit := do
  let j := pa % 8
  modPath k p fun b =>
    { b with data := putByte64 b.data j x, bs := b.bs ||| (1#8 <<< j), bne := true, dpf := true, buba := BitVec.ofNat 16 (ua / 4) }
  if pa % unit = unit - 1 then pathSpill k p ua pa unit

/-- Fill path `p` with the unit at `pa`, for the cycle at `ua`: the UBASR bit of the error. -/
def pathFill (k p ua pa unit : Nat) : M (Option Nat) := do
  let s ← get
  let base := pa / unit * unit
  if (s.uba? k).mapFails (s.ubaMap k ua) 0 then return some 3
  match ← sbiRead k .data base unit with
  | .error bit => return some bit
  | .ok x => do
    modPath k p fun b =>
      { b with data := BitVec.ofNat 64 x <<< (8 * (base % 8)), bne := true, dpf := false, buba := BitVec.ofNat 16 (ua / 4) }
    return none

/-- The prefetch after the last word of a quadword, without any error record, R1541; it is not made from a register. -/
def pathPrefetch (k p ua : Nat) : M Unit := do
  let s ← get
  let ua := (ua + 2) % 0x40000
  let m := s.ubaMap k ua
  let pa := (mapPage m + ua % 512 + mapOffset m p) / 8 * 8
  if s.ubaRecognised k ua && m.getLsbD 31 && !(s.path k p).bte && s.hasRam pa
      && !(s.uba? k).mapFails m 2 && !(s.uba? k).mapFails m 0 then
    match ← adapterRead pa 8 with
    | some (x, _) => modPath k p fun b => { b with data := x.setWidth 64, bne := true }
    | none => pure ()

/-- Device read through path `p`, byte at `pa`, and whether its parity is bad; none where the fill fails. -/
def pathGet (k p ua pa unit : Nat) : M (Option (Byte × Bool)) := do
  if ¬ ((← get).path k p).bne then
    match ← pathFill k p ua pa unit with
    | some bit => do
      ubaDmaError k bit (ua / 512)
      return none
    | none => pure ()
  let s ← get
  let b := s.path k p
  let pb := (s.uba? k).dataFails b.data (1#8 <<< (pa % 8))
  if pa % unit = unit - 1 then modPath k p fun b => { b with bne := false }
  return some (byte64 b.data (pa % 8), pb)

/-- A block is under way from here on, with `n` bytes at UNIBUS address `u`; one that changes its function or its order is
wild until the path is purged (R1540, 92_eei_decisions.md D61). `pa` is where the bytes of a write go. -/
def pathBlock (k p u n pa : Nat) (write : Bool) : M Unit :=
  modPath k p fun b =>
    { b with
      wild := b.wild || (b.block && (b.expect != BitVec.ofNat 18 u || b.dpf != write))
      block := true, expect := BitVec.ofNat 18 (u + n), dpf := write
      seen := if write then pa / 8 :: (pa + n - 1) / 8 :: b.seen else b.seen }

/-- The memory that there is among some quadwords becomes free. -/
def freeQuads : List Nat → M Unit
  | [] => pure ()
  | q :: rest => do
    if (← get).hasRam (8 * q) then freeRam (8 * q) 8
    freeQuads rest

/-- The data of a wild block are free, and so is all the memory that its writes have been at. -/
def pathScramble (k p : Nat) : M Unit := do
  let b := (← get).path k p
  if b.wild then
    freeQuads b.seen.eraseDups
    let x ← drawBits 64
    modPath k p fun b => { b with data := x, seen := [] }

/-- The word at `pa` for a device. Bad parity is recorded once for the word, and reaches the device with PB asserted; it aborts
a transfer that the second byte would need, R1546. -/
def pathWord (k p ua pa unit : Nat) : M (Option (Word16 × Bool)) := do
  match ← pathGet k p ua pa unit with
  | none => return none
  | some (x, px) =>
    if px then pathError k p 5 ua
    if px ∧ ¬ ((← get).path k p).bne then return none
    match ← pathGet k p ua (pa + 1) unit with
    | none => return none
    | some (y, py) =>
      if py ∧ ¬ px then pathError k p 5 ua
      return some (BitVec.ofNat 16 (leNat [x, y]), px || py)

/-- DATI through a buffered path, R1541. One that gets no data leaves the block where it was: the device may try again. -/
def pathRead (k p ua pa unit : Nat) : M (Option Reply) := do
  let before := (← get).path k p
  pathBlock k p ua 2 pa false
  let b := (← get).path k p
  if b.wild then
    pathScramble k p
    if b.bs ≠ 0 then modPath k p fun b => { b with bs := 0, bne := false }
    return some ⟨← drawBits 16, false⟩
  match ← pathWord k p ua pa unit with
  | none => do
    modPath k p fun b => { b with block := before.block, expect := before.expect }
    return none
  | some (x, pb) =>
    if (pa + 1) % unit = unit - 1 ∧ unit = 8 then pathPrefetch k p ua
    return some ⟨x, pb⟩

/-- DATO or DATOB through a buffered path, R1540; `u` is the UNIBUS address of its first byte, `off` the byte offset. -/
def pathWrite (k p u pa off n unit : Nat) (v : Long) : M Unit := do
  pathBlock k p u n pa true
  (List.range n).forM fun j => pathPut k p ((u + off + j) % 0x40000) (pa + j) unit ((v >>> (8 * j)).setWidth 8)
  pathScramble k p

/-- Longword-aligned random access mode, R1544; `pa` is the address of the cycle's first byte. A word that is buffered is that
of the longword in the buffer, which BUBA names. -/
def pathLongword (k p ua pa : Nat) (c : UbCycle) (data : Word16) : M (Option Reply) := do
  let b := (← get).path k p
  let high := ua % 4 / 2 = 1
  match c with
  | .datip => return none
  | .dati =>
    if ¬ b.bne then
      match ← pathFill k p ua pa 4 with
      | some bit => do
        ubaDmaError k bit (ua / 512)
        return none
      | none => pure ()
    modPath k p fun b => { b with bne := !high }
    let s ← get
    let x := (s.path k p).data
    let j := 4 * ((s.path k p).buba.toNat % 2) + pa % 4
    let pb := (s.uba? k).dataFails x (3#8 <<< j)
    if pb then pathError k p 5 ua
    return some ⟨(x >>> (8 * j)).setWidth 16, pb⟩
  | _ =>
    let (_, n) := ubCycleBytes c ua
    (List.range n).forM fun j =>
      modPath k p fun b =>
        { b with
          data := putByte64 b.data (pa % 8 + j) (ubCycleByte c ua j data), bs := b.bs ||| (1#8 <<< (pa % 8 + j))
          bne := true, dpf := true, buba := BitVec.ofNat 16 (ua / 4) }
    if (pa + n) % 4 = 0 then
      let b := (← get).path k p
      let io := ((← get).ubaMap k ua).getLsbD 20
      let base := pa / 4 * 4
      let part : Byte := if pa % 8 < 4 then 0x0F else 0xF0
      let a := (← get).uba? k
      let r ← if a.mapFails ((← get).ubaMap k ua) 0 then pure (some 3)
        else if a.dataFails b.data (b.bs &&& part) then pure (some 5)
        else if io then
          sbiWriteMasked base ((b.data >>> (8 * (base % 8))).setWidth 32) (((b.bs &&& part) >>> (base % 8)).setWidth 4)
        else storeMasked (pa / 8 * 8) b.data (b.bs &&& part)
      match r with
      | some bit => pathError k p bit ua
      | none => pure ()
      modPath k p fun b => { b with bs := 0, bne := false }
    return some ⟨0, false⟩

/-- One DMA cycle of a UNIBUS device, R1533, R1547: what it gets, or no response; there is none while the UNIBUS is
initializing (70_reset_and_hazards.md R1623). The direct path needs the low half of its map register at once, a buffered
one when it goes to the bus. -/
def ubaDma (k : Nat) (c : UbCycle) (ua : Nat) (data : Word16) : M (Option Reply) := do
  let s ← get
  let m := s.ubaMap k ua
  let p := field m 21 4
  if (s.uba? k).initPending ∨ ¬ s.ubaRecognised k ua then return none
  if (s.uba? k).mapFails m 2 then
    ubaDmaError k 3 (ua / 512)
    return none
  if ¬ m.getLsbD 31 then
    ubaDmaError k 4 (ua / 512)
    return none
  if p = 0 ∧ (s.uba? k).mapFails m 0 then
    ubaDmaError k 3 (ua / 512)
    return none
  if p ≠ 0 ∧ (s.path k p).bte then return none
  let (u, n) := ubCycleBytes c ua
  let pa := mapPage m + u % 512
  let off := mapOffset m p
  if p = 0 then ubaDirect k ua pa c data
  else if c = .datip then return none
  else if m.getLsbD 26 then pathLongword k p ua pa c data
  else if c = .dati then pathRead k p u (pa + off) (pathUnit m)
  else do
    pathWrite k p u (pa + off) off n (pathUnit m) (ubCycleData c ua n data)
    return some ⟨0, false⟩

end Sys2Proof.Machine
end

