-- ==== Sys2Proof/Machine/Cycles.lean ====
section
/-! DEFINITION. Memory cycles of adapters and other agents, between instructions or inside one, and the processor's own
physical reads and writes, which they may fall between (20_memory.md R281, R284, R308, 62_platform_780.md R1344). -/
namespace Sys2Proof.Machine

/-! ### What agents of the bus do -/

/-- Only the V750 has the move. -/
def only750 (x : M Unit) : M Unit := do if (← get).is750 then x else refuse .hostEvent
/-- Only the V780 has the move. -/
def only780 (x : M Unit) : M Unit := do if (← get).is750 then refuse .hostEvent else x

/-- Does adapter `k` have a UNIBUS? -/
def State.hasUnibus (s : State) (k : Nat) : Bool := if s.is750 then k == 0 else decide (k < s.v780.ubas.length)

def needUnibus (k : Nat) (x : M Unit) : M Unit := do if (← get).hasUnibus k then x else refuse .hostEvent
def needMba (k : Nat) (x : M Unit) : M Unit := do if k < (← get).mbas.length then x else refuse .hostEvent

/-- What finds the memory interlocked is tried again after the next boundary, 62_platform_780.md R1352. -/
def orRetry (e : Event) (x : M Unit) : M Unit := do
  match ← attempt x with
  | .ok _ => pure ()
  | .error .retry => modify fun s => { s with events := insertEvent 1 e s.events }
  | .error stop => throw stop

/-- A DMA cycle, answered to the device. -/
def unibusDma (k : Nat) (c : UbCycle) (ua : BitVec 18) (data : Word16) : M Unit := needUnibus k do
  let reply ← if (← get).is750 then dma750 c ua.toNat data else ubaDma k c ua.toNat data
  send (.dmaReply k reply)

/-- Another agent writes a byte, where there is memory. -/
def agentWrite (pa : Nat) (b : Byte) : M Unit := do
  if (← get).hasRam pa then storeAt pa 1 (b.setWidth 128)

/-- Bytes at ascending addresses. -/
def agentWrites (pa : Nat) : List Byte → M Unit
  | [] => pure ()
  | b :: rest => do
    agentWrite pa b
    agentWrites (pa + 1) rest

/-- Another agent takes the interlock of the SBI with a read, or writes and gives it up; a write that comes without it is not
executed and is an interlock sequence fault, 62_platform_780.md R1352, R1405. -/
def agentInterlock (pa : Nat) (write : Option (List Byte)) : M Unit := only780 do
  let s ← get
  if ¬ s.hasRam pa then pure ()
  else match write with
    | none =>
      if s.v780.interlock then throw .retry
      discard <| adapterRead pa 1
      modV780 fun v => { v with interlock := true }
    | some bytes =>
      if s.v780.interlock then
        modV780 fun v => { v with interlock := false }
        agentWrites pa bytes
      else raiseFault (s.memoryTr pa) 4

/-- The memory cycles of other agents that may fall inside an instruction; none for every other event. A cycle that takes an
interlock comes between instructions: from inside one nothing can tell when it comes. -/
def busMove (e : Event) : Option (M Unit) :=
  match e with
  | .unibusDma _ .datip _ _ => none
  | .unibusDma k c ua d => some (orRetry e (unibusDma k c ua d))
  | .massbusIn k data => some (needMba k (unlessDetached k (mbaIn k data)))
  | .massbusMemory k => some (needMba k (mbaMemory k false))
  | .massbusOut k n => some (needMba k (unlessDetached k (mbaTake k n)))
  | .agentWrite pa b => some (agentWrite pa b)
  | .agentInterlock pa (some w) => some (agentInterlock pa (some w))
  | _ => none

/-- Carry out such events; others have no effect. -/
def busMoves : List Event → M Unit
  | [] => pure ()
  | e :: rest => do
    match busMove e with
    | some x => x
    | none => pure ()
    busMoves rest

/-- The cycles that come before the processor's next one, and the others, one cycle nearer. -/
def dueCycles : List (Nat × Event) → List Event × List (Nat × Event)
  | [] => ([], [])
  | (0, e) :: rest => let (now, later) := dueCycles rest; (e :: now, later)
  | (n + 1, e) :: rest => ([], (n, e) :: rest)

/-- Is the event a cycle of the UNIBUS that the processor holds? -/
def holdsBack (held : Option Nat) : Event → Bool
  | .unibusDma k _ _ _ => held == some k
  | _ => false

/-- What other agents do before the processor's next memory cycle. On a UNIBUS that the processor holds no device has a cycle:
it comes after the processor's (20_memory.md R292). -/
def meanwhile (held : Option Nat) : M Unit := do
  let s ← get
  if s.during ≠ [] then
    let due := dueCycles s.during
    set { s with during := (due.1.filter (holdsBack held)).map (fun e => (0, e)) ++ due.2 }
    busMoves (due.1.filter fun e => !holdsBack held e)

/-- The UNIBUS that the read of a modify operand at `pa` has left held, up to the write of that operand: DATIP "holds the bus
until the following write", 20_memory.md R292. The V750 sends it for every such operand (61_platform_750.md R1201), the V780 for
an interlocked one (63_platform_780_uba.md R1561). -/
def State.heldUnibus (s : State) (u : Use) (pa : Nat) : Option Nat :=
  match place s pa with
  | .device (.unibus k _) => if u = .interlocked ∨ (u = .modify ∧ s.is750) then some k else none
  | _ => none

/-! ### The processor's memory cycles -/

/-- Is an access within a page one cycle? A naturally aligned byte, word or longword is, and whatever a device answers; else it
is a sequence of bytes in no stated order (20_memory.md R284, 92_eei_decisions.md D21). -/
def oneCycle (s : State) (pa n : Nat) : Bool :=
  ((n == 1 || n == 2 || n == 4) && pa % n == 0) || match place s pa with
    | .ram => false
    | _ => true

/-- One cycle of an access: `len` bytes at `pa`, which stand from byte `off` of the access on. -/
structure Cycle where
  off : Nat
  pa : Nat
  len : Nat
  deriving DecidableEq, Repr

/-- The cycles of `n` bytes at `pa` that are not aligned, from byte `off` of the access on: one a byte, but one where no memory
answers. -/
def State.byteCycles (s : State) (off pa n : Nat) : List Cycle :=
  match place s pa with
  | .ram => (List.range n).map fun j => ⟨off + j, pa + j, 1⟩
  | _ => [⟨off, pa, n⟩]

/-- The cycles of an access within a page. -/
def State.cycles (s : State) (pa n : Nat) : List Cycle := if oneCycle s pa n then [⟨0, pa, n⟩] else s.byteCycles 0 pa n

/-- Read by some cycles, any one of them first. -/
def readCycles (u : Use) : Nat → List Cycle → M Octa
  | 0, _ => pure 0
  | more + 1, cs => do
    match ← pick cs with
    | none => return 0
    | some c => do
      meanwhile none
      let x ← physReadWhole u c.pa c.len
      let y ← readCycles u more (cs.erase c)
      return x <<< (8 * c.off) ||| y

/-- Write `v` by some cycles, any one of them first. -/
def writeCycles (u : Use) (v : Octa) : Nat → List Cycle → M Unit
  | 0, _ => pure ()
  | more + 1, cs => do
    match ← pick cs with
    | none => pure ()
    | some c => do
      meanwhile ((← get).heldUnibus u c.pa)
      physWriteWhole u c.pa c.len (v >>> (8 * c.off))
      writeCycles u v more (cs.erase c)

/-- PhysRead: `n` bytes at `pa`, all in one page. Where no other agent's cycle is to come it makes no difference what order
the bytes are read in. -/
def physRead (u : Use) (pa n : Nat) : M Octa := do
  let s ← get
  if s.during = [] then physReadWhole u pa n else readCycles u n (s.cycles pa n)

/-- PhysWrite: the low `n` bytes of `v`, all in one page. -/
def physWrite (u : Use) (pa n : Nat) (v : Octa) : M Unit := do
  let s ← get
  if s.during = [] then physWriteWhole u pa n v else writeCycles u v n (s.cycles pa n)

end Sys2Proof.Machine
end

