-- ==== Sys2Proof/Machine/Ops.lean ====
section
/-! DEFINITION. Address translation, memory and stack accesses, taking an exception or interrupt, and running one meaning
(21_memory_management.md R340 to R391, 20_memory.md R280 to R285, 60_exceptions.md R1030 to R1100). -/
namespace Sys2Proof.Machine

/-! ### Protection and the memory management faults, 21_memory_management.md R353 to R366 -/

/-- Least privileged mode that may read, by protection code; 4 stands for no mode. Code 1 is refused before. -/
def leastRead (prot : Nat) : Nat := [4, 4, 0, 0, 3, 1, 1, 1, 2, 2, 2, 2, 3, 3, 3, 3].getD prot 4

/-- Least privileged mode that may write. -/
def leastWrite (prot : Nat) : Nat := [4, 4, 0, 4, 3, 1, 0, 4, 2, 1, 0, 4, 2, 1, 0, 4].getD prot 4

/-- R354. -/
def accessAllowed (prot mode : Nat) (write : Bool) : Bool :=
  let least := if write then leastWrite prot else leastRead prot
  decide (least < 4 ∧ mode ≤ least)

/-- The fault parameter word, R366. -/
def faultWord (write ptref length : Bool) : Long := bitL write <<< 2 ||| bitL ptref <<< 1 ||| bitL length

/-- Access control violation, vector 20. -/
def accessViolation (va : Long) (write ptref length : Bool) : Exc := ⟨false, 0x20, [va, faultWord write ptref length]⟩

/-- Translation not valid, vector 24. -/
def notValid (va : Long) (write ptref : Bool) : Exc := ⟨false, 0x24, [va, faultWord write ptref false]⟩

/-! ### The page table walk, R360 to R365 -/

/-- A page table entry, where it is, and where the system entry that maps its page table is. -/
structure Walk where
  pte : Long
  ptePa : Nat
  sysPa : Option Nat
  deriving DecidableEq, Repr

def pteProt (pte : Long) : Nat := field pte 27 4
def pteValid (pte : Long) : Bool := pte.getLsbD 31
def pteModified (pte : Long) : Bool := pte.getLsbD 26
/-- Virtual page number within the region. -/
def vpn (va : Long) : Nat := field va 9 21
def byteInPage (va : Long) : Nat := field va 0 9

/-- Physical address a PTE gives for `va`, R352. -/
def pageAddress (c : Config) (pte va : Long) : Nat := field pte 0 c.pfnw * 512 + byteInPage va

/-- Fetch a PTE by physical address. -/
def readPte (pa : Nat) : M Long := do return (← physRead .table pa 4).setWidth 32

/-- SysPTE, R361. -/
def sysPte (va : Long) (write ptref : Bool) (report : Long) : M (Long × Nat) := do
  let s ← get
  if s.mm.slr.toNat ≤ vpn va then raise (accessViolation report write ptref true)
  let pa := (s.mm.sbr.toNat / 4 * 4 + 4 * vpn va) % 2 ^ s.cfg.paw
  return (← readPte pa, pa)

/-- ProcPTE, R362, R363, R365. The write bit of a fault in fetching the system PTE is that of the intended access, as R366 says
(DESIGN CHOICE, notes/assumptions/28.md: R362's text passes `read`). -/
def procPte (va base : Long) (tooLong write : Bool) : M Walk := do
  if tooLong then raise (accessViolation va write false true)
  let pteVa := base + BitVec.ofNat 32 (4 * vpn va)
  if field pteVa 30 2 ≠ 2 then raise (accessViolation va write true true)
  let (spte, spa) ← sysPte pteVa write true va
  if pteProt spte = 1 then refuse .reservedProtection
  if ¬ accessAllowed (pteProt spte) 0 false then raise (accessViolation va write true false)
  if ¬ pteValid spte then raise (notValid va write true)
  let pa := pageAddress (← get).cfg spte pteVa
  return ⟨← readPte pa, pa, some spa⟩

/-- The PTE that maps `va`. -/
def walk (va : Long) (write : Bool) : M Walk := do
  let mm := (← get).mm
  match field va 30 2 with
  | 0 => procPte va mm.p0br (decide (mm.p0lr.toNat ≤ vpn va)) write
  | 1 => procPte va mm.p1br (decide (vpn va < mm.p1lr.toNat)) write
  | 2 => do
    let (pte, pa) ← sysPte va write false va
    return ⟨pte, pa, none⟩
  | _ => raise (accessViolation va write false true)

/-- A translated address and the walk behind it (none with mapping off, R342). -/
structure Tran where
  pa : Nat
  walk : Option Walk
  deriving DecidableEq, Repr

/-- Translate without touching the M bit, R360; TBDR<1:0> = 3 with mapping on is refused (11_processor_registers.md R212). -/
def check (va : Long) (write : Bool) (mode : Nat) : M Tran := do
  let s ← get
  if ¬ s.mm.mapen then return ⟨va.toNat % 2 ^ s.cfg.paw, none⟩
  if s.is750 ∧ field s.v750.tbdr 0 2 = 3 then refuse .diagnosticRegister
  let w ← walk va write
  if pteProt w.pte = 1 then refuse .reservedProtection
  if ¬ accessAllowed (pteProt w.pte) mode write then raise (accessViolation va write false false)
  if ¬ pteValid w.pte then raise (notValid va write false)
  return ⟨pageAddress s.cfg w.pte va, some w⟩

/-- Write a PTE at `pa` with M set. -/
def setPteM (pa : Nat) (pte : Long) : M Unit := physWrite .table pa 4 ((pte ||| 0x04000000).setWidth 128)

/-- SetM, R356: the PTE is read again, so what another agent has made of it since the walk stays. Whether the system PTE behind a process page table gets its M bit too is free (draw (b)). -/
def commit (t : Tran) : M Unit := do
  match t.walk with
  | none => pure ()
  | some w =>
    if pteModified w.pte then pure ()
    else
      setPteM w.ptePa (← readPte w.ptePa)
      match w.sysPa with
      | none => pure ()
      | some spa =>
        let spte ← readPte spa
        if ¬ pteModified spte then
          if ← drawBool then setPteM spa spte

/-- Commit or not, freely. -/
def commitMaybe (t : Tran) : M Unit := do
  match t.walk with
  | none => pure ()
  | some w => if ¬ pteModified w.pte then if ← drawBool then commit t

/-- Translate, R360. -/
def translate (va : Long) (write : Bool) (mode : Nat) : M Nat := do
  let t ← check va write mode
  if write then commit t
  return t.pa

/-! ### Accesses by virtual address, 20_memory.md R280 -/

/-- Where the bytes of an access lie: `k` bytes from `a0` on, the rest from `a1` on. -/
structure Span where
  a0 : Nat
  k : Nat
  a1 : Nat
  deriving DecidableEq, Repr

/-- Bytes left in the page of `va`. -/
def leftInPage (va : Long) : Nat := 512 - byteInPage va

/-- Translate an access of `n` ≤ 512 bytes, all of it before anything is written (R280, R283). When one page of a
write faults, the M bit of the other is free (draw (a) of 21_memory_management.md R356); of two faults the lower address counts (D20). -/
def translateSpan (va : Long) (n : Nat) (write : Bool) (mode : Nat) : M Span := do
  let k := leftInPage va
  if n ≤ k then
    return ⟨← translate va write mode, n, 0⟩
  else
    match ← attempt (check va write mode) with
    | .error e =>
      if write then
        let s ← get
        match ← attempt (check (va + BitVec.ofNat 32 k) write mode) with
        | .ok t => commitMaybe t
        | .error _ => set s
      throw e
    | .ok t0 =>
      match ← attempt (check (va + BitVec.ofNat 32 k) write mode) with
      | .error e =>
        if write then commitMaybe t0
        throw e
      | .ok t1 =>
        if write then
          commit t0
          commit t1
        return ⟨t0.pa, k, t1.pa⟩

/-- A V750 access that crosses a page into or out of I/O space is not aligned: refused (20_memory.md R290 (2),
93_implementation_defined.md I25). On the V780 each part is judged by what answers it (20_memory.md R285). -/
def noSplitDevice (u : Use) (sp : Span) : M Unit := do
  let s ← get
  if s.is750 then
    match u, place s sp.a0, place s sp.a1 with
    | .other, _, _ => pure ()
    | _, .device _, _ => refuse .ioSpaceSize
    | _, _, .device _ => refuse .ioSpaceSize
    | _, _, _ => pure ()

/-- The cycles of an access of `n` bytes that crosses a page: the bytes of both pages, in no stated order (20_memory.md R284). -/
def Span.cycles (sp : Span) (s : State) (n : Nat) : List Cycle :=
  s.byteCycles 0 sp.a0 sp.k ++ s.byteCycles sp.k sp.a1 (n - sp.k)

/-- Read the `n` bytes of a span. Where no other agent's cycle is to come the order of its bytes makes no difference. -/
def readSpan (u : Use) (sp : Span) (n : Nat) : M Octa := do
  if n ≤ sp.k then physRead u sp.a0 n
  else
    noSplitDevice u sp
    let s ← get
    if s.during = [] then
      let lo ← physReadWhole u sp.a0 sp.k
      let hi ← physReadWhole u sp.a1 (n - sp.k)
      return lo ||| hi <<< (8 * sp.k)
    else readCycles u n (sp.cycles s n)

/-- Write the low `n` bytes of `v` to a span. -/
def writeSpan (u : Use) (sp : Span) (n : Nat) (v : Octa) : M Unit := do
  if n ≤ sp.k then physWrite u sp.a0 n v
  else
    noSplitDevice u sp
    let s ← get
    if s.during = [] then
      physWriteWhole u sp.a0 sp.k v
      physWriteWhole u sp.a1 (n - sp.k) (v >>> (8 * sp.k))
    else writeCycles u v n (sp.cycles s n)

/-- The part of a span `n` bytes long from offset `off` on. -/
def Span.sub (sp : Span) (off n : Nat) : Span :=
  if off + n ≤ sp.k then ⟨sp.a0 + off, n, 0⟩
  else if sp.k ≤ off then ⟨sp.a1 + (off - sp.k), n, 0⟩
  else ⟨sp.a0 + off, sp.k - off, sp.a1⟩

/-- MemRead in the current mode. -/
def memRead (u : Use) (va : Long) (n : Nat) : M Octa := do
  let sp ← translateSpan va n false (← get).cur
  readSpan u sp n

/-- The span of a write in the current mode, checked and not yet written. -/
def memDest (va : Long) (n : Nat) : M Span := do translateSpan va n true (← get).cur

/-- A longword read that no operand type allows in I/O space: stacks, frames, blocks. -/
def readLong (va : Long) : M Long := do return (← memRead .other va 4).setWidth 32

/-- The places of longwords, checked for write. -/
def longDests : List Long → M (List Span)
  | [] => pure []
  | va :: rest => do
    let sp ← memDest va 4
    return sp :: (← longDests rest)

/-- Store longwords at checked places. -/
def putLongs : List (Span × Long) → M Unit
  | [] => pure ()
  | (sp, x) :: rest => do
    writeSpan .other sp 4 (x.setWidth 128)
    putLongs rest

/-- Write longwords to the end of a span downwards: the first of the list highest, and first. -/
def writeLongsDown (sp : Span) : List Long → M Unit
  | [] => pure ()
  | x :: rest => do
    writeSpan .other (sp.sub (4 * rest.length) 4) 4 (x.setWidth 128)
    writeLongsDown sp rest

/-- Push longwords, the first of the list first, as accesses of `mode`: all tested before any is written. -/
def pushFrame (mode : Nat) (ws : List Long) : M Unit := do
  let n := 4 * ws.length
  let sp := (← getR 14) - BitVec.ofNat 32 n
  let span ← translateSpan sp n true mode
  writeLongsDown span ws
  setR 14 sp

/-- Push in the current mode. -/
def push (ws : List Long) : M Unit := do pushFrame (← get).cur ws

/-- Read `n` longwords of a span from longword `k` on upwards. -/
def readLongsUp (sp : Span) (k : Nat) : Nat → M (List Long)
  | 0 => pure []
  | n + 1 => do
    let x ← readSpan .other (sp.sub (4 * k) 4) 4
    return x.setWidth 32 :: (← readLongsUp sp (k + 1) n)

/-- The `n` longwords on top of the stack, the top first: all tested before any is read. -/
def stackTop (n : Nat) : M (List Long) := do
  let s ← get
  readLongsUp (← translateSpan (s.reg 14) (4 * n) false s.cur) 0 n

/-- Pop a longword. -/
def pop : M Long := do
  let sp ← getR 14
  let v ← readLong sp
  setR 14 (sp + 4)
  return v

/-! ### Stack pointers, 10_state.md R35 -/

/-- The stored copy for a mode. -/
def Stacks.get (k : Stacks) (mode : Nat) : Long :=
  match mode with
  | 0 => k.ksp
  | 1 => k.esp
  | 2 => k.ssp
  | _ => k.usp

def Stacks.put (k : Stacks) (mode : Nat) (v : Long) : Stacks :=
  match mode with
  | 0 => { k with ksp := v }
  | 1 => { k with esp := v }
  | 2 => { k with ssp := v }
  | _ => { k with usp := v }

/-- Store the live SP in the copy it belongs to. -/
def State.saveSp (s : State) : State :=
  if s.is then { s with sp := { s.sp with isp := s.reg 14 } } else { s with sp := s.sp.put s.cur (s.reg 14) }

/-- Load SP for the stack the PSL now selects. -/
def State.loadSp (s : State) : State :=
  s.setReg 14 (if s.is then s.sp.isp else s.sp.get s.cur)

/-! ### Halting, 60_exceptions.md R1095 -/

/-- The halts (a) to (g), after which the source defines no CONTINUE. -/
def errorCause : HaltCause → Bool
  | .interruptStack | .doubleWriteError | .doubleError | .illegalVector | .machineCheckVector | .noControlStore
  | .chmOnInterruptStack | .chmVector => true
  | _ => false

/-- More delay for the first of some events. -/
def delayFirst (d : Nat) : List (Nat × Event) → List (Nat × Event)
  | [] => []
  | (n, e) :: rest => (n + d, e) :: rest

/-- A halt ends what a console NEXT has begun (62_platform_780.md R1315); the other events come when they would have. -/
def dropSteps : List (Nat × Event) → List (Nat × Event)
  | [] => []
  | (n, e) :: rest => if e = .stepDone then delayFirst n (dropSteps rest) else (n, e) :: dropSteps rest

/-- A halt ends a WAIT DONE, and with it all that the console program has begun, 62_platform_780.md R1319. -/
def ConProgram.atHalt (p : ConProgram) : ConProgram := if p.waiting then { p with waiting := false, todo := [] } else p

/-- The console of the V780 when the processor halts: in command mode, 62_platform_780.md R1302, R1320. -/
def V780.atHalt (v : V780) : V780 := { v with command := true, program := v.program.atHalt }

/-- The processor stops with the given PC and PSL. -/
def stopAt (why : HaltCause) (pc psl : Long) : M Unit :=
  modify fun s =>
    { (s.setReg 15 pc) with
      psl := psl, run := .halted why, v780 := if s.is750 then s.v780 else s.v780.atHalt
      events := dropSteps s.events, pend := { s.pend with errorHalt := s.pend.errorHalt || errorCause why } }

/-- The processor halts, and the console types the halt message. -/
def haltAt (why : HaltCause) (pc psl : Long) : M Unit := do
  stopAt why pc psl
  send (.halted why pc)

/-- Registers 0 to n-1 become free. -/
def freeRegs : Nat → M Unit
  | 0 => pure ()
  | n + 1 => do
    setR ⟨n % 16, Nat.mod_lt _ (by decide)⟩ (← drawBits 32)
    freeRegs n

/-- Interrupt stack not valid: every general register but SP and PC is free, R1095 (a). -/
def haltInterruptStack (pc psl : Long) : M Unit := do
  freeRegs 14
  haltAt .interruptStack pc psl

/-! ### Taking an exception or interrupt, 60_exceptions.md R1030 -/

/-- What is taken: `ipl` is the level of an interrupt, `saved` the PSL to push, `pc` the PC to push. -/
structure Entry where
  offset : Nat
  params : List Long
  pc : Long
  saved : Long
  ipl : Option Nat
  deriving DecidableEq, Repr

/-- The vector at an offset of the SCB; none where it cannot be read (R1095 (b)); stuck where the SCB lies in a device (10_state.md R55). -/
def readVector (offset : Nat) : M (Option Long) := do
  let s ← get
  let pa := (s.scbb.toNat + offset) % 2 ^ s.cfg.paw
  match place s pa with
  | .ram =>
    match ← attempt (physRead .other pa 4) with
    | .ok v => return some (v.setWidth 32)
    | .error _ => return none
  | .nothing => return none
  | .device _ => throw (.fault .scbUndefined)

/-- The new PSL: `keep` is the old one, of which IPL and IS stay unless replaced. -/
def entryPsl (keep : Long) (newMode prevMode : Nat) (ipl : Option Nat) (interruptStack : Bool) : Long :=
  let psl := putField (putField (keep &&& 0x041F0000) 24 2 (BitVec.ofNat 32 newMode)) 22 2 (BitVec.ofNat 32 prevMode)
  let psl := match ipl with
    | some l => putField psl 16 5 (BitVec.ofNat 32 l)
    | none => psl
  if interruptStack then putBit psl 26 true else psl

/-- Machine check and kernel stack not valid, serviced on the interrupt stack: their vector must have code 1. -/
def seriousOffset (offset : Nat) : Bool := offset == 0x04 || offset == 0x08

/-- A handler entered for a machine check, or while one is being handled, is remembered until its REI, R1095 (g). -/
def Pending.entered (p : Pending) (offset : Nat) : Pending :=
  if offset = 0x04 ∨ p.inMachineCheck ≠ 0 then { p with inMachineCheck := p.inMachineCheck + 1 } else p

def noteEntry (offset : Nat) : M Unit := modPend fun p => p.entered offset

/-- Would a machine check now come before another one is handled? (DEDUCED for the V750, notes/assumptions/57.md.) -/
def State.doubleCheck (s : State) : Bool := s.pend.inMachineCheck != 0 && s.ipl == 31

/-- A push of `n` bytes on the interrupt stack would get no response: that is a memory error "while the processor was
pushing", R1095 (a). -/
def needStack (n : Nat) : M Unit := do
  let span ← translateSpan ((← getR 14) - BitVec.ofNat 32 n) n false 0
  let s ← get
  if place s span.a0 = .nothing ∨ (span.k < n ∧ place s span.a1 = .nothing) then busReadError 3

/-- Push on the stack of the handler. -/
def pushHandler (interruptStack : Bool) (ws : List Long) : M Unit := do
  if interruptStack then needStack (4 * ws.length)
  pushFrame 0 ws

/-- An event that finds the kernel stack unusable: it is replaced by kernel stack not valid, or by the machine check
met on the way, on the interrupt stack, R1052. `old` is the PSL before the event. -/
def enterSerious (offset : Nat) (params : List Long) (e : Entry) (old : Long) : M Unit := do
  match ← readVector offset with
  | none => haltAt .interruptStack e.pc e.saved
  | some v =>
    match field v 0 2 with
    | 1 => do
      modify fun s => s.setReg 14 s.sp.isp
      match ← attempt (pushHandler true ([e.saved, e.pc] ++ params)) with
      | .ok _ => do
        modify fun s =>
          { (s.setReg 15 (v &&& 0xFFFFFFFC)) with psl := entryPsl old 0 (field old 24 2) (some 31) true }
        noteEntry offset
        if offset = 0x08 then
          let ksp ← drawBits 32
          let fp ← drawBits 32
          modify fun s => { (s.setReg 13 fp) with sp := { s.sp with ksp := ksp } }
      | .error (.exc _) => haltInterruptStack e.pc e.saved
      | .error x => throw x
    | 2 => if (← get).cfg.hasUCS then refuse .userControlStore else haltAt .noControlStore e.pc e.saved
    | 0 => haltAt .machineCheckVector e.pc e.saved
    | _ => haltAt .illegalVector e.pc e.saved

/-- Initiate, R1030. On return the handler's context stands, or the processor is halted;
the answer says whether it is the handler of this event that stands. -/
def enter (e : Entry) : M Bool := do
  let old := (← get).psl
  match ← readVector e.offset with
  | none => do
    haltAt .interruptStack e.pc e.saved
    return false
  | some v =>
    let code := field v 0 2
    if code = 3 then
      haltAt .illegalVector e.pc e.saved
      return false
    else if code = 0 ∧ seriousOffset e.offset then
      haltAt .machineCheckVector e.pc e.saved
      return false
    else if code = 2 then
      if (← get).cfg.hasUCS then refuse .userControlStore
      haltAt .noControlStore e.pc e.saved
      return false
    else
      let s ← get
      let onIS := s.is || code == 1
      if ¬ s.is then
        let s := s.saveSp
        set (s.setReg 14 (if code = 1 then s.sp.isp else s.sp.ksp))
      match ← attempt (pushHandler onIS ([e.saved, e.pc] ++ e.params)) with
      | .ok _ => do
        let ipl := match e.ipl with
          | some l => some l
          | none => if code = 1 then some 31 else none
        let prv := if e.ipl.isSome then 0 else field old 24 2
        modify fun s =>
          { (s.setReg 15 (v &&& 0xFFFFFFFC)) with psl := entryPsl old 0 prv ipl (code == 1) }
        noteEntry e.offset
        return true
      | .error (.exc x) => do
        if onIS then haltInterruptStack e.pc e.saved
        else if x.offset = 0x04 ∧ s.doubleCheck then haltAt .doubleError e.pc e.saved
        else if x.offset = 0x04 then enterSerious 0x04 x.params e old
        else enterSerious 0x08 [] e old
        return false
      | .error x => throw x

/-- A fault or abort of the instruction at `pc`, R1031, R1034: the saved condition codes are free, the saved TP is
clear for a fault and PSL<TP> for an abort. A machine check that comes before another is handled halts, R1095 (g). -/
def enterException (x : Exc) (pc : Long) : M Unit := do
  let s ← get
  let cc ← drawBits 32
  let saved := putBit (putField s.psl 0 4 cc) 30 (x.abort && s.tp)
  if x.offset = 0x04 ∧ s.doubleCheck then haltAt .doubleError pc saved
  else discard <| enter ⟨x.offset, x.params, pc, saved, none⟩

/-- The arithmetic trap an instruction has left is taken, R1032, R1075, R1100. -/
def enterTrap (code : Nat) : M Unit := do
  modPend fun p => { p with trap := none }
  let s ← get
  discard <| enter ⟨0x34, [BitVec.ofNat 32 code], s.pc, s.psl, none⟩

/-- An interrupt between instructions, R1060: was its handler entered? -/
def enterInterrupt (offset ipl : Nat) : M Bool := do
  let s ← get
  enter ⟨offset, [], s.pc, s.psl, some ipl⟩

/-- The trace fault, R1070; its saved condition codes are the true ones (the worked sequence R1112). -/
def enterTrace : M Unit := do
  modify fun s => { s with psl := putBit s.psl 30 false }
  let s ← get
  discard <| enter ⟨0x28, [], s.pc, s.psl, none⟩

/-! ### Running one meaning -/

/-- A meaning that completes: the arithmetic trap it leaves, if any. -/
abbrev Meaning := M (Option Nat)

/-- Complete without a trap. -/
def done : Meaning := pure none

/-- The instructions that run in kernel mode only, 49_system.md R981: HALT, LDPCTX, SVPCTX, MTPR, MFPR. -/
def privilegedOps : List Nat := [0x00, 0x06, 0x07, 0xDA, 0xDB]

/-- The instructions that may be suspended with FPD set, 46_string.md R901: strings, packed decimal, POLY, CRC. -/
def suspendableOps : List Nat :=
  [0x08, 0x09, 0x0B, 0x20, 0x21, 0x22, 0x23, 0x24, 0x25, 0x26, 0x27, 0x28, 0x29, 0x2A, 0x2B, 0x2C, 0x2D, 0x2E, 0x2F,
   0x34, 0x35, 0x36, 0x37, 0x38, 0x39, 0x3A, 0x3B, 0x55, 0x75, 0xF8, 0xF9, 0x55FD, 0x75FD]

/-- The V780 ignores and clears FPD, 46_string.md R901. -/
def ignoreFpd : M Unit := modify fun s => if s.is750 then s else { s with psl := putBit s.psl 27 false }

/-- What the opcode alone decides, 60_exceptions.md R1054, 46_string.md R901: G and H floating absent, privilege, FPD. The
V780 clears FPD before any of it, but for an instruction that may be suspended. -/
def checkOpcode (op : Nat) : M Unit := do
  let s ← get
  let absent := decide (256 ≤ op) && !s.cfg.hasGH
  let suspended := s.fpd && decide (op ∈ suspendableOps) && !absent
  if s.fpd && !suspended then ignoreFpd
  if absent then raise reservedInstruction
  if op ∈ privilegedOps ∧ s.cur ≠ 0 then raise reservedInstruction
  if suspended then refuse .firstPartDone
  else if s.fpd && s.is750 then raise reservedInstruction

/-- Number of opcode bytes, 30_encoding.md R401. -/
def opBytes (op : Nat) : Long := if op < 256 then 1 else 2

/-- The outcome of an action that leaves a whole state. -/
def outcomeOf (x : EStateM.Result Stop State Unit) : Host.Outcome State Fault Refusal :=
  match x with
  | .ok _ s => .next s
  | .error (.refuse r) _ => .refused r
  | .error (.fault f) _ => .fault f
  | .error (.exc _) s => .next s
  | .error .retry s => .next s

/-- The state with an arithmetic trap pending. -/
def State.trapped (s : State) (code : Nat) : State := { s with pend := { s.pend with trap := some code } }

/-- How an instruction ends, 60_exceptions.md R1031, R1032, R1100: `s` is the state at its start. A trap is left pending; the
boundary takes it. A fault or abort leaves
the registers and the PSL as they were, but for the FPD that the V780 clears (93_implementation_defined.md I12); an instruction
that waits for an interlock leaves everything. -/
def finish (s : State) (x : EStateM.Result Stop State (Option Nat)) : Host.Outcome State Fault Refusal :=
  match x with
  | .ok none t => .next t
  | .ok (some code) t => .next (t.trapped code)
  | .error (.exc e) t =>
    outcomeOf (enterException e s.pc { t with r := s.r, psl := if s.fpd && !t.fpd then putBit s.psl 27 false else s.psl })
  | .error (.refuse r) _ => .refused r
  | .error (.fault f) _ => .fault f
  | .error .retry t => .next { s with psl := putBit s.psl 30 false, draw := t.draw }

/-- Run the meaning of opcode `op`: the opcode's own checks, PC past the opcode, the meaning. -/
def execute (op : Nat) (m : Meaning) (s : State) : Host.Outcome State Fault Refusal :=
  finish s ((do checkOpcode op; setPC (s.pc + opBytes op); m : Meaning) s)

end Sys2Proof.Machine
end

