-- ==== Sys2Proof/Machine/Operands.lean ====
section
/-! DEFINITION. Evaluating operand specifiers (30_encoding.md R410 to R445): every mode, indexed or not, for every access type. -/
namespace Sys2Proof.Machine

/-- The longword at SP, AP, FP: register names. -/
def rSP : Reg := 14
def rAP : Reg := 12
def rFP : Reg := 13

/-- Kind of memory reference an operand of a type makes, 20_memory.md R290 (5). -/
def dataUse : DT → Use
  | .b | .w | .l => .data
  | _ => .other

/-- Kind of reference of a modify operand: byte and word ones are made as one UNIBUS sequence, 20_memory.md R292. -/
def modifyUse : DT → Use
  | .b | .w => .modify
  | .l => .data
  | _ => .other

/-- Value of a literal, R411: zero-extended, or expanded to a floating number. -/
def litValue (t : DT) (v : BitVec 6) : Octa :=
  let e := field v 3 3
  let f := field v 0 3
  match t with
  | .f | .d => BitVec.ofNat 128 ((128 + e) * 2 ^ 7 + f * 2 ^ 4)
  | .g => BitVec.ofNat 128 ((1024 + e) * 2 ^ 4 + f * 2)
  | .h => BitVec.ofNat 128 (16384 + e + f * 2 ^ 29)
  | _ => v.setWidth 128

/-- The PC moves past `k` bytes of a specifier. -/
def adv (k : Nat) : M Unit := do setPC ((← getPC) + BitVec.ofNat 32 k)

/-- A register number that must not be PC, R445. -/
def notPC (n : Reg) : M Unit := if n = 15 then refuse .unpredictableSpecifier else pure ()

/-- How the address of an operand that a reference of kind `u` is made to is fetched from memory: an operand that may not be in
I/O space may not have its base there either (20_memory.md R293, reason 3). -/
def pointerUse (u : Use) : Use := if u = .other then .other else .data

/-- The longword a deferred mode reads its address from, R416, R418; `u` is the kind of reference the operand is for. -/
def pointer (u : Use) (va : Long) : M Long := do return (← memRead (pointerUse u) va 4).setWidth 32

/-- Address of a memory mode, with its side effects, R413 to R423. Register mode with PC is no address either: 5F is the reserved
addressing mode of R445's table (DESIGN CHOICE, notes/assumptions/21.md). -/
def modeAddress (u : Use) (t : DT) : Mode → M Long
  | .lit _ | .index _ | .reg _ => raise reservedAddressing
  | .regDef n => do
    notPC n
    adv 1
    getR n
  | .autoDec n => do
    notPC n
    adv 1
    let a := (← getR n) - BitVec.ofNat 32 t.len
    setR n a
    return a
  | .autoInc n => do
    notPC n
    adv 1
    let a ← getR n
    setR n (a + BitVec.ofNat 32 t.len)
    return a
  | .autoIncDef n => do
    notPC n
    adv 1
    let p ← getR n
    let a ← pointer u p
    setR n (p + 4)
    return a
  | .imm _ => do
    let a := (← getPC) + 1
    adv (1 + t.len)
    return a
  | .absolute a => do
    adv 5
    return a
  | .dispB n d => do
    adv 2
    return (← getR n) + d.signExtend 32
  | .dispW n d => do
    adv 3
    return (← getR n) + d.signExtend 32
  | .dispL n d => do
    adv 5
    return (← getR n) + d
  | .dispBDef n d => do
    adv 2
    pointer u ((← getR n) + d.signExtend 32)
  | .dispWDef n d => do
    adv 3
    pointer u ((← getR n) + d.signExtend 32)
  | .dispLDef n d => do
    adv 5
    pointer u ((← getR n) + d)

/-- What the base of an indexed specifier may be, R424, R445. -/
def checkBase (x : Reg) (m : Mode) : M Unit :=
  if x = 15 then raise reservedAddressing
  else match m with
    | .lit _ | .index _ | .reg _ => raise reservedAddressing
    | .imm _ => refuse .unpredictableSpecifier
    | .autoDec n | .autoInc n | .autoIncDef n => if n = x then refuse .unpredictableSpecifier else pure ()
    | _ => pure ()

/-- Address of a memory operand, indexed or not. -/
def address (u : Use) (t : DT) (o : Opnd) : M Long := do
  match o.idx with
  | none => modeAddress u t o.mode
  | some x => do
    checkBase x o.mode
    adv 1
    let base ← modeAddress u t o.mode
    return base + BitVec.ofNat 32 t.len * (← getR x)

/-! ### Register operands, R412 -/

/-- Four registers from `n` on, the first lowest. -/
def State.regs4 (s : State) (n : Reg) : Octa :=
  s.reg (Reg.plus n 3) ++ s.reg (Reg.plus n 2) ++ s.reg (Reg.plus n 1) ++ s.reg n

/-- A register operand may not include PC, R445. -/
def checkReg (t : DT) (n : Reg) : M Unit :=
  if 15 < n.val + t.regs then refuse .unpredictableSpecifier else pure ()

/-- Store a datum in registers: a byte or word leaves the upper bits. -/
def State.putRegs (s : State) (t : DT) (n : Reg) (v : BitVec t.bits) : State :=
  let v : Octa := v.setWidth 128
  let part (k : Nat) : Long := v.extractLsb' (32 * k) 32
  match t with
  | .b => s.setReg n (putField (s.reg n) 0 8 (part 0))
  | .w => s.setReg n (putField (s.reg n) 0 16 (part 0))
  | .l | .f => s.setReg n (part 0)
  | .q | .d | .g => (s.setReg n (part 0)).setReg (Reg.plus n 1) (part 1)
  | .o | .h =>
    (((s.setReg n (part 0)).setReg (Reg.plus n 1) (part 1)).setReg (Reg.plus n 2) (part 2)).setReg (Reg.plus n 3) (part 3)

/-! ### Operands by access type, R440, R441 -/

/-- A read operand's value; `u` is the kind of reference it makes. -/
def rdAs (u : Use) (t : DT) (o : Opnd) : M (BitVec t.bits) := do
  match o.idx, o.mode with
  | none, .lit v => do
    adv 1
    return (litValue t v).setWidth _
  | none, .reg n => do
    checkReg t n
    adv 1
    return ((← get).regs4 n).setWidth _
  | none, .imm v => do
    adv (1 + t.len)
    return v.setWidth _
  | _, _ => do
    let a ← address u t o
    return (← memRead u a t.len).setWidth _

/-- A read operand of an instruction that may reference I/O space. -/
def rd (t : DT) (o : Opnd) : M (BitVec t.bits) := rdAs (dataUse t) t o

/-- Where a result goes: a register, an address still to be checked, or a checked place. -/
inductive Dest where
  | reg (n : Reg)
  | mem (va : Long)
  | place (sp : Span)
  deriving DecidableEq, Repr

/-- A write operand; `u` is the kind of reference to be made to it. -/
def wrAs (u : Use) (t : DT) (o : Opnd) : M Dest := do
  match o.idx, o.mode with
  | none, .reg n => do
    checkReg t n
    adv 1
    return .reg n
  | none, .imm _ => refuse .unpredictableSpecifier
  | _, _ => return .mem (← address u t o)

/-- A write operand of an instruction that may reference I/O space. -/
def wr (t : DT) (o : Opnd) : M Dest := wrAs (dataUse t) t o

/-- A modify operand: checked for write, then read. -/
def mdAs (u : Use) (t : DT) (o : Opnd) : M (Dest × BitVec t.bits) := do
  match o.idx, o.mode with
  | none, .reg n => do
    checkReg t n
    adv 1
    return (.reg n, ((← get).regs4 n).setWidth _)
  | none, .imm _ => refuse .unpredictableSpecifier
  | _, _ => do
    let a ← address u t o
    let sp ← memDest a t.len
    return (.place sp, (← readSpan u sp t.len).setWidth _)

/-- A modify operand of an instruction that may reference I/O space. -/
def md (t : DT) (o : Opnd) : M (Dest × BitVec t.bits) := mdAs (modifyUse t) t o

/-- An address operand. -/
def adr (t : DT) (o : Opnd) : M Long := address .data t o

/-- An address operand that names a string, a queue, a table or another structure that may not be in I/O space. -/
def adrPlain (t : DT) (o : Opnd) : M Long := address .other t o

/-- Where a bit field's base is, R420. -/
inductive FieldBase where
  | reg (n : Reg)
  | mem (va : Long)
  deriving DecidableEq, Repr

/-- A field operand (access v); register mode names the register. Its base may not come from I/O space. -/
def fld (o : Opnd) : M FieldBase := do
  match o.idx, o.mode with
  | none, .reg n => do
    notPC n
    adv 1
    return .reg n
  | _, _ => return .mem (← address .other .b o)

/-- A byte or word branch displacement: the target address, R403. -/
def branchTarget {w : Nat} (bytes : Nat) (d : BitVec w) : M Long := do
  adv bytes
  return (← getPC) + d.signExtend 32

/-- Check a destination for write, so that nothing can fail once a first result is stored. -/
def prepare (t : DT) (d : Dest) : M Dest :=
  match d with
  | .mem va => do return .place (← memDest va t.len)
  | d => pure d

/-- Store a result: `u` is the kind of reference of a destination not yet checked, `m` that of a checked one. -/
def storeAs (u m : Use) (t : DT) (d : Dest) (v : BitVec t.bits) : M Unit :=
  match d with
  | .reg n => modify fun s => s.putRegs t n v
  | .mem va => do writeSpan u (← memDest va t.len) t.len (v.setWidth 128)
  | .place sp => writeSpan m sp t.len (v.setWidth 128)

/-- Store a result of an instruction that may reference I/O space. -/
def store (t : DT) (d : Dest) (v : BitVec t.bits) : M Unit := storeAs (dataUse t) (modifyUse t) t d v

/-- Store a result of an instruction that may not (20_memory.md R293). -/
def storePlain (t : DT) (d : Dest) (v : BitVec t.bits) : M Unit := storeAs .other .other t d v

/-- A read operand of such an instruction. -/
def rdPlain (t : DT) (o : Opnd) : M (BitVec t.bits) := rdAs .other t o

/-- A write operand of such an instruction. -/
def wrPlain (t : DT) (o : Opnd) : M Dest := wrAs .other t o

end Sys2Proof.Machine
end

