-- ==== Sys2Proof/Machine/Flags.lean ====
section
/-! DEFINITION. Integer results with their condition codes (40_integer.md R460 to R463) and how an instruction leaves them. -/
namespace Sys2Proof.Machine

/-- An outcome of the machine. -/
abbrev Out := Host.Outcome State Fault Refusal

/-- A result with its V and C; `c = none` leaves C, `trap` is an arithmetic trap other than integer overflow. -/
structure Res (w : Nat) where
  r : BitVec w
  v : Bool := false
  c : Option Bool := none
  trap : Option Nat := none
  deriving DecidableEq, Repr

/-- Moves and logical operations: V clear, C kept. -/
def Res.keepC {w : Nat} (r : BitVec w) : Res w := { r }

/-- Widening conversions: V and C clear. -/
def Res.clearVC {w : Nat} (r : BitVec w) : Res w := { r, c := some false }

/-- a + b + c, R461. -/
def Res.add {w : Nat} (a b : BitVec w) (c : Bool) : Res w :=
  let s := a.toNat + b.toNat + c.toNat
  let r := BitVec.ofNat w s
  { r, v := a.msb == b.msb && r.msb != a.msb, c := some (decide (2 ^ w ≤ s)) }

/-- a - b - c, R461. -/
def Res.sub {w : Nat} (a b : BitVec w) (c : Bool) : Res w :=
  let r := a - b - BitVec.ofNat w c.toNat
  { r, v := a.msb != b.msb && r.msb != a.msb, c := some (decide (a.toNat < b.toNat + c.toNat)) }

/-- Negation, R481: C is set when the result is not zero. -/
def Res.neg {w : Nat} (a : BitVec w) : Res w :=
  { r := -a, v := (Res.sub 0 a false).v, c := some (decide (-a ≠ 0)) }

/-- A signed integer stored in `w` bits: V when it does not fit, C clear. -/
def Res.ofInt {w : Nat} (p : Int) : Res w :=
  let r := BitVec.ofInt w p
  { r, v := decide (r.toInt ≠ p), c := some false }

/-- Product, R540. -/
def Res.mul {w : Nat} (a b : BitVec w) : Res w := Res.ofInt (a.toInt * b.toInt)

/-- Quotient of `a` by `b`, truncated toward zero, R547: a zero divisor stores the dividend and traps with type 2; the one
quotient that does not fit stores the dividend too. -/
def Res.div {w : Nat} (a b : BitVec w) : Res w :=
  if b = 0 then { r := a, v := true, c := some false, trap := some 2 }
  else
    let q := a.toInt.tdiv b.toInt
    if (BitVec.ofInt w q).toInt = q then { r := BitVec.ofInt w q, c := some false }
    else { r := a, v := true, c := some false }

/-- Narrowing conversion, R495: V when the value changes. -/
def Res.narrow {w : Nat} (n : Nat) (a : BitVec w) : Res n :=
  { r := a.setWidth n, v := decide ((a.setWidth n).toInt ≠ a.toInt), c := some false }

/-- Arithmetic shift by a signed count, R590. -/
def Res.ash {w : Nat} (cnt : Byte) (a : BitVec w) : Res w :=
  let c := cnt.toInt
  if 0 ≤ c then
    let p := a.toInt * 2 ^ c.toNat
    { r := BitVec.ofInt w p, v := decide ((BitVec.ofInt w p).toInt ≠ p), c := some false }
  else { r := a.sshiftRight (-c).toNat, c := some false }

/-- The integer overflow trap, R462: taken when the instruction leaves V set with IV set. -/
def overflowTrap : Meaning := do
  let s ← get
  return if s.ccV && s.iv then some 1 else none

/-- Set the condition codes of a result and say which trap follows. -/
def setRes {w : Nat} (x : Res w) : Meaning := do
  let s ← get
  set (s.withCC x.r.msb (decide (x.r = 0)) x.v (x.c.getD s.ccC))
  match x.trap with
  | some k => return some k
  | none => overflowTrap

/-- Store a result and set the condition codes. -/
def storeRes (t : DT) (d : Dest) (x : Res t.bits) : Meaning := do
  store t d x.r
  setRes x

/-! ### Shapes of instructions -/

/-- src, dst. -/
def unary (ts td : DT) (f : BitVec ts.bits → Res td.bits) (src dst : Opnd) : Meaning := do
  let v ← rd ts src
  let d ← wr td dst
  storeRes td d (f v)

/-- src1, src2, dst. -/
def binary3 (t : DT) (f : BitVec t.bits → BitVec t.bits → Res t.bits) (a b dst : Opnd) : Meaning := do
  let x ← rd t a
  let y ← rd t b
  let d ← wr t dst
  storeRes t d (f x y)

/-- src, modified destination. -/
def binary2 (t : DT) (f : BitVec t.bits → BitVec t.bits → Res t.bits) (a dst : Opnd) : Meaning := do
  let x ← rd t a
  let (d, y) ← md t dst
  storeRes t d (f x y)

/-- A modified destination. -/
def modify1 (t : DT) (f : BitVec t.bits → Res t.bits) (dst : Opnd) : Meaning := do
  let (d, y) ← md t dst
  storeRes t d (f y)

/-- A destination that takes a constant. -/
def clear (t : DT) (dst : Opnd) : Meaning := do
  let d ← wr t dst
  storeRes t d (.keepC 0)

/-- Two operands compared, R500. -/
def compareFlags {w : Nat} (a b : BitVec w) : M Unit :=
  setCC (decide (a.toInt < b.toInt)) (decide (a = b)) false (decide (a.toNat < b.toNat))

def compare (t : DT) (a b : Opnd) : Meaning := do
  let x ← rd t a
  let y ← rd t b
  compareFlags x y
  done

/-- One operand tested, R503. -/
def test (t : DT) (a : Opnd) : Meaning := do
  let x ← rd t a
  setRes (.clearVC x)

/-- Two operands and-ed for their condition codes, R560. -/
def bitTest (t : DT) (a b : Opnd) : Meaning := do
  let x ← rd t a
  let y ← rd t b
  setRes (.keepC (y &&& x))

end Sys2Proof.Machine
end

