-- ==== Sys2Proof/Machine/AddressField.lean ====
section
/-! DEFINITION. Address instructions and variable-length bit field instructions (41_address_field.md). -/
namespace Sys2Proof.Machine

/-! ### Addresses, R620 -/

/-- MOVAx. -/
def mova (t : DT) (src dst : Opnd) : Meaning := do
  let a ← adr t src
  let d ← wr .l dst
  storeRes .l d (.keepC a)

/-- PUSHAx. -/
def pusha (t : DT) (src : Opnd) : Meaning := do
  let a ← adr t src
  push [a]
  setRes (.keepC a)

/-- MOVAB, R621. -/
def execMovab (src dst : Opnd) (s : State) : Out :=
  execute 0x9E (mova .b src dst) s

/-- MOVAW, R622. -/
def execMovaw (src dst : Opnd) (s : State) : Out :=
  execute 0x3E (mova .w src dst) s

/-- MOVAL, R623. -/
def execMoval (src dst : Opnd) (s : State) : Out :=
  execute 0xDE (mova .l src dst) s

/-- MOVAF, R623. -/
def execMovaf (src dst : Opnd) (s : State) : Out :=
  execute 0xDE (mova .f src dst) s

/-- MOVAQ, R624. -/
def execMovaq (src dst : Opnd) (s : State) : Out :=
  execute 0x7E (mova .q src dst) s

/-- MOVAD, R624. -/
def execMovad (src dst : Opnd) (s : State) : Out :=
  execute 0x7E (mova .d src dst) s

/-- MOVAG, R624. -/
def execMovag (src dst : Opnd) (s : State) : Out :=
  execute 0x7E (mova .g src dst) s

/-- MOVAO, R625. -/
def execMovao (src dst : Opnd) (s : State) : Out :=
  execute 0x7EFD (mova .o src dst) s

/-- MOVAH, R625. -/
def execMovah (src dst : Opnd) (s : State) : Out :=
  execute 0x7EFD (mova .h src dst) s

/-- PUSHAB, R626. -/
def execPushab (src : Opnd) (s : State) : Out :=
  execute 0x9F (pusha .b src) s

/-- PUSHAW, R627. -/
def execPushaw (src : Opnd) (s : State) : Out :=
  execute 0x3F (pusha .w src) s

/-- PUSHAL, R628. -/
def execPushal (src : Opnd) (s : State) : Out :=
  execute 0xDF (pusha .l src) s

/-- PUSHAF, R628. -/
def execPushaf (src : Opnd) (s : State) : Out :=
  execute 0xDF (pusha .f src) s

/-- PUSHAQ, R629. -/
def execPushaq (src : Opnd) (s : State) : Out :=
  execute 0x7F (pusha .q src) s

/-- PUSHAD, R629. -/
def execPushad (src : Opnd) (s : State) : Out :=
  execute 0x7F (pusha .d src) s

/-- PUSHAG, R629. -/
def execPushag (src : Opnd) (s : State) : Out :=
  execute 0x7F (pusha .g src) s

/-- PUSHAO, R630. -/
def execPushao (src : Opnd) (s : State) : Out :=
  execute 0x7FFD (pusha .o src) s

/-- PUSHAH, R630. -/
def execPushah (src : Opnd) (s : State) : Out :=
  execute 0x7FFD (pusha .h src) s

/-! ### Bit fields, R640, R641 -/

/-- Where a checked field lies: `o` is the bit of the first byte, `k` the number of bytes. -/
inductive FieldPlace where
  | empty
  | regs (n : Reg) (pos size : Nat)
  | bytes (va : Long) (o k size : Nat)
  deriving DecidableEq, Repr

/-- FieldCheck, and the place of the field. -/
def fieldPlace (pos : Long) (size : Nat) (base : FieldBase) : M FieldPlace := do
  if 32 < size then raise reservedOperand
  if size = 0 then return .empty
  match base with
  | .reg n => do
    if 31 < pos.toNat then raise reservedOperand
    if 32 < pos.toNat + size ∧ n = 14 then refuse .unpredictableSpecifier
    return .regs n pos.toNat size
  | .mem a => do
    let o := field pos 0 3
    return .bytes (a + pos.sshiftRight 3) o ((o + size + 7) / 8) size

/-- Bits <lo+size-1:lo> of an octaword as a longword. -/
def bitsOf (x : Octa) (lo size : Nat) : Long := (x >>> lo).setWidth 32 &&& fieldMask 0 size

/-- An octaword with <lo+size-1:lo> replaced. -/
def putBits (x : Octa) (lo size : Nat) (v : Long) : Octa :=
  let m : Octa := (fieldMask 0 size).setWidth 128 <<< lo
  (x &&& ~~~m) ||| ((v.setWidth 128 <<< lo) &&& m)

/-- FieldRead. -/
def fieldRead : FieldPlace → M Long
  | .empty => pure 0
  | .regs n pos size => do return bitsOf ((← get).regs4 n) pos size
  | .bytes va o k size => do return bitsOf (← memRead .other va k) o size

/-- FieldWrite. -/
def fieldWrite (f : FieldPlace) (v : Long) : M Unit := do
  match f with
  | .empty => pure ()
  | .regs n pos size => do
    let s ← get
    let w := putBits (s.regs4 n) pos size v
    let s := s.setReg n (w.extractLsb' 0 32)
    set (if 32 < pos + size then s.setReg (Reg.plus n 1) (w.extractLsb' 32 32) else s)
  | .bytes va o k size => do
    let sp ← memDest va k
    let w ← readSpan .other sp k
    writeSpan .other sp k (putBits w o size v)

/-- sext_32 of a `size`-bit value. -/
def signExtendField (size : Nat) (v : Long) : Long := (v <<< (32 - size)).sshiftRight (32 - size)

/-- EXTV and EXTZV. -/
def extract (signed : Bool) (pos size base dst : Opnd) : Meaning := do
  let p ← rdPlain .l pos
  let n := (← rdPlain .b size).toNat
  let b ← fld base
  let d ← wr .l dst
  let v ← fieldRead (← fieldPlace p n b)
  storeRes .l d (.keepC (if signed then signExtendField n v else v))

/-- INSV. -/
def insv (src pos size base : Opnd) : Meaning := do
  let v ← rd .l src
  let p ← rdPlain .l pos
  let n := (← rdPlain .b size).toNat
  let b ← fld base
  fieldWrite (← fieldPlace p n b) v
  done

/-- CMPV and CMPZV. -/
def cmpField (signed : Bool) (pos size base src : Opnd) : Meaning := do
  let p ← rdPlain .l pos
  let n := (← rdPlain .b size).toNat
  let b ← fld base
  let x ← rd .l src
  let v ← fieldRead (← fieldPlace p n b)
  compareFlags (if signed then signExtendField n v else v) x
  done

/-- Index of the first of `size` bits that equals `want`. -/
def firstBit (v : Long) (want : Bool) (size : Nat) : Option Nat :=
  (List.range size).find? fun i => v.getLsbD i == want

/-- FFS and FFC. -/
def findFirst (want : Bool) (startpos size base findpos : Opnd) : Meaning := do
  let p ← rdPlain .l startpos
  let n := (← rdPlain .b size).toNat
  let b ← fld base
  let d ← wr .l findpos
  let v ← fieldRead (← fieldPlace p n b)
  let i := firstBit v want n
  store .l d (p + BitVec.ofNat 32 (i.getD n))
  setCC false i.isNone false false
  done

/-- EXTV, R643. -/
def execExtv (pos size base dst : Opnd) (s : State) : Out :=
  execute 0xEE (extract true pos size base dst) s

/-- EXTZV, R644. -/
def execExtzv (pos size base dst : Opnd) (s : State) : Out :=
  execute 0xEF (extract false pos size base dst) s

/-- INSV, R645. -/
def execInsv (src pos size base : Opnd) (s : State) : Out :=
  execute 0xF0 (insv src pos size base) s

/-- CMPV, R646. -/
def execCmpv (pos size base src : Opnd) (s : State) : Out :=
  execute 0xEC (cmpField true pos size base src) s

/-- CMPZV, R647. -/
def execCmpzv (pos size base src : Opnd) (s : State) : Out :=
  execute 0xED (cmpField false pos size base src) s

/-- FFS, R648. -/
def execFfs (startpos size base findpos : Opnd) (s : State) : Out :=
  execute 0xEA (findFirst true startpos size base findpos) s

/-- FFC, R649. -/
def execFfc (startpos size base findpos : Opnd) (s : State) : Out :=
  execute 0xEB (findFirst false startpos size base findpos) s

end Sys2Proof.Machine
end

