-- ==== Sys2Proof/Machine/Integer.lean ====
section
/-! DEFINITION. Integer arithmetic and logical instructions (40_integer.md). -/
namespace Sys2Proof.Machine

/-! ### Shared operations of the family -/

/-- Move, R470. -/
def mov (t : DT) (src dst : Opnd) : Meaning := unary t t .keepC src dst

/-- Zero-extending move, R490. -/
def movz (ts td : DT) (src dst : Opnd) : Meaning := unary ts td (fun x => .keepC (x.setWidth _)) src dst

/-- Widening conversion, R493. -/
def widen (ts td : DT) (src dst : Opnd) : Meaning := unary ts td (fun x => .clearVC (x.signExtend _)) src dst

/-- Extended multiply, R546. -/
def emul (a b c dst : Opnd) : Meaning := do
  let x ← rd .l a
  let y ← rd .l b
  let z ← rd .l c
  let d ← wr .q dst
  storeRes .q d (.ofInt (x.toInt * y.toInt + z.toInt))

/-- Quotient and remainder of EDIV, R553. -/
def edivResult (divr : Long) (divd : Quad) : Res 32 × Long :=
  let q := divd.toInt.tdiv divr.toInt
  if divr = 0 then ({ r := divd.setWidth 32, v := true, c := some false, trap := some 2 }, 0)
  else if (BitVec.ofInt 32 q).toInt = q then
    ({ r := BitVec.ofInt 32 q, c := some false }, BitVec.ofInt 32 (divd.toInt.tmod divr.toInt))
  else ({ r := divd.setWidth 32, v := true, c := some false }, 0)

/-- Extended divide, R553; two destinations, so none of its operands may be in I/O space (20_memory.md R293, reason 5). -/
def ediv (divr divd quo rem : Opnd) : Meaning := do
  let x ← rdPlain .l divr
  let y ← rdPlain .q divd
  let dq ← wrPlain .l quo
  let dr ← wrPlain .l rem
  let dq ← prepare .l dq
  let dr ← prepare .l dr
  let (q, r) := edivResult x y
  storePlain .l dq q.r
  storePlain .l dr r
  setRes q

/-- Shift, R590. -/
def ash (t : DT) (cnt src dst : Opnd) : Meaning := do
  let c ← rd .b cnt
  let v ← rd t src
  let d ← wr t dst
  storeRes t d (.ash c v)

/-- Rotate, R592. -/
def rotl (cnt src dst : Opnd) : Meaning := do
  let c ← rd .b cnt
  let v ← rd .l src
  let d ← wr .l dst
  storeRes .l d (.keepC (v.rotateLeft (c.toNat % 32)))

/-- A read operand and where it was read from: an immediate in the instruction stream (30_encoding.md R441), a literal nowhere. -/
def rdAt (t : DT) (o : Opnd) : M (Option Dest × BitVec t.bits) := do
  match o.idx, o.mode with
  | none, .lit _ => return (none, ← rd t o)
  | none, .imm _ => do
    let a := (← getPC) + 1
    return (some (.mem a), ← rd t o)
  | none, .reg n => return (some (.reg n), ← rd t o)
  | _, _ => do
    let a ← address (dataUse t) t o
    return (some (.mem a), (← memRead (dataUse t) a t.len).setWidth _)

/-- The interlock of main memory is free, or the instruction waits, 62_platform_780.md R1352, 61_platform_750.md R1204. On
the V750 the wait may end in the read lock time-out, a machine check (20_memory.md R311); when it does is free. -/
def awaitInterlock : M Unit := do
  let s ← get
  if s.is750 then
    if s.v750.lock then
      if ← drawBool then
        latchBusError 3 true
        machineCheck
      throw .retry
  else if s.v780.interlock then throw .retry

/-- Two word operands that overlap, R517; judged on their virtual addresses (DESIGN CHOICE, notes/assumptions/48.md). -/
def overlap (a : Option Dest) (b : Dest) : Bool :=
  match a, b with
  | some (.reg m), .reg n => m == n
  | some (.mem x), .mem y => x - y == 0 || x - y == 1 || y - x == 1
  | _, _ => false

/-- What ADAWI stores: the sum, or a free word when the operands overlap. -/
def adawiValue (clash : Bool) (x : Res 16) : M Word16 := if clash then drawBits 16 else pure x.r

/-- How ADAWI ends: with the condition codes of the sum, or free ones when the operands overlap. -/
def adawiEnd (clash : Bool) (x : Res 16) : Meaning := do
  if clash then
    setCC (← drawBool) (← drawBool) (← drawBool) (← drawBool)
    overflowTrap
  else setRes x

/-- Add aligned word interlocked, R517. An odd address is found before the sum is translated (DESIGN CHOICE,
notes/assumptions/48.md). -/
def adawi (add sum : Opnd) : Meaning := do
  let (la, x) ← rdAt .w add
  let d ← wr .w sum
  let clash := overlap la d
  match d with
  | .mem a => do
    if a.getLsbD 0 then raise reservedOperand
    let sp ← memDest a 2
    match place (← get) sp.a0 with
    | .ram => awaitInterlock
    | _ => pure ()
    let y : Word16 := (← readSpan .interlocked sp 2).setWidth 16
    let res := Res.add y x false
    writeSpan .interlocked sp 2 ((← adawiValue clash res).setWidth 128)
    adawiEnd clash res
  | .reg n => do
    let y ← getR n
    let res : Res 16 := .add (y.setWidth 16) x false
    store .w (.reg n) (← adawiValue clash res)
    adawiEnd clash res
  | .place _ => done

/-! ### Move, push, clear, negate, complement -/

/-- MOVB, R470. -/
def execMovb (src dst : Opnd) (s : State) : Out :=
  execute 0x90 (mov .b src dst) s

/-- MOVW, R471. -/
def execMovw (src dst : Opnd) (s : State) : Out :=
  execute 0xB0 (mov .w src dst) s

/-- MOVL, R472. -/
def execMovl (src dst : Opnd) (s : State) : Out :=
  execute 0xD0 (mov .l src dst) s

/-- MOVQ, R473. -/
def execMovq (src dst : Opnd) (s : State) : Out :=
  execute 0x7D (mov .q src dst) s

/-- MOVO, R474. -/
def execMovo (src dst : Opnd) (s : State) : Out :=
  execute 0x7DFD (mov .o src dst) s

/-- Push a longword with the condition codes of a move, R475. -/
def pushl (src : Opnd) : Meaning := do
  let v ← rd .l src
  push [v]
  setRes (.keepC v)

/-- PUSHL, R475. -/
def execPushl (src : Opnd) (s : State) : Out :=
  execute 0xDD (pushl src) s

/-- CLRB, R476. -/
def execClrb (dst : Opnd) (s : State) : Out :=
  execute 0x94 (clear .b dst) s

/-- CLRW, R477. -/
def execClrw (dst : Opnd) (s : State) : Out :=
  execute 0xB4 (clear .w dst) s

/-- CLRL, R478. -/
def execClrl (dst : Opnd) (s : State) : Out :=
  execute 0xD4 (clear .l dst) s

/-- CLRF, R478. -/
def execClrf (dst : Opnd) (s : State) : Out :=
  execute 0xD4 (clear .l dst) s

/-- CLRQ, R479. -/
def execClrq (dst : Opnd) (s : State) : Out :=
  execute 0x7C (clear .q dst) s

/-- CLRD, R479. -/
def execClrd (dst : Opnd) (s : State) : Out :=
  execute 0x7C (clear .q dst) s

/-- CLRG, R479. -/
def execClrg (dst : Opnd) (s : State) : Out :=
  execute 0x7C (clear .q dst) s

/-- CLRO, R480. -/
def execClro (dst : Opnd) (s : State) : Out :=
  execute 0x7CFD (clear .o dst) s

/-- CLRH, R480. -/
def execClrh (dst : Opnd) (s : State) : Out :=
  execute 0x7CFD (clear .o dst) s

/-- MNEGB, R481. -/
def execMnegb (src dst : Opnd) (s : State) : Out :=
  execute 0x8E (unary .b .b .neg src dst) s

/-- MNEGW, R482. -/
def execMnegw (src dst : Opnd) (s : State) : Out :=
  execute 0xAE (unary .w .w .neg src dst) s

/-- MNEGL, R483. -/
def execMnegl (src dst : Opnd) (s : State) : Out :=
  execute 0xCE (unary .l .l .neg src dst) s

/-- MCOMB, R484. -/
def execMcomb (src dst : Opnd) (s : State) : Out :=
  execute 0x92 (unary .b .b (fun x => .keepC (~~~x)) src dst) s

/-- MCOMW, R485. -/
def execMcomw (src dst : Opnd) (s : State) : Out :=
  execute 0xB2 (unary .w .w (fun x => .keepC (~~~x)) src dst) s

/-- MCOML, R486. -/
def execMcoml (src dst : Opnd) (s : State) : Out :=
  execute 0xD2 (unary .l .l (fun x => .keepC (~~~x)) src dst) s

/-! ### Conversions -/

/-- MOVZBW, R490. -/
def execMovzbw (src dst : Opnd) (s : State) : Out :=
  execute 0x9B (movz .b .w src dst) s

/-- MOVZBL, R491. -/
def execMovzbl (src dst : Opnd) (s : State) : Out :=
  execute 0x9A (movz .b .l src dst) s

/-- MOVZWL, R492. -/
def execMovzwl (src dst : Opnd) (s : State) : Out :=
  execute 0x3C (movz .w .l src dst) s

/-- CVTBW, R493. -/
def execCvtbw (src dst : Opnd) (s : State) : Out :=
  execute 0x99 (widen .b .w src dst) s

/-- CVTBL, R494. -/
def execCvtbl (src dst : Opnd) (s : State) : Out :=
  execute 0x98 (widen .b .l src dst) s

/-- CVTWB, R495. -/
def execCvtwb (src dst : Opnd) (s : State) : Out :=
  execute 0x33 (unary .w .b (.narrow 8) src dst) s

/-- CVTWL, R496. -/
def execCvtwl (src dst : Opnd) (s : State) : Out :=
  execute 0x32 (widen .w .l src dst) s

/-- CVTLB, R497. -/
def execCvtlb (src dst : Opnd) (s : State) : Out :=
  execute 0xF6 (unary .l .b (.narrow 8) src dst) s

/-- CVTLW, R498. -/
def execCvtlw (src dst : Opnd) (s : State) : Out :=
  execute 0xF7 (unary .l .w (.narrow 16) src dst) s

/-! ### Compare and test -/

/-- CMPB, R500. -/
def execCmpb (src1 src2 : Opnd) (s : State) : Out :=
  execute 0x91 (compare .b src1 src2) s

/-- CMPW, R501. -/
def execCmpw (src1 src2 : Opnd) (s : State) : Out :=
  execute 0xB1 (compare .w src1 src2) s

/-- CMPL, R502. -/
def execCmpl (src1 src2 : Opnd) (s : State) : Out :=
  execute 0xD1 (compare .l src1 src2) s

/-- TSTB, R503. -/
def execTstb (src : Opnd) (s : State) : Out :=
  execute 0x95 (test .b src) s

/-- TSTW, R504. -/
def execTstw (src : Opnd) (s : State) : Out :=
  execute 0xB5 (test .w src) s

/-- TSTL, R505. -/
def execTstl (src : Opnd) (s : State) : Out :=
  execute 0xD5 (test .l src) s

/-! ### Add, subtract, increment, decrement -/

/-- ADDB2, R510. -/
def execAddb2 (add sum : Opnd) (s : State) : Out :=
  execute 0x80 (binary2 .b (fun a y => .add y a false) add sum) s

/-- ADDB3, R511. -/
def execAddb3 (add1 add2 sum : Opnd) (s : State) : Out :=
  execute 0x81 (binary3 .b (fun a b => .add a b false) add1 add2 sum) s

/-- ADDW2, R512. -/
def execAddw2 (add sum : Opnd) (s : State) : Out :=
  execute 0xA0 (binary2 .w (fun a y => .add y a false) add sum) s

/-- ADDW3, R513. -/
def execAddw3 (add1 add2 sum : Opnd) (s : State) : Out :=
  execute 0xA1 (binary3 .w (fun a b => .add a b false) add1 add2 sum) s

/-- ADDL2, R514. -/
def execAddl2 (add sum : Opnd) (s : State) : Out :=
  execute 0xC0 (binary2 .l (fun a y => .add y a false) add sum) s

/-- ADDL3, R515. -/
def execAddl3 (add1 add2 sum : Opnd) (s : State) : Out :=
  execute 0xC1 (binary3 .l (fun a b => .add a b false) add1 add2 sum) s

/-- A longword operation that takes the C bit in, R516, R530. -/
def withCarry (f : Long → Long → Bool → Res 32) (a dst : Opnd) : Meaning := do
  let x ← rd .l a
  let (d, y) ← md .l dst
  storeRes .l d (f y x (← get).ccC)

/-- ADWC, R516. -/
def execAdwc (add sum : Opnd) (s : State) : Out :=
  execute 0xD8 (withCarry .add add sum) s

/-- ADAWI, R517. -/
def execAdawi (add sum : Opnd) (s : State) : Out :=
  execute 0x58 (adawi add sum) s

/-- INCB, R518. -/
def execIncb (sum : Opnd) (s : State) : Out :=
  execute 0x96 (modify1 .b (fun y => .add y 1 false) sum) s

/-- INCW, R519. -/
def execIncw (sum : Opnd) (s : State) : Out :=
  execute 0xB6 (modify1 .w (fun y => .add y 1 false) sum) s

/-- INCL, R520. -/
def execIncl (sum : Opnd) (s : State) : Out :=
  execute 0xD6 (modify1 .l (fun y => .add y 1 false) sum) s

/-- DECB, R521. -/
def execDecb (dif : Opnd) (s : State) : Out :=
  execute 0x97 (modify1 .b (fun y => .sub y 1 false) dif) s

/-- DECW, R522. -/
def execDecw (dif : Opnd) (s : State) : Out :=
  execute 0xB7 (modify1 .w (fun y => .sub y 1 false) dif) s

/-- DECL, R523. -/
def execDecl (dif : Opnd) (s : State) : Out :=
  execute 0xD7 (modify1 .l (fun y => .sub y 1 false) dif) s

/-- SUBB2, R524. -/
def execSubb2 (sub dif : Opnd) (s : State) : Out :=
  execute 0x82 (binary2 .b (fun a y => .sub y a false) sub dif) s

/-- SUBB3, R525. -/
def execSubb3 (sub min dif : Opnd) (s : State) : Out :=
  execute 0x83 (binary3 .b (fun a b => .sub b a false) sub min dif) s

/-- SUBW2, R526. -/
def execSubw2 (sub dif : Opnd) (s : State) : Out :=
  execute 0xA2 (binary2 .w (fun a y => .sub y a false) sub dif) s

/-- SUBW3, R527. -/
def execSubw3 (sub min dif : Opnd) (s : State) : Out :=
  execute 0xA3 (binary3 .w (fun a b => .sub b a false) sub min dif) s

/-- SUBL2, R528. -/
def execSubl2 (sub dif : Opnd) (s : State) : Out :=
  execute 0xC2 (binary2 .l (fun a y => .sub y a false) sub dif) s

/-- SUBL3, R529. -/
def execSubl3 (sub min dif : Opnd) (s : State) : Out :=
  execute 0xC3 (binary3 .l (fun a b => .sub b a false) sub min dif) s

/-- SBWC, R530. -/
def execSbwc (sub dif : Opnd) (s : State) : Out :=
  execute 0xD9 (withCarry .sub sub dif) s

/-! ### Multiply and divide -/

/-- MULB2, R540. -/
def execMulb2 (mulr prod : Opnd) (s : State) : Out :=
  execute 0x84 (binary2 .b (fun a y => .mul y a) mulr prod) s

/-- MULB3, R541. -/
def execMulb3 (mulr muld prod : Opnd) (s : State) : Out :=
  execute 0x85 (binary3 .b (fun a b => .mul b a) mulr muld prod) s

/-- MULW2, R542. -/
def execMulw2 (mulr prod : Opnd) (s : State) : Out :=
  execute 0xA4 (binary2 .w (fun a y => .mul y a) mulr prod) s

/-- MULW3, R543. -/
def execMulw3 (mulr muld prod : Opnd) (s : State) : Out :=
  execute 0xA5 (binary3 .w (fun a b => .mul b a) mulr muld prod) s

/-- MULL2, R544. -/
def execMull2 (mulr prod : Opnd) (s : State) : Out :=
  execute 0xC4 (binary2 .l (fun a y => .mul y a) mulr prod) s

/-- MULL3, R545. -/
def execMull3 (mulr muld prod : Opnd) (s : State) : Out :=
  execute 0xC5 (binary3 .l (fun a b => .mul b a) mulr muld prod) s

/-- EMUL, R546. -/
def execEmul (mulr muld add prod : Opnd) (s : State) : Out :=
  execute 0x7A (emul mulr muld add prod) s

/-- DIVB2, R547. -/
def execDivb2 (divr quo : Opnd) (s : State) : Out :=
  execute 0x86 (binary2 .b (fun a y => .div y a) divr quo) s

/-- DIVB3, R548. -/
def execDivb3 (divr divd quo : Opnd) (s : State) : Out :=
  execute 0x87 (binary3 .b (fun a b => .div b a) divr divd quo) s

/-- DIVW2, R549. -/
def execDivw2 (divr quo : Opnd) (s : State) : Out :=
  execute 0xA6 (binary2 .w (fun a y => .div y a) divr quo) s

/-- DIVW3, R550. -/
def execDivw3 (divr divd quo : Opnd) (s : State) : Out :=
  execute 0xA7 (binary3 .w (fun a b => .div b a) divr divd quo) s

/-- DIVL2, R551. -/
def execDivl2 (divr quo : Opnd) (s : State) : Out :=
  execute 0xC6 (binary2 .l (fun a y => .div y a) divr quo) s

/-- DIVL3, R552. -/
def execDivl3 (divr divd quo : Opnd) (s : State) : Out :=
  execute 0xC7 (binary3 .l (fun a b => .div b a) divr divd quo) s

/-- EDIV, R553. -/
def execEdiv (divr divd quo rem : Opnd) (s : State) : Out :=
  execute 0x7B (ediv divr divd quo rem) s

/-! ### Bit operations -/

/-- BITB, R560. -/
def execBitb (mask src : Opnd) (s : State) : Out :=
  execute 0x93 (bitTest .b mask src) s

/-- BITW, R561. -/
def execBitw (mask src : Opnd) (s : State) : Out :=
  execute 0xB3 (bitTest .w mask src) s

/-- BITL, R562. -/
def execBitl (mask src : Opnd) (s : State) : Out :=
  execute 0xD3 (bitTest .l mask src) s

/-- BISB2, R563. -/
def execBisb2 (mask dst : Opnd) (s : State) : Out :=
  execute 0x88 (binary2 .b (fun m y => .keepC (y ||| m)) mask dst) s

/-- BISB3, R564. -/
def execBisb3 (mask src dst : Opnd) (s : State) : Out :=
  execute 0x89 (binary3 .b (fun m x => .keepC (x ||| m)) mask src dst) s

/-- BISW2, R565. -/
def execBisw2 (mask dst : Opnd) (s : State) : Out :=
  execute 0xA8 (binary2 .w (fun m y => .keepC (y ||| m)) mask dst) s

/-- BISW3, R566. -/
def execBisw3 (mask src dst : Opnd) (s : State) : Out :=
  execute 0xA9 (binary3 .w (fun m x => .keepC (x ||| m)) mask src dst) s

/-- BISL2, R567. -/
def execBisl2 (mask dst : Opnd) (s : State) : Out :=
  execute 0xC8 (binary2 .l (fun m y => .keepC (y ||| m)) mask dst) s

/-- BISL3, R568. -/
def execBisl3 (mask src dst : Opnd) (s : State) : Out :=
  execute 0xC9 (binary3 .l (fun m x => .keepC (x ||| m)) mask src dst) s

/-- BICB2, R569. -/
def execBicb2 (mask dst : Opnd) (s : State) : Out :=
  execute 0x8A (binary2 .b (fun m y => .keepC (y &&& ~~~m)) mask dst) s

/-- BICB3, R570. -/
def execBicb3 (mask src dst : Opnd) (s : State) : Out :=
  execute 0x8B (binary3 .b (fun m x => .keepC (x &&& ~~~m)) mask src dst) s

/-- BICW2, R571. -/
def execBicw2 (mask dst : Opnd) (s : State) : Out :=
  execute 0xAA (binary2 .w (fun m y => .keepC (y &&& ~~~m)) mask dst) s

/-- BICW3, R572. -/
def execBicw3 (mask src dst : Opnd) (s : State) : Out :=
  execute 0xAB (binary3 .w (fun m x => .keepC (x &&& ~~~m)) mask src dst) s

/-- BICL2, R573. -/
def execBicl2 (mask dst : Opnd) (s : State) : Out :=
  execute 0xCA (binary2 .l (fun m y => .keepC (y &&& ~~~m)) mask dst) s

/-- BICL3, R574. -/
def execBicl3 (mask src dst : Opnd) (s : State) : Out :=
  execute 0xCB (binary3 .l (fun m x => .keepC (x &&& ~~~m)) mask src dst) s

/-- XORB2, R575. -/
def execXorb2 (mask dst : Opnd) (s : State) : Out :=
  execute 0x8C (binary2 .b (fun m y => .keepC (y ^^^ m)) mask dst) s

/-- XORB3, R576. -/
def execXorb3 (mask src dst : Opnd) (s : State) : Out :=
  execute 0x8D (binary3 .b (fun m x => .keepC (x ^^^ m)) mask src dst) s

/-- XORW2, R577. -/
def execXorw2 (mask dst : Opnd) (s : State) : Out :=
  execute 0xAC (binary2 .w (fun m y => .keepC (y ^^^ m)) mask dst) s

/-- XORW3, R578. -/
def execXorw3 (mask src dst : Opnd) (s : State) : Out :=
  execute 0xAD (binary3 .w (fun m x => .keepC (x ^^^ m)) mask src dst) s

/-- XORL2, R579. -/
def execXorl2 (mask dst : Opnd) (s : State) : Out :=
  execute 0xCC (binary2 .l (fun m y => .keepC (y ^^^ m)) mask dst) s

/-- XORL3, R580. -/
def execXorl3 (mask src dst : Opnd) (s : State) : Out :=
  execute 0xCD (binary3 .l (fun m x => .keepC (x ^^^ m)) mask src dst) s

/-! ### Shifts and rotate -/

/-- ASHL, R590. -/
def execAshl (cnt src dst : Opnd) (s : State) : Out :=
  execute 0x78 (ash .l cnt src dst) s

/-- ASHQ, R591. -/
def execAshq (cnt src dst : Opnd) (s : State) : Out :=
  execute 0x79 (ash .q cnt src dst) s

/-- ROTL, R592. -/
def execRotl (cnt src dst : Opnd) (s : State) : Out :=
  execute 0x9C (rotl cnt src dst) s

end Sys2Proof.Machine
end

