-- ==== Sys2Proof/Machine/Control.lean ====
section
/-! DEFINITION. Control instructions: branch, jump, loop, case, subroutine (42_control.md). -/
namespace Sys2Proof.Machine

/-- Go to `target` when `taken`. -/
def branchIf (taken : Bool) (target : Long) : M Unit := if taken then setPC target else pure ()

/-- A branch that depends on the state, R680 to R691; `bytes` is the size of the displacement. -/
def branchOn {w : Nat} (bytes : Nat) (displ : BitVec w) (cond : State → Bool) : Meaning := do
  let t ← branchTarget bytes displ
  branchIf (cond (← get)) t
  done

/-! ### Unconditional branch and jump -/

/-- BRB, R675. -/
def execBrb (displ : BitVec 8) (s : State) : Out :=
  execute 0x11 (branchOn 1 displ fun _ => true) s

/-- BRW, R676. -/
def execBrw (displ : BitVec 16) (s : State) : Out :=
  execute 0x31 (branchOn 2 displ fun _ => true) s

/-- R677. -/
def jump (dst : Opnd) : Meaning := do
  setPC (← adr .b dst)
  done

/-- JMP, R677. -/
def execJmp (dst : Opnd) (s : State) : Out :=
  execute 0x17 (jump dst) s

/-! ### Conditional branches -/

/-- BNEQ, R680. -/
def execBneq (displ : BitVec 8) (s : State) : Out :=
  execute 0x12 (branchOn 1 displ fun s => !s.ccZ) s

/-- BNEQU, R680. -/
def execBnequ (displ : BitVec 8) (s : State) : Out :=
  execute 0x12 (branchOn 1 displ fun s => !s.ccZ) s

/-- BEQL, R681. -/
def execBeql (displ : BitVec 8) (s : State) : Out :=
  execute 0x13 (branchOn 1 displ fun s => s.ccZ) s

/-- BEQLU, R681. -/
def execBeqlu (displ : BitVec 8) (s : State) : Out :=
  execute 0x13 (branchOn 1 displ fun s => s.ccZ) s

/-- BGTR, R682. -/
def execBgtr (displ : BitVec 8) (s : State) : Out :=
  execute 0x14 (branchOn 1 displ fun s => !(s.ccN || s.ccZ)) s

/-- BLEQ, R683. -/
def execBleq (displ : BitVec 8) (s : State) : Out :=
  execute 0x15 (branchOn 1 displ fun s => s.ccN || s.ccZ) s

/-- BGEQ, R684. -/
def execBgeq (displ : BitVec 8) (s : State) : Out :=
  execute 0x18 (branchOn 1 displ fun s => !s.ccN) s

/-- BLSS, R685. -/
def execBlss (displ : BitVec 8) (s : State) : Out :=
  execute 0x19 (branchOn 1 displ fun s => s.ccN) s

/-- BGTRU, R686. -/
def execBgtru (displ : BitVec 8) (s : State) : Out :=
  execute 0x1A (branchOn 1 displ fun s => !(s.ccC || s.ccZ)) s

/-- BLEQU, R687. -/
def execBlequ (displ : BitVec 8) (s : State) : Out :=
  execute 0x1B (branchOn 1 displ fun s => s.ccC || s.ccZ) s

/-- BVC, R688. -/
def execBvc (displ : BitVec 8) (s : State) : Out :=
  execute 0x1C (branchOn 1 displ fun s => !s.ccV) s

/-- BVS, R689. -/
def execBvs (displ : BitVec 8) (s : State) : Out :=
  execute 0x1D (branchOn 1 displ fun s => s.ccV) s

/-- BCC, R690. -/
def execBcc (displ : BitVec 8) (s : State) : Out :=
  execute 0x1E (branchOn 1 displ fun s => !s.ccC) s

/-- BGEQU, R690. -/
def execBgequ (displ : BitVec 8) (s : State) : Out :=
  execute 0x1E (branchOn 1 displ fun s => !s.ccC) s

/-- BCS, R691. -/
def execBcs (displ : BitVec 8) (s : State) : Out :=
  execute 0x1F (branchOn 1 displ fun s => s.ccC) s

/-- BLSSU, R691. -/
def execBlssu (displ : BitVec 8) (s : State) : Out :=
  execute 0x1F (branchOn 1 displ fun s => s.ccC) s

/-! ### Branch on bit, R695 -/

/-- BBS and BBC: branch when the bit equals `want`. -/
def branchBit (want : Bool) (pos base : Opnd) (displ : Byte) : Meaning := do
  let p ← rdPlain .l pos
  let b ← fld base
  let t ← branchTarget 1 displ
  let v ← fieldRead (← fieldPlace p 1 b)
  branchIf (v.getLsbD 0 == want) t
  done

/-- Read a one-bit field and put `new` in its place, checked for write first; interlocked or not. -/
def exchangeBit (u : Use) (f : FieldPlace) (new : Bool) : M Bool := do
  match f with
  | .bytes va o k _ => do
    let sp ← memDest va k
    match u, place (← get) sp.a0 with
    | .interlocked, .ram => awaitInterlock
    | _, _ => pure ()
    let w ← readSpan u sp k
    writeSpan u sp k (putBits w o 1 (bitL new))
    return w.getLsbD o
  | f => do
    let v ← fieldRead f
    fieldWrite f (bitL new)
    return v.getLsbD 0

/-- BBSS, BBCS, BBSC, BBCC: the bit becomes `new`; BBSSI and BBCCI: as one interlocked reference, R702, R703. -/
def branchBitSet (u : Use) (want new : Bool) (pos base : Opnd) (displ : Byte) : Meaning := do
  let p ← rdPlain .l pos
  let b ← fld base
  let t ← branchTarget 1 displ
  let old ← exchangeBit u (← fieldPlace p 1 b) new
  branchIf (old == want) t
  done

/-- BLBS and BLBC, R704. -/
def branchLowBit (want : Bool) (src : Opnd) (displ : Byte) : Meaning := do
  let v ← rd .l src
  let t ← branchTarget 1 displ
  branchIf (v.getLsbD 0 == want) t
  done

/-- BBS, R696. -/
def execBbs (pos base : Opnd) (displ : BitVec 8) (s : State) : Out :=
  execute 0xE0 (branchBit true pos base displ) s

/-- BBC, R697. -/
def execBbc (pos base : Opnd) (displ : BitVec 8) (s : State) : Out :=
  execute 0xE1 (branchBit false pos base displ) s

/-- BBSS, R698. -/
def execBbss (pos base : Opnd) (displ : BitVec 8) (s : State) : Out :=
  execute 0xE2 (branchBitSet .other true true pos base displ) s

/-- BBCS, R699. -/
def execBbcs (pos base : Opnd) (displ : BitVec 8) (s : State) : Out :=
  execute 0xE3 (branchBitSet .other false true pos base displ) s

/-- BBSC, R700. -/
def execBbsc (pos base : Opnd) (displ : BitVec 8) (s : State) : Out :=
  execute 0xE4 (branchBitSet .other true false pos base displ) s

/-- BBCC, R701. -/
def execBbcc (pos base : Opnd) (displ : BitVec 8) (s : State) : Out :=
  execute 0xE5 (branchBitSet .other false false pos base displ) s

/-- BBSSI, R702. -/
def execBbssi (pos base : Opnd) (displ : BitVec 8) (s : State) : Out :=
  execute 0xE6 (branchBitSet .interlocked true true pos base displ) s

/-- BBCCI, R703. -/
def execBbcci (pos base : Opnd) (displ : BitVec 8) (s : State) : Out :=
  execute 0xE7 (branchBitSet .interlocked false false pos base displ) s

/-- BLBS, R704. -/
def execBlbs (src : Opnd) (displ : BitVec 8) (s : State) : Out :=
  execute 0xE8 (branchLowBit true src displ) s

/-- BLBC, R705. -/
def execBlbc (src : Opnd) (displ : BitVec 8) (s : State) : Out :=
  execute 0xE9 (branchLowBit false src displ) s

/-! ### Loops, R707 -/

/-- The end of a loop instruction: the index is stored with N, Z, V and C kept, and the branch is decided on its new value.
The index is not the last operand, so a loop instruction may not reference I/O space (20_memory.md R293, reason 5). -/
def loopEnd (t : DT) (d : Dest) (x : Res t.bits) (taken : Bool) (target : Long) : Meaning := do
  storePlain t d x.r
  setNZV x.r.msb (decide (x.r = 0)) x.v
  branchIf taken target
  overflowTrap

/-- ACBx, R708. -/
def acb (t : DT) (limit add idx : Opnd) (displ : Word16) : Meaning := do
  let l ← rdPlain t limit
  let a ← rdPlain t add
  let (d, i) ← mdAs .other t idx
  let target ← branchTarget 2 displ
  let x := Res.add i a false
  loopEnd t d x (if a.msb then decide (l.toInt ≤ x.r.toInt) else decide (x.r.toInt ≤ l.toInt)) target

/-- AOBxxx, R711. -/
def aob (leq : Bool) (limit idx : Opnd) (displ : Byte) : Meaning := do
  let l ← rdPlain .l limit
  let (d, i) ← mdAs .other .l idx
  let target ← branchTarget 1 displ
  let x : Res 32 := Res.add i 1 false
  loopEnd .l d x (decide (x.r.toInt < l.toInt) || leq && x.r == l) target

/-- SOBxxx, R713. -/
def sob (geq : Bool) (idx : Opnd) (displ : Byte) : Meaning := do
  let (d, i) ← mdAs .other .l idx
  let target ← branchTarget 1 displ
  let x : Res 32 := Res.sub i 1 false
  loopEnd .l d x (decide (0 < x.r.toInt) || geq && x.r == 0) target

/-- ACBB, R708. -/
def execAcbb (limit add idx : Opnd) (displ : BitVec 16) (s : State) : Out :=
  execute 0x9D (acb .b limit add idx displ) s

/-- ACBW, R709. -/
def execAcbw (limit add idx : Opnd) (displ : BitVec 16) (s : State) : Out :=
  execute 0x3D (acb .w limit add idx displ) s

/-- ACBL, R710. -/
def execAcbl (limit add idx : Opnd) (displ : BitVec 16) (s : State) : Out :=
  execute 0xF1 (acb .l limit add idx displ) s

/-- AOBLSS, R711. -/
def execAoblss (limit idx : Opnd) (displ : BitVec 8) (s : State) : Out :=
  execute 0xF2 (aob false limit idx displ) s

/-- AOBLEQ, R712. -/
def execAobleq (limit idx : Opnd) (displ : BitVec 8) (s : State) : Out :=
  execute 0xF3 (aob true limit idx displ) s

/-- SOBGEQ, R713. -/
def execSobgeq (idx : Opnd) (displ : BitVec 8) (s : State) : Out :=
  execute 0xF4 (sob true idx displ) s

/-- SOBGTR, R714. -/
def execSobgtr (idx : Opnd) (displ : BitVec 8) (s : State) : Out :=
  execute 0xF5 (sob false idx displ) s

/-! ### Case, R715 -/

/-- A word of the instruction stream: memory or ROM, R715. One that cannot be read fails as an instruction byte does, which the
V750 notes in MCESR<0> (DESIGN CHOICE, notes/assumptions/20.md). -/
def streamWord (va : Long) : M Word16 := do
  let sp ← translateSpan va 2 false (← get).cur
  let s ← get
  match peekByte s 0 sp.a0, peekByte s 1 (sp.sub 1 1).a0 with
  | some lo, some hi => do
    set (((s.fetchedByte 0 sp.a0).fetchedByte 1 (sp.sub 1 1).a0).drawn 2)
    return hi ++ lo
  | some _, none => unreadableByte (sp.sub 1 1).a0
  | none, _ => unreadableByte sp.a0

/-- CASEx. -/
def case (t : DT) (selector base limit : Opnd) : Meaning := do
  let sel ← rd t selector
  let b ← rd t base
  let l ← rd t limit
  let tmp := sel - b
  let pc ← getPC
  if tmp.toNat ≤ l.toNat then
    let d ← streamWord (pc + BitVec.ofNat 32 (2 * tmp.toNat))
    setPC (pc + d.signExtend 32)
  else
    setPC (pc + BitVec.ofNat 32 (2 * (l.toNat + 1)))
  compareFlags tmp l
  done

/-- CASEB, R716. -/
def execCaseb (selector base limit : Opnd) (s : State) : Out :=
  execute 0x8F (case .b selector base limit) s

/-- CASEW, R717. -/
def execCasew (selector base limit : Opnd) (s : State) : Out :=
  execute 0xAF (case .w selector base limit) s

/-- CASEL, R718. -/
def execCasel (selector base limit : Opnd) (s : State) : Out :=
  execute 0xCF (case .l selector base limit) s

/-! ### Subroutines -/

/-- R723. -/
def branchSub {w : Nat} (bytes : Nat) (displ : BitVec w) : Meaning := do
  let t ← branchTarget bytes displ
  push [← getPC]
  setPC t
  done

/-- R725. -/
def jsb (dst : Opnd) : Meaning := do
  let t ← adr .b dst
  push [← getPC]
  setPC t
  done

/-- R726. -/
def rsb : Meaning := do
  setPC (← pop)
  done

/-- BSBB, R723. -/
def execBsbb (displ : BitVec 8) (s : State) : Out :=
  execute 0x10 (branchSub 1 displ) s

/-- BSBW, R724. -/
def execBsbw (displ : BitVec 16) (s : State) : Out :=
  execute 0x30 (branchSub 2 displ) s

/-- JSB, R725. -/
def execJsb (dst : Opnd) (s : State) : Out :=
  execute 0x16 (jsb dst) s

/-- RSB, R726. -/
def execRsb (s : State) : Out :=
  execute 0x05 (rsb) s

end Sys2Proof.Machine
end

