-- ==== Sys2Proof/Machine/String.lean ====
section
/-! DEFINITION. Character string instructions (46_string.md). A string instruction is one step (R901): it reads and checks every
byte first, in the order of its references, and writes after that. -/
namespace Sys2Proof.Machine

/-! ### Bytes of strings -/

/-- B(a), R902. -/
def readByte (va : Long) : M Byte := do return (← memRead .other va 1).setWidth 8

/-- `n` bytes from `va` on. -/
def readBytes (va : Long) : Nat → M (List Byte)
  | 0 => pure []
  | n + 1 => do
    let b ← readByte va
    return b :: (← readBytes (va + 1) n)

/-- A byte of a destination string, checked for write: its physical address. -/
def destByte (va : Long) : M Nat := do return (← memDest va 1).a0

/-- The checked addresses of `n` destination bytes. -/
def destBytes (va : Long) : Nat → M (List Nat)
  | 0 => pure []
  | n + 1 => do
    let pa ← destByte va
    return pa :: (← destBytes (va + 1) n)

/-- The addresses of those of `n` destination bytes that may be written. -/
def writableBytes (va : Long) : Nat → M (List Nat)
  | 0 => pure []
  | n + 1 => do
    match ← attempt (destByte va) with
    | .ok pa => return pa :: (← writableBytes (va + 1) n)
    | .error (.exc _) => writableBytes (va + 1) n
    | .error e => throw e

/-- Store bytes at checked addresses. -/
def putBytes : List (Nat × Byte) → M Unit
  | [] => pure ()
  | (pa, b) :: rest => do
    physWrite .other pa 1 (b.setWidth 128)
    putBytes rest

/-- `n` free bytes. -/
def freeBytes : Nat → M (List Byte)
  | 0 => pure []
  | n + 1 => do
    let b ← drawBits 8
    return b :: (← freeBytes n)

/-- Do the `n` bytes at `a` and the `m` bytes at `b` share an address? -/
def rangesOverlap (a : Long) (n : Nat) (b : Long) (m : Nat) : Bool :=
  decide (0 < n ∧ 0 < m ∧ ((a - b).toNat < m ∨ (b - a).toNat < n))

/-- Set R0, R1 and so on. -/
def setRegs : Nat → List Long → M Unit
  | _, [] => pure ()
  | k, v :: rest => do
    setR ⟨k % 16, Nat.mod_lt _ (by decide)⟩ v
    setRegs (k + 1) rest

/-- A number as a longword. -/
def long (n : Nat) : Long := BitVec.ofNat 32 n

/-- T[b], R902. -/
def translateByte (tbl : Long) (b : Byte) : M Byte := readByte (tbl + b.setWidth 32)

/-- Condition codes of the moves with two lengths, R906. -/
def lengthFlags (a b : Word16) (v : Bool) : M Unit :=
  setCC (decide (a.toInt < b.toInt)) (decide (a = b)) v (decide (a.toNat < b.toNat))

/-! ### Moves -/

/-- R905. -/
def movc3 (len srcaddr dstaddr : Opnd) : Meaning := do
  let n := (← rdPlain .w len).toNat
  let s ← adrPlain .b srcaddr
  let d ← adrPlain .b dstaddr
  let bytes ← readBytes s n
  let dest ← destBytes d n
  putBytes (dest.zip bytes)
  setRegs 0 [0, s + long n, 0, d + long n, 0, 0]
  setCC false true false false
  done

/-- R906. -/
def movc5 (srclen srcaddr fill dstlen dstaddr : Opnd) : Meaning := do
  let sl ← rdPlain .w srclen
  let s ← adrPlain .b srcaddr
  let f ← rdPlain .b fill
  let dl ← rdPlain .w dstlen
  let d ← adrPlain .b dstaddr
  let m := min sl.toNat dl.toNat
  let bytes ← readBytes s m
  let dest ← destBytes d dl.toNat
  putBytes (dest.zip (bytes ++ List.replicate (dl.toNat - m) f))
  setRegs 0 [long (sl.toNat - m), s + long m, 0, d + long dl.toNat, 0, 0]
  lengthFlags sl dl false
  done

/-- Bytes read and translated. -/
def translateBytes (tbl va : Long) : Nat → M (List Byte)
  | 0 => pure []
  | n + 1 => do
    let b ← translateByte tbl (← readByte va)
    return b :: (← translateBytes tbl (va + 1) n)

/-- R907. Every source and table byte is read before any destination byte is checked (DESIGN CHOICE,
notes/assumptions/49.md). -/
def movtc (srclen srcaddr fill tbladdr dstlen dstaddr : Opnd) : Meaning := do
  let sl ← rdPlain .w srclen
  let s ← adrPlain .b srcaddr
  let f ← rdPlain .b fill
  let t ← adrPlain .b tbladdr
  let dl ← rdPlain .w dstlen
  let d ← adrPlain .b dstaddr
  let m := min sl.toNat dl.toNat
  let bytes ← translateBytes t s m
  let dest ← destBytes d dl.toNat
  let bytes ← if rangesOverlap d dl.toNat t 256 then freeBytes dl.toNat
    else pure (bytes ++ List.replicate (dl.toNat - m) f)
  putBytes (dest.zip bytes)
  setRegs 0 [long (sl.toNat - m), s + long m, 0, t, 0, d + long dl.toNat]
  lengthFlags sl dl false
  done

/-- The loop of MOVTUC over at most `n` bytes: what to store, and whether the escape was met. -/
def translateUntil (tbl : Long) (esc : Byte) (s d : Long) : Nat → M (List (Nat × Byte) × Bool)
  | 0 => pure ([], false)
  | n + 1 => do
    let b ← translateByte tbl (← readByte s)
    if b = esc then return ([], true)
    let pa ← destByte d
    let (rest, e) ← translateUntil tbl esc (s + 1) (d + 1) n
    return ((pa, b) :: rest, e)

/-- The same loop where the destination overlaps the source or the table: what it has stored is free, so that after any byte it
may have met the escape or go on. Was it met? -/
def translateFreely (tbl s d : Long) : Nat → M Bool
  | 0 => pure false
  | n + 1 => do
    discard <| translateByte tbl (← readByte s)
    if ← drawBool then return true
    discard <| destByte d
    translateFreely tbl (s + 1) (d + 1) n

/-- R908. When the destination overlaps the source or the table, the destination bytes and R0 to R5 are free, and so is V, which
depends on them (notes/assumptions/49.md). -/
def movtuc (srclen srcaddr esc tbladdr dstlen dstaddr : Opnd) : Meaning := do
  let sl ← rdPlain .w srclen
  let s ← adrPlain .b srcaddr
  let e ← rdPlain .b esc
  let t ← adrPlain .b tbladdr
  let dl ← rdPlain .w dstlen
  let d ← adrPlain .b dstaddr
  let m := min sl.toNat dl.toNat
  if rangesOverlap d dl.toNat s sl.toNat || rangesOverlap d dl.toNat t 256 then
    let escaped ← translateFreely t s d m
    let dest ← writableBytes d dl.toNat
    putBytes (dest.zip (← freeBytes dest.length))
    freeRegs 6
    lengthFlags sl dl escaped
  else
    let (out, escaped) ← translateUntil t e s d m
    putBytes out
    let i := out.length
    setRegs 0 [long (sl.toNat - i), s + long i, 0, t, long (dl.toNat - i), d + long i]
    lengthFlags sl dl escaped
  done

/-! ### Comparisons -/

/-- Two bytes compared, R910. -/
def byteFlags (a b : Byte) : M Unit :=
  setCC (decide (a.toInt < b.toInt)) (decide (a = b)) false (decide (a.toNat < b.toNat))

/-- A byte of a string of `len` bytes, or the fill byte past its end. -/
def byteOrFill (va : Long) (len i : Nat) (fill : Byte) : M Byte :=
  if i < len then readByte (va + long i) else pure fill

/-- The position where two strings of `len1` and `len2` bytes differ, looking at `n` positions from `i` on. -/
def compareFrom (a b : Long) (len1 len2 : Nat) (fill : Byte) (i : Nat) : Nat → M Nat
  | 0 => pure i
  | n + 1 => do
    let x ← byteOrFill a len1 i fill
    let y ← byteOrFill b len2 i fill
    byteFlags x y
    if x ≠ y then return i
    compareFrom a b len1 len2 fill (i + 1) n

/-- CMPC3 and CMPC5 after their operands. -/
def compareStrings (a b : Long) (len1 len2 : Nat) (fill : Byte) : Meaning := do
  setCC false true false false
  let i ← compareFrom a b len1 len2 fill 0 (max len1 len2)
  setRegs 0 [long (len1 - i), a + long (min i len1), long (len2 - i), b + long (min i len2)]
  done

/-- R910. -/
def cmpc3 (len src1addr src2addr : Opnd) : Meaning := do
  let n := (← rdPlain .w len).toNat
  let a ← adrPlain .b src1addr
  let b ← adrPlain .b src2addr
  compareStrings a b n n 0

/-- R911. -/
def cmpc5 (src1len src1addr fill src2len src2addr : Opnd) : Meaning := do
  let n1 := (← rdPlain .w src1len).toNat
  let a ← adrPlain .b src1addr
  let f ← rdPlain .b fill
  let n2 := (← rdPlain .w src2len).toNat
  let b ← adrPlain .b src2addr
  compareStrings a b n1 n2 f

/-! ### Searches -/

/-- The number of leading bytes, of `n`, that a test passes over. -/
def passOver (skip : Byte → M Bool) (va : Long) : Nat → M Nat
  | 0 => pure 0
  | n + 1 => do
    if ← skip (← readByte va) then return (← passOver skip (va + 1) n) + 1
    return 0

/-- Condition codes of a search that leaves `r` bytes. -/
def searchFlags (r : Nat) : M Unit := setCC false (decide (r = 0)) false false

/-- SCANC passes over bytes whose table entry has no bit of the mask, SPANC over those that have one, R915, R916. -/
def scan (span : Bool) (len addr tbladdr mask : Opnd) : Meaning := do
  let n := (← rdPlain .w len).toNat
  let a ← adrPlain .b addr
  let t ← adrPlain .b tbladdr
  let m ← rdPlain .b mask
  let i ← passOver (fun b => do return ((← translateByte t b) &&& m != 0) == span) a n
  setRegs 0 [long (n - i), a + long i, 0, t]
  searchFlags (n - i)
  done

/-- LOCC passes over bytes other than the character, SKPC over the character, R917, R918. -/
def locate (skipChar : Bool) (char len addr : Opnd) : Meaning := do
  let c ← rdPlain .b char
  let n := (← rdPlain .w len).toNat
  let a ← adrPlain .b addr
  let i ← passOver (fun b => pure ((b == c) == skipChar)) a n
  setRegs 0 [long (n - i), a + long i]
  searchFlags (n - i)
  done

/-- Do `n` bytes at two addresses agree? They are read up to the first difference. -/
def sameBytes (a b : Long) : Nat → M Bool
  | 0 => pure true
  | n + 1 => do
    let x ← readByte a
    let y ← readByte b
    if x ≠ y then return false
    sameBytes (a + 1) (b + 1) n

/-- The first of `n` positions from `j` on where the object stands in the source. -/
def matchFrom (src obj : Long) (objlen j : Nat) : Nat → M (Option Nat)
  | 0 => pure none
  | n + 1 => do
    if ← sameBytes (src + long j) obj objlen then return some j
    matchFrom src obj objlen (j + 1) n

/-- R919. A failed search refers to every source byte. -/
def matchc (objlen objaddr srclen srcaddr : Opnd) : Meaning := do
  let on := (← rdPlain .w objlen).toNat
  let o ← adrPlain .b objaddr
  let sn := (← rdPlain .w srclen).toNat
  let s ← adrPlain .b srcaddr
  match ← matchFrom s o on 0 (sn + 1 - on) with
  | some j => do
    setRegs 0 [0, o + long on, long (sn - j - on), s + long (j + on)]
    setCC false true false false
  | none => do
    discard <| readBytes s sn
    setRegs 0 [long on, o, 0, s + long sn]
    setCC false false false false
  done

/-- MOVC3, R905. -/
def execMovc3 (len srcaddr dstaddr : Opnd) (s : State) : Out :=
  execute 0x28 (movc3 len srcaddr dstaddr) s

/-- MOVC5, R906. -/
def execMovc5 (srclen srcaddr fill dstlen dstaddr : Opnd) (s : State) : Out :=
  execute 0x2C (movc5 srclen srcaddr fill dstlen dstaddr) s

/-- MOVTC, R907. -/
def execMovtc (srclen srcaddr fill tbladdr dstlen dstaddr : Opnd) (s : State) : Out :=
  execute 0x2E (movtc srclen srcaddr fill tbladdr dstlen dstaddr) s

/-- MOVTUC, R908. -/
def execMovtuc (srclen srcaddr esc tbladdr dstlen dstaddr : Opnd) (s : State) : Out :=
  execute 0x2F (movtuc srclen srcaddr esc tbladdr dstlen dstaddr) s

/-- CMPC3, R910. -/
def execCmpc3 (len src1addr src2addr : Opnd) (s : State) : Out :=
  execute 0x29 (cmpc3 len src1addr src2addr) s

/-- CMPC5, R911. -/
def execCmpc5 (src1len src1addr fill src2len src2addr : Opnd) (s : State) : Out :=
  execute 0x2D (cmpc5 src1len src1addr fill src2len src2addr) s

/-- SCANC, R915. -/
def execScanc (len addr tbladdr mask : Opnd) (s : State) : Out :=
  execute 0x2A (scan false len addr tbladdr mask) s

/-- SPANC, R916. -/
def execSpanc (len addr tbladdr mask : Opnd) (s : State) : Out :=
  execute 0x2B (scan true len addr tbladdr mask) s

/-- LOCC, R917. -/
def execLocc (char len addr : Opnd) (s : State) : Out :=
  execute 0x3A (locate false char len addr) s

/-- SKPC, R918. -/
def execSkpc (char len addr : Opnd) (s : State) : Out :=
  execute 0x3B (locate true char len addr) s

/-- MATCHC, R919. -/
def execMatchc (objlen objaddr srclen srcaddr : Opnd) (s : State) : Out :=
  execute 0x39 (matchc objlen objaddr srclen srcaddr) s

end Sys2Proof.Machine
end

