-- ==== Sys2Proof/Machine/Decimal.lean ====
section
/-! DEFINITION. Decimal string instructions (47_decimal.md). Each is one step; what R932 (b) calls UNPREDICTABLE data raises the
reserved operand fault (92_eei_decisions.md D36). -/
namespace Sys2Proof.Machine

/-! ### Formats, R930, R931 -/

/-- Bytes of a packed string of `len` digits. -/
def packedLen (len : Nat) : Nat := len / 2 + 1

/-- A string as one number, its first byte the most significant. -/
def beNat (bytes : List Byte) : Nat := bytes.foldl (fun acc b => acc * 256 + b.toNat) 0

/-- The low `n` bytes of a number, most significant first. -/
def beBytes (n x : Nat) : List Byte := (List.range n).map fun i => BitVec.ofNat 8 (x / 256 ^ (n - 1 - i))

/-- Decimal digits, most significant first, as a number. -/
def digitsNat (ds : List Nat) : Nat := ds.foldl (fun acc d => acc * 10 + d) 0

/-- The `n` low-order decimal digits of a number, most significant first. -/
def digitsOf (n x : Nat) : List Nat := (List.range n).map fun i => x / 10 ^ (n - 1 - i) % 10

/-- The digits of a packed string (with the unused one of an even length), most significant first. -/
def packedDigits (len : Nat) (bytes : List Byte) : List Nat :=
  let x := beNat bytes
  (List.range (2 * (len / 2) + 1)).map fun i => x / 16 ^ (2 * (len / 2) + 1 - i) % 16

/-- A sign nibble that means minus. -/
def minusSign (s : Nat) : Bool := s == 11 || s == 13

/-- Dec of the bytes of a packed string; none for an invalid digit or sign, R932 (b), (c). -/
def packedValue (len : Nat) (bytes : List Byte) : Option Int :=
  let ds := packedDigits len bytes
  let sign := beNat bytes % 16
  let v : Int := digitsNat ds
  if sign < 10 ∨ ds.any (fun d => decide (9 < d)) ∨ (len % 2 = 0 ∧ ds.headD 0 ≠ 0) then none
  else some (if minusSign sign then -v else v)

/-- The packed string of `len` digits for a sign and digits. -/
def packedBytes (len : Nat) (minus : Bool) (ds : List Nat) : List Byte :=
  beBytes (packedLen len) (ds.foldl (fun acc d => acc * 16 + d) 0 * 16 + (if minus then 13 else 12))

/-- A length operand, R932 (a). -/
def checkLen (n : Nat) : M Unit := if 31 < n then raise reservedOperand else pure ()

/-- What is valid, or a reserved operand fault. -/
def valid {α : Type} (x : Option α) : M α :=
  match x with
  | some a => pure a
  | none => raise reservedOperand

/-- Dec(A, L). Every byte of the string is read before any is validated, so a fault of a later byte comes before that of an invalid
digit in an earlier one (R932 gives no order; DESIGN CHOICE, notes/assumptions/51.md). -/
def readPacked (va : Long) (len : Nat) : M Int := do valid (packedValue len (← readBytes va (packedLen len)))

/-! ### Results, R932 (d) to (g) -/

/-- A decimal string an instruction refers to: address, digits, bytes. -/
structure DecString where
  va : Long
  len : Nat
  bytes : Nat
  deriving DecidableEq, Repr

def packedString (va : Long) (len : Nat) : DecString := ⟨va, len, packedLen len⟩

/-- Two strings that overlap without being identical. -/
def DecString.clash (d s : DecString) : Bool :=
  rangesOverlap d.va d.bytes s.va s.bytes && !(d.va == s.va && d.len == s.len)

/-- Trap type 6 when the instruction leaves V set with DV set. -/
def decimalTrap : Meaning := do
  let s ← get
  return if s.ccV && s.dv then some 6 else none

/-- Store the result `v` in the string `d`, as `bytes` encodes a sign and digits. When `d` overlaps one of `srcs` the
bytes stored are free (93_implementation_defined.md I46); a translation table is none of them (DESIGN CHOICE,
notes/assumptions/50.md). `keepC` is MOVP's C. -/
def storeDec (d : DecString) (srcs : List DecString) (regs : List Long) (v : Int) (keepC : Bool)
    (bytes : Bool → List Nat → M (List Byte)) : Meaning := do
  let ds := digitsOf d.len v.natAbs
  let out ← bytes (decide (v < 0)) ds
  let dest ← destBytes d.va d.bytes
  let c := keepC && (← get).ccC
  let out ← if srcs.any d.clash then freeBytes d.bytes else pure out
  putBytes (dest.zip out)
  setRegs 0 regs
  let zero := ds.all fun x => x == 0
  setCC (decide (v < 0) && !zero) zero (decide (10 ^ d.len ≤ v.natAbs)) c
  decimalTrap

/-- A packed result. -/
def storePacked (dst : Long) (dstlen : Nat) (srcs : List DecString) (regs : List Long) (v : Int) : Meaning :=
  storeDec (packedString dst dstlen) srcs regs v false fun minus ds => pure (packedBytes dstlen minus ds)

/-- A packed operand: its length and address. -/
def packedOpnd (len addr : Opnd) : M (Nat × Long) := do
  let n := (← rdPlain .w len).toNat
  let a ← adrPlain .b addr
  return (n, a)

/-! ### Move and compare -/

/-- R935. -/
def movp (len srcaddr dstaddr : Opnd) : Meaning := do
  let (n, s) ← packedOpnd len srcaddr
  let d ← adrPlain .b dstaddr
  checkLen n
  let v ← readPacked s n
  storeDec (packedString d n) [packedString s n] [0, s, 0, d] v true fun minus ds => pure (packedBytes n minus ds)

/-- CMPP3 and CMPP4 after their operands. -/
def comparePacked (n1 : Nat) (a : Long) (n2 : Nat) (b : Long) : Meaning := do
  checkLen n1
  checkLen n2
  let x ← readPacked a n1
  let y ← readPacked b n2
  setRegs 0 [0, a, 0, b]
  setCC (decide (x < y)) (decide (x = y)) false false
  done

/-- R936. -/
def cmpp3 (len src1addr src2addr : Opnd) : Meaning := do
  let (n, a) ← packedOpnd len src1addr
  let b ← adrPlain .b src2addr
  comparePacked n a n b

/-- R937. -/
def cmpp4 (src1len src1addr src2len src2addr : Opnd) : Meaning := do
  let (n1, a) ← packedOpnd src1len src1addr
  let (n2, b) ← packedOpnd src2len src2addr
  comparePacked n1 a n2 b

/-! ### Arithmetic -/

/-- ADDP4 and SUBP4: `f` takes the second operand's old value and the first, R938, R940. The sources are read and validated in
their order (DESIGN CHOICE, notes/assumptions/51.md). -/
def packed4 (f : Int → Int → Int) (len1 addr1 len2 addr2 : Opnd) : Meaning := do
  let (n1, a) ← packedOpnd len1 addr1
  let (n2, b) ← packedOpnd len2 addr2
  checkLen n1
  checkLen n2
  let x ← readPacked a n1
  let y ← readPacked b n2
  storePacked b n2 [packedString a n1] [0, a, 0, b] (f y x)

/-- The six-operand forms after their operands are evaluated: `f` takes the second source and the first, R939.
The sources are read and validated in their order (DESIGN CHOICE, notes/assumptions/51.md). -/
def packed6 (f : Int → Int → Int) (len1 addr1 len2 addr2 len3 addr3 : Opnd) : Meaning := do
  let (n1, a) ← packedOpnd len1 addr1
  let (n2, b) ← packedOpnd len2 addr2
  let (n3, d) ← packedOpnd len3 addr3
  checkLen n1
  checkLen n2
  checkLen n3
  let x ← readPacked a n1
  let y ← readPacked b n2
  storePacked d n3 [packedString a n1, packedString b n2] [0, a, 0, b, 0, d] (f y x)

/-- R943. A zero divisor, found before the dividend is read, leaves the destination and the condition codes free and traps
with type 4. -/
def divp (divrlen divraddr divdlen divdaddr quolen quoaddr : Opnd) : Meaning := do
  let (n1, a) ← packedOpnd divrlen divraddr
  let (n2, b) ← packedOpnd divdlen divdaddr
  let (n3, d) ← packedOpnd quolen quoaddr
  checkLen n1
  checkLen n2
  checkLen n3
  let x ← readPacked a n1
  let regs := [0, a, 0, b, 0, d]
  if x = 0 then
    let dest ← destBytes d (packedLen n3)
    putBytes (dest.zip (← freeBytes (packedLen n3)))
    setRegs 0 regs
    setCC (← drawBool) (← drawBool) (← drawBool) (← drawBool)
    return some 4
  else
    let y ← readPacked b n2
    storePacked d n3 [packedString a n1, packedString b n2] regs (y.tdiv x)

/-- A value times a power of ten, rounded with a digit when shifted right, R944. The sign of zero is plus
(DESIGN CHOICE, notes/assumptions/51.md). -/
def shiftDecimal (v : Int) (cnt : Int) (round : Nat) : Int :=
  if 0 ≤ cnt then v * 10 ^ cnt.toNat
  else
    let k := (-cnt).toNat
    let m : Int := ((v.natAbs + round * 10 ^ (k - 1)) / 10 ^ k : Nat)
    if v < 0 then -m else m

/-- R944. -/
def ashp (cnt srclen srcaddr round dstlen dstaddr : Opnd) : Meaning := do
  let c ← rdPlain .b cnt
  let (n, s) ← packedOpnd srclen srcaddr
  let r ← rdPlain .b round
  let (m, d) ← packedOpnd dstlen dstaddr
  checkLen n
  checkLen m
  let v ← readPacked s n
  storePacked d m [packedString s n] [0, s, 0, d] (shiftDecimal v c.toInt (field r 0 4))

/-! ### Conversions -/

/-- R945. -/
def cvtlp (src dstlen dstaddr : Opnd) : Meaning := do
  let v ← rdPlain .l src
  let (n, d) ← packedOpnd dstlen dstaddr
  checkLen n
  storePacked d n [] [0, 0, 0, d] v.toInt

/-- R946: the destination specifier is evaluated after R0 to R3 are set. -/
def cvtpl (srclen srcaddr dst : Opnd) : Meaning := do
  let (n, s) ← packedOpnd srclen srcaddr
  checkLen n
  let v ← readPacked s n
  setRegs 0 [0, s, 0, 0]
  let d ← wrPlain .l dst
  let x : Res 32 := .ofInt v
  storePlain .l d x.r
  setRes x

/-- ASCII digits. -/
def asciiDigits (ds : List Nat) : List Byte := ds.map fun d => BitVec.ofNat 8 (0x30 + d)

/-- R947. -/
def cvtps (srclen srcaddr dstlen dstaddr : Opnd) : Meaning := do
  let (n, s) ← packedOpnd srclen srcaddr
  let (m, d) ← packedOpnd dstlen dstaddr
  checkLen n
  checkLen m
  let v ← readPacked s n
  storeDec ⟨d, m, m + 1⟩ [packedString s n] [0, s, 0, d] v false fun minus ds =>
    pure ((if minus then 0x2D else 0x2B) :: asciiDigits ds)

/-- The value of ASCII digits; none for another byte. -/
def asciiValue (bytes : List Byte) : Option Nat :=
  if bytes.all fun b => decide (0x30 ≤ b.toNat ∧ b.toNat ≤ 0x39) then
    some (digitsNat (bytes.map fun b => b.toNat - 0x30))
  else none

/-- A leading separate numeric string's value, R931 (a). -/
def separateValue (bytes : List Byte) : Option Int := do
  let v ← asciiValue bytes.tail
  let sign := bytes.headD 0
  if sign = 0x2D then some (-(v : Int))
  else if sign = 0x2B ∨ sign = 0x20 then some (v : Int)
  else none

/-- R948. -/
def cvtsp (srclen srcaddr dstlen dstaddr : Opnd) : Meaning := do
  let (n, s) ← packedOpnd srclen srcaddr
  let (m, d) ← packedOpnd dstlen dstaddr
  checkLen n
  checkLen m
  let v ← valid (separateValue (← readBytes s (n + 1)))
  storePacked d m [⟨s, n, n + 1⟩] [0, s, 0, d] v

/-- A trailing numeric string of a sign and digits: the last byte comes from the table, R949. It is read
before the destination is checked (DESIGN CHOICE, notes/assumptions/50.md). -/
def trailingBytes (tbl : Long) (minus : Bool) (ds : List Nat) : M (List Byte) := do
  match ds.getLast? with
  | none => return []
  | some d0 => do
    let b ← readByte (tbl + long (d0 * 16 + (if minus then 13 else 12)))
    return asciiDigits ds.dropLast ++ [b]

/-- R949. -/
def cvtpt (srclen srcaddr tbladdr dstlen dstaddr : Opnd) : Meaning := do
  let (n, s) ← packedOpnd srclen srcaddr
  let t ← adrPlain .b tbladdr
  let (m, d) ← packedOpnd dstlen dstaddr
  checkLen n
  checkLen m
  let v ← readPacked s n
  storeDec ⟨d, m, m⟩ [packedString s n] [0, s, 0, d] v false (trailingBytes t)

/-- A trailing numeric string's value: leading digits and the translated last byte, R950. -/
def trailingValue (lead : List Byte) (t : Byte) : Option Int := do
  let v ← asciiValue lead
  let d := field t 4 4
  let sign := field t 0 4
  if 9 < d ∨ sign < 10 then none
  else
    let v : Int := ((v * 10 + d : Nat) : Int)
    some (if minusSign sign then -v else v)

/-- R950. The byte of the table is read before the leading digits are validated, so a fault of the table comes before that of an
invalid digit (R950 gives no order; DESIGN CHOICE, notes/assumptions/51.md). -/
def cvttp (srclen srcaddr tbladdr dstlen dstaddr : Opnd) : Meaning := do
  let (n, s) ← packedOpnd srclen srcaddr
  let t ← adrPlain .b tbladdr
  let (m, d) ← packedOpnd dstlen dstaddr
  checkLen n
  checkLen m
  let bytes ← readBytes s n
  let v ← match bytes.getLast? with
    | none => pure 0
    | some b => do valid (trailingValue bytes.dropLast (← translateByte t b))
  storePacked d m [⟨s, n, n⟩] [0, s, 0, d] v

/-! ### Edit, R951, R952 -/

/-- The state of an edit: digits not yet consumed, leading zeros to supply, fill and sign characters, destination and
pattern pointers, what is to be stored (last byte first), and the condition codes N, Z, V, C. -/
structure Edit where
  digits : List Nat
  zeros : Nat
  fill : Byte
  sign : Byte
  dp : Long
  pp : Long
  out : List (Nat × Byte)
  n : Bool
  z : Bool
  v : Bool
  c : Bool
  deriving DecidableEq, Repr

/-- put(c). -/
def editPut (e : Edit) (b : Byte) : M Edit := do
  let pa ← destByte e.dp
  return { e with dp := e.dp + 1, out := (pa, b) :: e.out }

/-- next_digit(). -/
def nextDigit (e : Edit) : M (Nat × Edit) :=
  match e.zeros, e.digits with
  | z + 1, _ => pure (0, { e with zeros := z })
  | 0, [] => raise reservedOperand
  | 0, d :: rest => if 9 < d then raise reservedOperand else pure (d, { e with digits := rest })

/-- put(fill), `r` times. -/
def editFill (e : Edit) : Nat → M Edit
  | 0 => pure e
  | r + 1 => do editFill (← editPut e e.fill) r

/-- The digit if significance is set, else fill. -/
def editDigit (e : Edit) (d : Nat) : M Edit := editPut e (if e.c then BitVec.ofNat 8 (0x30 + d) else e.fill)

/-- EO$MOVE, and EO$FLOAT, which stores the sign before the first significant digit. -/
def editMove (float : Bool) (e : Edit) : Nat → M Edit
  | 0 => pure e
  | r + 1 => do
    let (d, e) ← nextDigit e
    let e ← if float ∧ d ≠ 0 ∧ ¬ e.c then editPut e e.sign else pure e
    let e := if d ≠ 0 then { e with c := true, z := false } else e
    editMove float (← editDigit e d) r

/-- Overwrite `k` stored bytes, `skip` from the last one, with fill. -/
def overwrite (fill : Byte) (k : Nat) (out : List (Nat × Byte)) : List (Nat × Byte) :=
  (out.take k).map (fun x => (x.1, fill)) ++ out.drop k

/-- A length that reaches back over what was stored. -/
def editBack (e : Edit) (len : Nat) : M Unit :=
  if len = 0 ∨ e.out.length < len then raise reservedOperand else pure ()

/-- EO$ADJUST_INPUT. -/
def editAdjust (e : Edit) (len : Nat) : M Edit := do
  if 31 < len then raise reservedOperand
  let cnt := e.digits.length
  if len < cnt then
    let lost := e.digits.take (cnt - len)
    if lost.any fun d => decide (9 < d) then raise reservedOperand
    let e := { e with digits := e.digits.drop (cnt - len) }
    if lost.any fun d => d != 0 then return { e with z := false, c := true, v := true }
    return e
  else if cnt < len then return { e with zeros := len - cnt }
  else return e

/-- An operator with an operand byte, 40 to 47. -/
def editWith (e : Edit) (op : Nat) (ch : Byte) : M Edit := do
  match op with
  | 0x40 => return { e with fill := ch }
  | 0x41 => return { e with sign := ch }
  | 0x42 => return if e.n then e else { e with sign := ch }
  | 0x43 => return if e.n then { e with sign := ch } else e
  | 0x44 => editPut e (if e.c then ch else e.fill)
  | 0x45 => do
    editBack e ch.toNat
    return if e.z then { e with out := overwrite e.fill ch.toNat e.out } else e
  | 0x46 => do
    editBack e ch.toNat
    let k := ch.toNat - 1
    return if e.z then { e with out := e.out.take k ++ overwrite e.fill 1 (e.out.drop k) } else e
  | _ => editAdjust e ch.toNat

/-- One pattern operator other than EO$END. -/
def editOp (e : Edit) (op : Nat) : M Edit := do
  let r := op % 16
  if op = 1 then
    let e ← if e.c then pure e else editPut e e.sign
    return { e with c := true }
  else if op = 2 then return { e with c := false }
  else if op = 3 then return { e with c := true }
  else if op = 4 then editPut e e.sign
  else if 0x40 ≤ op ∧ op ≤ 0x47 then
    let ch ← readByte e.pp
    editWith { e with pp := e.pp + 1 } op ch
  else if 0x81 ≤ op ∧ op ≤ 0x8F then editFill e r
  else if 0x91 ≤ op ∧ op ≤ 0x9F then editMove false e r
  else if 0xA1 ≤ op ∧ op ≤ 0xAF then editMove true e r
  else raise reservedOperand

/-- The pattern up to its EO$END; pp is left at that byte, as R951 says and R953 does not (DESIGN CHOICE,
notes/assumptions/50.md). A pattern that fills the address space never ends. -/
def editRun (e : Edit) : Nat → M Edit
  | 0 => throw .retry
  | fuel + 1 => do
    let op ← readByte e.pp
    if op = 0 then
      if e.digits ≠ [] ∨ e.zeros ≠ 0 then raise reservedOperand
      return { e with n := e.n && !e.z }
    else editRun (← editOp { e with pp := e.pp + 1 } op.toNat) fuel

/-- R951. When the destination overlaps the source or the pattern, the bytes stored are free (93_implementation_defined.md I46).
The whole source is read before the pattern (DESIGN CHOICE, notes/assumptions/50.md). -/
def editpc (srclen srcaddr pattern dstaddr : Opnd) : Meaning := do
  let (n, s) ← packedOpnd srclen srcaddr
  let p ← adrPlain .b pattern
  let d ← adrPlain .b dstaddr
  checkLen n
  let bytes ← readBytes s (packedLen n)
  let sign := beNat bytes % 16
  let ds := packedDigits n bytes
  if sign < 10 ∨ (n % 2 = 0 ∧ ds.headD 0 ≠ 0) then raise reservedOperand
  let minus := minusSign sign
  let start : Edit :=
    { digits := if n % 2 = 0 then ds.tail else ds, zeros := 0, fill := 0x20, sign := if minus then 0x2D else 0x20,
      dp := d, pp := p, out := [], n := minus, z := true, v := false, c := false }
  let e ← editRun start (2 ^ 32)
  let k := e.out.length
  let out ← if rangesOverlap d k s (packedLen n) || rangesOverlap d k p ((e.pp - p).toNat + 1) then
      pure ((e.out.map Prod.fst).zip (← freeBytes k))
    else pure e.out.reverse
  putBytes out
  setRegs 0 [long n, s, 0, e.pp, 0, e.dp]
  setCC e.n e.z e.v e.c
  decimalTrap

/-- MOVP, R935. -/
def execMovp (len srcaddr dstaddr : Opnd) (s : State) : Out :=
  execute 0x34 (movp len srcaddr dstaddr) s

/-- CMPP3, R936. -/
def execCmpp3 (len src1addr src2addr : Opnd) (s : State) : Out :=
  execute 0x35 (cmpp3 len src1addr src2addr) s

/-- CMPP4, R937. -/
def execCmpp4 (src1len src1addr src2len src2addr : Opnd) (s : State) : Out :=
  execute 0x37 (cmpp4 src1len src1addr src2len src2addr) s

/-- ADDP4, R938. -/
def execAddp4 (addlen addaddr sumlen sumaddr : Opnd) (s : State) : Out :=
  execute 0x20 (packed4 (fun y x => y + x) addlen addaddr sumlen sumaddr) s

/-- ADDP6, R939. -/
def execAddp6 (add1len add1addr add2len add2addr sumlen sumaddr : Opnd) (s : State) : Out :=
  execute 0x21 (packed6 (fun y x => y + x) add1len add1addr add2len add2addr sumlen sumaddr) s

/-- SUBP4, R940. -/
def execSubp4 (sublen subaddr diflen difaddr : Opnd) (s : State) : Out :=
  execute 0x22 (packed4 (fun y x => y - x) sublen subaddr diflen difaddr) s

/-- SUBP6, R941. -/
def execSubp6 (sublen subaddr minlen minaddr diflen difaddr : Opnd) (s : State) : Out :=
  execute 0x23 (packed6 (fun y x => y - x) sublen subaddr minlen minaddr diflen difaddr) s

/-- MULP, R942. -/
def execMulp (mulrlen mulraddr muldlen muldaddr prodlen prodaddr : Opnd) (s : State) : Out :=
  execute 0x25 (packed6 (fun y x => y * x) mulrlen mulraddr muldlen muldaddr prodlen prodaddr) s

/-- DIVP, R943. -/
def execDivp (divrlen divraddr divdlen divdaddr quolen quoaddr : Opnd) (s : State) : Out :=
  execute 0x27 (divp divrlen divraddr divdlen divdaddr quolen quoaddr) s

/-- ASHP, R944. -/
def execAshp (cnt srclen srcaddr round dstlen dstaddr : Opnd) (s : State) : Out :=
  execute 0xF8 (ashp cnt srclen srcaddr round dstlen dstaddr) s

/-- CVTLP, R945. -/
def execCvtlp (src dstlen dstaddr : Opnd) (s : State) : Out :=
  execute 0xF9 (cvtlp src dstlen dstaddr) s

/-- CVTPL, R946. -/
def execCvtpl (srclen srcaddr dst : Opnd) (s : State) : Out :=
  execute 0x36 (cvtpl srclen srcaddr dst) s

/-- CVTPS, R947. -/
def execCvtps (srclen srcaddr dstlen dstaddr : Opnd) (s : State) : Out :=
  execute 0x08 (cvtps srclen srcaddr dstlen dstaddr) s

/-- CVTSP, R948. -/
def execCvtsp (srclen srcaddr dstlen dstaddr : Opnd) (s : State) : Out :=
  execute 0x09 (cvtsp srclen srcaddr dstlen dstaddr) s

/-- CVTPT, R949. -/
def execCvtpt (srclen srcaddr tbladdr dstlen dstaddr : Opnd) (s : State) : Out :=
  execute 0x24 (cvtpt srclen srcaddr tbladdr dstlen dstaddr) s

/-- CVTTP, R950. -/
def execCvttp (srclen srcaddr tbladdr dstlen dstaddr : Opnd) (s : State) : Out :=
  execute 0x26 (cvttp srclen srcaddr tbladdr dstlen dstaddr) s

/-- EDITPC, R951. -/
def execEditpc (srclen srcaddr pattern dstaddr : Opnd) (s : State) : Out :=
  execute 0x38 (editpc srclen srcaddr pattern dstaddr) s

end Sys2Proof.Machine
end

