-- ==== Sys2Proof/Machine/Floating.lean ====
section
/-! DEFINITION. Floating point instructions (45_floating.md). -/
namespace Sys2Proof.Machine

/-! ### Formats, R782 -/

/-- Bits of the exponent. -/
def expLen : DT → Nat
  | .g => 11
  | .h => 15
  | _ => 8

/-- Bits of the fraction after the hidden bit. -/
def fracLen (t : DT) : Nat := t.bits - 1 - expLen t

def bias (t : DT) : Nat := 2 ^ (expLen t - 1)

/-- The 16-bit words of a datum in reverse order: sign, exponent and fraction then stand in one number. -/
def swapWords {w : Nat} (v : BitVec w) : BitVec w :=
  BitVec.ofNat w ((List.range (w / 16)).foldl (fun acc i => acc * 65536 + v.toNat / 65536 ^ i % 65536) 0)

/-- Sign and exponent say reserved operand, R785. -/
def reservedFloat (t : DT) (v : BitVec t.bits) : Bool :=
  let w := (swapWords v).toNat / 2 ^ fracLen t
  w == 2 ^ expLen t

/-- An exact number (-1)^neg * m * 2^e. -/
structure ExactNum where
  neg : Bool
  m : Nat
  e : Int
  deriving DecidableEq, Repr

/-- A datum's value. -/
def floatValue (t : DT) (v : BitVec t.bits) : ExactNum :=
  let w := (swapWords v).toNat
  let n := fracLen t
  let ex := w / 2 ^ n % 2 ^ expLen t
  if ex = 0 then ⟨false, 0, 0⟩
  else ⟨w / 2 ^ (t.bits - 1) % 2 == 1, 2 ^ n + w % 2 ^ n, (ex : Int) - bias t - (n + 1)⟩

/-- The datum with the given sign, biased exponent and fraction. -/
def packFloat (t : DT) (neg : Bool) (ex frac : Nat) : BitVec t.bits :=
  swapWords (BitVec.ofNat t.bits (neg.toNat * 2 ^ (t.bits - 1) + ex * 2 ^ fracLen t + frac))

/-! ### Exact arithmetic -/

def ExactNum.ofInt (z : Int) (e : Int) : ExactNum := ⟨decide (z < 0), z.natAbs, e⟩

/-- The mantissa of a number at a scale not above its own. -/
def ExactNum.scaled (a : ExactNum) (e : Int) : Int :=
  let m : Int := a.m * 2 ^ (a.e - e).toNat
  if a.neg then -m else m

def ExactNum.negate (a : ExactNum) : ExactNum := { a with neg := !a.neg && a.m != 0 }

def ExactNum.add (a b : ExactNum) : ExactNum :=
  let e := min a.e b.e
  ExactNum.ofInt (a.scaled e + b.scaled e) e

def ExactNum.sub (a b : ExactNum) : ExactNum := a.add b.negate

def ExactNum.mul (a b : ExactNum) : ExactNum := ⟨a.neg != b.neg && a.m != 0 && b.m != 0, a.m * b.m, a.e + b.e⟩

/-- Quotient with enough bits to round a result of `n` fraction bits. -/
def ExactNum.div (n : Nat) (a b : ExactNum) : ExactNum :=
  let k := n + 4 + Nat.log2 b.m
  ⟨a.neg != b.neg && a.m != 0, a.m * 2 ^ k / b.m, a.e - b.e - k⟩

/-- Drop the low `k` bits of the mantissa. -/
def ExactNum.chop (a : ExactNum) (k : Nat) : ExactNum := ⟨a.neg, a.m / 2 ^ k, a.e + k⟩

def ExactNum.lt (a b : ExactNum) : Bool := (a.sub b).neg
def ExactNum.eq (a b : ExactNum) : Bool := (a.sub b).m == 0

/-- Integer part, truncated toward zero. -/
def ExactNum.trunc (a : ExactNum) : Int :=
  let m : Int := if 0 ≤ a.e then a.m * 2 ^ a.e.toNat else (a.m / 2 ^ (-a.e).toNat : Nat)
  if a.neg then -m else m

/-- Nearest integer, halves away from zero, R862. -/
def ExactNum.round (a : ExactNum) : Int :=
  if 0 ≤ a.e then a.trunc
  else
    let m : Int := ((a.m + 2 ^ ((-a.e).toNat - 1)) / 2 ^ (-a.e).toNat : Nat)
    if a.neg then -m else m

/-- What the integer part leaves. -/
def ExactNum.fract (a : ExactNum) : ExactNum :=
  if 0 ≤ a.e then ⟨false, 0, 0⟩ else ⟨a.neg, a.m % 2 ^ (-a.e).toNat, a.e⟩

/-! ### Rounding, R784 -/

inductive Rounded (w : Nat) where
  | value (v : BitVec w)
  | overflow
  | underflow
  deriving DecidableEq, Repr

/-- Rnd: normalized, rounded to nearest with halves away from zero; overflow and underflow are tested after. -/
def roundTo (t : DT) (a : ExactNum) : Rounded t.bits :=
  if a.m = 0 then .value 0
  else
    let n := fracLen t
    let len := Nat.log2 a.m + 1
    let m := if len ≤ n + 1 then a.m * 2 ^ (n + 1 - len) else (a.m + 2 ^ (len - n - 2)) / 2 ^ (len - n - 1)
    let carry := if m = 2 ^ (n + 1) then 1 else 0
    let ex : Int := a.e + len + carry + bias t
    if 2 ^ expLen t ≤ ex then .overflow
    else if ex ≤ 0 then .underflow
    else .value (packFloat t a.neg ex.toNat (m % 2 ^ n))

/-- A result to store: the datum, whether V is set, the trap, and whether R786 rather than R787 gives C. -/
structure FloatRes (w : Nat) where
  v : BitVec w
  ovf : Bool := false
  trap : Option Nat := none
  special : Bool := false
  deriving DecidableEq, Repr

/-- The reserved operand a V780 trap stores: sign 1, exponent and fraction 0. -/
def floatReserved (t : DT) : BitVec t.bits := packFloat t true 0 0

/-- Overflow and underflow, R786: faults on the V750, traps on the V780. -/
def settle (t : DT) (x : Rounded t.bits) : M (FloatRes t.bits) := do
  let s ← get
  match x with
  | .value v => return { v := v }
  | .overflow =>
    if s.is750 then raise (arithFault 8)
    return { v := floatReserved t, ovf := true, trap := some 3, special := true }
  | .underflow =>
    if s.fu then
      if s.is750 then raise (arithFault 0xA)
      return { v := 0, trap := some 5, special := true }
    return { v := 0, special := true }

/-- Divide by zero, R786. -/
def divideByZero (t : DT) : M (FloatRes t.bits) := do
  if (← get).is750 then raise (arithFault 9)
  return { v := floatReserved t, ovf := true, trap := some 4, special := true }

/-- N of a stored datum: its sign, V<15>. -/
def floatNeg {w : Nat} (v : BitVec w) : Bool := v.getLsbD 15

/-- The value of a source, after the reserved operand check. -/
def floatOf (t : DT) (v : BitVec t.bits) : M ExactNum :=
  if reservedFloat t v then raise reservedOperand else pure (floatValue t v)

/-! ### The accelerator of the V780, R789, 11_processor_registers.md R230, 62_platform_780.md R1426 -/

/-- An operation of the enabled accelerator notes its error in ACCS: 1 reserved operand, 2 overflow, 4 underflow. -/
def accNote (t : DT) (bit : BitVec 3) : M Unit := do
  let s ← get
  if ¬ s.is750 ∧ s.v780.accEnb ∧ (t = .f ∨ t = .d) then modV780 fun v => { v with accErr := v.accErr ||| bit }

/-- A source of an operation the accelerator executes: F and D add, subtract, multiply, divide, EMOD, POLY and conversions to
and from integers. -/
def accOf (t : DT) (v : BitVec t.bits) : M ExactNum := do
  if reservedFloat t v then accNote t 1
  floatOf t v

/-- A result of such an operation. -/
def accSettle (t : DT) (x : Rounded t.bits) : M (FloatRes t.bits) := do
  match x with
  | .value _ => pure ()
  | .overflow => accNote t 2
  | .underflow => accNote t 4
  settle t x

/-- Condition codes of a stored result; `keepC` for MOVx and ACBx. -/
def floatFlags {w : Nat} (x : FloatRes w) (keepC : Bool) : M Unit := do
  let s ← get
  set (s.withCC (floatNeg x.v) (decide (x.v = 0)) x.ovf (keepC && !x.special && s.ccC))

/-- StoreF. -/
def storeFloat (t : DT) (d : Dest) (x : FloatRes t.bits) : Meaning := do
  store t d x.v
  floatFlags x false
  return x.trap

/-! ### Shapes -/

/-- MOVx and MNEGx, R790, R794. -/
def moveFloat (t : DT) (negate : Bool) (src dst : Opnd) : Meaning := do
  let v ← rd t src
  let d ← wr t dst
  let a ← floatOf t v
  let r : BitVec t.bits := if a.m = 0 then 0 else if negate then v ^^^ 0x8000 else v
  store t d r
  floatFlags { v := r } (!negate)
  done

/-- R798. -/
def testFloat (t : DT) (src : Opnd) : Meaning := do
  let a ← floatOf t (← rd t src)
  setCC a.neg (decide (a.m = 0)) false false
  done

/-- R802. -/
def compareFloat (t : DT) (src1 src2 : Opnd) : Meaning := do
  let v ← rd t src1
  let w ← rd t src2
  let a ← floatOf t v
  let b ← floatOf t w
  setCC (a.lt b) (a.eq b) false false
  done

/-- Two operands, the second modified: `f` takes the source and the old destination. -/
def float2 (t : DT) (f : ExactNum → ExactNum → M (FloatRes t.bits)) (src dst : Opnd) : Meaning := do
  let v ← rd t src
  let (d, w) ← md t dst
  storeFloat t d (← f (← accOf t v) (← accOf t w))

/-- Three operands. On the V750 an overflow or underflow comes before a fault of the destination (DESIGN CHOICE,
notes/assumptions/53.md). -/
def float3 (t : DT) (f : ExactNum → ExactNum → M (FloatRes t.bits)) (src1 src2 dst : Opnd) : Meaning := do
  let v ← rd t src1
  let w ← rd t src2
  let d ← wr t dst
  storeFloat t d (← f (← accOf t v) (← accOf t w))

/-- The four operations on a source and a second operand. -/
def addF (t : DT) (a b : ExactNum) : M (FloatRes t.bits) := accSettle t (roundTo t (b.add a))
def subF (t : DT) (a b : ExactNum) : M (FloatRes t.bits) := accSettle t (roundTo t (b.sub a))
def mulF (t : DT) (a b : ExactNum) : M (FloatRes t.bits) := accSettle t (roundTo t (b.mul a))
def divF (t : DT) (a b : ExactNum) : M (FloatRes t.bits) :=
  if a.m = 0 then divideByZero t else accSettle t (roundTo t (b.div (fracLen t) a))

/-- Integer to floating, R838. -/
def intToFloat (ts td : DT) (src dst : Opnd) : Meaning := do
  let v ← rd ts src
  let d ← wr td dst
  storeFloat td d (← accSettle td (roundTo td (ExactNum.ofInt v.toInt 0)))

/-- Floating to integer, R850, R862. An integer overflow sets no bit of ACCS (DESIGN CHOICE, notes/assumptions/41.md). -/
def floatToInt (ts td : DT) (rounded : Bool) (src dst : Opnd) : Meaning := do
  let v ← rd ts src
  let d ← wr td dst
  let a ← accOf ts v
  storeRes td d (.ofInt (if rounded then a.round else a.trunc))

/-- Floating to floating, R866. -/
def floatToFloat (ts td : DT) (src dst : Opnd) : Meaning := do
  let v ← rd ts src
  let d ← wr td dst
  storeFloat td d (← settle td (roundTo td (← floatOf ts v)))

/-- ACBx, R877: not an operation of the accelerator. -/
def acbFloat (t : DT) (limit add idx : Opnd) (displ : Word16) : Meaning := do
  let l ← rd t limit
  let a ← rd t add
  let (d, i) ← md t idx
  let target ← branchTarget 2 displ
  let l ← floatOf t l
  let a ← floatOf t a
  let i ← floatOf t i
  let x ← settle t (roundTo t (i.add a))
  store t d x.v
  floatFlags x true
  let r := floatValue t x.v
  branchIf (!reservedFloat t x.v && (if a.neg then !r.lt l else !l.lt r)) target
  return x.trap

/-! ### EMOD, R881 -/

/-- Bits of the multiplier's extension. -/
def emodExt : DT → Nat
  | .g => 11
  | .h => 15
  | _ => 8

/-- The multiplier with its extension appended; the extension operand is a byte (F, D) or the high bits of a word (G, H). -/
def extended (t : DT) (tx : DT) (a : ExactNum) (x : BitVec tx.bits) : ExactNum :=
  if a.m = 0 then a
  else ⟨a.neg, a.m * 2 ^ emodExt t + x.toNat / 2 ^ (tx.bits - emodExt t), a.e - emodExt t⟩

/-- Byte `i` of a span. -/
def Span.byte (sp : Span) (i : Nat) : Nat := if i < sp.k then sp.a0 + i else sp.a1 + (i - sp.k)

/-- Do two checked destinations share a register or a byte? -/
def destsOverlap (t1 : DT) (d1 : Dest) (t2 : DT) (d2 : Dest) : Bool :=
  match d1, d2 with
  | .reg m, .reg n => decide (m.val < n.val + t2.regs ∧ n.val < m.val + t1.regs)
  | .place p, .place q => (List.range t1.len).any fun i => (List.range t2.len).any fun j => p.byte i == q.byte j
  | _, _ => false

/-- EMOD, R881. On the V750 with FU set the underflow fault of the fraction comes before any destination is checked
(DESIGN CHOICE, notes/assumptions/53.md). An integer overflow sets no bit of ACCS (DESIGN CHOICE, notes/assumptions/41.md). Two destinations, so neither int nor mulrx may be in I/O space (20_memory.md R293). -/
def emod (t tx : DT) (mulr mulrx muld intg fract : Opnd) : Meaning := do
  let v ← rd t mulr
  let x ← rdPlain tx mulrx
  let w ← rd t muld
  let di ← wrPlain .l intg
  let df ← wr t fract
  let a ← accOf t v
  let b ← accOf t w
  let p := ((extended t tx a x).mul b).chop (fracLen t + 1)
  let i : Res 32 := Res.ofInt p.trunc
  let f ← accSettle t (roundTo t p.fract)
  let di ← prepare .l di
  let df ← prepare t df
  let clash := destsOverlap .l di t df
  let iv ← if clash then drawBits 32 else pure i.r
  let fv ← if clash then drawBits t.bits else pure f.v
  storePlain .l di iv
  store t df fv
  setCC (floatNeg fv) (decide (fv = 0)) i.v false
  match f.trap with
  | some k => return some k
  | none => overflowTrap

/-! ### POLY, R886 -/

/-- Bits kept of an intermediate product. -/
def polyBits : DT → Nat
  | .f => 31
  | .h => 127
  | _ => 63

/-- Where an evaluation stands: the result so far, an underflow to report at the end, an overflow that ended it. -/
structure Poly (w : Nat) where
  r : BitVec w
  trap : Option Nat := none
  ovf : Bool := false
  deriving DecidableEq, Repr

/-- A coefficient. -/
def coefficient (t : DT) (tbl : Long) (i : Nat) : M ExactNum := do
  accOf t ((← memRead .other (tbl + BitVec.ofNat 32 (i * t.len)) t.len).setWidth _)

/-- One step: multiply, chop, add the next coefficient. An overflow ends the evaluation with its own trap: an underflow trap that
an earlier step of a V780 has left due is not reported beside it, since one instruction leaves one trap (R886 asks for both,
60_exceptions.md R1075 calls them mutually exclusive; DESIGN CHOICE, notes/assumptions/53.md). -/
def polyStep (t : DT) (arg : ExactNum) (tbl : Long) (p : Poly t.bits) (i : Nat) : M (Poly t.bits) := do
  if p.ovf then return p
  let c ← coefficient t tbl i
  let prod := ((floatValue t p.r).mul arg).chop (2 * (fracLen t + 1) - polyBits t)
  let x ← accSettle t (roundTo t (prod.add c))
  return ⟨x.v, if x.ovf then x.trap else if x.trap.isSome then x.trap else p.trap, x.ovf⟩

def poly (t : DT) (arg degree tbladdr : Opnd) : Meaning := do
  let v ← rd t arg
  let n := (← rdPlain .w degree).toNat
  let tbl ← adrPlain .b tbladdr
  let a ← accOf t v
  if 31 < n then raise reservedOperand
  let c ← coefficient t tbl 0
  let first ← accSettle t (roundTo t c)
  let p ← (List.range n).foldlM (fun p i => polyStep t a tbl p (i + 1)) (⟨first.v, none, false⟩ : Poly t.bits)
  let past := tbl + BitVec.ofNat 32 (t.len * (n + 1))
  modify fun s =>
    let s := s.putRegs t 0 p.r
    match t with
    | .f => ((s.setReg 1 0).setReg 2 0).setReg 3 past
    | .h => (s.setReg 4 0).setReg 5 past
    | _ => (((s.setReg 2 0).setReg 3 past).setReg 4 0).setReg 5 0
  setCC (floatNeg p.r) (decide (p.r = 0)) p.ovf false
  return p.trap

/-! ### Move, negate, test, compare -/

/-- MOVF, R790. -/
def execMovf (src dst : Opnd) (s : State) : Out :=
  execute 0x50 (moveFloat .f false src dst) s

/-- MOVD, R791. -/
def execMovd (src dst : Opnd) (s : State) : Out :=
  execute 0x70 (moveFloat .d false src dst) s

/-- MOVG, R792. -/
def execMovg (src dst : Opnd) (s : State) : Out :=
  execute 0x50FD (moveFloat .g false src dst) s

/-- MOVH, R793. -/
def execMovh (src dst : Opnd) (s : State) : Out :=
  execute 0x70FD (moveFloat .h false src dst) s

/-- MNEGF, R794. -/
def execMnegf (src dst : Opnd) (s : State) : Out :=
  execute 0x52 (moveFloat .f true src dst) s

/-- MNEGD, R795. -/
def execMnegd (src dst : Opnd) (s : State) : Out :=
  execute 0x72 (moveFloat .d true src dst) s

/-- MNEGG, R796. -/
def execMnegg (src dst : Opnd) (s : State) : Out :=
  execute 0x52FD (moveFloat .g true src dst) s

/-- MNEGH, R797. -/
def execMnegh (src dst : Opnd) (s : State) : Out :=
  execute 0x72FD (moveFloat .h true src dst) s

/-- TSTF, R798. -/
def execTstf (src : Opnd) (s : State) : Out :=
  execute 0x53 (testFloat .f src) s

/-- TSTD, R799. -/
def execTstd (src : Opnd) (s : State) : Out :=
  execute 0x73 (testFloat .d src) s

/-- TSTG, R800. -/
def execTstg (src : Opnd) (s : State) : Out :=
  execute 0x53FD (testFloat .g src) s

/-- TSTH, R801. -/
def execTsth (src : Opnd) (s : State) : Out :=
  execute 0x73FD (testFloat .h src) s

/-- CMPF, R802. -/
def execCmpf (src1 src2 : Opnd) (s : State) : Out :=
  execute 0x51 (compareFloat .f src1 src2) s

/-- CMPD, R803. -/
def execCmpd (src1 src2 : Opnd) (s : State) : Out :=
  execute 0x71 (compareFloat .d src1 src2) s

/-- CMPG, R804. -/
def execCmpg (src1 src2 : Opnd) (s : State) : Out :=
  execute 0x51FD (compareFloat .g src1 src2) s

/-- CMPH, R805. -/
def execCmph (src1 src2 : Opnd) (s : State) : Out :=
  execute 0x71FD (compareFloat .h src1 src2) s

/-! ### Add, subtract, multiply, divide -/

/-- ADDF2, R806. -/
def execAddf2 (add sum : Opnd) (s : State) : Out :=
  execute 0x40 (float2 .f (addF .f) add sum) s

/-- ADDF3, R807. -/
def execAddf3 (add1 add2 sum : Opnd) (s : State) : Out :=
  execute 0x41 (float3 .f (addF .f) add1 add2 sum) s

/-- ADDD2, R808. -/
def execAddd2 (add sum : Opnd) (s : State) : Out :=
  execute 0x60 (float2 .d (addF .d) add sum) s

/-- ADDD3, R809. -/
def execAddd3 (add1 add2 sum : Opnd) (s : State) : Out :=
  execute 0x61 (float3 .d (addF .d) add1 add2 sum) s

/-- ADDG2, R810. -/
def execAddg2 (add sum : Opnd) (s : State) : Out :=
  execute 0x40FD (float2 .g (addF .g) add sum) s

/-- ADDG3, R811. -/
def execAddg3 (add1 add2 sum : Opnd) (s : State) : Out :=
  execute 0x41FD (float3 .g (addF .g) add1 add2 sum) s

/-- ADDH2, R812. -/
def execAddh2 (add sum : Opnd) (s : State) : Out :=
  execute 0x60FD (float2 .h (addF .h) add sum) s

/-- ADDH3, R813. -/
def execAddh3 (add1 add2 sum : Opnd) (s : State) : Out :=
  execute 0x61FD (float3 .h (addF .h) add1 add2 sum) s

/-- SUBF2, R814. -/
def execSubf2 (sub dif : Opnd) (s : State) : Out :=
  execute 0x42 (float2 .f (subF .f) sub dif) s

/-- SUBF3, R815. -/
def execSubf3 (sub min dif : Opnd) (s : State) : Out :=
  execute 0x43 (float3 .f (subF .f) sub min dif) s

/-- SUBD2, R816. -/
def execSubd2 (sub dif : Opnd) (s : State) : Out :=
  execute 0x62 (float2 .d (subF .d) sub dif) s

/-- SUBD3, R817. -/
def execSubd3 (sub min dif : Opnd) (s : State) : Out :=
  execute 0x63 (float3 .d (subF .d) sub min dif) s

/-- SUBG2, R818. -/
def execSubg2 (sub dif : Opnd) (s : State) : Out :=
  execute 0x42FD (float2 .g (subF .g) sub dif) s

/-- SUBG3, R819. -/
def execSubg3 (sub min dif : Opnd) (s : State) : Out :=
  execute 0x43FD (float3 .g (subF .g) sub min dif) s

/-- SUBH2, R820. -/
def execSubh2 (sub dif : Opnd) (s : State) : Out :=
  execute 0x62FD (float2 .h (subF .h) sub dif) s

/-- SUBH3, R821. -/
def execSubh3 (sub min dif : Opnd) (s : State) : Out :=
  execute 0x63FD (float3 .h (subF .h) sub min dif) s

/-- MULF2, R822. -/
def execMulf2 (mulr prod : Opnd) (s : State) : Out :=
  execute 0x44 (float2 .f (mulF .f) mulr prod) s

/-- MULF3, R823. -/
def execMulf3 (mulr muld prod : Opnd) (s : State) : Out :=
  execute 0x45 (float3 .f (mulF .f) mulr muld prod) s

/-- MULD2, R824. -/
def execMuld2 (mulr prod : Opnd) (s : State) : Out :=
  execute 0x64 (float2 .d (mulF .d) mulr prod) s

/-- MULD3, R825. -/
def execMuld3 (mulr muld prod : Opnd) (s : State) : Out :=
  execute 0x65 (float3 .d (mulF .d) mulr muld prod) s

/-- MULG2, R826. -/
def execMulg2 (mulr prod : Opnd) (s : State) : Out :=
  execute 0x44FD (float2 .g (mulF .g) mulr prod) s

/-- MULG3, R827. -/
def execMulg3 (mulr muld prod : Opnd) (s : State) : Out :=
  execute 0x45FD (float3 .g (mulF .g) mulr muld prod) s

/-- MULH2, R828. -/
def execMulh2 (mulr prod : Opnd) (s : State) : Out :=
  execute 0x64FD (float2 .h (mulF .h) mulr prod) s

/-- MULH3, R829. -/
def execMulh3 (mulr muld prod : Opnd) (s : State) : Out :=
  execute 0x65FD (float3 .h (mulF .h) mulr muld prod) s

/-- DIVF2, R830. -/
def execDivf2 (divr quo : Opnd) (s : State) : Out :=
  execute 0x46 (float2 .f (divF .f) divr quo) s

/-- DIVF3, R831. -/
def execDivf3 (divr divd quo : Opnd) (s : State) : Out :=
  execute 0x47 (float3 .f (divF .f) divr divd quo) s

/-- DIVD2, R832. -/
def execDivd2 (divr quo : Opnd) (s : State) : Out :=
  execute 0x66 (float2 .d (divF .d) divr quo) s

/-- DIVD3, R833. -/
def execDivd3 (divr divd quo : Opnd) (s : State) : Out :=
  execute 0x67 (float3 .d (divF .d) divr divd quo) s

/-- DIVG2, R834. -/
def execDivg2 (divr quo : Opnd) (s : State) : Out :=
  execute 0x46FD (float2 .g (divF .g) divr quo) s

/-- DIVG3, R835. -/
def execDivg3 (divr divd quo : Opnd) (s : State) : Out :=
  execute 0x47FD (float3 .g (divF .g) divr divd quo) s

/-- DIVH2, R836. -/
def execDivh2 (divr quo : Opnd) (s : State) : Out :=
  execute 0x66FD (float2 .h (divF .h) divr quo) s

/-- DIVH3, R837. -/
def execDivh3 (divr divd quo : Opnd) (s : State) : Out :=
  execute 0x67FD (float3 .h (divF .h) divr divd quo) s

/-! ### Conversions -/

/-- CVTBF, R838. -/
def execCvtbf (src dst : Opnd) (s : State) : Out :=
  execute 0x4C (intToFloat .b .f src dst) s

/-- CVTBD, R839. -/
def execCvtbd (src dst : Opnd) (s : State) : Out :=
  execute 0x6C (intToFloat .b .d src dst) s

/-- CVTBG, R840. -/
def execCvtbg (src dst : Opnd) (s : State) : Out :=
  execute 0x4CFD (intToFloat .b .g src dst) s

/-- CVTBH, R841. -/
def execCvtbh (src dst : Opnd) (s : State) : Out :=
  execute 0x6CFD (intToFloat .b .h src dst) s

/-- CVTWF, R842. -/
def execCvtwf (src dst : Opnd) (s : State) : Out :=
  execute 0x4D (intToFloat .w .f src dst) s

/-- CVTWD, R843. -/
def execCvtwd (src dst : Opnd) (s : State) : Out :=
  execute 0x6D (intToFloat .w .d src dst) s

/-- CVTWG, R844. -/
def execCvtwg (src dst : Opnd) (s : State) : Out :=
  execute 0x4DFD (intToFloat .w .g src dst) s

/-- CVTWH, R845. -/
def execCvtwh (src dst : Opnd) (s : State) : Out :=
  execute 0x6DFD (intToFloat .w .h src dst) s

/-- CVTLF, R846. -/
def execCvtlf (src dst : Opnd) (s : State) : Out :=
  execute 0x4E (intToFloat .l .f src dst) s

/-- CVTLD, R847. -/
def execCvtld (src dst : Opnd) (s : State) : Out :=
  execute 0x6E (intToFloat .l .d src dst) s

/-- CVTLG, R848. -/
def execCvtlg (src dst : Opnd) (s : State) : Out :=
  execute 0x4EFD (intToFloat .l .g src dst) s

/-- CVTLH, R849. -/
def execCvtlh (src dst : Opnd) (s : State) : Out :=
  execute 0x6EFD (intToFloat .l .h src dst) s

/-- CVTFB, R850. -/
def execCvtfb (src dst : Opnd) (s : State) : Out :=
  execute 0x48 (floatToInt .f .b false src dst) s

/-- CVTDB, R851. -/
def execCvtdb (src dst : Opnd) (s : State) : Out :=
  execute 0x68 (floatToInt .d .b false src dst) s

/-- CVTGB, R852. -/
def execCvtgb (src dst : Opnd) (s : State) : Out :=
  execute 0x48FD (floatToInt .g .b false src dst) s

/-- CVTHB, R853. -/
def execCvthb (src dst : Opnd) (s : State) : Out :=
  execute 0x68FD (floatToInt .h .b false src dst) s

/-- CVTFW, R854. -/
def execCvtfw (src dst : Opnd) (s : State) : Out :=
  execute 0x49 (floatToInt .f .w false src dst) s

/-- CVTDW, R855. -/
def execCvtdw (src dst : Opnd) (s : State) : Out :=
  execute 0x69 (floatToInt .d .w false src dst) s

/-- CVTGW, R856. -/
def execCvtgw (src dst : Opnd) (s : State) : Out :=
  execute 0x49FD (floatToInt .g .w false src dst) s

/-- CVTHW, R857. -/
def execCvthw (src dst : Opnd) (s : State) : Out :=
  execute 0x69FD (floatToInt .h .w false src dst) s

/-- CVTFL, R858. -/
def execCvtfl (src dst : Opnd) (s : State) : Out :=
  execute 0x4A (floatToInt .f .l false src dst) s

/-- CVTDL, R859. -/
def execCvtdl (src dst : Opnd) (s : State) : Out :=
  execute 0x6A (floatToInt .d .l false src dst) s

/-- CVTGL, R860. -/
def execCvtgl (src dst : Opnd) (s : State) : Out :=
  execute 0x4AFD (floatToInt .g .l false src dst) s

/-- CVTHL, R861. -/
def execCvthl (src dst : Opnd) (s : State) : Out :=
  execute 0x6AFD (floatToInt .h .l false src dst) s

/-- CVTRFL, R862. -/
def execCvtrfl (src dst : Opnd) (s : State) : Out :=
  execute 0x4B (floatToInt .f .l true src dst) s

/-- CVTRDL, R863. -/
def execCvtrdl (src dst : Opnd) (s : State) : Out :=
  execute 0x6B (floatToInt .d .l true src dst) s

/-- CVTRGL, R864. -/
def execCvtrgl (src dst : Opnd) (s : State) : Out :=
  execute 0x4BFD (floatToInt .g .l true src dst) s

/-- CVTRHL, R865. -/
def execCvtrhl (src dst : Opnd) (s : State) : Out :=
  execute 0x6BFD (floatToInt .h .l true src dst) s

/-- CVTFD, R866. -/
def execCvtfd (src dst : Opnd) (s : State) : Out :=
  execute 0x56 (floatToFloat .f .d src dst) s

/-- CVTDF, R867. -/
def execCvtdf (src dst : Opnd) (s : State) : Out :=
  execute 0x76 (floatToFloat .d .f src dst) s

/-- CVTFG, R868. -/
def execCvtfg (src dst : Opnd) (s : State) : Out :=
  execute 0x99FD (floatToFloat .f .g src dst) s

/-- CVTGF, R869. -/
def execCvtgf (src dst : Opnd) (s : State) : Out :=
  execute 0x33FD (floatToFloat .g .f src dst) s

/-- CVTFH, R870. -/
def execCvtfh (src dst : Opnd) (s : State) : Out :=
  execute 0x98FD (floatToFloat .f .h src dst) s

/-- CVTHF, R871. -/
def execCvthf (src dst : Opnd) (s : State) : Out :=
  execute 0xF6FD (floatToFloat .h .f src dst) s

/-- CVTDH, R872. -/
def execCvtdh (src dst : Opnd) (s : State) : Out :=
  execute 0x32FD (floatToFloat .d .h src dst) s

/-- CVTHD, R873. -/
def execCvthd (src dst : Opnd) (s : State) : Out :=
  execute 0xF7FD (floatToFloat .h .d src dst) s

/-- CVTGH, R874. -/
def execCvtgh (src dst : Opnd) (s : State) : Out :=
  execute 0x56FD (floatToFloat .g .h src dst) s

/-- CVTHG, R875. -/
def execCvthg (src dst : Opnd) (s : State) : Out :=
  execute 0x76FD (floatToFloat .h .g src dst) s

/-! ### Loops, EMOD, POLY -/

/-- ACBF, R877. -/
def execAcbf (limit add idx : Opnd) (displ : BitVec 16) (s : State) : Out :=
  execute 0x4F (acbFloat .f limit add idx displ) s

/-- ACBD, R878. -/
def execAcbd (limit add idx : Opnd) (displ : BitVec 16) (s : State) : Out :=
  execute 0x6F (acbFloat .d limit add idx displ) s

/-- ACBG, R879. -/
def execAcbg (limit add idx : Opnd) (displ : BitVec 16) (s : State) : Out :=
  execute 0x4FFD (acbFloat .g limit add idx displ) s

/-- ACBH, R880. -/
def execAcbh (limit add idx : Opnd) (displ : BitVec 16) (s : State) : Out :=
  execute 0x6FFD (acbFloat .h limit add idx displ) s

/-- EMODF, R882. -/
def execEmodf (mulr mulrx muld intg fract : Opnd) (s : State) : Out :=
  execute 0x54 (emod .f .b mulr mulrx muld intg fract) s

/-- EMODD, R883. -/
def execEmodd (mulr mulrx muld intg fract : Opnd) (s : State) : Out :=
  execute 0x74 (emod .d .b mulr mulrx muld intg fract) s

/-- EMODG, R884. -/
def execEmodg (mulr mulrx muld intg fract : Opnd) (s : State) : Out :=
  execute 0x54FD (emod .g .w mulr mulrx muld intg fract) s

/-- EMODH, R885. -/
def execEmodh (mulr mulrx muld intg fract : Opnd) (s : State) : Out :=
  execute 0x74FD (emod .h .w mulr mulrx muld intg fract) s

/-- POLYF, R887. -/
def execPolyf (arg degree tbladdr : Opnd) (s : State) : Out :=
  execute 0x55 (poly .f arg degree tbladdr) s

/-- POLYD, R888. -/
def execPolyd (arg degree tbladdr : Opnd) (s : State) : Out :=
  execute 0x75 (poly .d arg degree tbladdr) s

/-- POLYG, R889. -/
def execPolyg (arg degree tbladdr : Opnd) (s : State) : Out :=
  execute 0x55FD (poly .g arg degree tbladdr) s

/-- POLYH, R890. -/
def execPolyh (arg degree tbladdr : Opnd) (s : State) : Out :=
  execute 0x75FD (poly .h arg degree tbladdr) s

end Sys2Proof.Machine
end

