-- ==== Sys2Proof/Machine/Misc.lean ====
section
/-! DEFINITION. Register mask, PSW, INDEX, CRC and NOP instructions (48_misc.md). -/
namespace Sys2Proof.Machine

/-- The numbers of the set bits of a register mask among 14 to 0, falling. -/
def pushOrder (mask : Word16) : List Nat := ((List.range 15).filter fun i => mask.getLsbD i).reverse

/-- R961. -/
def pushr (mask : Opnd) : Meaning := do
  let m ← rd .w mask
  let s ← get
  let ws := (pushOrder m).map fun i => s.reg ⟨i % 16, Nat.mod_lt _ (by decide)⟩
  if ws ≠ [] then push ws
  done

/-- The numbers of the set bits of a register mask among 0 to 14, rising. -/
def popOrder (mask : Word16) : List Nat := (List.range 15).filter fun i => mask.getLsbD i

/-- Registers of the given numbers take values. -/
def loadRegs : List (Nat × Long) → M Unit
  | [] => pure ()
  | (i, x) :: rest => do
    setR ⟨i % 16, Nat.mod_lt _ (by decide)⟩ x
    loadRegs rest

/-- R962: all the longwords are checked first. SP takes the address after those of R0 to R13; that of SP itself, the last, then
replaces it. -/
def popr (mask : Opnd) : Meaning := do
  let m ← rd .w mask
  let rs := popOrder m
  if rs ≠ [] then
    let xs ← stackTop rs.length
    setR 14 ((← getR 14) + BitVec.ofNat 32 (4 * rs.length))
    loadRegs (rs.zip xs)
  done

/-- The PSL an instruction reads: TP and FPD read as 0, R963. -/
def pslImage (psl : Long) : Long := psl &&& 0xB7FFFFFF

/-- R963. -/
def movpsl (dst : Opnd) : Meaning := do
  let d ← wr .l dst
  store .l d (pslImage (← get).psl)
  done

/-- BISPSW and BICPSW: `f` combines PSL<7:0> and the mask, R964, R965. -/
def changePsw (f : Long → Long → Long) (mask : Opnd) : Meaning := do
  let m ← rd .w mask
  if field m 8 8 ≠ 0 then raise reservedOperand
  modify fun s => { s with psl := putField s.psl 0 8 (f s.psl (m.setWidth 32)) }
  done

/-- R966. -/
def index (subscript low high size indexin indexout : Opnd) : Meaning := do
  let i ← rd .l subscript
  let lo ← rd .l low
  let hi ← rd .l high
  let n ← rd .l size
  let start ← rd .l indexin
  let d ← wr .l indexout
  let r := (start + i) * n
  let out := decide (i.toInt < lo.toInt ∨ hi.toInt < i.toInt)
  storeRes .l d { r := r, c := some false, trap := if out then some 7 else none }

/-- One nibble of CRC. -/
def crcNibble (tbl x : Long) : M Long := do
  return (x >>> 4) ^^^ (← readLong (tbl + 4 * (x &&& 0xF)))

/-- The string loop of CRC. -/
def crcFrom (tbl : Long) (x va : Long) : Nat → M Long
  | 0 => pure x
  | n + 1 => do
    let b ← readByte va
    let x ← crcNibble tbl (x ^^^ b.setWidth 32)
    let x ← crcNibble tbl x
    crcFrom tbl x (va + 1) n

/-- R968. -/
def crc (tbl inicrc strlen stream : Opnd) : Meaning := do
  let t ← adrPlain .b tbl
  let x ← rdPlain .l inicrc
  let n := (← rdPlain .w strlen).toNat
  let s ← adrPlain .b stream
  let r ← crcFrom t x s n
  setRegs 0 [r, 0, 0, s + long n]
  setNZV r.msb (decide (r = 0)) false
  done

/-- PUSHR, R961. -/
def execPushr (mask : Opnd) (s : State) : Out :=
  execute 0xBB (pushr mask) s

/-- POPR, R962. -/
def execPopr (mask : Opnd) (s : State) : Out :=
  execute 0xBA (popr mask) s

/-- MOVPSL, R963. -/
def execMovpsl (dst : Opnd) (s : State) : Out :=
  execute 0xDC (movpsl dst) s

/-- BISPSW, R964. -/
def execBispsw (mask : Opnd) (s : State) : Out :=
  execute 0xB8 (changePsw (fun psw m => psw ||| m) mask) s

/-- BICPSW, R965. -/
def execBicpsw (mask : Opnd) (s : State) : Out :=
  execute 0xB9 (changePsw (fun psw m => psw &&& ~~~m) mask) s

/-- INDEX, R966. -/
def execIndex (subscript low high size indexin indexout : Opnd) (s : State) : Out :=
  execute 0x0A (index subscript low high size indexin indexout) s

/-- NOP, R967. -/
def execNop (s : State) : Out :=
  execute 0x01 (done) s

/-- CRC, R968. -/
def execCrc (tbl inicrc strlen stream : Opnd) (s : State) : Out :=
  execute 0x0B (crc tbl inicrc strlen stream) s

end Sys2Proof.Machine
end

