-- ==== Sys2Proof/Machine/Procedure.lean ====
section
/-! DEFINITION. Procedure call and return (43_procedure.md). -/
namespace Sys2Proof.Machine

/-- The numbers below `n` whose bit is set in a register mask, rising. -/
def maskRegs (mask : Long) (n : Nat) : List Nat := (List.range n).filter fun i => mask.getLsbD i

/-- The register of a mask bit. -/
def maskReg (i : Nat) : Reg := ⟨i % 16, Nat.mod_lt _ (by decide)⟩

/-- The mask and PSW longword of a call frame, R744. -/
def frameWord (spa : Long) (calls : Bool) (mask : Word16) (psl : Long) : Long :=
  spa <<< 30 ||| bitL calls <<< 29 ||| (mask.setWidth 32 &&& 0xFFF) <<< 16 ||| (psl &&& 0xFFE0)

/-- PSW on entry to a procedure, R745: condition codes clear, IV and DV from the entry mask, FU clear. -/
def calledPsl (psl : Long) (mask : Word16) : Long :=
  putBit (putBit (putBit (putField psl 0 4 0) 5 (mask.getLsbD 14)) 7 (mask.getLsbD 15)) 6 false

/-- What a call pushes after the argument count, in order, R745: the registers of the mask from R11 down, PC, FP, AP, the mask
and PSW, and the condition handler's longword. -/
def callFrame (s : State) (spa : Long) (calls : Bool) (mask : Word16) : List Long :=
  (maskRegs (mask.setWidth 32) 12).reverse.map (fun i => s.reg (maskReg i))
    ++ [s.pc, s.reg 13, s.reg 12, frameWord spa calls mask s.psl, 0]

/-- Where `n` pushes from stack pointer `sp` on put their longwords. -/
def pushSlots (sp : Long) (n : Nat) : List Long := (List.range n).map fun i => sp - BitVec.ofNat 32 (4 * (i + 1))

/-- CALLG and CALLS after their operands; `numarg` is pushed first by CALLS, `ap` is the argument list of CALLG. Every push is
checked, in order, before any is made: a fault leaves memory as it was (60_exceptions.md R1031, 92_eei_decisions.md D35). The
entry mask is read as data (R745), so a boot ROM may hold it (20_memory.md R294, notes/assumptions/54.md). -/
def call (numarg : Option Long) (ap dst : Long) : Meaning := do
  let mask : Word16 := (← memRead .data dst 2).setWidth 16
  if field mask 12 2 ≠ 0 then raise reservedOperand
  let s ← get
  let args := numarg.toList
  let sp := s.reg 14 - BitVec.ofNat 32 (4 * args.length)
  let frame := callFrame s (sp &&& 3) numarg.isSome mask
  let slots := pushSlots (s.reg 14) args.length ++ pushSlots (sp &&& 0xFFFFFFFC) frame.length
  let spans ← longDests slots
  putLongs (spans.zip (args ++ frame))
  let fp := slots.getLastD 0
  setR 14 fp
  setR 13 fp
  setR 12 (if numarg.isSome then sp else ap)
  modify fun s => { s with psl := calledPsl s.psl mask }
  setPC (dst + 2)
  done

/-- R745. -/
def callg (arglist dst : Opnd) : Meaning := do
  let a ← adr .b arglist
  let d ← adr .b dst
  call none a d

/-- R746. -/
def calls (numarg dst : Opnd) : Meaning := do
  let n ← rd .l numarg
  let d ← adr .b dst
  call (some n) 0 d

/-- R747. -/
def ret : Meaning := do
  setR 14 ((← getR 13) + 4)
  let tmp ← pop
  if field tmp 8 8 ≠ 0 then raise reservedOperand
  setR 12 (← pop)
  setR 13 (← pop)
  let pc ← pop
  (maskRegs (tmp >>> 16) 12).forM fun i => do setR (maskReg i) (← pop)
  setR 14 (((← getR 14) &&& 0xFFFFFFFC) ||| (tmp >>> 30))
  modify fun s => { s with psl := putField s.psl 0 16 tmp }
  if tmp.getLsbD 29 then
    let sp ← getR 14
    let n ← readLong sp
    setR 14 (sp + 4 + 4 * (n &&& 0xFF))
  setPC pc
  done

/-- CALLG, R745. -/
def execCallg (arglist dst : Opnd) (s : State) : Out :=
  execute 0xFA (callg arglist dst) s

/-- CALLS, R746. -/
def execCalls (numarg dst : Opnd) (s : State) : Out :=
  execute 0xFB (calls numarg dst) s

/-- RET, R747. -/
def execRet (s : State) : Out :=
  execute 0x04 (ret) s

end Sys2Proof.Machine
end

