-- ==== Sys2Proof/Machine/Queue.lean ====
section
/-! DEFINITION. Queue instructions (44_queue.md). -/
namespace Sys2Proof.Machine

/-- Store a longword at a place already checked. -/
def putLong (sp : Span) (v : Long) : M Unit := writeSpan .other sp 4 (v.setWidth 128)

/-- A longword destination checked for write in the current mode. -/
def longDest (va : Long) : M Span := memDest va 4

/-- N, Z and C of the absolute queue instructions. -/
def queueFlags (a b : Long) (v : Bool) : M Unit :=
  setCC (decide (a.toInt < b.toInt)) (decide (a = b)) v (decide (a.toNat < b.toNat))

/-- R764. -/
def insque (entry pred : Opnd) : Meaning := do
  let e ← adrPlain .b entry
  let p ← adrPlain .b pred
  let s ← readLong p
  let dp ← longDest p
  let ds ← longDest (s + 4)
  let de ← longDest e
  let de4 ← longDest (e + 4)
  putLong de s
  putLong de4 p
  putLong ds e
  putLong dp e
  queueFlags s p false
  done

/-- R765. -/
def remque (entry addr : Opnd) : Meaning := do
  let e ← adrPlain .b entry
  let d ← wr .l addr
  let s ← readLong e
  let p ← readLong (e + 4)
  if e ≠ p then
    let ds ← longDest (s + 4)
    let dp ← longDest p
    let d ← prepare .l d
    putLong dp s
    putLong ds p
    store .l d e
    queueFlags s p false
  else
    store .l d e
    queueFlags s p true
  done

/-! ### Self-relative queues, R763 -/

/-- Quadword alignment of a header or an entry. -/
def quadAligned (a : Long) : Bool := field a 0 3 == 0

/-- The interlocked read of the header's forward link, for modification; `putLong` of the same place is the interlocked
write that follows it on every path, R763. -/
def lockedRead (h : Long) : M (Span × Long) := do
  let sp ← longDest h
  match place (← get) sp.a0 with
  | .ram => awaitInterlock
  | _ => pure ()
  return (sp, (← readSpan .other sp 4).setWidth 32)

/-- Hold the secondary interlock while `x` runs; a fault puts the forward link `a` back. -/
def withLock {α : Type} (h : Span) (a : Long) (x : M α) : M α := do
  putLong h (a ||| 1)
  match ← attempt x with
  | .ok r => pure r
  | .error e => do
    putLong h a
    throw e

/-- Insertion at the head of queue `h` whose forward link is `a`, R770. -/
def insertHead (h : Long) (hs : Span) (e : Long) (es : Span) (a : Long) : M Unit := do
  let first := h + a
  let d ← withLock hs a (longDest (first + 4))
  putLong d (e - first)
  putLong (es.sub 0 4) (first - e)
  putLong (es.sub 4 4) (h - e)
  putLong hs (e - h)
  setCC false (decide (first = h)) false false

/-- Insertion at the tail, R771. -/
def insertTail (h : Long) (hs : Span) (e : Long) (es : Span) (a : Long) : M Unit := do
  let (last, dl, dh) ← withLock hs a do
    let last := h + (← readLong (h + 4))
    if ¬ quadAligned last then raise reservedOperand
    let dl ← longDest last
    let dh ← longDest (h + 4)
    return (last, dl, dh)
  putLong dl (e - last)
  putLong (es.sub 0 4) (h - e)
  putLong (es.sub 4 4) (last - e)
  putLong dh (e - h)
  putLong hs a
  setCC false false false false

/-- The forward link `a` of a header read for an insertion: a bad one is a fault, a locked queue ends it, R770, R771. -/
def unlessLocked (hs : Span) (a : Long) (x : M Unit) : M Unit := do
  if field a 1 2 ≠ 0 then
    putLong hs a
    raise reservedOperand
  if a.getLsbD 0 then
    putLong hs a
    setCC false false false true
  else x

/-- How an insertion of `e` in queue `h` starts, R770: the places of the entry and of the header, and the header's forward link. -/
def beginInsert (e h : Long) : M (Span × Span × Long) := do
  if h = e ∨ ¬ quadAligned h ∨ ¬ quadAligned e then raise reservedOperand
  let es ← memDest e 8
  let (hs, a) ← lockedRead h
  return (es, hs, a)

/-- INSQHI after its operands, R770. -/
def insqhi (e h : Long) : M Unit := do
  let (es, hs, a) ← beginInsert e h
  unlessLocked hs a (insertHead h hs e es a)

/-- INSQTI after its operands, R771: an empty queue's header is given up, and the insertion starts anew as INSQHI's. -/
def insqti (e h : Long) : M Unit := do
  let (es, hs, a) ← beginInsert e h
  if a = 0 then
    putLong hs a
    insqhi e h
  else unlessLocked hs a (insertTail h hs e es a)

/-- INSQHI and INSQTI. -/
def insqi (tail : Bool) (entry header : Opnd) : Meaning := do
  let e ← adrPlain .b entry
  let h ← adrPlain .q header
  if tail then insqti e h else insqhi e h
  done

/-- Removal of the first entry, R772. -/
def removeHead (h : Long) (hs : Span) (d : Dest) (a : Long) : M Unit := do
  let first := h + a
  let (next, dn) ← withLock hs a do
    let next := first + (← readLong first)
    if ¬ quadAligned next then raise reservedOperand
    return (next, ← longDest (next + 4))
  putLong dn (h - next)
  putLong hs (next - h)
  storePlain .l d first
  setCC false (decide (next = h)) false false

/-- The last of several entries, whose backward link in the header is `c`: it, the one before it, and the places that will
name each other, R773. -/
def lastEntry (h c : Long) : M (Long × Long × Span × Span) := do
  if ¬ quadAligned c then raise reservedOperand
  let last := h + c
  let prev := last + (← readLong (last + 4))
  if ¬ quadAligned prev then raise reservedOperand
  return (last, prev, ← longDest prev, ← longDest (h + 4))

/-- Removal at the tail, R773: the header's backward link is read under the secondary interlock, and where there is one entry
only the header is given up and the removal starts anew as REMQHI's, `single`. -/
def removeTail (h : Long) (single : M Unit) (hs : Span) (d : Dest) (a : Long) : M Unit := do
  let found ← withLock hs a do
    let c ← readLong (h + 4)
    if c = a then return none
    return some (← lastEntry h c)
  match found with
  | none => do
    putLong hs a
    single
  | some (last, prev, dp, dh) => do
    putLong dp (h - prev)
    putLong dh (prev - h)
    putLong hs a
    storePlain .l d last
    setCC false false false false

/-- A removal's destination may not be the header. -/
def notHeader (h : Long) : Dest → M Unit
  | .mem va => if va = h then raise reservedOperand else pure ()
  | _ => pure ()

/-- A removal from queue `h` to `d`, R772: the tests of the header, and `x` where there is an entry. -/
def removal (h : Long) (d : Dest) (x : Span → Dest → Long → M Unit) : M Unit := do
  if ¬ quadAligned h then raise reservedOperand
  notHeader h d
  let d ← prepare .l d
  let (hs, a) ← lockedRead h
  if field a 1 2 ≠ 0 then
    putLong hs a
    raise reservedOperand
  if a.getLsbD 0 then
    putLong hs a
    setCC false false true true
  else if a = 0 then
    putLong hs a
    storePlain .l d h
    setCC false true true false
  else x hs d a

/-- REMQHI after its operands, R772. -/
def remqhi (h : Long) (d : Dest) : M Unit := removal h d (removeHead h)

/-- REMQTI after its operands, R773. -/
def remqti (h : Long) (d : Dest) : M Unit := removal h d (removeTail h (remqhi h d))

/-- REMQHI and REMQTI; addr may not be in I/O space, R774. -/
def remqi (tail : Bool) (header addr : Opnd) : Meaning := do
  let h ← adrPlain .q header
  let d ← wrPlain .l addr
  if tail then remqti h d else remqhi h d
  done

/-- INSQUE, R764. -/
def execInsque (entry pred : Opnd) (s : State) : Out :=
  execute 0x0E (insque entry pred) s

/-- REMQUE, R765. -/
def execRemque (entry addr : Opnd) (s : State) : Out :=
  execute 0x0F (remque entry addr) s

/-- INSQHI, R770. -/
def execInsqhi (entry header : Opnd) (s : State) : Out :=
  execute 0x5C (insqi false entry header) s

/-- INSQTI, R771. -/
def execInsqti (entry header : Opnd) (s : State) : Out :=
  execute 0x5D (insqi true entry header) s

/-- REMQHI, R772. -/
def execRemqhi (header addr : Opnd) (s : State) : Out :=
  execute 0x5E (remqi false header addr) s

/-- REMQTI, R773. -/
def execRemqti (header addr : Opnd) (s : State) : Out :=
  execute 0x5F (remqi true header addr) s

end Sys2Proof.Machine
end

