-- ==== Sys2Proof/Machine/Boot.lean ====
section
/-! DEFINITION. Processor initialization, the V750's bootstrap and warm start, and what power-up leaves (70_reset_and_hazards.md
R1600, R1601, R1605, R1606, 61_platform_750.md R1138 to R1142). -/
namespace Sys2Proof.Machine

/-- The PSL after processor initialization, R1601. -/
def initialPsl : Long := 0x041F0000

/-- ProcessorInit, R1601. The rest of ICCS, NICR and ICR are free. An overrun of the terminal that RXDB<15> has not reported yet is
forgotten (R72 says only that RXCS is 0; DESIGN CHOICE, notes/assumptions/43.md). -/
def processorInit : M Unit := do
  let err ← drawBool
  let int ← drawBool
  let nicr ← drawBits 32
  let icr ← drawBits 32
  modify fun s =>
    let s := s.saveSp
    State.loadSp
      { s with
        psl := initialPsl
        mm := { s.mm with mapen := false }
        tb := []
        sisr := 0
        astlvl := 4
        pme := false
        clock := { s.clock with err := err, int := int, ie := false, run := false, nicr := nicr, icr := icr }
        term := { s.term with rx := ⟨false, false⟩, overrun := false, tx := ⟨true, false⟩ }
        pend := { Pending.none with errorHalt := s.pend.errorHalt } }
  if (← get).is750 then
    modV750 fun v =>
      { v with storeRx := ⟨false, false⟩, storeTx := ⟨true, false⟩, tbdr := 0, cadr := false, mcesr := 0, mcsr := 0, caer := 0 }
    setPC 0
    unibusInit750
  else
    let fpa := (← get).cfg.hasFPA
    modV780 fun v => { v with accEnb := fpa, accErr := 0, rds := false, sbifs := 0, sbisc := 0, sbimt := 0, sbier := 0, fault := false, faults := [] }

/-- The processor halts where it stands. -/
def haltHere (why : HaltCause) : M Unit := do
  let s ← get
  haltAt why s.pc s.psl

/-- The processor runs, and the console of the V780 leaves command mode. -/
def runFrom (pc : Long) : M Unit := do
  setPC pc
  modPend fun p => { p with errorHalt := false }
  modify fun s => { s with run := .running, con := if s.is750 then ConDefaults.initial else s.con }
  modV780 fun v => { v with command := false }

/-! ### V750 bootstrap, R1138, R1139 -/

/-- A boot ROM with a right checksum. -/
def romValid (rom : Option (List Byte)) : Bool :=
  match rom with
  | none => false
  | some bytes =>
    BitVec.ofNat 8 ((List.range 255).foldl (fun sum i => sum + (bytes.getD i 0).toNat) 0) == bytes.getD 255 0

/-- Copy the boot ROMs that are there to memory, byte by byte (DESIGN CHOICE, notes/assumptions/47.md). -/
def copyRoms (base : Nat) (s : State) : State :=
  (List.range 1024).foldl (fun s i =>
    match s.cfg.bootRoms.getD (i / 256) none with
    | none => s
    | some _ => s.storeRam (base + 0xFA00 + i) 1 ((s.rom750Byte i).setWidth 128)) s

/-- Map registers 0 to 127 point to the 64 Kbytes at `base`. -/
def bootMap (base : Nat) (map : Sparse 32) : Sparse 32 :=
  (List.range 128).foldl (fun m i => Sparse.set m i (0x80000000 ||| BitVec.ofNat 32 (base / 512 + i))) map

/-- Micro Verify, R1134: it types a mark, initializes the processor and leaves the general registers free. Where it finds
a failure it types one character, and halts with a code in place of the PC (which code is not stated: FF, the halt code). -/
def microVerify : M Bool := do
  processorInit
  freeRegs 15
  send (.typed 0x25)
  match (← get).cfg.verifyError with
  | none => return true
  | some c => do
    send (.typed c)
    let s ← get
    stopAt .microVerify s.pc s.psl
    send (.haltCode 0xFF)
    return false

/-- The first of `n` pages from `a` on at which 64 Kbytes of memory are present and free of errors. -/
def goodMemory (s : State) (a : Nat) : Nat → Option Nat
  | 0 => none
  | n + 1 => if a + 0x10000 ≤ s.cfg.memBytes ∧ ¬ s.bad a 0x10000 then some a else goodMemory s (a + 0x200) n

/-- Steps 3 to 11 of Boot, R1138. -/
def bootLoad (flags : Long) (unit adapter rom : Nat) : M Unit := do
  processorInit
  let s ← get
  match goodMemory s 0 (s.cfg.memBytes / 0x200) with
  | none => haltHere .noGoodMemory
  | some base => do
    unibusInit750
    modV750 fun v => { v with ubMap := bootMap base v.ubMap }
    modify (copyRoms base)
    if s.v750.coldStart then haltHere .coldStartFlag
    else
      modV750 fun v => { v with coldStart := true }
      setR 1 (BitVec.ofNat 32 (0xF28000 + 0x2000 * adapter))
      setR 2 0xFFE000
      setR 3 (BitVec.ofNat 32 unit)
      setR 5 flags
      setR 14 (BitVec.ofNat 32 (base + 0x200))
      if romValid (s.cfg.bootRoms.getD rom none) then runFrom (BitVec.ofNat 32 (base + 0xFA02 + 0x100 * rom))
      else haltHere .noBootRom

/-- Boot, R1138: `clearFlag` for events 1 and 2, `verify` unless B/X. -/
def boot750 (clearFlag verify : Bool) (flags : Long) (unit adapter rom : Nat) : M Unit := do
  if clearFlag then modV750 fun v => { v with coldStart := false }
  if verify then
    if ← microVerify then bootLoad flags unit adapter rom
  else bootLoad flags unit adapter rom

/-- Boot from the BOOT DEVICE switch: adapter A, unit 0, no flags. -/
def bootSwitch (clearFlag : Bool) : M Unit := do boot750 clearFlag true 0 0 0 (← get).cfg.bootDevice

/-! ### Warm start, R1140 -/

/-- PhysRead of `n` bytes of one page by the search; none where it cannot be made or meets an error, which is logged as any
read's is, but is no machine check of the processor (DESIGN CHOICE, notes/assumptions/47.md). -/
def searchPart (pa n : Nat) : M (Option Octa) := do
  let s ← get
  match ← attempt (physRead .data (pa % 2 ^ s.cfg.paw) n) with
  | .ok x => return some x
  | .error _ => do
    modV750 fun v => { v with mcesr := s.v750.mcesr, mcsr := s.v750.mcsr }
    return none

/-- PhysRead of a longword by the search. -/
def searchLong (pa : Nat) : M (Option Long) := do
  let k := min 4 (512 - pa % 512)
  match ← searchPart pa k with
  | none => return none
  | some lo =>
    if k = 4 then return some (lo.setWidth 32)
    else match ← searchPart (pa + k) (4 - k) with
      | none => return none
      | some hi => return some (lo.setWidth 32 ||| hi.setWidth 32 <<< (8 * k))

/-- Sum of `n` longwords; none where one cannot be read. -/
def longSum (pa : Nat) : Nat → M (Option Long)
  | 0 => pure (some 0)
  | n + 1 => do
    match ← searchLong pa with
    | none => return none
    | some x =>
      match ← longSum (pa + 4) n with
      | none => return none
      | some y => return some (x + y)

/-- The restart routine of the valid restart parameter block at `a`, if there is one; the conditions are tried in their order. A
longword that cannot be read makes the block not valid (DESIGN CHOICE, notes/assumptions/47.md). -/
def validRpb (a : Nat) : M (Option Long) := do
  match ← searchLong a with
  | none => return none
  | some self =>
    if self ≠ BitVec.ofNat 32 a then return none
    match ← searchLong (a + 4) with
    | none => return none
    | some code =>
      if code = 0 then return none
      match ← searchLong (a + 8) with
      | none => return none
      | some sum => return if (← longSum code.toNat 31) = some sum then some code else none

/-- The first of `n` pages from `a` on that holds a valid block, and its restart routine. -/
def findRpb (a : Nat) : Nat → M (Option (Nat × Long))
  | 0 => pure none
  | n + 1 => do
    match ← validRpb a with
    | some code => return some (a, code)
    | none => findRpb (a + 0x200) n

/-- The warm start longword of a block; free where it cannot be read (DESIGN CHOICE, notes/assumptions/47.md). -/
def warmFlags (a : Nat) : M Long := do
  match ← searchLong (a + 0xC) with
  | some x => return x
  | none => drawBits 32

/-- WarmStart: none when it succeeds, else why it failed. -/
def warmStart (cause : Nat) : M (Option HaltCause) := do
  match ← findRpb 0 ((← get).cfg.memBytes / 0x200) with
  | none => return some .noRestartBlock
  | some (a, code) => do
    let flags ← warmFlags a
    if flags.getLsbD 0 then return some .warmStartFlag
    processorInit
    physWrite .data (a + 0xC) 4 ((flags ||| 1).setWidth 128)
    setR 14 (BitVec.ofNat 32 (a + 0x200))
    setR 12 (BitVec.ofNat 32 cause)
    runFrom code
    return none

/-- The RESTART positions of the POWER ON ACTION switch, R1142. -/
def restart750 (cause : Nat) : M Unit := do
  match ← warmStart cause with
  | none => pure ()
  | some why => if (← get).cfg.powerOn = .restartBoot then bootSwitch false else haltHere why

/-! ### Halt codes -/

/-- Halt code of the V750, R1124; the time out is the V780's alone. -/
def haltCode : HaltCause → Nat
  | .singleStep => 0x00
  | .testDone => 0x01
  | .microVerify | .microTimeout => 0xFF
  | .consoleHalt => 0x02
  | .interruptStack => 0x04
  | .doubleWriteError | .doubleError => 0x05
  | .haltInstruction => 0x06
  | .illegalVector | .machineCheckVector => 0x07
  | .noControlStore => 0x08
  | .chmOnInterruptStack => 0x0A
  | .chmVector => 0x0B
  | .noRestartBlock => 0x11
  | .warmStartFlag => 0x12
  | .noGoodMemory => 0x13
  | .noBootRom => 0x14
  | .coldStartFlag => 0x15
  | .powerUp => 0x16

/-! ### What power-up leaves, R1600 -/

/-- `n` free map registers, of which the bits in `mask` exist. -/
def freeMap (mask : Long) (map : Sparse 32) : Nat → M (Sparse 32)
  | 0 => pure map
  | n + 1 => do
    let x ← drawBits 32
    freeMap mask (Sparse.set map n (x &&& mask)) n

/-- MASSBUS adapters after power-up: their maps, R1228, and VAR, R1223, R1451, are free (DESIGN CHOICE, notes/assumptions/11.md). -/
def powerUpMbas (v750 : Bool) : Nat → M (List Mba)
  | 0 => pure []
  | n + 1 => do
    let map ← freeMap (if v750 then 0x80007FFF else 0x801FFFFF) [] 256
    let var ← drawBits 17
    return { Mba.powerUp (!v750) with map := map, var := var } :: (← powerUpMbas v750 n)

/-- Registers no initialization sets: free at power-up, R1601. -/
def freeProcessor : M Unit := do
  freeRegs 16
  let sp : Stacks := ⟨← drawBits 32, ← drawBits 32, ← drawBits 32, ← drawBits 32, ← drawBits 32⟩
  let mm : Mapping :=
    ⟨← drawBits 32, ← drawBits 22, ← drawBits 32, ← drawBits 22, ← drawBits 32, ← drawBits 22, false⟩
  let pcbb ← drawBits 32
  let scbb ← drawBits 32
  let rxdb ← drawBits 32
  let mask := BitVec.ofNat 32 (2 ^ (← get).cfg.paw - 1)
  modify fun s =>
    { s with
      sp := sp
      mm := { mm with sbr := mm.sbr &&& mask &&& 0xFFFFFFFC }
      pcbb := pcbb
      scbb := scbb &&& mask &&& 0xFFFFFE00
      term := { s.term with rxdb := rxdb } }

/-- V750 adapters and memory controller after power-up, R1605; `kept`: the battery held memory and the clock. -/
def powerUp750 (kept : Bool) : M Unit := do
  let map ← freeMap ubMap750Mask [] 512
  let csrd ← drawBits 8
  modify fun s =>
    { s with
      mem := if kept then s.mem else []
      badMem := if kept then s.badMem else []
      v750 := { V750.reset with battFail := !kept, ubMap := map, csrd := csrd }
      clock := if kept then s.clock else { s.clock with todr := 0, todrHeld := true } }

/-- V780 UNIBUS adapters at power-up, R1557: the UNIBUS sequence is under way; FMER and FUBAR are free. -/
def powerUpUbas : Nat → M (List Uba)
  | 0 => pure []
  | n + 1 => do
    let fmer ← drawBits 9
    let fubar ← drawBits 16
    return { Uba.powerUp with ubic := false, ubInit := true, ubPdn := true, initPending := true, fmer := fmer, fubar := fubar }
      :: (← powerUpUbas n)

/-- V780 adapters and memory controllers after power-up, R1605, R1606: after a cold start each controller initializes its array
(62_platform_780.md R1408). Each UNIBUS starts its own power-up sequence, which
the host ends (63_platform_780_uba.md R1556 (1), 92_eei_decisions.md D58). -/
def powerUp780 (kept : Bool) : M Unit := do
  let wcsa ← drawBits 32
  let mbrk ← drawBits 13
  let trap ← drawBits 8
  let pc ← drawBits 9
  let ta ← drawBits 32
  let ubas ← powerUpUbas (← get).cfg.ubaSpaces.length
  modify fun s =>
    let fresh := (V780.reset s.cfg).mems
    let mems := if kept then
        (fresh.zip s.v780.mems).map fun (f, c) => { f with status := .saved, start := c.start, interleave := c.interleave }
      else fresh.map fun f => { f with status := .initializing }
    { s with
      v780 := { V780.reset s.cfg with
        mems := mems, ubas := ubas
        wcsa := wcsa, mbrk := mbrk, accTrap := trap, accMatch := pc, sbita := ta, command := true, files := s.v780.files }
      clock := if kept then s.clock else { s.clock with todr := 0 } }
  (List.range (← get).v780.ubas.length).forM fun k => send (.unibusInit k)
  if ¬ kept then freeAllRam

end Sys2Proof.Machine
end

