-- ==== Sys2Proof/Machine/System.lean ====
section
/-! DEFINITION. Privileged and system instructions (49_system.md) and the processor registers (11_processor_registers.md). -/
namespace Sys2Proof.Machine

/-! ### HALT, REI -/

/-- R980: the console finds the address after the HALT. -/
def halt : Meaning := do
  let s ← get
  haltAt .haltInstruction s.pc s.psl
  done

/-- The nine checks of REI on a popped PSL, R985. -/
def reiAllowed (old new : Long) : Bool :=
  let cur := field new 24 2
  let ipl := field new 16 5
  let is := new.getLsbD 26
  let bad :=
    cur < field old 24 2
      || (is && !old.getLsbD 26)
      || (is && cur != 0)
      || (is && ipl == 0)
      || (0 < ipl && cur != 0)
      || field new 22 2 < cur
      || field old 16 5 < ipl
      || new &&& pslMbz != 0
      || (new.getLsbD 31 && (new &&& 0x0C0000E0 != 0 || cur != 3))
  !bad

/-- R985. REI is also what ends a handler, at last that of a machine check (60_exceptions.md R1095 (g)). -/
def rei : Meaning := do
  let old := (← get).psl
  let pc ← pop
  let new ← pop
  if ¬ reiAllowed old new then raise reservedOperand
  modify fun s =>
    let s := { s.saveSp with psl := if old.getLsbD 30 then putBit new 30 true else new }
    let s := s.setReg 15 pc
    if s.is then s
    else
      let s := s.loadSp
      if s.astlvl.toNat ≤ s.cur then { s with sisr := s.sisr ||| 4 } else s
  modPend fun p => { p with inMachineCheck := p.inMachineCheck - 1 }
  done

/-! ### Change mode, R989, R990 -/

/-- PSL after a change to `mode`: CM, TP, FPD and the PSW bits clear, PRV is the old mode. -/
def changedPsl (old : Long) (mode : Nat) : Long :=
  putField (putField (old &&& 0x371FFF00) 22 2 (BitVec.ofNat 32 (field old 24 2))) 24 2 (BitVec.ofNat 32 mode)

def chm (target : Nat) (code : Opnd) : Meaning := do
  let c ← rd .w code
  let s ← get
  if s.is then
    haltAt .chmOnInterruptStack s.pc s.psl
    done
  else
    let mode := min target s.cur
    match ← readVector (0x40 + 4 * target) with
    | none => do
      haltAt .interruptStack s.pc s.psl
      done
    | some v =>
      if field v 0 2 ≠ 0 then
        haltAt .chmVector s.pc s.psl
        done
      else
        if mode ≠ s.cur then setR 14 (s.sp.get mode)
        pushFrame mode [s.psl, s.pc, c.signExtend 32]
        modify fun t =>
          { (t.setReg 15 (v &&& 0xFFFFFFFC)) with sp := t.sp.put s.cur (s.reg 14), psl := changedPsl s.psl mode }
        noteEntry (0x40 + 4 * target)
        done

/-! ### Process context -/

/-- Physical address of (PCB + n): the low two bits of PCBB and those above the physical address are ignored, R150. -/
def State.pcbAddress (s : State) (n : Nat) : Nat := (s.pcbb.toNat / 4 * 4 + n) % 2 ^ s.cfg.paw

/-- (PCB + n): a physical longword. -/
def readPcb (n : Nat) : M Long := do
  let s ← get
  return (← physRead .other (s.pcbAddress n) 4).setWidth 32

/-- `k` longwords from (PCB + n) on. -/
def readPcbs (n : Nat) : Nat → M (List Long)
  | 0 => pure []
  | k + 1 => do
    let x ← readPcb n
    return x :: (← readPcbs (n + 4) k)

/-- Store longwords from (PCB + n) on. -/
def writePcbs (n : Nat) : List Long → M Unit
  | [] => pure ()
  | x :: rest => do
    let s ← get
    physWrite .other (s.pcbAddress n) 4 (x.setWidth 128)
    writePcbs (n + 4) rest

/-- A page table base in system space, longword aligned. -/
def baseValid (a : Long) : Bool := field a 30 2 == 2 && field a 0 2 == 0

/-- The checks of LDPCTX, R995: all of them before anything is loaded (92_eei_decisions.md D38). -/
def contextValid (p0br p0lr p1br p1lr : Long) : Bool :=
  baseValid p0br && p0lr &&& 0xF8C00000 == 0 && decide (field p0lr 24 3 < 5) && baseValid (p1br + 0x00800000)
    && p1lr &&& 0x7FC00000 == 0

/-- Registers R0 to R13 from a list. -/
def setRegsFrom (s : State) (n : Nat) : List Long → State
  | [] => s
  | x :: rest => setRegsFrom (s.setReg ⟨n % 16, Nat.mod_lt _ (by decide)⟩ x) (n + 1) rest

/-- Entries of system pages: what a process switch leaves of the translation buffer, 21_memory_management.md R384. -/
def keepSystemEntries (tb : Sparse 33) : Sparse 33 := tb.filter fun e => decide (0x400000 ≤ e.1)

/-- R995, R997. All is read and checked before the pushes (DESIGN CHOICE, notes/assumptions/63.md). -/
def ldpctx : Meaning := do
  let w ← readPcbs 0 24
  let at_ (k : Nat) : Long := w.getD k 0
  if ¬ contextValid (at_ 20) (at_ 21) (at_ 22) (at_ 23) then raise reservedOperandAbort
  let s ← get
  let t := setRegsFrom s 0 ((w.drop 4).take 14)
  let t :=
    { t with
      tb := keepSystemEntries t.tb
      sp := { t.sp with ksp := at_ 0, esp := at_ 1, ssp := at_ 2, usp := at_ 3 }
      mm := { t.mm with
        p0br := at_ 20, p0lr := (at_ 21).setWidth 22, p1br := at_ 22, p1lr := (at_ 23).setWidth 22 }
      astlvl := BitVec.ofNat 3 (field (at_ 21) 24 3)
      pme := (at_ 23).getLsbD 31 }
  set (if s.is then
      { (t.setReg 14 (at_ 0)) with sp := { t.sp with isp := s.reg 14 }, psl := putBit t.psl 26 false }
    else t)
  match ← attempt (pushFrame 0 [at_ 19, at_ 18]) with
  | .ok _ => done
  | .error e => do
    modify fun t => { t with tb := s.tb, sp := s.sp, mm := s.mm, astlvl := s.astlvl, pme := s.pme }
    throw e

/-- R996. The pops come before the stores (DESIGN CHOICE, notes/assumptions/63.md). -/
def svpctx : Meaning := do
  let pc ← pop
  let psl ← pop
  let s ← get
  writePcbs 0 ([s.sp.ksp, s.sp.esp, s.sp.ssp, s.sp.usp] ++ (List.range 14).map (fun i => s.reg ⟨i % 16, Nat.mod_lt _ (by decide)⟩)
    ++ [pc, psl])
  if ¬ s.is then
    writePcbs 0 [s.reg 14]
    modify fun t =>
      { (t.setReg 14 t.sp.isp) with
        sp := { t.sp with ksp := s.reg 14 }
        psl := putBit (putField t.psl 16 5 (BitVec.ofNat 32 (max 1 s.ipl))) 26 true }
  done

/-! ### Processor registers: stack pointers and memory management, R140 to R159 -/

/-- The register that is the live SP: 0 to 3 for the modes, 4 for the interrupt stack. -/
def State.currentStack (s : State) : Nat := if s.is then 4 else s.cur

/-- Stored stack pointer `k`. -/
def State.storedSp (s : State) (k : Nat) : Long := if k = 4 then s.sp.isp else s.sp.get k

def readSp (k : Nat) : M Long := do
  let s ← get
  return if s.currentStack = k then s.reg 14 else s.storedSp k

/-- The stored pointer is written, and the live SP where it is the current one, R140. -/
def writeSp (k : Nat) (v : Long) : M Unit := modify fun s =>
  let s := if s.currentStack = k then s.setReg 14 v else s
  { s with sp := if k = 4 then { s.sp with isp := v } else s.sp.put k v }

/-- Physical address bits. -/
def State.paMask (s : State) : Long := BitVec.ofNat 32 (2 ^ s.cfg.paw - 1)

/-- SIRR, R154. -/
def requestSoftware (n : Nat) : M Unit :=
  if n = 0 then pure () else modify fun s => { s with sisr := s.sisr ||| (1#16 <<< n) }

/-- A legal P0BR, or P1BR plus 2^23, R141, R143. -/
def checkBaseRegister (a : Long) : M Unit := if baseValid a then pure () else raise reservedOperand

/-! ### Clocks, R170 to R175 -/

/-- One count of ICR, R173. -/
def Clock.tick (c : Clock) : Clock :=
  if c.icr = 0xFFFFFFFF then { c with icr := c.nicr, err := c.err || c.int, int := true }
  else { c with icr := c.icr + 1 }

/-- MTPR to ICCS, R170; XFR comes before SGL. -/
def Clock.write (c : Clock) (v : Long) : Clock :=
  let c :=
    { c with
      err := c.err && !v.getLsbD 31, int := c.int && !v.getLsbD 7, ie := v.getLsbD 6, run := v.getLsbD 0
      icr := if v.getLsbD 4 then c.nicr else c.icr }
  if v.getLsbD 5 && !v.getLsbD 0 then c.tick else c

def Clock.iccs (c : Clock) : Long := bitL c.err <<< 31 ||| bitL c.int <<< 7 ||| bitL c.ie <<< 6 ||| bitL c.run

def modClock (f : Clock → Clock) : M Unit := modify fun s => { s with clock := f s.clock }
def modTerm (f : Terminal → Terminal) : M Unit := modify fun s => { s with term := f s.term }

/-- Does the time-of-year clock exist? R175. -/
def State.hasTodr (s : State) : Bool := s.is750 || s.cfg.todrPresent

/-! ### Console registers, R180 to R203 -/

/-- A receiver or transmitter status register. -/
def Line.value (l : Line) : Long := bitL l.ready <<< 7 ||| bitL l.ie <<< 6

/-- RXDB, R181: reading it clears Done; without Done its value is free. -/
def readRxdb : M Long := do
  let t := (← get).term
  modTerm fun t => { t with rx := { t.rx with ready := false } }
  if t.rx.ready then return t.rxdb else drawBits 32

/-- CSRD, R201; without Done it is the last datum (DESIGN CHOICE, notes/assumptions/43.md). -/
def readCsrd : M Long := do
  let v := (← get).v750
  modV750 fun v => { v with storeRx := { v.storeRx with ready := false } }
  return v.csrd.setWidth 32

/-- TXDB, R183. While RDY is clear the datum sent is free (70_reset_and_hazards.md R1622; DESIGN CHOICE,
notes/assumptions/43.md, that it is still sent). The V780 console takes no output while it is in command mode, 62_platform_780.md R1301. -/
def writeTxdb (v : Long) : M Unit := do
  let s ← get
  let id := field v 8 4
  let data := field v 0 8
  if s.is750 ∧ ((id ≠ 0 ∧ id ≠ 15) ∨ (id = 15 ∧ 4 < data)) then raise reservedOperand
  modTerm fun t => { t with tx := { t.tx with ready := false } }
  if s.is750 ∧ id = 15 then
    if data = 2 then bootSwitch false
    else if data = 4 then modV750 fun x => { x with coldStart := false }
    else pure ()
  else if s.is750 ∨ ¬ s.v780.command then
    let c ← if s.term.tx.ready then pure (v.setWidth 8) else drawBits 8
    send (.char (BitVec.ofNat 4 id) c)
  else pure ()

/-! ### V750 registers, R200 to R219 -/

/-- MTPR to MCESR, R210: ones clear its bits and what depends on them in MCSR. -/
def writeMcesr (v : Long) : M Unit := modV750 fun x =>
  { x with
    mcesr := x.mcesr &&& ~~~ (v.setWidth 4)
    mcsr := x.mcsr &&& ~~~ ((if v.getLsbD 3 then 0xF else 0) ||| (if v.getLsbD 2 then 0xF00 else 0)) }

/-- TB, R218: mapping must be off. -/
def needMappingOff : M Unit := do if (← get).mm.mapen then refuse .diagnosticRegister

/-- The page number a TB access names: that of the address in P0BR. -/
def State.tbPage (s : State) : Nat := s.mm.p0br.toNat / 512

/-- An entry of the translation buffer as `State.tb` holds it. -/
def tbEntry (pte : Long) : BitVec 33 := 0x100000000 ||| pte.setWidth 33

/-- MFPR of TB: the entry written for the page; without one the value is free. -/
def readTb : M Long := do
  needMappingOff
  let s ← get
  let x := Sparse.get s.tb s.tbPage
  if x = 0 then drawBits 32 else return x.setWidth 32

/-- CAER<0> tells whether the last reference hit the cache, which is not modelled: free, R217 (DESIGN CHOICE,
notes/assumptions/61.md). -/
def readHit : M Long := do return bitL (← drawBool)

/-- MFPR of registers of the V750 alone. CAER<3:1> are set by the cache errors a host injects. -/
def readReg750 (n : Nat) : M Long := do
  let v := (← get).v750
  match n with
  | 0x17 => return v.mcsr
  | 0x1C => return v.storeRx.value
  | 0x1D => readCsrd
  | 0x1E => return v.storeTx.value
  | 0x24 => return v.tbdr.setWidth 32
  | 0x25 => return bitL v.cadr
  | 0x26 => return v.mcesr.setWidth 32
  | 0x27 => return v.caer.setWidth 32 &&& 0xE ||| (← readHit)
  | 0x37 => return 0
  | 0x3B => readTb
  | _ => raise reservedOperand

/-- MTPR to registers of the V750 alone. DESIGN CHOICE (notes/assumptions/43.md): a write of CAER replaces its bits, and a datum
written to CSTD while CSTS<RDY> is clear, of which R203 says nothing, is sent as it stands and leaves RDY clear. -/
def writeReg750 (n : Nat) (v : Long) : M Unit := do
  match n with
  | 0x17 => pure ()
  | 0x1C => modV750 fun x => { x with storeRx := { x.storeRx with ie := v.getLsbD 6 } }
  | 0x1E => do
    modV750 fun x => { x with storeTx := { x.storeTx with ie := v.getLsbD 6 } }
    if v.getLsbD 0 then send .lineBreak
  | 0x1F => do
    modV750 fun x => { x with storeTx := { x.storeTx with ready := false } }
    send (.storage (v.setWidth 8))
  | 0x24 => modV750 fun x => { x with tbdr := v.setWidth 4 }
  | 0x25 => modV750 fun x => { x with cadr := v.getLsbD 0 }
  | 0x26 => writeMcesr v
  | 0x27 => modV750 fun x => { x with caer := v.setWidth 4 }
  | 0x37 => unibusInit750
  | 0x3B => do
    needMappingOff
    modify fun s => { s with tb := Sparse.set s.tb s.tbPage (tbEntry v) }
  | _ => raise reservedOperand

/-! ### V780 registers, R230 to R247 -/

/-- ACCS, R230: the error bits stand in <29:27> in the order of the figure, and <31> is their OR. -/
def V780.accs (v : V780) (fpa : Bool) : Long :=
  bitL (v.accErr != 0) <<< 31 ||| v.accErr.setWidth 32 <<< 27 ||| bitL v.accEnb <<< 15 ||| bitL fpa

/-- MFPR of registers of the V780 alone. -/
def readReg780 (n : Nat) : M Long := do
  let s ← get
  let v := s.v780
  match n with
  | 0x28 => return v.accs s.cfg.hasFPA
  | 0x29 => return v.accTrap.setWidth 32 <<< 16 ||| v.accMatch.setWidth 32
  | 0x2C => return v.wcsa
  | 0x2D => return s.cfg.present.setWidth 32
  | 0x30 => return v.sbifs
  | 0x31 => drawBits 32
  | 0x32 => return v.sbisc
  | 0x33 => return v.sbimt
  | 0x34 => return v.sbier
  | 0x35 => return v.sbita
  | 0x3C => return v.mbrk.setWidth 32
  | _ => raise reservedOperand

/-- MTPR to registers of the V780 alone. A write to WCSD moves the control store address, whose layout is lost: WCSA is
then free. SBIFS, SBISC, SBIMT and SBIER hold what is written, without any other effect (R247, 92_eei_decisions.md D18). -/
def writeReg780 (n : Nat) (v : Long) : M Unit := do
  match n with
  | 0x28 => do
    let fpa := (← get).cfg.hasFPA
    modV780 fun x => { x with accEnb := v.getLsbD 15 && fpa }
  | 0x29 => modV780 fun x =>
      { x with
        accTrap := if v.getLsbD 31 then v.extractLsb' 16 8 else x.accTrap
        accMatch := if v.getLsbD 15 then v.setWidth 9 else x.accMatch }
  | 0x2C => modV780 fun x => { x with wcsa := v }
  | 0x2D => do
    let a ← drawBits 32
    modV780 fun x => { x with wcsa := a }
  | 0x30 => modV780 fun x => { x with sbifs := v }
  | 0x32 => modV780 fun x => { x with sbisc := v }
  | 0x33 => modV780 fun x => { x with sbimt := v }
  | 0x34 => modV780 fun x => { x with sbier := v }
  | 0x36 => do
    let pa := (v &&& 0x3FFFFFF8).toNat
    if (← get).hasRam pa then modify fun s => s.storeQuad pa 0 else busWriteError
  | 0x3C => modV780 fun x => { x with mbrk := v.setWidth 13 }
  | _ => raise reservedOperand

/-! ### All processor registers, R131 -/

/-- PR[n] as MFPR reads it. -/
def readReg (n : Nat) : M Long := do
  let s ← get
  match n with
  | 0x00 => readSp 0
  | 0x01 => readSp 1
  | 0x02 => readSp 2
  | 0x03 => readSp 3
  | 0x04 => readSp 4
  | 0x08 => return s.mm.p0br
  | 0x09 => return s.mm.p0lr.setWidth 32
  | 0x0A => return s.mm.p1br
  | 0x0B => return s.mm.p1lr.setWidth 32
  | 0x0C => return s.mm.sbr
  | 0x0D => return s.mm.slr.setWidth 32
  | 0x10 => return s.pcbb
  | 0x11 => return s.scbb
  | 0x12 => return BitVec.ofNat 32 s.ipl
  | 0x13 => return s.astlvl.setWidth 32
  | 0x15 => return s.sisr.setWidth 32
  | 0x18 => return s.clock.iccs
  | 0x1A => return s.clock.icr
  | 0x1B => return if s.hasTodr then s.clock.todr else 0
  | 0x20 => return s.term.rx.value
  | 0x21 => readRxdb
  | 0x22 => return s.term.tx.value
  | 0x38 => return bitL s.mm.mapen
  | 0x3D => return bitL s.pme
  | 0x3E => return s.cfg.sidValue
  | n => if s.is750 then readReg750 n else readReg780 n

/-- PR[n] <- v as MTPR does it. -/
def writeReg (n : Nat) (v : Long) : M Unit := do
  match n with
  | 0x00 => writeSp 0 v
  | 0x01 => writeSp 1 v
  | 0x02 => writeSp 2 v
  | 0x03 => writeSp 3 v
  | 0x04 => writeSp 4 v
  | 0x08 => do
    checkBaseRegister v
    modify fun s => { s with mm := { s.mm with p0br := v } }
  | 0x09 => modify fun s => { s with mm := { s.mm with p0lr := v.setWidth 22 } }
  | 0x0A => do
    checkBaseRegister (v + 0x00800000)
    modify fun s => { s with mm := { s.mm with p1br := v } }
  | 0x0B => modify fun s => { s with mm := { s.mm with p1lr := v.setWidth 22 } }
  | 0x0C => modify fun s => { s with mm := { s.mm with sbr := v &&& s.paMask &&& 0xFFFFFFFC } }
  | 0x0D => modify fun s => { s with mm := { s.mm with slr := v.setWidth 22 } }
  | 0x10 => modify fun s => { s with pcbb := v }
  | 0x11 => modify fun s => { s with scbb := v &&& s.paMask &&& 0xFFFFFE00 }
  | 0x12 => modify fun s => { s with psl := putField s.psl 16 5 v }
  | 0x13 => do
    if 5 ≤ field v 0 3 then raise reservedOperand
    modify fun s => { s with astlvl := v.setWidth 3 }
  | 0x14 => requestSoftware (field v 0 4)
  | 0x15 => modify fun s => { s with sisr := v.setWidth 16 &&& 0xFFFE }
  | 0x18 => modClock fun c => c.write v
  | 0x19 => modClock fun c => { c with nicr := v }
  | 0x1B => do
    if (← get).hasTodr then modClock fun c => { c with todr := v, todrHeld := c.todrHeld && v == 0 }
  | 0x20 => modTerm fun t => { t with rx := { t.rx with ie := v.getLsbD 6 } }
  | 0x22 => modTerm fun t => { t with tx := { t.tx with ie := v.getLsbD 6 } }
  | 0x23 => writeTxdb v
  | 0x38 => modify fun s => { s with mm := { s.mm with mapen := v.getLsbD 0 } }
  | 0x39 => modify fun s => { s with tb := [] }
  | 0x3A => modify fun s => { s with tb := Sparse.set s.tb (v.toNat / 512) 0 }
  | 0x3D => modify fun s => { s with pme := v.getLsbD 0 }
  | n => if (← get).is750 then writeReg750 n v else writeReg780 n v

/-- R1000, R133. The condition codes come first: a register write may start a boot, which sets the PSL. -/
def mtpr (src procreg : Opnd) : Meaning := do
  let v ← rd .l src
  let n ← rd .l procreg
  setNZV v.msb (decide (v = 0)) false
  writeReg n.toNat v
  done

/-- R1001. The destination is checked before the register (DESIGN CHOICE, notes/assumptions/42.md). -/
def mfpr (procreg dst : Opnd) : Meaning := do
  let n ← rd .l procreg
  let d ← wr .l dst
  let d ← prepare .l d
  let v ← readReg n.toNat
  store .l d v
  setNZV v.msb (decide (v = 0)) false
  done

/-! ### PROBE, R1004, 21_memory_management.md R390 -/

/-- Accessible. PROBEW leaves it free whether the examined entry gets its M bit. -/
def accessible (va : Long) (write : Bool) (mode : Nat) : M Bool := do
  let s ← get
  if ¬ s.mm.mapen then return true
  if s.is750 ∧ field s.v750.tbdr 0 2 = 3 then refuse .diagnosticRegister
  match ← attempt (walk va write) with
  | .error (.exc e) => if e.offset = 0x20 then return false else raise e
  | .error e => throw e
  | .ok w => do
    if pteProt w.pte = 1 then refuse .reservedProtection
    if write ∧ pteValid w.pte then commitMaybe ⟨0, some w⟩
    return accessAllowed (pteProt w.pte) mode write

/-- PROBER and PROBEW, R1004. The last byte is tested also where the first is not accessible, so a page table entry that is not
valid behind it faults (the rule's "and" gives no order; DESIGN CHOICE, notes/assumptions/42.md). -/
def probe (write : Bool) (modeOp len base : Opnd) : Meaning := do
  let m ← rd .b modeOp
  let n ← rd .w len
  let a ← adr .b base
  let mode := max (field m 0 2) (← get).prv
  let first ← accessible a write mode
  let last ← accessible (a + n.setWidth 32 - 1) write mode
  setCC false (!(first && last)) false false
  done

/-- HALT, R980. -/
def execHalt (s : State) : Out :=
  execute 0x00 (halt) s

/-- BPT, R982. -/
def execBpt (s : State) : Out :=
  execute 0x03 (raise breakpoint) s

/-- REI, R985. -/
def execRei (s : State) : Out :=
  execute 0x02 (rei) s

/-- LDPCTX, R995. -/
def execLdpctx (s : State) : Out :=
  execute 0x06 (ldpctx) s

/-- SVPCTX, R996. -/
def execSvpctx (s : State) : Out :=
  execute 0x07 (svpctx) s

/-- MTPR, R1000. -/
def execMtpr (src procreg : Opnd) (s : State) : Out :=
  execute 0xDA (mtpr src procreg) s

/-- MFPR, R1001. -/
def execMfpr (procreg dst : Opnd) (s : State) : Out :=
  execute 0xDB (mfpr procreg dst) s

/-- CHMK, R991. -/
def execChmk (code : Opnd) (s : State) : Out :=
  execute 0xBC (chm 0 code) s

/-- CHME, R992. -/
def execChme (code : Opnd) (s : State) : Out :=
  execute 0xBD (chm 1 code) s

/-- CHMS, R993. -/
def execChms (code : Opnd) (s : State) : Out :=
  execute 0xBE (chm 2 code) s

/-- CHMU, R994. -/
def execChmu (code : Opnd) (s : State) : Out :=
  execute 0xBF (chm 3 code) s

/-- PROBER, R1005. -/
def execProber (modeOp len base : Opnd) (s : State) : Out :=
  execute 0x0C (probe false modeOp len base) s

/-- PROBEW, R1006. -/
def execProbew (modeOp len base : Opnd) (s : State) : Out :=
  execute 0x0D (probe true modeOp len base) s

/-- XFC, R1012. -/
def execXfc (s : State) : Out :=
  execute 0xFC (raise customerReserved) s

end Sys2Proof.Machine
end

