-- ==== Sys2Proof/Machine/Dispatch.lean ====
section
/-! DEFINITION. The meaning of every instruction: one arm for each constructor of Instr. -/
namespace Sys2Proof.Machine

def exec (i : Instr) (s : State) : Host.Outcome State Fault Refusal :=
  match i with
  | .halt => Sys2Proof.Machine.execHalt s
  | .nop => Sys2Proof.Machine.execNop s
  | .rei => Sys2Proof.Machine.execRei s
  | .bpt => Sys2Proof.Machine.execBpt s
  | .ret => Sys2Proof.Machine.execRet s
  | .rsb => Sys2Proof.Machine.execRsb s
  | .ldpctx => Sys2Proof.Machine.execLdpctx s
  | .svpctx => Sys2Proof.Machine.execSvpctx s
  | .cvtps srclen srcaddr dstlen dstaddr => Sys2Proof.Machine.execCvtps srclen srcaddr dstlen dstaddr s
  | .cvtsp srclen srcaddr dstlen dstaddr => Sys2Proof.Machine.execCvtsp srclen srcaddr dstlen dstaddr s
  | .index subscript low high size indexin indexout => Sys2Proof.Machine.execIndex subscript low high size indexin indexout s
  | .crc tbl inicrc strlen stream => Sys2Proof.Machine.execCrc tbl inicrc strlen stream s
  | .prober modeOp len base => Sys2Proof.Machine.execProber modeOp len base s
  | .probew modeOp len base => Sys2Proof.Machine.execProbew modeOp len base s
  | .insque entry pred => Sys2Proof.Machine.execInsque entry pred s
  | .remque entry addr => Sys2Proof.Machine.execRemque entry addr s
  | .bsbb displ => Sys2Proof.Machine.execBsbb displ s
  | .brb displ => Sys2Proof.Machine.execBrb displ s
  | .bneq displ => Sys2Proof.Machine.execBneq displ s
  | .bnequ displ => Sys2Proof.Machine.execBnequ displ s
  | .beql displ => Sys2Proof.Machine.execBeql displ s
  | .beqlu displ => Sys2Proof.Machine.execBeqlu displ s
  | .bgtr displ => Sys2Proof.Machine.execBgtr displ s
  | .bleq displ => Sys2Proof.Machine.execBleq displ s
  | .jsb dst => Sys2Proof.Machine.execJsb dst s
  | .jmp dst => Sys2Proof.Machine.execJmp dst s
  | .bgeq displ => Sys2Proof.Machine.execBgeq displ s
  | .blss displ => Sys2Proof.Machine.execBlss displ s
  | .bgtru displ => Sys2Proof.Machine.execBgtru displ s
  | .blequ displ => Sys2Proof.Machine.execBlequ displ s
  | .bvc displ => Sys2Proof.Machine.execBvc displ s
  | .bvs displ => Sys2Proof.Machine.execBvs displ s
  | .bcc displ => Sys2Proof.Machine.execBcc displ s
  | .bgequ displ => Sys2Proof.Machine.execBgequ displ s
  | .bcs displ => Sys2Proof.Machine.execBcs displ s
  | .blssu displ => Sys2Proof.Machine.execBlssu displ s
  | .addp4 addlen addaddr sumlen sumaddr => Sys2Proof.Machine.execAddp4 addlen addaddr sumlen sumaddr s
  | .addp6 add1len add1addr add2len add2addr sumlen sumaddr => Sys2Proof.Machine.execAddp6 add1len add1addr add2len add2addr sumlen sumaddr s
  | .subp4 sublen subaddr diflen difaddr => Sys2Proof.Machine.execSubp4 sublen subaddr diflen difaddr s
  | .subp6 sublen subaddr minlen minaddr diflen difaddr => Sys2Proof.Machine.execSubp6 sublen subaddr minlen minaddr diflen difaddr s
  | .cvtpt srclen srcaddr tbladdr dstlen dstaddr => Sys2Proof.Machine.execCvtpt srclen srcaddr tbladdr dstlen dstaddr s
  | .mulp mulrlen mulraddr muldlen muldaddr prodlen prodaddr => Sys2Proof.Machine.execMulp mulrlen mulraddr muldlen muldaddr prodlen prodaddr s
  | .cvttp srclen srcaddr tbladdr dstlen dstaddr => Sys2Proof.Machine.execCvttp srclen srcaddr tbladdr dstlen dstaddr s
  | .divp divrlen divraddr divdlen divdaddr quolen quoaddr => Sys2Proof.Machine.execDivp divrlen divraddr divdlen divdaddr quolen quoaddr s
  | .movc3 len srcaddr dstaddr => Sys2Proof.Machine.execMovc3 len srcaddr dstaddr s
  | .cmpc3 len src1addr src2addr => Sys2Proof.Machine.execCmpc3 len src1addr src2addr s
  | .scanc len addr tbladdr mask => Sys2Proof.Machine.execScanc len addr tbladdr mask s
  | .spanc len addr tbladdr mask => Sys2Proof.Machine.execSpanc len addr tbladdr mask s
  | .movc5 srclen srcaddr fill dstlen dstaddr => Sys2Proof.Machine.execMovc5 srclen srcaddr fill dstlen dstaddr s
  | .cmpc5 src1len src1addr fill src2len src2addr => Sys2Proof.Machine.execCmpc5 src1len src1addr fill src2len src2addr s
  | .movtc srclen srcaddr fill tbladdr dstlen dstaddr => Sys2Proof.Machine.execMovtc srclen srcaddr fill tbladdr dstlen dstaddr s
  | .movtuc srclen srcaddr esc tbladdr dstlen dstaddr => Sys2Proof.Machine.execMovtuc srclen srcaddr esc tbladdr dstlen dstaddr s
  | .bsbw displ => Sys2Proof.Machine.execBsbw displ s
  | .brw displ => Sys2Proof.Machine.execBrw displ s
  | .cvtwl src dst => Sys2Proof.Machine.execCvtwl src dst s
  | .cvtwb src dst => Sys2Proof.Machine.execCvtwb src dst s
  | .movp len srcaddr dstaddr => Sys2Proof.Machine.execMovp len srcaddr dstaddr s
  | .cmpp3 len src1addr src2addr => Sys2Proof.Machine.execCmpp3 len src1addr src2addr s
  | .cvtpl srclen srcaddr dst => Sys2Proof.Machine.execCvtpl srclen srcaddr dst s
  | .cmpp4 src1len src1addr src2len src2addr => Sys2Proof.Machine.execCmpp4 src1len src1addr src2len src2addr s
  | .editpc srclen srcaddr pattern dstaddr => Sys2Proof.Machine.execEditpc srclen srcaddr pattern dstaddr s
  | .matchc objlen objaddr srclen srcaddr => Sys2Proof.Machine.execMatchc objlen objaddr srclen srcaddr s
  | .locc char len addr => Sys2Proof.Machine.execLocc char len addr s
  | .skpc char len addr => Sys2Proof.Machine.execSkpc char len addr s
  | .movzwl src dst => Sys2Proof.Machine.execMovzwl src dst s
  | .acbw limit add idx displ => Sys2Proof.Machine.execAcbw limit add idx displ s
  | .movaw src dst => Sys2Proof.Machine.execMovaw src dst s
  | .pushaw src => Sys2Proof.Machine.execPushaw src s
  | .addf2 add sum => Sys2Proof.Machine.execAddf2 add sum s
  | .addf3 add1 add2 sum => Sys2Proof.Machine.execAddf3 add1 add2 sum s
  | .subf2 sub dif => Sys2Proof.Machine.execSubf2 sub dif s
  | .subf3 sub min dif => Sys2Proof.Machine.execSubf3 sub min dif s
  | .mulf2 mulr prod => Sys2Proof.Machine.execMulf2 mulr prod s
  | .mulf3 mulr muld prod => Sys2Proof.Machine.execMulf3 mulr muld prod s
  | .divf2 divr quo => Sys2Proof.Machine.execDivf2 divr quo s
  | .divf3 divr divd quo => Sys2Proof.Machine.execDivf3 divr divd quo s
  | .cvtfb src dst => Sys2Proof.Machine.execCvtfb src dst s
  | .cvtfw src dst => Sys2Proof.Machine.execCvtfw src dst s
  | .cvtfl src dst => Sys2Proof.Machine.execCvtfl src dst s
  | .cvtrfl src dst => Sys2Proof.Machine.execCvtrfl src dst s
  | .cvtbf src dst => Sys2Proof.Machine.execCvtbf src dst s
  | .cvtwf src dst => Sys2Proof.Machine.execCvtwf src dst s
  | .cvtlf src dst => Sys2Proof.Machine.execCvtlf src dst s
  | .acbf limit add idx displ => Sys2Proof.Machine.execAcbf limit add idx displ s
  | .movf src dst => Sys2Proof.Machine.execMovf src dst s
  | .cmpf src1 src2 => Sys2Proof.Machine.execCmpf src1 src2 s
  | .mnegf src dst => Sys2Proof.Machine.execMnegf src dst s
  | .tstf src => Sys2Proof.Machine.execTstf src s
  | .emodf mulr mulrx muld intg fract => Sys2Proof.Machine.execEmodf mulr mulrx muld intg fract s
  | .polyf arg degree tbladdr => Sys2Proof.Machine.execPolyf arg degree tbladdr s
  | .cvtfd src dst => Sys2Proof.Machine.execCvtfd src dst s
  | .adawi add sum => Sys2Proof.Machine.execAdawi add sum s
  | .insqhi entry header => Sys2Proof.Machine.execInsqhi entry header s
  | .insqti entry header => Sys2Proof.Machine.execInsqti entry header s
  | .remqhi header addr => Sys2Proof.Machine.execRemqhi header addr s
  | .remqti header addr => Sys2Proof.Machine.execRemqti header addr s
  | .addd2 add sum => Sys2Proof.Machine.execAddd2 add sum s
  | .addd3 add1 add2 sum => Sys2Proof.Machine.execAddd3 add1 add2 sum s
  | .subd2 sub dif => Sys2Proof.Machine.execSubd2 sub dif s
  | .subd3 sub min dif => Sys2Proof.Machine.execSubd3 sub min dif s
  | .muld2 mulr prod => Sys2Proof.Machine.execMuld2 mulr prod s
  | .muld3 mulr muld prod => Sys2Proof.Machine.execMuld3 mulr muld prod s
  | .divd2 divr quo => Sys2Proof.Machine.execDivd2 divr quo s
  | .divd3 divr divd quo => Sys2Proof.Machine.execDivd3 divr divd quo s
  | .cvtdb src dst => Sys2Proof.Machine.execCvtdb src dst s
  | .cvtdw src dst => Sys2Proof.Machine.execCvtdw src dst s
  | .cvtdl src dst => Sys2Proof.Machine.execCvtdl src dst s
  | .cvtrdl src dst => Sys2Proof.Machine.execCvtrdl src dst s
  | .cvtbd src dst => Sys2Proof.Machine.execCvtbd src dst s
  | .cvtwd src dst => Sys2Proof.Machine.execCvtwd src dst s
  | .cvtld src dst => Sys2Proof.Machine.execCvtld src dst s
  | .acbd limit add idx displ => Sys2Proof.Machine.execAcbd limit add idx displ s
  | .movd src dst => Sys2Proof.Machine.execMovd src dst s
  | .cmpd src1 src2 => Sys2Proof.Machine.execCmpd src1 src2 s
  | .mnegd src dst => Sys2Proof.Machine.execMnegd src dst s
  | .tstd src => Sys2Proof.Machine.execTstd src s
  | .emodd mulr mulrx muld intg fract => Sys2Proof.Machine.execEmodd mulr mulrx muld intg fract s
  | .polyd arg degree tbladdr => Sys2Proof.Machine.execPolyd arg degree tbladdr s
  | .cvtdf src dst => Sys2Proof.Machine.execCvtdf src dst s
  | .ashl cnt src dst => Sys2Proof.Machine.execAshl cnt src dst s
  | .ashq cnt src dst => Sys2Proof.Machine.execAshq cnt src dst s
  | .emul mulr muld add prod => Sys2Proof.Machine.execEmul mulr muld add prod s
  | .ediv divr divd quo rem => Sys2Proof.Machine.execEdiv divr divd quo rem s
  | .clrd dst => Sys2Proof.Machine.execClrd dst s
  | .clrg dst => Sys2Proof.Machine.execClrg dst s
  | .clrq dst => Sys2Proof.Machine.execClrq dst s
  | .movq src dst => Sys2Proof.Machine.execMovq src dst s
  | .movad src dst => Sys2Proof.Machine.execMovad src dst s
  | .movag src dst => Sys2Proof.Machine.execMovag src dst s
  | .movaq src dst => Sys2Proof.Machine.execMovaq src dst s
  | .pushad src => Sys2Proof.Machine.execPushad src s
  | .pushag src => Sys2Proof.Machine.execPushag src s
  | .pushaq src => Sys2Proof.Machine.execPushaq src s
  | .addb2 add sum => Sys2Proof.Machine.execAddb2 add sum s
  | .addb3 add1 add2 sum => Sys2Proof.Machine.execAddb3 add1 add2 sum s
  | .subb2 sub dif => Sys2Proof.Machine.execSubb2 sub dif s
  | .subb3 sub min dif => Sys2Proof.Machine.execSubb3 sub min dif s
  | .mulb2 mulr prod => Sys2Proof.Machine.execMulb2 mulr prod s
  | .mulb3 mulr muld prod => Sys2Proof.Machine.execMulb3 mulr muld prod s
  | .divb2 divr quo => Sys2Proof.Machine.execDivb2 divr quo s
  | .divb3 divr divd quo => Sys2Proof.Machine.execDivb3 divr divd quo s
  | .bisb2 mask dst => Sys2Proof.Machine.execBisb2 mask dst s
  | .bisb3 mask src dst => Sys2Proof.Machine.execBisb3 mask src dst s
  | .bicb2 mask dst => Sys2Proof.Machine.execBicb2 mask dst s
  | .bicb3 mask src dst => Sys2Proof.Machine.execBicb3 mask src dst s
  | .xorb2 mask dst => Sys2Proof.Machine.execXorb2 mask dst s
  | .xorb3 mask src dst => Sys2Proof.Machine.execXorb3 mask src dst s
  | .mnegb src dst => Sys2Proof.Machine.execMnegb src dst s
  | .caseb selector base limit => Sys2Proof.Machine.execCaseb selector base limit s
  | .movb src dst => Sys2Proof.Machine.execMovb src dst s
  | .cmpb src1 src2 => Sys2Proof.Machine.execCmpb src1 src2 s
  | .mcomb src dst => Sys2Proof.Machine.execMcomb src dst s
  | .bitb mask src => Sys2Proof.Machine.execBitb mask src s
  | .clrb dst => Sys2Proof.Machine.execClrb dst s
  | .tstb src => Sys2Proof.Machine.execTstb src s
  | .incb sum => Sys2Proof.Machine.execIncb sum s
  | .decb dif => Sys2Proof.Machine.execDecb dif s
  | .cvtbl src dst => Sys2Proof.Machine.execCvtbl src dst s
  | .cvtbw src dst => Sys2Proof.Machine.execCvtbw src dst s
  | .movzbl src dst => Sys2Proof.Machine.execMovzbl src dst s
  | .movzbw src dst => Sys2Proof.Machine.execMovzbw src dst s
  | .rotl cnt src dst => Sys2Proof.Machine.execRotl cnt src dst s
  | .acbb limit add idx displ => Sys2Proof.Machine.execAcbb limit add idx displ s
  | .movab src dst => Sys2Proof.Machine.execMovab src dst s
  | .pushab src => Sys2Proof.Machine.execPushab src s
  | .addw2 add sum => Sys2Proof.Machine.execAddw2 add sum s
  | .addw3 add1 add2 sum => Sys2Proof.Machine.execAddw3 add1 add2 sum s
  | .subw2 sub dif => Sys2Proof.Machine.execSubw2 sub dif s
  | .subw3 sub min dif => Sys2Proof.Machine.execSubw3 sub min dif s
  | .mulw2 mulr prod => Sys2Proof.Machine.execMulw2 mulr prod s
  | .mulw3 mulr muld prod => Sys2Proof.Machine.execMulw3 mulr muld prod s
  | .divw2 divr quo => Sys2Proof.Machine.execDivw2 divr quo s
  | .divw3 divr divd quo => Sys2Proof.Machine.execDivw3 divr divd quo s
  | .bisw2 mask dst => Sys2Proof.Machine.execBisw2 mask dst s
  | .bisw3 mask src dst => Sys2Proof.Machine.execBisw3 mask src dst s
  | .bicw2 mask dst => Sys2Proof.Machine.execBicw2 mask dst s
  | .bicw3 mask src dst => Sys2Proof.Machine.execBicw3 mask src dst s
  | .xorw2 mask dst => Sys2Proof.Machine.execXorw2 mask dst s
  | .xorw3 mask src dst => Sys2Proof.Machine.execXorw3 mask src dst s
  | .mnegw src dst => Sys2Proof.Machine.execMnegw src dst s
  | .casew selector base limit => Sys2Proof.Machine.execCasew selector base limit s
  | .movw src dst => Sys2Proof.Machine.execMovw src dst s
  | .cmpw src1 src2 => Sys2Proof.Machine.execCmpw src1 src2 s
  | .mcomw src dst => Sys2Proof.Machine.execMcomw src dst s
  | .bitw mask src => Sys2Proof.Machine.execBitw mask src s
  | .clrw dst => Sys2Proof.Machine.execClrw dst s
  | .tstw src => Sys2Proof.Machine.execTstw src s
  | .incw sum => Sys2Proof.Machine.execIncw sum s
  | .decw dif => Sys2Proof.Machine.execDecw dif s
  | .bispsw mask => Sys2Proof.Machine.execBispsw mask s
  | .bicpsw mask => Sys2Proof.Machine.execBicpsw mask s
  | .popr mask => Sys2Proof.Machine.execPopr mask s
  | .pushr mask => Sys2Proof.Machine.execPushr mask s
  | .chmk code => Sys2Proof.Machine.execChmk code s
  | .chme code => Sys2Proof.Machine.execChme code s
  | .chms code => Sys2Proof.Machine.execChms code s
  | .chmu code => Sys2Proof.Machine.execChmu code s
  | .addl2 add sum => Sys2Proof.Machine.execAddl2 add sum s
  | .addl3 add1 add2 sum => Sys2Proof.Machine.execAddl3 add1 add2 sum s
  | .subl2 sub dif => Sys2Proof.Machine.execSubl2 sub dif s
  | .subl3 sub min dif => Sys2Proof.Machine.execSubl3 sub min dif s
  | .mull2 mulr prod => Sys2Proof.Machine.execMull2 mulr prod s
  | .mull3 mulr muld prod => Sys2Proof.Machine.execMull3 mulr muld prod s
  | .divl2 divr quo => Sys2Proof.Machine.execDivl2 divr quo s
  | .divl3 divr divd quo => Sys2Proof.Machine.execDivl3 divr divd quo s
  | .bisl2 mask dst => Sys2Proof.Machine.execBisl2 mask dst s
  | .bisl3 mask src dst => Sys2Proof.Machine.execBisl3 mask src dst s
  | .bicl2 mask dst => Sys2Proof.Machine.execBicl2 mask dst s
  | .bicl3 mask src dst => Sys2Proof.Machine.execBicl3 mask src dst s
  | .xorl2 mask dst => Sys2Proof.Machine.execXorl2 mask dst s
  | .xorl3 mask src dst => Sys2Proof.Machine.execXorl3 mask src dst s
  | .mnegl src dst => Sys2Proof.Machine.execMnegl src dst s
  | .casel selector base limit => Sys2Proof.Machine.execCasel selector base limit s
  | .movl src dst => Sys2Proof.Machine.execMovl src dst s
  | .cmpl src1 src2 => Sys2Proof.Machine.execCmpl src1 src2 s
  | .mcoml src dst => Sys2Proof.Machine.execMcoml src dst s
  | .bitl mask src => Sys2Proof.Machine.execBitl mask src s
  | .clrf dst => Sys2Proof.Machine.execClrf dst s
  | .clrl dst => Sys2Proof.Machine.execClrl dst s
  | .tstl src => Sys2Proof.Machine.execTstl src s
  | .incl sum => Sys2Proof.Machine.execIncl sum s
  | .decl dif => Sys2Proof.Machine.execDecl dif s
  | .adwc add sum => Sys2Proof.Machine.execAdwc add sum s
  | .sbwc sub dif => Sys2Proof.Machine.execSbwc sub dif s
  | .mtpr src procreg => Sys2Proof.Machine.execMtpr src procreg s
  | .mfpr procreg dst => Sys2Proof.Machine.execMfpr procreg dst s
  | .movpsl dst => Sys2Proof.Machine.execMovpsl dst s
  | .pushl src => Sys2Proof.Machine.execPushl src s
  | .movaf src dst => Sys2Proof.Machine.execMovaf src dst s
  | .moval src dst => Sys2Proof.Machine.execMoval src dst s
  | .pushaf src => Sys2Proof.Machine.execPushaf src s
  | .pushal src => Sys2Proof.Machine.execPushal src s
  | .bbs pos base displ => Sys2Proof.Machine.execBbs pos base displ s
  | .bbc pos base displ => Sys2Proof.Machine.execBbc pos base displ s
  | .bbss pos base displ => Sys2Proof.Machine.execBbss pos base displ s
  | .bbcs pos base displ => Sys2Proof.Machine.execBbcs pos base displ s
  | .bbsc pos base displ => Sys2Proof.Machine.execBbsc pos base displ s
  | .bbcc pos base displ => Sys2Proof.Machine.execBbcc pos base displ s
  | .bbssi pos base displ => Sys2Proof.Machine.execBbssi pos base displ s
  | .bbcci pos base displ => Sys2Proof.Machine.execBbcci pos base displ s
  | .blbs src displ => Sys2Proof.Machine.execBlbs src displ s
  | .blbc src displ => Sys2Proof.Machine.execBlbc src displ s
  | .ffs startpos size base findpos => Sys2Proof.Machine.execFfs startpos size base findpos s
  | .ffc startpos size base findpos => Sys2Proof.Machine.execFfc startpos size base findpos s
  | .cmpv pos size base src => Sys2Proof.Machine.execCmpv pos size base src s
  | .cmpzv pos size base src => Sys2Proof.Machine.execCmpzv pos size base src s
  | .extv pos size base dst => Sys2Proof.Machine.execExtv pos size base dst s
  | .extzv pos size base dst => Sys2Proof.Machine.execExtzv pos size base dst s
  | .insv src pos size base => Sys2Proof.Machine.execInsv src pos size base s
  | .acbl limit add idx displ => Sys2Proof.Machine.execAcbl limit add idx displ s
  | .aoblss limit idx displ => Sys2Proof.Machine.execAoblss limit idx displ s
  | .aobleq limit idx displ => Sys2Proof.Machine.execAobleq limit idx displ s
  | .sobgeq idx displ => Sys2Proof.Machine.execSobgeq idx displ s
  | .sobgtr idx displ => Sys2Proof.Machine.execSobgtr idx displ s
  | .cvtlb src dst => Sys2Proof.Machine.execCvtlb src dst s
  | .cvtlw src dst => Sys2Proof.Machine.execCvtlw src dst s
  | .ashp cnt srclen srcaddr round dstlen dstaddr => Sys2Proof.Machine.execAshp cnt srclen srcaddr round dstlen dstaddr s
  | .cvtlp src dstlen dstaddr => Sys2Proof.Machine.execCvtlp src dstlen dstaddr s
  | .callg arglist dst => Sys2Proof.Machine.execCallg arglist dst s
  | .calls numarg dst => Sys2Proof.Machine.execCalls numarg dst s
  | .xfc => Sys2Proof.Machine.execXfc s
  | .cvtdh src dst => Sys2Proof.Machine.execCvtdh src dst s
  | .cvtgf src dst => Sys2Proof.Machine.execCvtgf src dst s
  | .addg2 add sum => Sys2Proof.Machine.execAddg2 add sum s
  | .addg3 add1 add2 sum => Sys2Proof.Machine.execAddg3 add1 add2 sum s
  | .subg2 sub dif => Sys2Proof.Machine.execSubg2 sub dif s
  | .subg3 sub min dif => Sys2Proof.Machine.execSubg3 sub min dif s
  | .mulg2 mulr prod => Sys2Proof.Machine.execMulg2 mulr prod s
  | .mulg3 mulr muld prod => Sys2Proof.Machine.execMulg3 mulr muld prod s
  | .divg2 divr quo => Sys2Proof.Machine.execDivg2 divr quo s
  | .divg3 divr divd quo => Sys2Proof.Machine.execDivg3 divr divd quo s
  | .cvtgb src dst => Sys2Proof.Machine.execCvtgb src dst s
  | .cvtgw src dst => Sys2Proof.Machine.execCvtgw src dst s
  | .cvtgl src dst => Sys2Proof.Machine.execCvtgl src dst s
  | .cvtrgl src dst => Sys2Proof.Machine.execCvtrgl src dst s
  | .cvtbg src dst => Sys2Proof.Machine.execCvtbg src dst s
  | .cvtwg src dst => Sys2Proof.Machine.execCvtwg src dst s
  | .cvtlg src dst => Sys2Proof.Machine.execCvtlg src dst s
  | .acbg limit add idx displ => Sys2Proof.Machine.execAcbg limit add idx displ s
  | .movg src dst => Sys2Proof.Machine.execMovg src dst s
  | .cmpg src1 src2 => Sys2Proof.Machine.execCmpg src1 src2 s
  | .mnegg src dst => Sys2Proof.Machine.execMnegg src dst s
  | .tstg src => Sys2Proof.Machine.execTstg src s
  | .emodg mulr mulrx muld intg fract => Sys2Proof.Machine.execEmodg mulr mulrx muld intg fract s
  | .polyg arg degree tbladdr => Sys2Proof.Machine.execPolyg arg degree tbladdr s
  | .cvtgh src dst => Sys2Proof.Machine.execCvtgh src dst s
  | .addh2 add sum => Sys2Proof.Machine.execAddh2 add sum s
  | .addh3 add1 add2 sum => Sys2Proof.Machine.execAddh3 add1 add2 sum s
  | .subh2 sub dif => Sys2Proof.Machine.execSubh2 sub dif s
  | .subh3 sub min dif => Sys2Proof.Machine.execSubh3 sub min dif s
  | .mulh2 mulr prod => Sys2Proof.Machine.execMulh2 mulr prod s
  | .mulh3 mulr muld prod => Sys2Proof.Machine.execMulh3 mulr muld prod s
  | .divh2 divr quo => Sys2Proof.Machine.execDivh2 divr quo s
  | .divh3 divr divd quo => Sys2Proof.Machine.execDivh3 divr divd quo s
  | .cvthb src dst => Sys2Proof.Machine.execCvthb src dst s
  | .cvthw src dst => Sys2Proof.Machine.execCvthw src dst s
  | .cvthl src dst => Sys2Proof.Machine.execCvthl src dst s
  | .cvtrhl src dst => Sys2Proof.Machine.execCvtrhl src dst s
  | .cvtbh src dst => Sys2Proof.Machine.execCvtbh src dst s
  | .cvtwh src dst => Sys2Proof.Machine.execCvtwh src dst s
  | .cvtlh src dst => Sys2Proof.Machine.execCvtlh src dst s
  | .acbh limit add idx displ => Sys2Proof.Machine.execAcbh limit add idx displ s
  | .movh src dst => Sys2Proof.Machine.execMovh src dst s
  | .cmph src1 src2 => Sys2Proof.Machine.execCmph src1 src2 s
  | .mnegh src dst => Sys2Proof.Machine.execMnegh src dst s
  | .tsth src => Sys2Proof.Machine.execTsth src s
  | .emodh mulr mulrx muld intg fract => Sys2Proof.Machine.execEmodh mulr mulrx muld intg fract s
  | .polyh arg degree tbladdr => Sys2Proof.Machine.execPolyh arg degree tbladdr s
  | .cvthg src dst => Sys2Proof.Machine.execCvthg src dst s
  | .clrh dst => Sys2Proof.Machine.execClrh dst s
  | .clro dst => Sys2Proof.Machine.execClro dst s
  | .movo src dst => Sys2Proof.Machine.execMovo src dst s
  | .movah src dst => Sys2Proof.Machine.execMovah src dst s
  | .movao src dst => Sys2Proof.Machine.execMovao src dst s
  | .pushah src => Sys2Proof.Machine.execPushah src s
  | .pushao src => Sys2Proof.Machine.execPushao src s
  | .cvtfh src dst => Sys2Proof.Machine.execCvtfh src dst s
  | .cvtfg src dst => Sys2Proof.Machine.execCvtfg src dst s
  | .cvthf src dst => Sys2Proof.Machine.execCvthf src dst s
  | .cvthd src dst => Sys2Proof.Machine.execCvthd src dst s

end Sys2Proof.Machine
end

