-- ==== Sys2Proof/Machine/Interrupts.lean ====
section
/-! DEFINITION. Interrupt requests and taking the highest one (60_exceptions.md R1060 to R1066). -/
namespace Sys2Proof.Machine

/-- Where a request comes from. -/
inductive Source where
  | powerFail | memWrite | sbiFault | sbiAlert | corrected | siloCompare | timer
  | storageRx | storageTx | consoleRx | consoleTx
  | software
  | nexus
  | unibus (level vector : Nat)
  | mba (k : Nat)
  deriving DecidableEq, Repr

/-- A pending request: its level and the offset of its vector. -/
structure Request where
  level : Nat
  offset : Nat
  source : Source
  deriving DecidableEq, Repr

/-- A request that is there when `b` holds. -/
def Request.when (b : Bool) (level offset : Nat) (source : Source) : List Request :=
  if b then [⟨level, offset, source⟩] else []

/-- Software requests, R1061. -/
def softwareRequests (s : State) : List Request :=
  (List.range 15).flatMap fun k => Request.when (s.sisr.getLsbD (k + 1)) (k + 1) (0x84 + 4 * k) .software

/-- The corrected data request, R1064: it follows CSR0<29> on the V750 (61_platform_750.md R1161, R1162) and the error logs
of the memory controllers on the V780 (62_platform_780.md R1408, R1409), where read data substitute makes it too. -/
def State.corrected (s : State) : Bool :=
  if s.is750 then s.v750.csr0.getLsbD 29 && !s.v750.csr1.getLsbD 28
  else s.v780.rds || s.v780.mems.any fun c => c.regC.getLsbD 28 && !c.regC.getLsbD 30 && !c.eccBypass

/-- Requests both processors have, R1064. -/
def commonRequests (s : State) : List Request :=
  Request.when s.pend.powerFail 0x1E 0x0C .powerFail
    ++ Request.when s.pend.memWrite 0x1D 0x60 .memWrite
    ++ Request.when s.corrected 0x1A 0x54 .corrected
    ++ Request.when (s.clock.int && s.clock.ie) 0x18 0xC0 .timer
    ++ Request.when (s.term.rx.ready && s.term.rx.ie) 0x14 0xF8 .consoleRx
    ++ Request.when (s.term.tx.ready && s.term.tx.ie) 0x14 0xFC .consoleTx

/-- Requests of the V750: console storage, UNIBUS devices (vector plus 200 hex, R1063), MASSBUS adapters (61_platform_750.md R1230). -/
def requests750 (s : State) : List Request :=
  Request.when (s.v750.storeRx.ready && s.v750.storeRx.ie) 0x17 0xF0 .storageRx
    ++ Request.when (s.v750.storeTx.ready && s.v750.storeTx.ie) 0x17 0xF4 .storageTx
    ++ s.v750.ubReqs.map (fun r => ⟨r.1, 0x200 + r.2, .unibus r.1 r.2⟩)
    ++ (List.range s.mbas.length).flatMap fun k =>
        Request.when (s.mba? k).requesting s.cfg.mba750Ipl (s.cfg.mba750Vector.getD k 0) (.mba k)

/-- SBI request line `k` (4 to 7) of V780 UNIBUS adapter `n`, 63_platform_780_uba.md R1550, R1553. -/
def State.ubaLine (s : State) (n k : Nat) : Bool :=
  let a := s.uba? n
  (a.adapterIntr && s.cfg.ubaReqOf n == k)
    || (a.cr.getLsbD 6 && a.cr.getLsbD 5 && !a.dcr.getLsbD 2 && a.reqs.any fun r => r.1 == k)

/-- Requests of one NEXUS, R1063, 62_platform_780.md R1354. -/
def nexusRequests (s : State) (tr : Nat) : Nexus → List Request
  | .dr780 | .ma780 => [4, 5, 6, 7].flatMap fun k =>
      Request.when (s.v780.nexusReqs.contains (tr, k)) (0x10 + k) (0x100 + 0x40 * (k - 4) + 4 * tr) .nexus
  | .uba n => [4, 5, 6, 7].flatMap fun k =>
      Request.when (s.ubaLine n k) (0x10 + k) (0x100 + 0x40 * (k - 4) + 4 * tr) .nexus
  | .mba n => Request.when (s.mba? n).requesting (0x10 + s.cfg.mbaReq) (0x100 + 0x40 * (s.cfg.mbaReq - 4) + 4 * tr) .nexus
  | .memory _ => []

/-- Requests of the V780: SBI fault, alert and silo compare, and the NEXUSes. -/
def requests780 (s : State) : List Request :=
  Request.when s.pend.sbiFault 0x1C 0x5C .sbiFault
    ++ Request.when (s.v780.mems.any fun c => c.pwrUp || c.pwrDown) 0x1B 0x58 .sbiAlert
    ++ Request.when s.pend.siloCompare 0x19 0x50 .siloCompare
    ++ s.cfg.nexusMap.flatMap fun e => nexusRequests s e.1 e.2

/-- All pending requests, R1065. -/
def requests (s : State) : List Request :=
  softwareRequests s ++ commonRequests s ++ (match s.cfg.cpu with | .v750 => requests750 s | .v780 => requests780 s)

/-- The highest level requested. -/
def highestLevel (l : List Request) : Nat := l.foldl (fun m r => max m r.level) 0

/-- The request is served: a latched one is cleared, a level-sensitive one stays until its condition goes (R1061, R1063, R1064).
Those for an SBI fault, a silo compare and read data substitute are latches, since no register of the processor ends them
(11_processor_registers.md R247; DESIGN CHOICE, notes/assumptions/32.md). -/
def acknowledge (r : Request) : M Unit :=
  match r.source with
  | .software => modify fun s => { s with sisr := s.sisr &&& ~~~ (1#16 <<< r.level) }
  | .powerFail => modPend fun p => { p with powerFail := false }
  | .memWrite => modPend fun p => { p with memWrite := false }
  | .unibus l v => do
    modV750 fun x => { x with ubReqs := x.ubReqs.erase (l, v) }
    send (.unibusGrant 0 (l - 0x10) (BitVec.ofNat 16 v))
  | .mba k => modMba k fun m => { m with req := false }
  | .sbiFault => modPend fun p => { p with sbiFault := false }
  | .siloCompare => modPend fun p => { p with siloCompare := false }
  | .corrected => modV780 fun v => { v with rds := false }
  | _ => pure ()

/-- The requests that would be served now: those of the highest level, if it is above the IPL. -/
def deliverable (s : State) : List Request :=
  let l := requests s
  let top := highestLevel l
  if s.ipl < top then l.filter fun r => r.level == top else []

/-- Take an interrupt, any one of the candidates (92_eei_decisions.md D47); one whose initiation fails stays pending. -/
def takeInterrupt (cands : List Request) : M Unit := do
  match ← pick cands with
  | none => pure ()
  | some r => if ← enterInterrupt r.offset r.level then acknowledge r

end Sys2Proof.Machine
end

