-- ==== Sys2Proof/Machine/Console.lean ====
section
/-! DEFINITION. Console commands of both processors (61_platform_750.md R1120 to R1143, 62_platform_780.md R1300 to R1322). -/
namespace Sys2Proof.Machine

def conError (code : Nat) : M Unit := send (.consoleError code)

def modCon (f : ConDefaults → ConDefaults) : M Unit := modify fun s => { s with con := f s.con }

/-- The error number of an access that ended with `e`, R1136, R1322. -/
def conErrorCode (v750 : Bool) (space : ConSpace) (e : Exc) : Nat :=
  if v750 then (match space with | .internal => 0x11 | _ => 0x20)
  else match space with
    | .internal => 0x100
    | _ =>
      if e.offset = 0x20 then 0x208 + field (e.params.getD 1 0) 0 3
      else if e.offset = 0x24 then 0x200 + field (e.params.getD 1 0) 0 3
      else 0x300

/-- After ?MIC-ERR the V780 console shows the SBI registers, R1322. -/
def showSbi : M Unit :=
  [0x30, 0x31, 0x32, 0x33, 0x34, 0x35].forM fun n => do send (.examined 2 n (← readReg780 n))

/-- Run an access: did it succeed? An exception is reported and leaves the processor as it was; what was written or logged
before it stays, R1136, R1322, R1161. -/
def conTry (space : ConSpace) (x : M Unit) : M Bool := do
  let s ← get
  match ← attempt x with
  | .ok _ => return true
  | .error (.exc e) => do
    modify fun t =>
      { t with
        pend := s.pend
        v750 := { t.v750 with mcesr := s.v750.mcesr, mcsr := s.v750.mcsr }
        v780 := { t.v780 with rds := s.v780.rds } }
    conError (conErrorCode s.is750 space e)
    if conErrorCode s.is750 space e = 0x300 then showSbi
    return false
  | .error e => throw e

/-- A write of the console: one that fails is an error of the command, not a write error of the processor. -/
def conWrite (x : M Unit) : M Unit := do
  let p := (← get).pend
  modPend fun q => { q with memWrite := false }
  x
  if (← get).pend.memWrite then machineCheck
  modPend fun q => { q with memWrite := p.memWrite, doubleWrite := p.doubleWrite }

/-- ProcPTE without any protection check, as the V750 console does it (92_eei_decisions.md D3). -/
def conProcPte (va base : Long) (tooLong write : Bool) : M Walk := do
  if tooLong then raise (accessViolation va write false true)
  let pteVa := base + BitVec.ofNat 32 (4 * vpn va)
  if field pteVa 30 2 ≠ 2 then raise (accessViolation va write true true)
  let (spte, spa) ← sysPte pteVa write true va
  if ¬ pteValid spte then raise (notValid va write true)
  let pa := pageAddress (← get).cfg spte pteVa
  return ⟨← readPte pa, pa, some spa⟩

/-- The walk of the V750 console. -/
def conWalk (va : Long) (write : Bool) : M Walk := do
  let mm := (← get).mm
  match field va 30 2 with
  | 0 => conProcPte va mm.p0br (decide (mm.p0lr.toNat ≤ vpn va)) write
  | 1 => conProcPte va mm.p1br (decide (vpn va < mm.p1lr.toNat)) write
  | _ => walk va write

/-- The physical address of a console reference: through the map for /V (on the V750 without a protection check, D3; on
the V780 as kernel mode, 92_eei_decisions.md D50). -/
def conAddress (space : ConSpace) (a : Nat) (write : Bool) : M Nat := do
  let s ← get
  match space with
  | .virtual =>
    let va := BitVec.ofNat 32 a
    if s.is750 then
      if ¬ s.mm.mapen then return a % 2 ^ s.cfg.paw
      let w ← conWalk va write
      if ¬ pteValid w.pte then raise (notValid va write false)
      let t : Tran := ⟨pageAddress s.cfg w.pte va, some w⟩
      if write then commit t
      return t.pa
    else translate va write 0
  | _ => return a % 2 ^ s.cfg.paw

/-- Where the `n` bytes of a reference lie: byte by byte when it reaches into a second page. -/
def conPlaces (space : ConSpace) (a n : Nat) (write : Bool) : M (List (Nat × Nat)) := do
  if a % 512 + n ≤ 512 then return [(← conAddress space a write, n)]
  else (List.range n).mapM fun k => do return (← conAddress space (a + k) write, 1)

/-- Read the places of a reference, the first lowest. -/
def conGet : List (Nat × Nat) → M Long
  | [] => pure 0
  | (pa, n) :: rest => do
    let x ← physRead .data pa n
    return x.setWidth 32 ||| (← conGet rest) <<< (8 * n)

/-- Write them. -/
def conPut : List (Nat × Nat) → Quad → M Unit
  | [], _ => pure ()
  | (pa, n) :: rest, v => do
    conWrite (physWrite .data pa n (v.setWidth 128))
    conPut rest (v >>> (8 * n))

/-- The parts of a reference: a quadword is two longwords, low first. -/
def conParts (size : Nat) : List Nat := if size = 8 then [0, 4] else [0]

/-- What an EXAMINE shows; its data can serve as an address (`@`). Numbers of the spaces: P 0, G 1, I 2, PSL 3, ID 4, VR 5, IR 6. -/
def conShow (space a : Nat) (v : Long) : M Unit := do
  modCon fun c => { c with data := v }
  send (.examined space a v)

/-- A reference to memory: all of it is translated before any of it is made. -/
def conMemory (write : Option Quad) (space : ConSpace) (a size : Nat) : M Unit := do
  let parts ← (conParts size).mapM fun k => do
    return (k, ← conPlaces space ((a + k) % 2 ^ 32) (min size 4) write.isSome)
  parts.forM fun (k, places) =>
    match write with
    | some v => conPut places (v >>> (8 * k))
    | none => do conShow 0 ((places.headD (0, 0)).1) (← conGet places)

/-- A general register: R14 is the current SP, R15 the PC. -/
def conGeneral (write : Option Quad) (n : Nat) : M Unit := do
  if 15 < n then conError (if (← get).is750 then 0x10 else 0x500)
  else
    let r : Reg := ⟨n % 16, Nat.mod_lt _ (by decide)⟩
    match write with
    | some v => setR r (v.setWidth 32)
    | none => conShow 1 n (← getR r)

/-- A processor register, as MTPR or MFPR would reach it in kernel mode. -/
def conInternal (write : Option Quad) (n : Nat) : M Unit := do
  match write with
  | some v => if n = 0x36 then conWrite (writeReg n (v.setWidth 32)) else writeReg n (v.setWidth 32)
  | none => conShow 2 n (← readReg n)

/-- The PSL, unchecked; the live SP follows the stack it selects. -/
def conPsl (write : Option Quad) : M Unit := do
  match write with
  | some v => do
    modify fun s => State.loadSp { s.saveSp with psl := v.setWidth 32 }
    modCon fun c => { c with data := v.setWidth 32 }
  | none => conShow 3 0 (← get).psl

/-! ### The ID bus and the V bus of the V780, 11_processor_registers.md R250, 62_platform_780.md R1420 -/

/-- ID addresses of microcode working state: free when examined, refused when deposited. -/
def idWorking : List Nat :=
  [0x00, 0x02, 0x08, 0x0D, 0x10, 0x11, 0x12, 0x13, 0x14, 0x15, 0x16, 0x1E, 0x20, 0x2D, 0x2E, 0x2F,
   0x30, 0x31, 0x32, 0x33, 0x34, 0x35, 0x36, 0x37, 0x38, 0x39]

/-- ID addresses of processor registers that read and write as MFPR and MTPR do, with their numbers. -/
def idRegisters : List (Nat × Nat) :=
  [(0x01, 0x1B), (0x03, 0x3E), (0x04, 0x20), (0x06, 0x22), (0x0A, 0x18), (0x0E, 0x15), (0x17, 0x28), (0x18, 0x31),
   (0x19, 0x34), (0x1A, 0x35), (0x1B, 0x30), (0x1C, 0x32), (0x1D, 0x33), (0x21, 0x3C), (0x22, 0x2C), (0x23, 0x2D),
   (0x26, 0x0C), (0x3A, 0x10), (0x3B, 0x11), (0x3C, 0x09), (0x3D, 0x0B), (0x3E, 0x0D)]

/-- Examine of ID address `n`; an address R250 reserves, or one above 3F, is ?MIC-ERR (DESIGN CHOICE, notes/assumptions/41.md).
Registers MFPR does not reach, or reaches with an effect, are read as they stand; TXDB,
which cannot be read, is free. -/
def readId (n : Nat) : M Long := do
  let s ← get
  match n with
  | 0x05 => return s.term.rxdb
  | 0x07 => drawBits 32
  | 0x09 => return s.clock.nicr
  | 0x0B => return s.clock.icr
  | 0x0C => return bitL s.pme <<< 3 ||| s.astlvl.setWidth 32
  | 0x0F => return s.psl
  | 0x24 => return s.mm.p0br
  | 0x25 => return s.mm.p1br
  | 0x28 => return s.sp.ksp
  | 0x29 => return s.sp.esp
  | 0x2A => return s.sp.ssp
  | 0x2B => return s.sp.usp
  | 0x2C => return s.sp.isp
  | _ =>
    if n ∈ idWorking then drawBits 32
    else match idRegisters.lookup n with
      | some r => readReg r
      | none => raise reservedOperand

/-- Deposit to ID address `n`: straight to the register. One that cannot be written meets the reserved operand of MTPR
(DESIGN CHOICE, notes/assumptions/41.md). -/
def writeId (n : Nat) (v : Long) : M Unit := do
  match n with
  | 0x05 => modTerm fun t => { t with rxdb := v }
  | 0x07 => writeTxdb v
  | 0x09 => modClock fun c => { c with nicr := v }
  | 0x0B => modClock fun c => { c with icr := v }
  | 0x0C => modify fun s => { s with astlvl := v.setWidth 3, pme := v.getLsbD 3 }
  | 0x0F => conPsl (some (v.setWidth 64))
  | 0x1A => modV780 fun x => { x with sbita := v }
  | 0x24 => modify fun s => { s with mm := { s.mm with p0br := v } }
  | 0x25 => modify fun s => { s with mm := { s.mm with p1br := v } }
  | 0x28 => modify fun s => { s with sp := { s.sp with ksp := v } }
  | 0x29 => modify fun s => { s with sp := { s.sp with esp := v } }
  | 0x2A => modify fun s => { s with sp := { s.sp with ssp := v } }
  | 0x2B => modify fun s => { s with sp := { s.sp with usp := v } }
  | 0x2C => modify fun s => { s with sp := { s.sp with isp := v } }
  | _ =>
    if n ∈ idWorking then refuse .hostEvent
    else match idRegisters.lookup n with
      | some r => writeReg r v
      | none => raise reservedOperand

/-- The ID bus. -/
def conId (write : Option Quad) (n : Nat) : M Unit := do
  match write with
  | some v => writeId n (v.setWidth 32)
  | none => conShow 4 n (← readId n)

/-- The V bus: free data, R1310. -/
def conVbus (write : Option Quad) (n : Nat) : M Unit := do
  match write with
  | some _ => refuse .hostEvent
  | none => conShow 5 n (← drawBits 32)

/-- EXAMINE and DEPOSIT, R1129, R1310. On the V750 the space and size of a reference become the defaults, and an address
relative to the last one is free once the space has changed; on the V780 SET DEFAULT alone sets the defaults, and the
relocation register is added to addresses of memory (R1308). DESIGN CHOICE (notes/assumptions/46.md): a reference that failed counts
all the same, for the defaults of the V750 (R1129) and as the last one for `*`, `+`, `-` and `@` (R1306); `@` after a quadword is the
longword shown last, or the low one of a DEPOSIT; a length switch has no effect in a register space (R1310); the address before
register 0 is 0 again (R1306 goes back one register and names none before it). -/
def conAccess (write : Option Quad) (space : Option ConSpace) (size : Option Nat) (addr : ConAddr) : M Unit := do
  let s ← get
  let c := s.con
  let sp := space.getD c.space
  let sz := match sp with
    | .physical | .virtual => size.getD c.size
    | _ => 4
  if s.is750 ∧ (addr = .prev ∨ addr = .data) then refuse .hostEvent
  match addr with
  | .psl => do
    conPsl write
    if s.is750 then modCon fun c => { c with noNext := true }
  | addr => do
    let moved := s.is750 && decide (sp ≠ c.space)
    let free ← drawBits 32
    let a := match addr with
      | .at a => a
      | .data => c.data.toNat
      | .last => if moved then free.toNat else c.last
      | .prev => if moved then free.toNat else c.prev
      | _ => if moved then free.toNat else c.next
    if addr = .next ∧ c.noNext then conError 0x19
    else
      discard <| conTry sp (match sp with
        | .physical | .virtual =>
          conMemory write sp (if s.is750 then a else (a + s.v780.program.relocation.toNat) % 2 ^ 32) sz
        | .general => conGeneral write a
        | .internal => conInternal write a
        | .idBus => if s.is750 then refuse .hostEvent else conId write a
        | .vBus => if s.is750 then refuse .hostEvent else conVbus write a)
      modCon fun c =>
        { c with
          space := if s.is750 then sp else c.space
          size := match s.is750, sp with
            | true, .physical => sz
            | true, .virtual => sz
            | _, _ => c.size
          data := match write with
            | some v => v.setWidth 32
            | none => c.data
          last := a
          next := match sp with
            | .physical | .virtual => (a + sz) % 2 ^ 32
            | _ => a + 1
          prev := match sp with
            | .physical | .virtual => (a + 2 ^ 32 - sz) % 2 ^ 32
            | _ => a - 1
          noNext := s.is750 && sp == .internal }

/-- Bytes to ascending physical addresses, up to the first that fails; not relocated. -/
def conStore (a : Nat) : List Byte → M Bool
  | [] => pure true
  | b :: rest => do
    if ← conTry .physical (conMemory (some (b.setWidth 64)) .physical a 1) then conStore (a + 1) rest
    else return false

/-- LOAD of the image of Boot780, R1603: each of its bytes is written by PhysWrite, whatever answers there. One that fails is
reported as any reference of the console, and the next ones and START follow (DESIGN CHOICE, notes/assumptions/47.md). -/
def loadImage (a : Nat) : List Byte → M Unit
  | [] => pure ()
  | b :: rest => do
    discard <| conStore a [b]
    loadImage (a + 1) rest

/-- Boot780, 70_reset_and_hazards.md R1603. -/
def boot780 (b : Boot780) : M Unit := do
  processorInit
  b.regs.forM fun (n, v) => setR n v
  loadImage b.loadPa b.image
  runFrom b.startPa

/-- `n` bytes from ascending physical addresses. -/
def conFetch (a : Nat) : Nat → M (List Byte)
  | 0 => pure []
  | n + 1 => do
    let x ← conGet (← conPlaces .physical a 1 false)
    return x.setWidth 8 :: (← conFetch (a + 1) n)

/-- The sum of bytes modulo 256. -/
def byteSum (l : List Byte) : Byte := l.foldl (· + ·) 0

/-- BINARY LOAD and UNLOAD, R1135. The checksum byte after the data makes their sum zero, as that of the command does
(DEDUCED). What a LOAD has stored stays when its checksum turns out wrong, R1136. An UNLOAD that meets a byte it cannot read sends
the error and no data (DESIGN CHOICE, notes/assumptions/46.md). -/
def conBinary (line : List Byte) (check : Byte) (a : Nat) (count : Long) (data : List Byte) : M Unit := do
  let n := field count 0 31
  if byteSum line + check ≠ 0 then conError 0x30
  else if count.getLsbD 31 then
    discard <| conTry .physical do
      let bytes ← conFetch a n
      send (.unloaded a (bytes ++ [0 - byteSum bytes]))
  else if ← conStore a (data.take n) then
    if data.length ≠ n + 1 ∨ byteSum data ≠ 0 then conError 0x30

/-- UNJAM, 62_platform_780.md R1317, 63_platform_780_uba.md R1556 (5). A MASSBUS adapter takes every effect of INIT from it and keeps
MMM (64_platform_780_adapters.md R1443, R1444 name PD, PU and ABORT, 70_reset_and_hazards.md R1605 names it beside INIT; DESIGN
CHOICE, notes/assumptions/62.md). -/
def unjam : M Unit := do
  let s ← get
  (List.range s.v780.ubas.length).forM fun k => do
    ubaReleaseInterlock k
    modUba k fun a => { a with cr := a.cr &&& ~~~ 0x3C, lock := false }
    ubaPowerSequence k
  (List.range s.mbas.length).forM mbaInit

/-- SET DEFAULT of the V780. -/
def conSetDefault (space : Option ConSpace) (size : Option Nat) (octal : Option Bool) : M Unit :=
  modCon fun c => { c with space := space.getD c.space, size := size.getD c.size, octal := octal.getD c.octal }

/-- SET STEP and CLEAR STEP, R1315: a model steps by instructions alone. -/
def conSetStep : StepKind → M Unit
  | .none | .instruction => pure ()
  | .state | .bus => refuse .hostEvent

/-! ### The console program of the V780, 62_platform_780.md R1301, R1307, R1319 -/

def modProgram (f : ConProgram → ConProgram) : M Unit := modV780 fun v => { v with program := f v.program }

/-- The key of a command file: its number and its drive. -/
def fileKey (second : Bool) (file : Nat) : Nat := 2 * file + second.toNat

/-- A command file: its lines come before what is under way. One of drive 1 is found once that is enabled (DESIGN CHOICE,
notes/assumptions/65.md). -/
def ConProgram.begin (p : ConProgram) (lines : List ConCmd) : ConProgram :=
  { p with todo := lines.map (fun c => ⟨false, c⟩) ++ p.todo }

def conFile (lines : Option (List ConCmd)) : M Unit :=
  match lines with
  | some lines => modProgram fun p => p.begin lines
  | none => conError 0x600

/-- The commands that the console program of the V780 executes without the processor; every other command is none of them. -/
def conProgram (c : ConCmd) : M Unit := do
  let s ← get
  match c with
  | .setDefault sp n o => conSetDefault sp n o
  | .setStep k => conSetStep k
  | .relocation v => modProgram fun p => { p with relocation := v }
  | .terminalProgram => modV780 fun v => { v with command := false }
  | .terminalFill n => modProgram fun p => { p with fill := n }
  | .showState => send (.shown s.run s.con s.v780.program)
  | .showVersion => do
    let a ← drawBits 16
    let b ← drawBits 16
    send (.versions a b)
  | .help => send .help
  | .waitDone => pure ()
  | .link => modProgram fun p => { p with linking := true, linked := some [] }
  | .perform => conFile s.v780.program.linked
  | .indirect second file =>
    conFile (if second && !s.v780.program.dx1 then none else s.v780.files.lookup (fileKey second file))
  | .repeated c => modProgram fun p => { p with todo := ⟨true, c⟩ :: p.todo }
  | .enableDx1 => modProgram fun p => { p with dx1 := true }
  | .reboot => do
    modProgram fun _ => ConProgram.initial
    modCon fun _ => ConDefaults.initial
  | _ => refuse .hostEvent

/-- Those of them that can be given while the processor runs, R1301: SHOW, SET, CLEAR, WAIT DONE and HELP. -/
def whileRunning : ConCmd → Bool
  | .setDefault .. | .setStep _ | .relocation _ | .terminalProgram | .terminalFill _ | .showState | .showVersion | .help
  | .waitDone | .microMachine => true
  | _ => false

/-- Resume: not after an error halt, 60_exceptions.md R1095, even where a restart of it has been tried. -/
def conContinue : M Unit := do
  if (← get).pend.errorHalt then refuse .hostEvent
  runFrom (← getPC)

/-- The ROM whose device type is `t`: its first two bytes, R1139. -/
def romOfType (roms : List (Option (List Byte))) (t : Nat) : Option Nat :=
  roms.findIdx? fun rom => match rom with
    | some bytes => (bytes.getD 0 0).toNat + 256 * (bytes.getD 1 0).toNat == t
    | none => false

/-- BOOT on the V750, R1127. Without a device name the switch selects, whatever the switches of the command (DESIGN CHOICE,
notes/assumptions/46.md). -/
def conBoot (noVerify : Bool) (flags : Nat) (device : Option (Nat × Nat × Nat)) : M Unit := do
  let c := (← get).cfg
  let f := BitVec.ofNat 32 (flags % 0x10000)
  match device with
  | none => boot750 true (!noVerify) f 0 0 c.bootDevice
  | some (t, adapter, unit) =>
    match romOfType c.bootRoms t with
    | some rom => boot750 true (!noVerify) f unit adapter rom
    | none => conError 0x33

/-- TEST, R1134: a second mark when Micro Verify succeeds; the halt code 01 is recorded and not typed. -/
def conTest : M Unit := do
  if ← microVerify then
    send (.typed 0x25)
    let s ← get
    stopAt .testDone s.pc s.psl

/-- A command that acts on a halted processor. -/
def conHalted (c : ConCmd) : M Unit := do
  let s ← get
  match c with
  | .boot x f d => if s.is750 then conBoot x f d else refuse .hostEvent
  | .bootImage b => boot780 b
  | .continue => conContinue
  | .deposit sp n a v => conAccess (some v) sp n a
  | .examine sp n a => conAccess none sp n a
  | .initializeCpu => processorInit
  | .haltNop => pure ()
  | .examineIr => only780 do conShow 6 0 (← drawBits 32)
  | .next n => modify fun s =>
      { s with run := .running, events := insertEvent (if s.is750 then 1 else n) .stepDone s.events }
  | .start a => do
    let pc ← getPC
    processorInit
    runFrom (a.getD pc)
  | .test => if s.is750 then conTest else refuse .hostEvent
  | .load a bytes => only780 <| discard <| conStore a bytes
  | .binary l k a n data => if s.is750 then conBinary l k a n data else refuse .hostEvent
  | .unjam => only780 unjam
  | .qclear a => only780 <| discard <| conTry .physical do
      if (← get).hasRam (a / 8 * 8) then modify fun s => s.storeQuad a 0 else machineCheck
  | c => only780 (conProgram c)

/-- On the V750 examine and deposit keep the defaults, everything else resets them. -/
def keepsDefaults : ConCmd → Bool
  | .deposit .. | .examine .. => true
  | _ => false

/-- A command of the V780 console while the processor runs, R1301, R1302: every other one is turned away, UNJAM too, which R1326
counts among what the console may do while the processor runs and R1301 does not (DESIGN CHOICE, notes/assumptions/46.md). -/
def conRunning (c : ConCmd) : M Unit := do
  let s ← get
  match c with
  | .continue => modV780 fun v => { v with command := false }
  | .haltNop => if s.v780.command then modPend fun p => { p with consoleHalt := true } else pure ()
  | .examine sp n a => if sp.getD s.con.space = .vBus ∧ a ≠ .psl then conAccess none sp n a else conError 0x400
  | c => if whileRunning c then conProgram c else conError 0x400

/-- A command of the V780 console. -/
def conRun (c : ConCmd) : M Unit := do
  match (← get).run with
  | .halted _ => conHalted c
  | .running => conRunning c

/-- A console command is typed, R1126, R1301. The V750 console reads commands only while the processor is halted and the keylock is
not secure; the V780 console only in command mode, stores them while LINK does, and takes none while it executes a command file or
a REPEAT (DESIGN CHOICE, notes/assumptions/65.md). What is typed at other times goes to the program and is the event `received`. -/
def conCommand (c : ConCmd) : M Unit := do
  let s ← get
  let p := s.v780.program
  if s.is750 then
    if s.run = .running ∨ s.cfg.keySecure then pure ()
    else
      conHalted c
      if ¬ keepsDefaults c then modCon fun _ => ConDefaults.initial
  else if ¬ s.v780.command then pure ()
  else if p.linking then modProgram fun p => { p with linked := some (p.linked.getD [] ++ [c]) }
  else if p.todo ≠ [] ∨ p.waiting then pure ()
  else conRun c

/-- The console program goes on: with the next line of its command file, or once more with the command of a REPEAT. In a file WAIT
DONE suspends it, R1319. -/
def conGoOn : M Unit := do
  let p := (← get).v780.program
  match p.waiting, p.todo with
  | false, q :: rest => do
    modProgram fun p => { p with todo := if q.again then q :: rest else rest, waiting := q.cmd == .waitDone }
    conRun q.cmd
  | _, _ => pure ()

/-- Control-C: LINK, a REPEAT, and a WAIT DONE with its file end, R1307. What a REPEAT had begun ends with it (DESIGN CHOICE,
notes/assumptions/65.md). -/
def ConProgram.interrupted (p : ConProgram) : ConProgram :=
  { p with
    linking := false
    waiting := false
    todo := if p.waiting then [] else if p.todo.any (·.again) then (p.todo.dropWhile fun q => !q.again).drop 1 else p.todo }

/-- Control-C is typed; in program I/O mode it is a character for the program (R1301), the event `received`. -/
def controlC : M Unit := do if (← get).v780.command then modProgram ConProgram.interrupted

end Sys2Proof.Machine
end

