-- ==== Sys2Proof/Machine/Power.lean ====
section
/-! DEFINITION. What the console does by itself: after a halt, and when power returns (70_reset_and_hazards.md R1600 to R1604,
61_platform_750.md R1142, 62_platform_780.md R1320). -/
namespace Sys2Proof.Machine

/-- The automatic action after a halt: on the V750 by R1142, after an error or a HALT instruction; on the V780 after any halt
(62_platform_780.md R1320, 70_reset_and_hazards.md R1604). -/
def haltAction (why : HaltCause) : M Unit := do
  let s ← get
  if s.is750 then
    if errorCause why ∨ why = .haltInstruction then
      match s.cfg.powerOn with
      | .halt => pure ()
      | .boot => if why = .haltInstruction then bootSwitch false else pure ()
      | .restartHalt => restart750 (haltCode why)
      | .restartBoot => restart750 (haltCode why)
    else pure ()
  else match s.cfg.autoRestart with
    | some b => boot780 b
    | none => pure ()

/-- Power returns, R1600 to R1604; `held`: a battery backup, where there is one, has lasted (R1606). In the RESTART positions of
the V750's switch the halt message comes before the warm start, as in the example of 61_platform_750.md R1142. -/
def powerUp (held : Bool) : M Unit := do
  let s ← get
  let kept := s.cfg.batteryOk && held
  if s.is750 then powerUp750 kept else powerUp780 kept
  let mbas ← powerUpMbas s.is750 s.mbas.length
  modify fun s => { s with mbas := mbas, con := ConDefaults.initial, pend := Pending.none }
  freeProcessor
  processorInit
  if s.is750 then
    match s.cfg.powerOn with
    | .halt => if ← microVerify then haltHere .powerUp
    | .boot => bootSwitch true
    | _ =>
      if ← microVerify then
        send (.halted .powerUp (← getPC))
        restart750 3
  else match s.cfg.autoRestart with
    | some b => boot780 b
    | none => haltHere .powerUp

end Sys2Proof.Machine
end

