-- ==== Sys2Proof/Machine/Events.lean ====
section
/-! DEFINITION. What the environment does between two instructions: clocks, lines, devices, injected errors (00_scope.md R18). -/
namespace Sys2Proof.Machine

/-- Put an entry in a table by its key, or remove it. -/
def setKey {α : Type} (l : List (Nat × α)) (key : Nat) (v : Option α) : List (Nat × α) :=
  let rest := l.filter fun e => e.1 != key
  match v with
  | some x => (key, x) :: rest
  | none => rest

/-- The V780 console passes nothing on while it is in command mode, 62_platform_780.md R1301. -/
def State.lineOpen (s : State) : Bool := s.run == .running && (s.is750 || !s.v780.command)

/-- A character arrives, 11_processor_registers.md R184. -/
def receive (unit : BitVec 4) (c : Byte) (err : Bool) : M Unit := modify fun s =>
  if s.lineOpen then
    let t := s.term
    { s with
      term :=
        if t.rx.ready then { t with overrun := true }
        else
          { t with
            rxdb := bitL (err || t.overrun) <<< 15 ||| unit.setWidth 32 <<< 8 ||| c.setWidth 32
            overrun := false
            rx := { t.rx with ready := true } } }
  else s

/-- The transmitter is free again. -/
def transmitted : M Unit := modify fun s =>
  if s.is750 || !s.v780.command then { s with term := { s.term with tx := { s.term.tx with ready := true } } } else s

/-- Control-P, 61_platform_750.md R1126, 62_platform_780.md R1307. -/
def controlP : M Unit := do
  let s ← get
  if s.cfg.keySecure then pure ()
  else if s.is750 then
    match s.run with
    | .running => modPend fun p => { p with consoleHalt := true }
    | .halted why => do
      modCon fun _ => ConDefaults.initial
      send (.halted why s.pc)
  else modV780 fun v => { v with command := true }

/-- A device asserts BR `level`, 61_platform_750.md R1207, 63_platform_780_uba.md R1504. -/
def unibusRequest (k level : Nat) (vector : Word16) : M Unit := needUnibus k do
  if level < 4 ∨ 7 < level then refuse .hostEvent
  if (← get).is750 then
    if 0x200 ≤ vector.toNat ∨ vector.toNat % 4 ≠ 0 then refuse .hostEvent
    modV750 fun v => { v with ubReqs := v.ubReqs ++ [(0x10 + level, vector.toNat)] }
  else modUba k fun a => { a with reqs := a.reqs ++ [(level, vector)] }

/-- It drops the request. -/
def unibusDrop (k level : Nat) : M Unit := needUnibus k do
  if (← get).is750 then modV750 fun v => { v with ubReqs := v.ubReqs.filter fun r => r.1 != 0x10 + level }
  else modUba k fun a => { a with reqs := a.reqs.filter fun r => r.1 != level }

/-- The UNIBUS of a V780 adapter is up again, 63_platform_780_uba.md R1515, R1556: not while UPF is set. -/
def unibusReady (k : Nat) : M Unit := only780 <| needUnibus k <|
  modUba k fun a =>
    if a.initPending && !a.cr.getLsbD 1 then { a with ubic := true, ubInit := false, ubPdn := false, initPending := false } else a

/-! ### Errors of memory and of the SBI -/

/-- A corrected read error, 20_memory.md R268: logged unless that is inhibited; where it lies is free. -/
def correctedData (k : Nat) : M Unit := do
  let s ← get
  let info ← drawBits 32
  if s.is750 then
    if s.eccOff (info &&& 0x00FFFE00).toNat then pure () else modV750 fun v => v.corrected (info &&& 0x00FFFE7F)
  else modMemCtl k fun c => c.logged (s.logAddress (4 * (info >>> 8).toNat)) info

/-- A unit of memory gets an uncorrectable error: it recurs at every read until it is written whole (20_memory.md R268,
62_platform_780.md R1402, R1404). -/
def memoryError (pa : Nat) : M Unit := do
  let s ← get
  if s.hasRam pa then
    freeRam (pa / s.unit * s.unit) s.unit
    modify fun t => { t with badMem := Sparse.set t.badMem (pa / s.unit) 1 }

/-- SBI Dead, 63_platform_780_uba.md R1513, R1518, R1556 (2). -/
def sbiDead : M Unit := do
  let s ← get
  (List.range s.v780.ubas.length).forM fun k => do
    modUba k fun a => { a with cr := a.cr &&& ~~~ 0x6C, dcr := 0 }
    ubaPowerSequence k

/-- The negation of FAULT clears the fault bits of every NEXUS (64_platform_780_adapters.md R1443). Software does it through SBIFS,
whose bits are not known (11_processor_registers.md R240, R247): the environment says when (DESIGN CHOICE, notes/assumptions/39.md).
A request not yet taken goes with it. -/
def sbiFaultClear : M Unit := do
  modV780 fun v => { v with fault := false, faults := [] }
  modPend fun p => { p with sbiFault := false }

/-- Is there a DR780 or MA780 at `tr`? Only such a NEXUS requests by an event; every other one by its registers. -/
def State.requestingNexus (s : State) (tr : Nat) : Bool :=
  match s.cfg.nexusMap.lookup tr with
  | some .dr780 => true
  | some .ma780 => true
  | _ => false

/-- A DR780 or MA780 asserts or drops request line `level`, 4 to 7: held while its condition is there, 62_platform_780.md R1354. -/
def nexusRequest (tr level : Nat) (on : Bool) : M Unit := only780 do
  if (← get).requestingNexus tr ∧ 4 ≤ level ∧ level ≤ 7 then
    modV780 fun v =>
      let rest := v.nexusReqs.filter fun r => r != (tr, level)
      { v with nexusReqs := if on then (tr, level) :: rest else rest }
  else refuse .hostEvent

/-- The initialization of controller `k`'s array ends, 62_platform_780.md R1408. -/
def memoryReady (k : Nat) : M Unit := only780 <| modMemCtl k MemCtl.ready

/-- A change of power at a V780 memory controller, which asserts ALERT if it is strapped to inhibit ROM decode, R1407. -/
def memoryPower (k : Nat) (up : Bool) : M Unit := do
  if (← get).cfg.memStrapped then modMemCtl k fun c => { c with pwrUp := up, pwrDown := !up }

/-- AC power fails, 60_exceptions.md R1053; on the V780 every adapter notes it (70_reset_and_hazards.md R1607,
63_platform_780_uba.md R1512, 64_platform_780_adapters.md R1443). Which moment "Cleared by
power fail" means for the SBI fault bits (R1443) is not said: they stay at AC LO and go when the power returns (DESIGN CHOICE,
notes/assumptions/39.md). -/
def acLow : M Unit := do
  modPend fun p => { p with powerFail := true }
  if ¬ (← get).is750 then
    modify fun s => { s with mbas := s.mbas.map fun m => { m with pd := true, pu := false } }
    modV780 fun v => { v with ubas := v.ubas.map fun a => { a with adPdn := true, adPup := false } }
    (List.range (← get).v780.mems.length).forM fun k => memoryPower k false

/-- The RESET button of the V750: the power fails and, at some later time, comes back; disabled in the secure positions of
the keylock, 61_platform_750.md R1122 (d). -/
def resetButton : M Unit := only750 do
  if (← get).cfg.keySecure then pure ()
  else
    acLow
    let d ← draw
    modify fun s => { s with events := insertEvent d.toNat (.powerUp true) s.events }

/-- What each event does. A TU58 datum that comes before the last one is read replaces it (DESIGN CHOICE,
notes/assumptions/43.md); an event that names no memory has no effect. -/
def applyEvent (e : Event) : M Unit := do
  match e with
  | .microsecond => modClock fun c => if c.run then c.tick else c
  | .tenMilliseconds => modify fun s =>
      if s.hasTodr && !s.clock.todrHeld then { s with clock := { s.clock with todr := s.clock.todr + 1 } } else s
  | .received u c x => receive u c x
  | .transmitted => transmitted
  | .storageReceived c => only750 <| modV750 fun v => { v with csrd := c, storeRx := { v.storeRx with ready := true } }
  | .storageTransmitted => only750 <| modV750 fun v => { v with storeTx := { v.storeTx with ready := true } }
  | .controlP => controlP
  | .haltCommand => only780 <| conCommand .haltNop
  | .console c => conCommand c
  | .unibusRequest k l v => unibusRequest k l v
  | .unibusDrop k l => unibusDrop k l
  | .unibusDma k c ua d => orRetry e <| unibusDma k c ua d
  | .unibusPresent k ua r => needUnibus k <| modify fun s => { s with ubWords := setKey s.ubWords (ubKey k ua) r }
  | .unibusReady k => unibusReady k
  | .unibusPowerFail k => only780 <| needUnibus k <| ubaPowerSequence k
  | .drivePresent k d r v =>
    needMba k (modify fun s => { s with driveRegs := setKey s.driveRegs (k * 256 + d * 32 + r) v })
  | .driveCommand k d r c x =>
    needMba k (modify fun s => { s with driveCmds := setKey s.driveCmds ((k * 256 + d * 32 + r) * 65536 + c.toNat) x })
  | .massbusIn k data => needMba k <| unlessDetached k <| mbaIn k data
  | .massbusMemory k => needMba k <| mbaMemory k false
  | .massbusOut k n => needMba k <| unlessDetached k <| mbaTake k n
  | .massbusEnd k => needMba k <| unlessDetached k <| mbaEnd k
  | .massbusError k bits => needMba k <| mbaFinds k bits
  | .massbusAttention k on => needMba k <| modMba k fun m => { m with attn := on }.follow
  | .agentWrite pa b => agentWrite pa b
  | .agentInterlock pa w => orRetry e <| agentInterlock pa w
  | .interlockTimeout => only780 <| modV780 fun v => { v with interlock := false }
  | .powerFail => acLow
  | .powerUp held => powerUp held
  | .resetButton => resetButton
  | .machineCheck cause => modPend fun p => { p with machineCheck := some cause }
  | .correctedData k => correctedData k
  | .memoryError pa => memoryError pa
  | .sbiFault tr bits => only780 <| raiseFault tr bits
  | .sbiFaultClear => only780 sbiFaultClear
  | .nexusRequest tr l on => nexusRequest tr l on
  | .memoryReady k => memoryReady k
  | .sbiDead => only780 sbiDead
  | .sbiAlert k up => only780 <| memoryPower k up
  | .siloCompare => only780 <| modPend fun p => { p with siloCompare := true }
  | .during n m => if (busMove m).isSome then modify fun s => { s with during := insertEvent n m s.during } else refuse .hostEvent
  | .stepDone => do
      let s ← get
      if s.run = .running then haltAt .singleStep s.pc s.psl
  | .controlC => only780 controlC
  | .consoleLine => only780 conGoOn
  | .consoleDone => only780 <| modProgram fun p => { p with waiting := false }
  | .consoleFile second file lines => only780 <| modV780 fun v => { v with files := setKey v.files (fileKey second file) lines }

end Sys2Proof.Machine
end

