-- ==== Sys2Proof/Machine/Boundary.lean ====
section
/-! DEFINITION. Between two instructions: events, halts, interrupts, trace, fetch (60_exceptions.md R1100, 30_encoding.md R450). -/
namespace Sys2Proof.Machine

/-! ### Instruction fetch, 20_memory.md R285 -/

/-- Physical address the instruction stream has at `va`, before any cycle of another agent that is to come inside the instruction
(DESIGN CHOICE, notes/assumptions/56.md); none where the translation fails. -/
def State.streamPlace (s : State) (va : Long) : Option Nat :=
  match check va false s.cur { s with during := [] } with
  | .ok t _ => some t.pa
  | .error _ _ => none

/-- Physical address of instruction byte `k`. -/
def State.fetchPlace (s : State) (k : Nat) : Option Nat := s.streamPlace (s.pc + BitVec.ofNat 32 k)

/-- The state the bytes are read from: where check bits are substituted their free values are numbered apart from those of the
translations. -/
def State.fetching (s : State) : State := s.drawn 32

/-- Instruction byte `k`; none where it cannot be read. -/
def State.fetch (s : State) (k : Nat) : Option Byte :=
  match s.fetchPlace k with
  | some pa => peekByte s.fetching k pa
  | none => none

/-- The instruction stream at the PC. -/
def State.stream (s : State) : Stream := s.fetch

/-- Does reading instruction bytes leave the state as it is? So it is but under the diagnostic modes of the memory controllers,
while one initializes its array, and with memory that has an error. -/
def State.fetchQuiet (s : State) : Bool :=
  !s.forcing && if s.is750 then !s.v750.csr1.getLsbD 25
    else s.badMem.isEmpty && s.v780.mems.all fun c => c.status != .initializing

/-- The state after the first `n` instruction bytes have been read: what that logs, 61_platform_750.md R1161, 62_platform_780.md
R1408, R1409, and what it copies to CSR1, 61_platform_750.md R1162. -/
def State.fetched (s : State) (n : Nat) : State :=
  if s.fetchQuiet then s
  else
    ((List.range n).foldl (fun t k =>
      match s.fetchPlace k with
      | some pa => t.fetchedByte k pa
      | none => t) s.fetching).drawn n

/-- `s` as an instruction that `s0` starts fetches from it: memory, and the free values where check bits are substituted, are
those of `s0`, whatever the instruction and other agents have done since. -/
def State.asFetched (s s0 : State) : State :=
  { s with mem := s0.mem, badMem := s0.badMem, during := [], draw := if s0.forcing then s0.draw else s.draw }

/-- `t`, with memory, cycles to come and numbering of free values taken up where `s` left them. -/
def State.resumed (t s s0 : State) : State :=
  { t with mem := s.mem, badMem := s.badMem, during := s.during, draw := if s0.forcing then s.draw else t.draw }

/-- Why the byte at `va` of the instruction that `s0` starts could not be read: a memory management fault, or what the reference
to it met. The bytes come before the cycles of the specifiers, so the answer is that of the state they were fetched from. -/
def fetchFault (s0 : State) (va : Long) : M Unit := do
  let s ← get
  set (s.asFetched s0)
  let r ← attempt (check va false s0.cur)
  modify fun t => t.resumed s s0
  match r with
  | .ok t => unreadableByte t.pa
  | .error e => throw e

/-- The instructions none of whose operands before the last may be in I/O space: strings, decimal, EDITPC, CRC, queues, EDIV,
loops, EMOD, POLY (20_memory.md R293). -/
def plainOps : List Nat :=
  [0x08, 0x09, 0x0B, 0x0E, 0x0F, 0x20, 0x21, 0x22, 0x23, 0x24, 0x25, 0x26, 0x27, 0x28, 0x29, 0x2A, 0x2B, 0x2C, 0x2D, 0x2E,
   0x2F, 0x34, 0x35, 0x36, 0x37, 0x38, 0x39, 0x3A, 0x3B, 0x3D, 0x54, 0x55, 0x5C, 0x5D, 0x5E, 0x5F, 0x74, 0x75, 0x7B, 0x9D,
   0xF1, 0xF2, 0xF3, 0xF4, 0xF5, 0xF8, 0xF9, 0x54FD, 0x55FD, 0x74FD, 0x75FD]

/-- May operand `i` of opcode `op` not be in I/O space? Also the position and size of a bit field, and the position of a
branch on a bit. -/
def plainSlot (op i : Nat) : Bool :=
  op ∈ plainOps || (op == 0xF0 && (i == 1 || i == 2)) || (decide (0xEA ≤ op ∧ op ≤ 0xEF) && decide (i < 2))
    || (decide (0xE0 ≤ op ∧ op ≤ 0xE7) && i == 0)

/-- Evaluate a specifier for its faults only, R440, by the references its instruction may make. -/
def evalSlot (plain : Bool) : Slot → M Unit
  | .op .r t o => discard <| if plain then rdPlain t o else rd t o
  | .op .w t o => discard <| if plain then wrPlain t o else wr t o
  | .op .m t o => discard <| if plain then mdAs .other t o else md t o
  | .op .a t o => discard <| if plain then adrPlain t o else adr t o
  | .op .v _ o => discard <| fld o
  | .brB d => discard <| branchTarget 1 d
  | .brW d => discard <| branchTarget 2 d

/-- An instruction whose bytes end before it does: the faults of its opcode and of the specifiers before the missing
byte come first, then the fault of the fetch (R450): also where the missing bytes are those of a constant that no instruction
may have there, and before the faults of a source string that CVTPL converts before its destination is evaluated (R946; DESIGN
CHOICE, notes/assumptions/20.md). `s0` is the state the bytes were fetched from. -/
def runMissing (s0 s : State) (op : Nat) (seen : List Slot) (pos : Nat) : Out :=
  finish s ((do
    if seen.length ≠ 0 ∨ 2 ≤ pos ∨ (pos = 1 ∧ op ≠ 0xFD) then checkOpcode op
    setPC (s.pc + opBytes op)
    seen.zipIdx.forM fun (slot, i) => evalSlot (plainSlot op i) slot
    fetchFault s0 (s.pc + BitVec.ofNat 32 pos)
    done : Meaning) s)

/-- An opcode that is not assigned: the reserved instruction fault; the V780 ignores FPD here too (46_string.md R901). -/
def runReserved (s : State) : Out :=
  finish s ((do
    ignoreFpd
    raise reservedInstruction : Meaning) s)

/-- Fetch, decode and execute the instruction at the PC, R450. -/
noncomputable def runInstruction (s : State) : Out :=
  match decode s.stream with
  | .ok i n => exec i (s.fetched n)
  | .reserved op => runReserved (s.fetched (if op % 256 = 0xFD then 2 else 1))
  | .missing op seen pos => runMissing s (s.fetched pos) op seen pos

/-! ### The boundary between two instructions, 60_exceptions.md R1100 -/

/-- The invariants of the PSL, 10_state.md R50. -/
def pslLegal (p : Long) : Bool :=
  let cur := field p 24 2
  let ipl := field p 16 5
  (!p.getLsbD 26 || cur == 0)
    && (ipl == 0 || cur == 0)
    && decide (cur ≤ field p 22 2)
    && p &&& pslMbz == 0
    && (!p.getLsbD 31 || (p &&& 0x0C0000E0 == 0 && cur == 3 && ipl == 0))

/-- The state an instruction starts from: TP takes T, and the V780 clears the accelerator's errors (11_processor_registers.md
R230). -/
def State.started (s : State) : State :=
  { s with psl := putBit s.psl 30 s.t, v780 := if s.is750 then s.v780 else { s.v780 with accErr := 0 } }

/-- Step 5: an instruction runs. Compatibility mode is not part of the spec (00_scope.md R6). -/
noncomputable def startInstruction (s : State) : Out :=
  if s.cm then .refused .compatibilityMode
  else if pslLegal s.psl then runInstruction s.started
  else .refused .illegalPsl

/-- The cause of an injected machine check, as the V750 latches it, 11_processor_registers.md R210, R211; a cache error sets
CAER<3:2>, and CAER<1> where one was there before, R217. -/
def noteCause (c : CheckCause) : M Unit :=
  match c with
  | .unstated => pure ()
  | .tb groups => modV750 fun v => { v with mcesr := v.mcesr ||| 4, mcsr := v.mcsr ||| groups.setWidth 32 <<< 8 }
  | .xb => modV750 fun v => { v with mcesr := v.mcesr ||| 1 }
  | .cache tag data => modV750 fun v =>
      { v with
        caer := v.caer ||| (if tag then 8 else 0) ||| (if data then 4 else 0) ||| (if v.caer &&& 0xC = 0 then 0 else 2) }

/-- An injected machine check, 60_exceptions.md R1045. -/
def injectedCheck (c : CheckCause) (s : State) : Out :=
  let s := { s with pend := { s.pend with machineCheck := none } }
  finish s ((do
    if s.is750 then noteCause c
    machineCheck : Meaning) s)

/-- A console halt request, R1096; the V780 says when an interrupt was pending, 62_platform_780.md R1320. -/
def consoleHalt (s : State) : Out :=
  outcomeOf ((do
    if ¬ s.is750 ∧ deliverable s ≠ [] then send .interruptPending
    haltHere .consoleHalt : M Unit) { s with pend := { s.pend with consoleHalt := false } })

/-- A second memory write error before the first was serviced, R1095 (g). -/
def doubleWriteHalt (s : State) : Out :=
  outcomeOf (haltHere .doubleWriteError { s with pend := { s.pend with doubleWrite := false } })

/-- A pending arithmetic trap, R1100 step 2. -/
def pendingTrap (code : Nat) (s : State) : Out := outcomeOf (enterTrap code s)

/-- One boundary of the running processor: what is recognized, in the order of R1100, or an instruction. -/
noncomputable def boundary (s : State) : Out :=
  if s.pend.doubleWrite then doubleWriteHalt s
  else match s.pend.machineCheck with
    | some c => injectedCheck c s
    | none =>
      match s.pend.trap with
      | some code => pendingTrap code s
      | none =>
        if s.pend.consoleHalt then consoleHalt s
        else match deliverable s with
          | r :: rest => outcomeOf (takeInterrupt (r :: rest) s)
          | [] => if s.tp then outcomeOf (enterTrace s) else startInstruction s

/-- What the processor does by itself: a boundary, or what the console does with a halted one. -/
noncomputable def advance (s : State) : Out :=
  match s.run with
  | .running => boundary s
  | .halted why => outcomeOf (haltAction why s)

/-- One step: an event that is due happens alone; else the processor advances and the first event comes nearer. -/
noncomputable def oneStep (s : State) : Out :=
  match s.events with
  | [] => advance s
  | (0, e) :: rest => outcomeOf (applyEvent e { s with events := rest })
  | (n + 1, e) :: rest => advance { s with events := (n, e) :: rest }

/-! ### Placing an instruction -/

/-- Put bytes where the instruction stream reads them, from virtual address `va` on. -/
def State.putBytes (s : State) (va : Long) : List Byte → State
  | [] => s
  | b :: rest =>
    let t := match s.streamPlace va with
      | some pa => { s with mem := Sparse.set s.mem pa b }
      | none => s
    State.putBytes t (va + 1) rest

end Sys2Proof.Machine
end

