-- ==== Sys2Proof/Machine/Step.lean ====
section
/-! DEFINITION. The step, and where it fetches its next instruction. -/
namespace Sys2Proof.Machine

/-- One step of the machine, 60_exceptions.md R1100. -/
noncomputable def step (s : State) : Host.Outcome State Fault Refusal := oneStep s

/-- The state with an instruction of the opcode table stored at the PC (notes/assumptions/16.md). -/
def State.withFetchWord (s : State) (nbits w : Nat) : State := s.putBytes s.pc (tableBytes nbits w)

end Sys2Proof.Machine
end

