-- ==== Sys2Proof/Safety.lean ====
section
/-! DEFINITION. What the statements say of runs: when an instruction may run, frames, invariants and the bytes an access touches. -/
namespace Sys2Proof.Machine

/-! ### Starting an instruction -/

/-- The opcode's own checks pass: FPD is clear, G and H floating are there for a two-byte opcode, and the mode is
kernel for HALT, LDPCTX, SVPCTX, MTPR and MFPR (60_exceptions.md R1054). -/
def Ready (op : Nat) (s : State) : Prop :=
  s.fpd = false ∧ (op < 256 ∨ s.cfg.hasGH = true) ∧ (op ∉ [0x00, 0x06, 0x07, 0xDA, 0xDB] ∨ s.cur = 0)

/-- The state with the PC past the opcode. -/
def past (op : Nat) (s : State) : State := s.setReg 15 (s.pc + if op < 256 then 1 else 2)

/-- N and Z from a stored result, with the given V and C. -/
def State.flags {w : Nat} (s : State) (r : BitVec w) (v c : Bool) : State := s.withCC r.msb (decide (r = 0)) v c

/-! ### Invariants -/

/-- Main memory is in its canonical form (20_memory.md R261). -/
def State.MemOk (s : State) : Prop := Memory.wf s.mem = true

/-- The PSL keeps the invariants of 10_state.md R50, and no move of the environment is waiting that could break them. -/
def State.PslOk (s : State) : Prop :=
  (∀ e ∈ s.events, e.2 ≠ .consoleLine ∧ ∀ sp n a v, e.2 ≠ .console (.deposit sp n a v)) ∧ pslLegal s.psl = true

/-! ### Memory -/

/-- The byte of main memory at a physical address: the model's read of one byte. -/
def State.byte (s : State) (pa : Nat) : Byte := Sparse.get s.mem pa

/-- Does physical address `a` lie in a span of `n` bytes? -/
def Span.has (sp : Span) (n a : Nat) : Prop :=
  if n ≤ sp.k then sp.a0 ≤ a ∧ a < sp.a0 + n
  else (sp.a0 ≤ a ∧ a < sp.a0 + sp.k) ∨ (sp.a1 ≤ a ∧ a < sp.a1 + (n - sp.k))

/-- `n` bytes of main memory from `pa` on, none of them in a unit with an uncorrectable error, outside ECC Disable Mode; and no
cycle of another agent is to come between. -/
def State.goodRam (s : State) (pa n : Nat) : Prop :=
  place s pa = .ram ∧ s.bad pa n = false ∧ s.eccDisabled pa = false ∧ s.during = []

/-- A span of `n` bytes lies in main memory that has no uncorrectable error there. -/
def Span.inRam (sp : Span) (n : Nat) (s : State) : Prop :=
  s.goodRam sp.a0 (min n sp.k) ∧ (n ≤ sp.k ∨ s.goodRam sp.a1 (n - sp.k))

/-- The bytes of the page table entries a translation used: those whose M bit a write may set (21_memory_management.md R356). -/
def Tran.pteBytes (t : Tran) : List Nat :=
  match t.walk with
  | none => []
  | some w =>
    (List.range 4).map (w.ptePa + ·) ++
      (match w.sysPa with
        | none => []
        | some p => (List.range 4).map (p + ·))

/-- The page table bytes behind a write at `va` in the current mode. -/
def State.pteBytes (s : State) (va : Long) : List Nat :=
  match check va true s.cur s with
  | .ok t _ => t.pteBytes
  | .error _ _ => []

/-- The page table bytes behind a write of up to 512 bytes at `va`, which may reach into a second page. -/
def State.touched (s : State) (va : Long) : List Nat :=
  s.pteBytes va ++ s.pteBytes (va + BitVec.ofNat 32 (leftInPage va))

/-! ### Frames -/

/-- The register a specifier steps, 30_encoding.md R414 to R416. -/
def stepped (o : Opnd) : List Reg :=
  match o.mode with
  | .autoDec n | .autoInc n | .autoIncDef n => [n]
  | _ => []

/-- Nothing but registers in `regs`, the PC, the condition codes, device registers, what was sent and the count of
free values has changed; memory is as it was. Where a cycle of another agent is to come inside the instruction nothing is said: it
may change what that agent changes. -/
def State.ReadFrame (s t : State) (regs : List Reg) : Prop :=
  s.during = [] → t = { s with r := t.r, psl := t.psl, v750 := t.v750, v780 := t.v780, mbas := t.mbas, sent := t.sent, draw := t.draw }
    ∧ (∀ n : Reg, n ≠ 15 → n ∉ regs → t.reg n = s.reg n)
    ∧ t.psl &&& 0xFFFFFFF0 = s.psl &&& 0xFFFFFFF0

/-- The same for what also stores: memory and pending requests may change. -/
def State.WriteFrame (s t : State) (regs : List Reg) : Prop :=
  s.during = [] → t = { s with
        r := t.r, psl := t.psl, mem := t.mem, badMem := t.badMem, v750 := t.v750, v780 := t.v780, mbas := t.mbas
        sent := t.sent, draw := t.draw, pend := t.pend }
    ∧ (∀ n : Reg, n ≠ 15 → n ∉ regs → t.reg n = s.reg n)
    ∧ t.psl &&& 0xFFFFFFF0 = s.psl &&& 0xFFFFFFF0

end Sys2Proof.Machine
end

