-- ==== Sys2Proof/Certificates/Slice0/Obligations.lean ====
section
/-! DEFINITION. The statements for the provers, and the tables of instructions of one shape they range over: each row gives
an opcode, the constructor and the result and condition codes the spec's rule for it states. -/
namespace Sys2Proof.Machine

/-- The PSL with which an instruction is turned away: the VAX-11/780 has cleared FPD, 46_string.md R901. -/
def State.clearedFpd (s : State) : State := { s with psl := if s.is750 then s.psl else s.psl &&& 0xF7FFFFFF }

/-- How an instruction ends that a reserved operand fault ends when it has come to `u`: registers and PSL are as before it. -/
def State.turnedAway (s u : State) : Out := outcomeOf (enterException reservedOperand s.pc { u with r := s.r, psl := s.psl })

/-- A trap of type `code` is due where `b`. -/
def State.trappedIf (s : State) (b : Bool) (code : Nat) : State := if b then s.trapped code else s

/-- A longword register at `pa` reads as `old`, takes a write of `w` and then reads as `new`; memory and registers stay. -/
def RegisterAnswers (s : State) (pa : Nat) (w old new : Long) : Prop :=
  physRead .data pa 4 s = .ok (old.setWidth 128) s
  ∧ ∃ t, physWrite .data pa 4 (w.setWidth 128) s = .ok ⟨⟩ t ∧ physRead .data pa 4 t = .ok (new.setWidth 128) t
    ∧ t.mem = s.mem ∧ t.r = s.r ∧ t.psl = s.psl ∧ t.sp = s.sp ∧ t.mm = s.mm

/-- CSR0 of the V750 after a write: bits 30 and 29 go with a 1, bit 31 only where bit 30 is clear or goes, 61_platform_750.md R1161. -/
def csr0After (old w : Long) : Long :=
  if old.getLsbD 30 ∧ ¬ w.getLsbD 30 then old &&& ~~~ (w &&& 0x20000000) else old &&& ~~~ (w &&& 0xE0000000)

/-- Physical address of the system page table entry of `va`. -/
def systemPte (s : State) (va : Long) : Nat := (s.mm.sbr.toNat / 4 * 4 + 4 * field va 9 21) % 2 ^ s.cfg.paw

/-- A longword of main memory. -/
def State.longAt (s : State) (pa : Nat) : Long := BitVec.ofNat 32 (leNat (ramBytes s.mem pa 4))

/-- Is an address of process space beyond the end of its page table? 21_memory_management.md R362, R363. -/
def State.beyondTable (s : State) (va : Long) : Prop :=
  if field va 30 2 = 0 then s.mm.p0lr.toNat ≤ field va 9 21 else field va 9 21 < s.mm.p1lr.toNat

/-- Virtual address of the page table entry of an address of process space. -/
def State.processPteVa (s : State) (va : Long) : Long :=
  (if field va 30 2 = 0 then s.mm.p0br else s.mm.p1br) + BitVec.ofNat 32 (4 * field va 9 21)

/-- The system page table entry of the page table of `va` can be fetched: it is `x`, and its code is not the reserved one. -/
def State.tableEntry (s : State) (va x : Long) : Prop :=
  ¬ s.beyondTable va ∧ field (s.processPteVa va) 30 2 = 2 ∧ field (s.processPteVa va) 9 21 < s.mm.slr.toNat
    ∧ s.goodRam (systemPte s (s.processPteVa va)) 4 ∧ s.longAt (systemPte s (s.processPteVa va)) = x ∧ field x 27 4 ≠ 1

/-- The page table entry of `va` lies at `pa` in main memory, and its code is not the reserved one. -/
def State.entryAt (s : State) (va : Long) (pa : Nat) : Prop :=
  (∃ x, s.tableEntry va x ∧ accessAllowed (field x 27 4) 0 false = true ∧ x.getLsbD 31 = true
    ∧ pa = field x 0 s.cfg.pfnw * 512 + field (s.processPteVa va) 0 9)
  ∧ s.goodRam pa 4 ∧ field (s.longAt pa) 27 4 ≠ 1

/-- A permitted write at `va` through the entry at `pte` sets the entry's M bit and changes nothing else, but perhaps the M bit of
the `others`; a read changes nothing. -/
def SetsModify (s : State) (va : Long) (mode pte : Nat) (others : List Nat) : Prop :=
  translate va false mode s = .ok (field (s.longAt pte) 0 s.cfg.pfnw * 512 + field va 0 9) s
  ∧ ∃ t, translate va true mode s = .ok (field (s.longAt pte) 0 s.cfg.pfnw * 512 + field va 0 9) t
    ∧ (mode = s.cur → ∀ n ≤ leftInPage va,
      memDest va n s = .ok ⟨field (s.longAt pte) 0 s.cfg.pfnw * 512 + field va 0 9, n, 0⟩ t)
    ∧ t.longAt pte = s.longAt pte ||| 0x04000000
    ∧ (∀ p ∈ others, t.longAt p = s.longAt p ∨ t.longAt p = s.longAt p ||| 0x04000000)
    ∧ (∀ a, (∀ p ∈ pte :: others, ¬ (p ≤ a ∧ a < p + 4)) → t.byte a = s.byte a)
    ∧ t = { s with mem := t.mem, badMem := t.badMem, v750 := t.v750, draw := t.draw }
    ∧ ((s.longAt pte).getLsbD 26 = true → t = s)

/-! ### Integer instructions -/

/-- src, dst: the result, V, and C from the old C. -/
structure UnaryRow where
  op : Nat
  mkI : Opnd → Opnd → Instr
  ts : DT
  td : DT
  r : BitVec ts.bits → BitVec td.bits
  v : BitVec ts.bits → Bool
  c : BitVec ts.bits → Bool → Bool

def moveRow (op : Nat) (mk : Opnd → Opnd → Instr) (t : DT) : UnaryRow := ⟨op, mk, t, t, id, fun _ => false, fun _ c => c⟩
def negateRow (op : Nat) (mk : Opnd → Opnd → Instr) (t : DT) : UnaryRow :=
  ⟨op, mk, t, t, fun x => -x, fun x => decide (x.toInt = -2 ^ (t.bits - 1)), fun x _ => decide (x ≠ 0)⟩
def complementRow (op : Nat) (mk : Opnd → Opnd → Instr) (t : DT) : UnaryRow :=
  ⟨op, mk, t, t, fun x => ~~~x, fun _ => false, fun _ c => c⟩
def zeroExtendRow (op : Nat) (mk : Opnd → Opnd → Instr) (ts td : DT) : UnaryRow :=
  ⟨op, mk, ts, td, fun x => BitVec.ofNat _ x.toNat, fun _ => false, fun _ c => c⟩
def convertRow (op : Nat) (mk : Opnd → Opnd → Instr) (ts td : DT) : UnaryRow :=
  ⟨op, mk, ts, td, fun x => BitVec.ofInt _ x.toInt, fun x => decide ((BitVec.ofInt td.bits x.toInt).toInt ≠ x.toInt),
    fun _ _ => false⟩

/-- MOVx, MNEGx, MCOMx, MOVZxx, CVTxx: 40_integer.md R470 to R499. -/
noncomputable def unaryRows : List UnaryRow :=
  [moveRow 0x90 .movb .b, moveRow 0xB0 .movw .w, moveRow 0xD0 .movl .l, moveRow 0x7D .movq .q, moveRow 0x7DFD .movo .o,
   negateRow 0x8E .mnegb .b, negateRow 0xAE .mnegw .w, negateRow 0xCE .mnegl .l, complementRow 0x92 .mcomb .b,
   complementRow 0xB2 .mcomw .w, complementRow 0xD2 .mcoml .l, zeroExtendRow 0x9B .movzbw .b .w,
   zeroExtendRow 0x9A .movzbl .b .l, zeroExtendRow 0x3C .movzwl .w .l, convertRow 0x99 .cvtbw .b .w,
   convertRow 0x98 .cvtbl .b .l, convertRow 0x33 .cvtwb .w .b, convertRow 0x32 .cvtwl .w .l,
   convertRow 0xF6 .cvtlb .l .b, convertRow 0xF7 .cvtlw .l .w]

/-- Two sources: `r`, V, C from the old C, and the trap; the first operand comes first. The two-operand form takes its
second source from the destination. -/
structure BinaryRow where
  op2 : Nat
  op3 : Nat
  mk2 : Opnd → Opnd → Instr
  mk3 : Opnd → Opnd → Opnd → Instr
  t : DT
  r : BitVec t.bits → BitVec t.bits → BitVec t.bits
  v : BitVec t.bits → BitVec t.bits → Bool
  c : BitVec t.bits → BitVec t.bits → Bool → Bool
  trap : BitVec t.bits → BitVec t.bits → Option Nat

def addRow (op2 op3 : Nat) (mk2 : Opnd → Opnd → Instr) (mk3 : Opnd → Opnd → Opnd → Instr) (t : DT) : BinaryRow :=
  ⟨op2, op3, mk2, mk3, t, fun a b => b + a, fun a b => decide (b.toInt + a.toInt ≠ (b + a).toInt),
    fun a b _ => decide (2 ^ t.bits ≤ b.toNat + a.toNat), fun _ _ => none⟩
def subtractRow (op2 op3 : Nat) (mk2 : Opnd → Opnd → Instr) (mk3 : Opnd → Opnd → Opnd → Instr) (t : DT) : BinaryRow :=
  ⟨op2, op3, mk2, mk3, t, fun a b => b - a, fun a b => decide (b.toInt - a.toInt ≠ (b - a).toInt),
    fun a b _ => decide (b.toNat < a.toNat), fun _ _ => none⟩
def multiplyRow (op2 op3 : Nat) (mk2 : Opnd → Opnd → Instr) (mk3 : Opnd → Opnd → Opnd → Instr) (t : DT) : BinaryRow :=
  ⟨op2, op3, mk2, mk3, t, fun a b => b * a, fun a b => decide (b.toInt * a.toInt ≠ (b * a).toInt),
    fun _ _ _ => false, fun _ _ => none⟩

/-- The quotient exists and fits. -/
def divides {w : Nat} (a b : BitVec w) : Bool := decide (a ≠ 0 ∧ ¬ (b.toInt = -2 ^ (w - 1) ∧ a.toInt = -1))

def divideRow (op2 op3 : Nat) (mk2 : Opnd → Opnd → Instr) (mk3 : Opnd → Opnd → Opnd → Instr) (t : DT) : BinaryRow :=
  ⟨op2, op3, mk2, mk3, t, fun a b => if divides a b then BitVec.ofInt _ (b.toInt.tdiv a.toInt) else b,
    fun a b => !divides a b, fun _ _ _ => false, fun a _ => if a = 0 then some 2 else none⟩
def bitRow (f : Bool → Bool → Bool) (op2 op3 : Nat) (mk2 : Opnd → Opnd → Instr) (mk3 : Opnd → Opnd → Opnd → Instr)
    (t : DT) : BinaryRow :=
  ⟨op2, op3, mk2, mk3, t, fun a b => BitVec.ofFnLE fun i => f (a.getLsb i) (b.getLsb i), fun _ _ => false,
    fun _ _ c => c, fun _ _ => none⟩

/-- ADDx, SUBx, MULx, DIVx, BISx, BICx, XORx: 40_integer.md R510 to R580. -/
noncomputable def binaryRows : List BinaryRow :=
  [addRow 0x80 0x81 .addb2 .addb3 .b, addRow 0xA0 0xA1 .addw2 .addw3 .w, addRow 0xC0 0xC1 .addl2 .addl3 .l,
   subtractRow 0x82 0x83 .subb2 .subb3 .b, subtractRow 0xA2 0xA3 .subw2 .subw3 .w,
   subtractRow 0xC2 0xC3 .subl2 .subl3 .l, multiplyRow 0x84 0x85 .mulb2 .mulb3 .b,
   multiplyRow 0xA4 0xA5 .mulw2 .mulw3 .w, multiplyRow 0xC4 0xC5 .mull2 .mull3 .l,
   divideRow 0x86 0x87 .divb2 .divb3 .b, divideRow 0xA6 0xA7 .divw2 .divw3 .w, divideRow 0xC6 0xC7 .divl2 .divl3 .l,
   bitRow (fun m x => x || m) 0x88 0x89 .bisb2 .bisb3 .b, bitRow (fun m x => x || m) 0xA8 0xA9 .bisw2 .bisw3 .w,
   bitRow (fun m x => x || m) 0xC8 0xC9 .bisl2 .bisl3 .l, bitRow (fun m x => x && !m) 0x8A 0x8B .bicb2 .bicb3 .b,
   bitRow (fun m x => x && !m) 0xAA 0xAB .bicw2 .bicw3 .w, bitRow (fun m x => x && !m) 0xCA 0xCB .bicl2 .bicl3 .l,
   bitRow (fun m x => xor x m) 0x8C 0x8D .xorb2 .xorb3 .b, bitRow (fun m x => xor x m) 0xAC 0xAD .xorw2 .xorw3 .w,
   bitRow (fun m x => xor x m) 0xCC 0xCD .xorl2 .xorl3 .l]

/-- One modified operand. -/
structure StepRow where
  op : Nat
  mkI : Opnd → Instr
  t : DT
  r : BitVec t.bits → BitVec t.bits
  v : BitVec t.bits → Bool
  c : BitVec t.bits → Bool

def incrementRow (op : Nat) (mk : Opnd → Instr) (t : DT) : StepRow :=
  ⟨op, mk, t, fun x => x + 1, fun x => decide (x.toInt = 2 ^ (t.bits - 1) - 1), fun x => decide (x.toNat = 2 ^ t.bits - 1)⟩
def decrementRow (op : Nat) (mk : Opnd → Instr) (t : DT) : StepRow :=
  ⟨op, mk, t, fun x => x - 1, fun x => decide (x.toInt = -2 ^ (t.bits - 1)), fun x => decide (x.toNat = 0)⟩

/-- INCx and DECx: 40_integer.md R520 to R535. -/
noncomputable def stepRows : List StepRow :=
  [incrementRow 0x96 .incb .b, incrementRow 0xB6 .incw .w, incrementRow 0xD6 .incl .l, decrementRow 0x97 .decb .b,
   decrementRow 0xB7 .decw .w, decrementRow 0xD7 .decl .l]

/-- Two operands compared or tested: the condition codes. -/
structure CompareRow where
  op : Nat
  mkI : Opnd → Opnd → Instr
  t : DT
  n : BitVec t.bits → BitVec t.bits → Bool
  z : BitVec t.bits → BitVec t.bits → Bool
  c : BitVec t.bits → BitVec t.bits → Bool → Bool

def compareRow (op : Nat) (mk : Opnd → Opnd → Instr) (t : DT) : CompareRow :=
  ⟨op, mk, t, fun a b => decide (a.toInt < b.toInt), fun a b => decide (a = b), fun a b _ => decide (a.toNat < b.toNat)⟩
def bitTestRow (op : Nat) (mk : Opnd → Opnd → Instr) (t : DT) : CompareRow :=
  ⟨op, mk, t, fun a b => a.msb && b.msb, fun a b => decide (a &&& b = 0), fun _ _ c => c⟩

/-- CMPx and BITx: 40_integer.md R500 to R502, R560 to R562. -/
noncomputable def compareRows : List CompareRow :=
  [compareRow 0x91 .cmpb .b, compareRow 0xB1 .cmpw .w, compareRow 0xD1 .cmpl .l, bitTestRow 0x93 .bitb .b,
   bitTestRow 0xB3 .bitw .w, bitTestRow 0xD3 .bitl .l]

/-- TSTx: 40_integer.md R503 to R505. -/
noncomputable def testRows : List (Nat × (Opnd → Instr) × DT) :=
  [(0x95, .tstb, .b), (0xB5, .tstw, .w), (0xD5, .tstl, .l)]

/-- CLRx with the integer type of the datum: 40_integer.md R476 to R479. -/
noncomputable def clearRows : List (Nat × (Opnd → Instr) × DT) :=
  [(0x94, .clrb, .b), (0xB4, .clrw, .w), (0xD4, .clrl, .l), (0xD4, .clrf, .l), (0x7C, .clrq, .q), (0x7C, .clrd, .q),
   (0x7C, .clrg, .q), (0x7CFD, .clro, .o), (0x7CFD, .clrh, .o)]

/-- MOVAx with the type of the datum addressed: 41_address_field.md R620. -/
noncomputable def moveAddressRows : List (Nat × (Opnd → Opnd → Instr) × DT) :=
  [(0x9E, .movab, .b), (0x3E, .movaw, .w), (0xDE, .moval, .l), (0xDE, .movaf, .f), (0x7E, .movaq, .q),
   (0x7E, .movad, .d), (0x7E, .movag, .g), (0x7EFD, .movao, .o), (0x7EFD, .movah, .h)]

/-- PUSHAx with the type of the datum addressed. -/
noncomputable def pushAddressRows : List (Nat × (Opnd → Instr) × DT) :=
  [(0x9F, .pushab, .b), (0x3F, .pushaw, .w), (0xDF, .pushal, .l), (0xDF, .pushaf, .f), (0x7F, .pushaq, .q),
   (0x7F, .pushad, .d), (0x7F, .pushag, .g), (0x7FFD, .pushao, .o), (0x7FFD, .pushah, .h)]

/-- Branches with a byte displacement and when they branch, from N, Z, V and C: 42_control.md R675 to R691. -/
noncomputable def branchRows : List (Nat × (Byte → Instr) × (Bool → Bool → Bool → Bool → Bool)) :=
  [(0x11, .brb, fun _ _ _ _ => true), (0x12, .bneq, fun _ z _ _ => !z), (0x12, .bnequ, fun _ z _ _ => !z),
   (0x13, .beql, fun _ z _ _ => z), (0x13, .beqlu, fun _ z _ _ => z), (0x14, .bgtr, fun n z _ _ => !(n || z)),
   (0x15, .bleq, fun n z _ _ => n || z), (0x18, .bgeq, fun n _ _ _ => !n), (0x19, .blss, fun n _ _ _ => n),
   (0x1A, .bgtru, fun _ z _ c => !(c || z)), (0x1B, .blequ, fun _ z _ c => c || z), (0x1C, .bvc, fun _ _ v _ => !v),
   (0x1D, .bvs, fun _ _ v _ => v), (0x1E, .bcc, fun _ _ _ c => !c), (0x1E, .bgequ, fun _ _ _ c => !c),
   (0x1F, .bcs, fun _ _ _ c => c), (0x1F, .blssu, fun _ _ _ c => c)]

/-- BBx that change the bit: the reference, the bit that branches and the new bit, 42_control.md R697 to R703. -/
noncomputable def bitBranchRows : List (Nat × (Opnd → Opnd → Byte → Instr) × Use × Bool × Bool) :=
  [(0xE2, .bbss, .other, true, true), (0xE3, .bbcs, .other, false, true), (0xE4, .bbsc, .other, true, false),
   (0xE5, .bbcc, .other, false, false), (0xE6, .bbssi, .interlocked, true, true),
   (0xE7, .bbcci, .interlocked, false, false)]

/-! ### Procedures -/

/-- The longwords a call pushes after aligning the stack, the first pushed first: the registers of the entry mask from
R11 down, PC, FP, AP, the mask and PSW longword, the condition handler's zero (43_procedure.md R744). -/
def frameLongs (s : State) (mask : Word16) (calls : Bool) (spa : Long) : List Long :=
  (((List.range 12).filter fun i => mask.getLsbD i).reverse.map fun i => s.reg (Fin.ofNat 16 i)) ++
    [s.pc, s.reg 13, s.reg 12,
      spa <<< 30 ||| (if calls then 0x20000000 else 0) ||| (mask.setWidth 32 &&& 0xFFF) <<< 16 ||| (s.psl &&& 0xFFE0), 0]

/-- PSL of the called procedure: condition codes and FU clear, IV and DV from the entry mask. -/
def calledStatus (psl : Long) (mask : Word16) : Long :=
  (psl &&& 0xFFFFFF10) ||| (if mask.getLsbD 14 then 0x20 else 0) ||| (if mask.getLsbD 15 then 0x80 else 0)

/-- Where `n` longwords go that are pushed from stack pointer `sp` on. -/
def slots (sp : Long) (n : Nat) : List Long := (List.range n).map fun i => sp - BitVec.ofNat 32 (4 * (i + 1))

/-- `n` longwords popped, the first one first. -/
def pops : Nat → M (List Long)
  | 0 => pure []
  | n + 1 => do
    let x ← pop
    return x :: (← pops n)

/-! ### Self-relative queues -/

/-- How the tests of a header that an insertion has read interlocked, its forward link `a`, end the instruction, 44_queue.md R770. -/
def InsertionTests (out : Out) (s : State) (hs : Span) (a : Long) (s4 : State) : Prop :=
  (field a 1 2 ≠ 0 → ∀ s5, writeSpan .other hs 4 (a.setWidth 128) s4 = .ok ⟨⟩ s5 → out = s.turnedAway s5)
  ∧ (field a 1 2 = 0 → a.getLsbD 0 = true → ∀ s5, writeSpan .other hs 4 (a.setWidth 128) s4 = .ok ⟨⟩ s5 →
    out = .next (s5.withCC false false false true))

/-- The insertion of `n` at the head of queue `h` whose forward link is `a`, R770. -/
def HeadInsertion (out : Out) (h n : Long) (es hs : Span) (a : Long) (s4 : State) : Prop :=
  field a 0 3 = 0 → ∀ (s5 s6 s7 s8 s9 sA : State) (d : Span),
    writeSpan .other hs 4 ((a ||| 1).setWidth 128) s4 = .ok ⟨⟩ s5 → memDest (h + a + 4) 4 s5 = .ok d s6 →
    writeSpan .other d 4 ((n - (h + a)).setWidth 128) s6 = .ok ⟨⟩ s7 →
    writeSpan .other (es.sub 0 4) 4 ((h + a - n).setWidth 128) s7 = .ok ⟨⟩ s8 →
    writeSpan .other (es.sub 4 4) 4 ((h - n).setWidth 128) s8 = .ok ⟨⟩ s9 →
    writeSpan .other hs 4 ((n - h).setWidth 128) s9 = .ok ⟨⟩ sA → out = .next (sA.withCC false (decide (a = 0)) false false)

/-- The tests of a header that a removal has read, R772: `k` is the destination. -/
def RemovalTests (out : Out) (s : State) (h : Long) (k : Dest) (hs : Span) (a : Long) (s4 : State) : Prop :=
  (field a 1 2 ≠ 0 → ∀ s5, writeSpan .other hs 4 (a.setWidth 128) s4 = .ok ⟨⟩ s5 → out = s.turnedAway s5)
  ∧ (field a 1 2 = 0 → a.getLsbD 0 = true → ∀ s5, writeSpan .other hs 4 (a.setWidth 128) s4 = .ok ⟨⟩ s5 →
    out = .next (s5.withCC false false true true))
  ∧ (a = 0 → ∀ s5 s6, writeSpan .other hs 4 0 s4 = .ok ⟨⟩ s5 → storePlain .l k h s5 = .ok ⟨⟩ s6 →
    out = .next (s6.withCC false true true false))

/-- The removal of the first entry of queue `h` whose forward link is `a`, R772. -/
def HeadRemoval (out : Out) (s : State) (h : Long) (k : Dest) (hs : Span) (a : Long) (s4 : State) : Prop :=
  a ≠ 0 → field a 0 3 = 0 → ∀ (s5 s6 : State) (b : Long),
    writeSpan .other hs 4 ((a ||| 1).setWidth 128) s4 = .ok ⟨⟩ s5 → readLong (h + a) s5 = .ok b s6 →
    (field (h + a + b) 0 3 ≠ 0 → ∀ s7, writeSpan .other hs 4 (a.setWidth 128) s6 = .ok ⟨⟩ s7 → out = s.turnedAway s7)
    ∧ (field (h + a + b) 0 3 = 0 → ∀ (s7 s8 s9 sA : State) (dn : Span), memDest (h + a + b + 4) 4 s6 = .ok dn s7 →
      writeSpan .other dn 4 ((h - (h + a + b)).setWidth 128) s7 = .ok ⟨⟩ s8 →
      writeSpan .other hs 4 ((h + a + b - h).setWidth 128) s8 = .ok ⟨⟩ s9 → storePlain .l k (h + a) s9 = .ok ⟨⟩ sA →
      out = .next (sA.withCC false (decide (h + a + b = h)) false false))

/-! ### Floating point -/

/-- The exact value of a number. -/
def ExactNum.rat (a : ExactNum) : ℚ := (if a.neg then -1 else 1) * (a.m : ℚ) * (2 : ℚ) ^ a.e

/-- `r` is the datum nearest to `x`, the larger in magnitude of two equally near ones: 45_floating.md R784. -/
def IsNearest (t : DT) (x : ℚ) (r : BitVec t.bits) : Prop :=
  reservedFloat t r = false
    ∧ ∀ v : BitVec t.bits, reservedFloat t v = false →
      |(floatValue t r).rat - x| ≤ |(floatValue t v).rat - x|
      ∧ (|(floatValue t r).rat - x| = |(floatValue t v).rat - x| → |(floatValue t v).rat| ≤ |(floatValue t r).rat|)

/-- Two floating operands: the exact result from the first and the second, and whether the first may be a divisor. -/
structure FloatRow where
  op2 : Nat
  op3 : Nat
  mk2 : Opnd → Opnd → Instr
  mk3 : Opnd → Opnd → Opnd → Instr
  t : DT
  f : ExactNum → ExactNum → ExactNum
  ok : ExactNum → Bool

/-- The enabled accelerator of the VAX-11/780 notes an error of an F or D operation in ACCS: 1 reserved operand, 2 overflow,
4 underflow (45_floating.md R789, 11_processor_registers.md R230). -/
def State.accNoted (s : State) (t : DT) (bit : BitVec 3) : State :=
  if s.is750 = false ∧ s.v780.accEnb = true ∧ (t = .f ∨ t = .d) then
    { s with v780 := { s.v780 with accErr := s.v780.accErr ||| bit } }
  else s

/-- MOVx and MNEGx: opcode, constructor, type, negation. -/
noncomputable def moveFloatRows : List (Nat × (Opnd → Opnd → Instr) × DT × Bool) :=
  [(0x50, .movf, .f, false), (0x70, .movd, .d, false), (0x50FD, .movg, .g, false), (0x70FD, .movh, .h, false),
   (0x52, .mnegf, .f, true), (0x72, .mnegd, .d, true), (0x52FD, .mnegg, .g, true), (0x72FD, .mnegh, .h, true)]

/-- TSTx. -/
noncomputable def testFloatRows : List (Nat × (Opnd → Instr) × DT) :=
  [(0x53, .tstf, .f), (0x73, .tstd, .d), (0x53FD, .tstg, .g), (0x73FD, .tsth, .h)]

/-- CMPx. -/
noncomputable def compareFloatRows : List (Nat × (Opnd → Opnd → Instr) × DT) :=
  [(0x51, .cmpf, .f), (0x71, .cmpd, .d), (0x51FD, .cmpg, .g), (0x71FD, .cmph, .h)]

/-- ADDx, SUBx, MULx, DIVx: 45_floating.md R806 to R837. -/
noncomputable def floatRows : List FloatRow :=
  [⟨0x40, 0x41, .addf2, .addf3, .f, fun a b => b.add a, fun _ => true⟩,
   ⟨0x60, 0x61, .addd2, .addd3, .d, fun a b => b.add a, fun _ => true⟩,
   ⟨0x40FD, 0x41FD, .addg2, .addg3, .g, fun a b => b.add a, fun _ => true⟩,
   ⟨0x60FD, 0x61FD, .addh2, .addh3, .h, fun a b => b.add a, fun _ => true⟩,
   ⟨0x42, 0x43, .subf2, .subf3, .f, fun a b => b.sub a, fun _ => true⟩,
   ⟨0x62, 0x63, .subd2, .subd3, .d, fun a b => b.sub a, fun _ => true⟩,
   ⟨0x42FD, 0x43FD, .subg2, .subg3, .g, fun a b => b.sub a, fun _ => true⟩,
   ⟨0x62FD, 0x63FD, .subh2, .subh3, .h, fun a b => b.sub a, fun _ => true⟩,
   ⟨0x44, 0x45, .mulf2, .mulf3, .f, fun a b => b.mul a, fun _ => true⟩,
   ⟨0x64, 0x65, .muld2, .muld3, .d, fun a b => b.mul a, fun _ => true⟩,
   ⟨0x44FD, 0x45FD, .mulg2, .mulg3, .g, fun a b => b.mul a, fun _ => true⟩,
   ⟨0x64FD, 0x65FD, .mulh2, .mulh3, .h, fun a b => b.mul a, fun _ => true⟩,
   ⟨0x46, 0x47, .divf2, .divf3, .f, fun a b => b.div (fracLen .f) a, fun a => a.m != 0⟩,
   ⟨0x66, 0x67, .divd2, .divd3, .d, fun a b => b.div (fracLen .d) a, fun a => a.m != 0⟩,
   ⟨0x46FD, 0x47FD, .divg2, .divg3, .g, fun a b => b.div (fracLen .g) a, fun a => a.m != 0⟩,
   ⟨0x66FD, 0x67FD, .divh2, .divh3, .h, fun a b => b.div (fracLen .h) a, fun a => a.m != 0⟩]

/-- CVTBx, CVTWx, CVTLx: 45_floating.md R838 to R849. -/
noncomputable def intToFloatRows : List (Nat × (Opnd → Opnd → Instr) × DT × DT) :=
  [(0x4C, .cvtbf, .b, .f), (0x6C, .cvtbd, .b, .d), (0x4CFD, .cvtbg, .b, .g), (0x6CFD, .cvtbh, .b, .h),
   (0x4D, .cvtwf, .w, .f), (0x6D, .cvtwd, .w, .d), (0x4DFD, .cvtwg, .w, .g), (0x6DFD, .cvtwh, .w, .h),
   (0x4E, .cvtlf, .l, .f), (0x6E, .cvtld, .l, .d), (0x4EFD, .cvtlg, .l, .g), (0x6EFD, .cvtlh, .l, .h)]

/-- CVTxB, CVTxW, CVTxL, CVTRxL: 45_floating.md R850 to R865; the last says rounded. -/
noncomputable def floatToIntRows : List (Nat × (Opnd → Opnd → Instr) × DT × DT × Bool) :=
  [(0x48, .cvtfb, .f, .b, false), (0x68, .cvtdb, .d, .b, false), (0x48FD, .cvtgb, .g, .b, false),
   (0x68FD, .cvthb, .h, .b, false), (0x49, .cvtfw, .f, .w, false), (0x69, .cvtdw, .d, .w, false),
   (0x49FD, .cvtgw, .g, .w, false), (0x69FD, .cvthw, .h, .w, false), (0x4A, .cvtfl, .f, .l, false),
   (0x6A, .cvtdl, .d, .l, false), (0x4AFD, .cvtgl, .g, .l, false), (0x6AFD, .cvthl, .h, .l, false),
   (0x4B, .cvtrfl, .f, .l, true), (0x6B, .cvtrdl, .d, .l, true), (0x4BFD, .cvtrgl, .g, .l, true),
   (0x6BFD, .cvtrhl, .h, .l, true)]

/-- Conversions between floating types: 45_floating.md R866 to R875. -/
noncomputable def floatToFloatRows : List (Nat × (Opnd → Opnd → Instr) × DT × DT) :=
  [(0x56, .cvtfd, .f, .d), (0x76, .cvtdf, .d, .f), (0x99FD, .cvtfg, .f, .g), (0x33FD, .cvtgf, .g, .f),
   (0x98FD, .cvtfh, .f, .h), (0xF6FD, .cvthf, .h, .f), (0x32FD, .cvtdh, .d, .h), (0xF7FD, .cvthd, .h, .d),
   (0x56FD, .cvtgh, .g, .h), (0x76FD, .cvthg, .h, .g)]

/-- ACBx: 45_floating.md R877 to R880. -/
noncomputable def acbFloatRows : List (Nat × (Opnd → Opnd → Opnd → Word16 → Instr) × DT) :=
  [(0x4F, .acbf, .f), (0x6F, .acbd, .d), (0x4FFD, .acbg, .g), (0x6FFD, .acbh, .h)]

/-- EMODx with the type of the multiplier's extension and the number of its bits that count: R881 to R885. -/
noncomputable def emodRows : List (Nat × (Opnd → Opnd → Opnd → Opnd → Opnd → Instr) × DT × DT × Nat) :=
  [(0x54, .emodf, .f, .b, 8), (0x74, .emodd, .d, .b, 8), (0x54FD, .emodg, .g, .w, 11), (0x74FD, .emodh, .h, .w, 15)]

/-- POLYx: R886 to R890. -/
noncomputable def polyRows : List (Nat × (Opnd → Opnd → Opnd → Instr) × DT) :=
  [(0x55, .polyf, .f), (0x75, .polyd, .d), (0x55FD, .polyg, .g), (0x75FD, .polyh, .h)]

/-- The product that EMOD keeps of the multiplier `v`, extended by `k` bits of `x`, and `w`: R881. -/
def emodProduct (t tx : DT) (k : Nat) (v : BitVec t.bits) (x : BitVec tx.bits) (w : BitVec t.bits) : ExactNum :=
  ((if (floatValue t v).m = 0 then floatValue t v
    else ⟨(floatValue t v).neg, (floatValue t v).m * 2 ^ k + x.toNat / 2 ^ (tx.bits - k), (floatValue t v).e - k⟩).mul
    (floatValue t w)).chop (fracLen t + 1)

/-- Does a loop that adds `a` and has come to `r` go on up to the limit `l`? R877 -/
def loopGoesOn (a r l : ℚ) : Prop := (0 ≤ a ∧ r ≤ l) ∨ (a < 0 ∧ l ≤ r)

/-- How an instruction whose operands are evaluated in `u` ends when its result `x` is out of range, R786: a fault of the V750;
on the V780 the destination `d` takes the reserved operand or zero, and a trap is due. `acc` says that the accelerator of the V780
executes it, `rest` what it does after its condition codes are set. -/
def OutOfRange (out : Out) (s u : State) (t : DT) (acc : Bool) (d : Dest) (x : Rounded t.bits) (rest : State → State) : Prop :=
  (x = .overflow →
    (u.is750 = true → out = outcomeOf (enterException (arithFault 8) s.pc { u with r := s.r, psl := s.psl }))
    ∧ (u.is750 = false → ∀ v, store t d (floatReserved t) (if acc then u.accNoted t 2 else u) = .ok ⟨⟩ v →
      out = .next ((v.withCC true false true false).trapped 3)))
  ∧ (x = .underflow →
    (u.fu = true → u.is750 = true → out = outcomeOf (enterException (arithFault 0xA) s.pc { u with r := s.r, psl := s.psl }))
    ∧ (u.fu = false ∨ u.is750 = false → ∀ v, store t d 0 (if acc then u.accNoted t 4 else u) = .ok ⟨⟩ v →
      out = .next ((rest (v.withCC false true false false)).trappedIf u.fu 5)))

/-- How ADDx, SUBx, MULx and DIVx end on sources `v` and `w` in what R785 and R786 except: `u` and `d` as above. -/
def FloatRow.Excepts (e : FloatRow) (out : Out) (s u : State) (v w : BitVec e.t.bits) (d : Dest) : Prop :=
  (reservedFloat e.t v = true ∨ reservedFloat e.t w = true → out = s.turnedAway (u.accNoted e.t 1))
  ∧ (reservedFloat e.t v = false → reservedFloat e.t w = false →
    (e.ok (floatValue e.t v) = false →
      (u.is750 = true → out = outcomeOf (enterException (arithFault 9) s.pc { u with r := s.r, psl := s.psl }))
      ∧ (u.is750 = false → ∀ z, store e.t d (floatReserved e.t) u = .ok ⟨⟩ z → out = .next ((z.withCC true false true false).trapped 4)))
    ∧ (e.ok (floatValue e.t v) = true →
      OutOfRange out s u e.t true d (roundTo e.t (e.f (floatValue e.t v) (floatValue e.t w))) id))

/-- Coefficients `i` to `i + n - 1` of a POLY table, in the order they are referred to. -/
def coefficients (t : DT) (tbl : Long) (i : Nat) : Nat → M (List ExactNum)
  | 0 => pure []
  | n + 1 => do
    let c ← coefficient t tbl i
    return c :: (← coefficients t tbl (i + 1) n)

/-- One step of POLY on a result so far: multiply by the argument, keep the bits the rule keeps, add a coefficient, round. -/
def hornerRound (t : DT) (arg : ExactNum) (p : BitVec t.bits) (c : ExactNum) : Rounded t.bits :=
  roundTo t ((((floatValue t p).mul arg).chop (2 * (fracLen t + 1) - polyBits t)).add c)

/-- The result of a step that is in range. -/
def hornerStep (t : DT) (arg : ExactNum) (p : BitVec t.bits) (c : ExactNum) : Option (BitVec t.bits) :=
  match hornerRound t arg p c with
  | .value r => some r
  | _ => none

/-- POLY ends with the result `r`, its table ending at `past`: `u` is the state after the last coefficient is read, R886 to R890. -/
def PolyEnds (out : Out) (t : DT) (r : BitVec t.bits) (past : Long) (v : Bool) (trap : Option Nat) (u : State) : Prop :=
  ∃ z, out = .next z ∧ z.mem = u.mem ∧ z.pc = u.pc ∧ z.psl = (u.withCC (r.getLsbD 15) (decide (r = 0)) v false).psl
    ∧ z.pend = { u.pend with trap := trap.orElse fun _ => u.pend.trap }
    ∧ (∀ k < t.regs, z.reg (Fin.ofNat 16 k) = (r.setWidth 128 >>> (32 * k)).setWidth 32)
    ∧ z.reg (if t = .h then 5 else 3) = past
    ∧ (t = .f → z.reg 1 = 0 ∧ z.reg 2 = 0) ∧ (t = .h → z.reg 4 = 0)
    ∧ (t = .d ∨ t = .g → z.reg 2 = 0 ∧ z.reg 4 = 0 ∧ z.reg 5 = 0)
    ∧ (∀ k : Reg, 6 ≤ k.val → k ≠ 15 → z.reg k = u.reg k) ∧ (t = .f → z.reg 4 = u.reg 4 ∧ z.reg 5 = u.reg 5)

/-! ### Strings -/

/-- R0, R1 and so on take the values of a list. -/
def State.withRegs (s : State) (vs : List Long) : State :=
  vs.zipIdx.foldl (fun t p => t.setReg (Fin.ofNat 16 p.2) p.1) s

/-- The bytes from `va` on can be read, are `bs`, and reading them changes nothing, whatever the condition codes are. -/
def State.shows (s : State) (va : Long) (bs : List Byte) : Prop :=
  ∀ (k : Nat) (b : Byte), bs[k]? = some b →
    ∀ n z v c, readByte (va + long k) (s.withCC n z v c) = .ok b (s.withCC n z v c)

/-! ### Decimal strings -/

/-- The packed string of `len` digits at `va` can be read and has the value `v`, 47_decimal.md R930. -/
def State.packed (s : State) (va : Long) (len : Nat) (v : Int) : Prop :=
  ∃ bs, bs.length = packedLen len ∧ s.shows va bs ∧ packedValue len bs = some v

/-- It can be read and is no packed string of `len` digits, R932 (b). -/
def State.notPacked (s : State) (va : Long) (len : Nat) : Prop :=
  ∃ bs, bs.length = packedLen len ∧ s.shows va bs ∧ packedValue len bs = none

/-- A length above 31, or a source that is no packed string, the first one first. -/
def State.badPair (s : State) (a : Long) (n : Nat) (b : Long) (m : Nat) : Prop :=
  31 < n ∨ 31 < m ∨ (n ≤ 31 ∧ m ≤ 31 ∧ (s.notPacked a n ∨ ∃ x, s.packed a n x ∧ s.notPacked b m))

/-- Storing bytes in a destination string goes from `s` to `s'`. -/
def State.stores (s : State) (va : Long) (bs : List Byte) (s' : State) : Prop :=
  ∃ dest s1, destBytes va bs.length s = .ok dest s1 ∧ Machine.putBytes (dest.zip bs) s1 = .ok ⟨⟩ s'

/-- The packed string of `len` digits that a value is stored as. -/
def packedImage (len : Nat) (v : Int) : List Byte := packedBytes len (decide (v < 0)) (digitsOf len v.natAbs)

/-- Registers and condition codes of a decimal result of `len` digits, R932. -/
def State.decimal (s : State) (regs : List Long) (len : Nat) (v : Int) (c : Bool) : State :=
  (s.withRegs regs).withCC (decide (v < 0 ∧ v.natAbs % 10 ^ len ≠ 0)) (decide (v.natAbs % 10 ^ len = 0))
    (decide (10 ^ len ≤ v.natAbs)) c

/-- The end of an instruction that has stored the value `v` in `len` digits: a trap of type 6 where digits were lost and DV is set. -/
def State.decimalDone (s : State) (regs : List Long) (len : Nat) (v : Int) : Out :=
  .next ((s.decimal regs len v false).trappedIf (decide (10 ^ len ≤ v.natAbs) && s.dv) 6)

/-- An edit as 47_decimal.md R951 describes it: digits not consumed, leading zeros to supply, fill and sign characters, the
characters put so far, N, Z, V, C. -/
structure EditText where
  digits : List Nat
  zeros : Nat
  fill : Byte
  sign : Byte
  text : List Byte
  n : Bool
  z : Bool
  v : Bool
  c : Bool

def EditText.put (x : EditText) (b : Byte) : EditText := { x with text := x.text ++ [b] }

/-- The next digit; none is the reserved operand fault. -/
def EditText.next (x : EditText) : Option (Nat × EditText) :=
  if 0 < x.zeros then some (0, { x with zeros := x.zeros - 1 })
  else match x.digits with
    | [] => none
    | d :: ds => if d ≤ 9 then some (d, { x with digits := ds }) else none

/-- One digit of EO$MOVE or EO$FLOAT. -/
def EditText.digit (float : Bool) (x : EditText) : Option EditText :=
  match x.next with
  | none => none
  | some (d, x) =>
    let x := if float && d != 0 && !x.c then x.put x.sign else x
    let x := if d = 0 then x else { x with c := true, z := false }
    some (x.put (if x.c then BitVec.ofNat 8 (0x30 + d) else x.fill))

/-- `k` times. -/
def repeated {α : Type} (f : α → Option α) : Nat → α → Option α
  | 0, x => some x
  | k + 1, x => (f x).bind (repeated f k)

/-- Characters `i` and up, `k` of them, replaced by fill. -/
def EditText.blank (x : EditText) (i k : Nat) : EditText :=
  { x with text := x.text.take i ++ List.replicate k x.fill ++ x.text.drop (i + k) }

/-- The operators without an operand byte, R952. -/
def EditText.plain (x : EditText) (op : Nat) : Option EditText :=
  if op = 0x01 then some { (if x.c then x else x.put x.sign) with c := true }
  else if op = 0x02 then some { x with c := false }
  else if op = 0x03 then some { x with c := true }
  else if op = 0x04 then some (x.put x.sign)
  else if 0x81 ≤ op ∧ op ≤ 0x8F then some { x with text := x.text ++ List.replicate (op - 0x80) x.fill }
  else if 0x91 ≤ op ∧ op ≤ 0x9F then repeated (EditText.digit false) (op - 0x90) x
  else if 0xA1 ≤ op ∧ op ≤ 0xAF then repeated (EditText.digit true) (op - 0xA0) x
  else none

/-- The operators with one, R952. -/
def EditText.withByte (x : EditText) (op : Nat) (ch : Byte) : Option EditText :=
  let len := ch.toNat
  if op = 0x40 then some { x with fill := ch }
  else if op = 0x41 then some { x with sign := ch }
  else if op = 0x42 then some (if x.n then x else { x with sign := ch })
  else if op = 0x43 then some (if x.n then { x with sign := ch } else x)
  else if op = 0x44 then some (x.put (if x.c then ch else x.fill))
  else if op = 0x45 then
    if len = 0 ∨ x.text.length < len then none else some (if x.z then x.blank (x.text.length - len) len else x)
  else if op = 0x46 then
    if len = 0 ∨ x.text.length < len then none else some (if x.z then x.blank (x.text.length - len) 1 else x)
  else if 31 < len then none
  else if x.digits.length ≤ len then some { x with zeros := if x.digits.length < len then len - x.digits.length else x.zeros }
  else
    let lost := x.digits.take (x.digits.length - len)
    if lost.all (· ≤ 9) then
      some (if lost.all (· == 0) then { x with digits := x.digits.drop (x.digits.length - len) }
        else { x with digits := x.digits.drop (x.digits.length - len), z := false, c := true, v := true })
    else none

/-- A pattern carried out up to its EO$END: the end state and the pattern bytes before EO$END. -/
def EditText.run : List Byte → EditText → Option (EditText × Nat)
  | [], _ => none
  | b :: rest, x =>
    if b = 0 then if x.digits = [] ∧ x.zeros = 0 then some ({ x with n := x.n && !x.z }, 0) else none
    else if 0x40 ≤ b.toNat ∧ b.toNat ≤ 0x47 then
      match rest with
      | [] => none
      | ch :: rest => (x.withByte b.toNat ch).bind fun y => (EditText.run rest y).map fun r => (r.1, r.2 + 2)
    else (x.plain b.toNat).bind fun y => (EditText.run rest y).map fun r => (r.1, r.2 + 1)

/-- The state an edit starts from. -/
def EditText.start (digits : List Nat) (minus : Bool) : EditText :=
  ⟨digits, 0, 0x20, if minus then 0x2D else 0x20, [], minus, true, false, false⟩

/-! ### Miscellaneous and system instructions -/

/-- The processor takes a 4-bit step of CRC, 48_misc.md R968. -/
def crcStep (table : Nat → Long) (x : Long) : Long := (x >>> 4) ^^^ table (x.toNat % 16)

/-- What REI asks of the PSL it pops, 49_system.md R985. -/
def ReiLegal (old new : Long) : Prop :=
  field old 24 2 ≤ field new 24 2
    ∧ (new.getLsbD 26 = true → old.getLsbD 26 = true ∧ field new 24 2 = 0 ∧ field new 16 5 ≠ 0)
    ∧ (field new 16 5 ≠ 0 → field new 24 2 = 0)
    ∧ field new 24 2 ≤ field new 22 2
    ∧ field new 16 5 ≤ field old 16 5
    ∧ new &&& 0x3020FF00 = 0
    ∧ (new.getLsbD 31 = true → new &&& 0x0C0000E0 = 0 ∧ field new 24 2 = 3)

/-- What the interval clock and the time-of-year clock do with a value `v` written, 11_processor_registers.md R170 to R175. -/
def ClockRegisters (s : State) (v : Long) : Prop :=
  (∃ x, readReg 0x18 s = .ok x s ∧ x.getLsbD 31 = s.clock.err ∧ x.getLsbD 7 = s.clock.int ∧ x.getLsbD 6 = s.clock.ie
    ∧ x.getLsbD 0 = s.clock.run ∧ x &&& 0x7FFFFF3E = 0)
  ∧ (∃ t, writeReg 0x18 v s = .ok ⟨⟩ t ∧ t.clock.ie = v.getLsbD 6 ∧ t.clock.run = v.getLsbD 0 ∧ t.clock.nicr = s.clock.nicr
    ∧ t.clock.todr = s.clock.todr ∧ t.r = s.r ∧ t.psl = s.psl ∧ t.mem = s.mem
    ∧ (v.getLsbD 5 = false ∨ v.getLsbD 0 = true → t.clock.icr = (if v.getLsbD 4 then s.clock.nicr else s.clock.icr)
      ∧ t.clock.int = (s.clock.int && !v.getLsbD 7) ∧ t.clock.err = (s.clock.err && !v.getLsbD 31))
    ∧ (v.getLsbD 5 = true → v.getLsbD 0 = false → ∀ x, x = (if v.getLsbD 4 then s.clock.nicr else s.clock.icr) →
      (x ≠ 0xFFFFFFFF → t.clock.icr = x + 1 ∧ t.clock.int = (s.clock.int && !v.getLsbD 7)
        ∧ t.clock.err = (s.clock.err && !v.getLsbD 31))
      ∧ (x = 0xFFFFFFFF → t.clock.icr = s.clock.nicr ∧ t.clock.int = true
        ∧ t.clock.err = ((s.clock.err && !v.getLsbD 31) || (s.clock.int && !v.getLsbD 7)))))
  ∧ (∃ t, writeReg 0x19 v s = .ok ⟨⟩ t ∧ t.clock = { s.clock with nicr := v } ∧ t.r = s.r ∧ t.mem = s.mem)
  ∧ readReg 0x19 s = .error (.exc reservedOperand) s ∧ readReg 0x1A s = .ok s.clock.icr s
  ∧ (s.hasTodr = true → ∃ t, writeReg 0x1B v s = .ok ⟨⟩ t ∧ readReg 0x1B t = .ok v t ∧ t.r = s.r ∧ t.mem = s.mem)
  ∧ (s.hasTodr = false → writeReg 0x1B v s = .ok ⟨⟩ s ∧ readReg 0x1B s = .ok 0 s)

/-- What the console registers do with a value `v` written, 11_processor_registers.md R180 to R183, R200 to R203. -/
def ConsoleRegisters (s : State) (v : Long) : Prop :=
  (∃ t x, writeReg 0x20 v s = .ok ⟨⟩ t ∧ t.term = { s.term with rx := ⟨s.term.rx.ready, v.getLsbD 6⟩ } ∧ t.mem = s.mem
    ∧ readReg 0x20 t = .ok x t ∧ x.getLsbD 7 = s.term.rx.ready ∧ x.getLsbD 6 = v.getLsbD 6 ∧ x &&& 0xFFFFFF3F = 0)
  ∧ (∃ t x, writeReg 0x22 v s = .ok ⟨⟩ t ∧ t.term = { s.term with tx := ⟨s.term.tx.ready, v.getLsbD 6⟩ } ∧ t.mem = s.mem
    ∧ readReg 0x22 t = .ok x t ∧ x.getLsbD 7 = s.term.tx.ready ∧ x.getLsbD 6 = v.getLsbD 6 ∧ x &&& 0xFFFFFF3F = 0)
  ∧ (s.term.rx.ready = true →
    readReg 0x21 s = .ok s.term.rxdb { s with term := { s.term with rx := { s.term.rx with ready := false } } })
  ∧ writeReg 0x21 v s = .error (.exc reservedOperand) s ∧ readReg 0x23 s = .error (.exc reservedOperand) s
  ∧ (s.term.tx.ready = true → field v 8 4 = 0 → s.is750 = true ∨ s.v780.command = false →
    writeReg 0x23 v s = .ok ⟨⟩ { s with
      term := { s.term with tx := { s.term.tx with ready := false } }, sent := s.sent ++ [.char 0 (v.setWidth 8)] })
  ∧ (s.is750 = true → (field v 8 4 ≠ 0 ∧ field v 8 4 ≠ 15) ∨ (field v 8 4 = 15 ∧ 4 < field v 0 8) →
    writeReg 0x23 v s = .error (.exc reservedOperand) s)
  ∧ (s.is750 = true → field v 8 4 = 15 → field v 0 8 = 4 → ∃ t, writeReg 0x23 v s = .ok ⟨⟩ t
    ∧ t.v750 = { s.v750 with coldStart := false } ∧ t.term.tx.ready = false ∧ t.sent = s.sent)
  ∧ (s.is750 = true →
    (∃ t x, writeReg 0x1C v s = .ok ⟨⟩ t ∧ readReg 0x1C t = .ok x t ∧ x.getLsbD 7 = s.v750.storeRx.ready
      ∧ x.getLsbD 6 = v.getLsbD 6 ∧ x &&& 0xFFFFFF3F = 0)
    ∧ (∃ t x, writeReg 0x1E v s = .ok ⟨⟩ t ∧ readReg 0x1E t = .ok x t ∧ x.getLsbD 7 = s.v750.storeTx.ready
      ∧ x.getLsbD 6 = v.getLsbD 6 ∧ x &&& 0xFFFFFF3F = 0 ∧ t.sent = (if v.getLsbD 0 then s.sent ++ [.lineBreak] else s.sent))
    ∧ (∃ t, writeReg 0x1F v s = .ok ⟨⟩ t ∧ t.v750 = { s.v750 with storeTx := { s.v750.storeTx with ready := false } }
      ∧ t.sent = s.sent ++ [.storage (v.setWidth 8)]))

/-- What the error and diagnostic registers of the VAX-11/750 do with a value `v` written, 11_processor_registers.md R210 to R217;
those of the other processor do not exist, R131. -/
def ErrorRegisters750 (s : State) (v : Long) : Prop :=
  readReg 0x17 s = .ok s.v750.mcsr s
  ∧ (∃ t, writeReg 0x26 v s = .ok ⟨⟩ t ∧ readReg 0x26 t = .ok ((s.v750.mcesr &&& ~~~ v.setWidth 4).setWidth 32) t
    ∧ readReg 0x17 t = .ok (s.v750.mcsr &&& (if v.getLsbD 3 then 0xFFFFFFF0 else 0xFFFFFFFF)
        &&& (if v.getLsbD 2 then 0xFFFFF0FF else 0xFFFFFFFF)) t)
  ∧ (∃ t, writeReg 0x24 v s = .ok ⟨⟩ t ∧ readReg 0x24 t = .ok (v &&& 0xF) t)
  ∧ (∃ t, writeReg 0x25 v s = .ok ⟨⟩ t ∧ readReg 0x25 t = .ok (v &&& 1) t)
  ∧ (∃ t u x, writeReg 0x27 v s = .ok ⟨⟩ t ∧ readReg 0x27 t = .ok x u ∧ x &&& 0xFFFFFFFE = v &&& 0xE)
  ∧ (readReg 0x37 s = .ok 0 s ∧ ∃ t, writeReg 0x37 v s = .ok ⟨⟩ t ∧ t.sent = s.sent ++ [.unibusInit 0] ∧ t.v750.ubReqs = []
    ∧ t.v750.lock = false ∧ t = { s with v750 := t.v750, sent := t.sent })
  ∧ (readReg 0x1D s = .ok (s.v750.csrd.setWidth 32) { s with v750 := { s.v750 with storeRx := { s.v750.storeRx with ready := false } } }
    ∧ writeReg 0x1D v s = .error (.exc reservedOperand) s)
  ∧ (s.mm.mapen = false → Sparse.wfFrom 0 s.tb = true →
    ∃ t, writeReg 0x3B v s = .ok ⟨⟩ t ∧ readReg 0x3B t = .ok v t ∧ t = { s with tb := t.tb }
      ∧ ∀ p, p ≠ s.mm.p0br.toNat / 512 → Sparse.get t.tb p = Sparse.get s.tb p)
  ∧ ∀ n ∈ [0x28, 0x29, 0x2C, 0x2D, 0x30, 0x31, 0x32, 0x33, 0x34, 0x35, 0x36, 0x3C],
      readReg n s = .error (.exc reservedOperand) s ∧ writeReg n v s = .error (.exc reservedOperand) s

/-- The same for the registers of the VAX-11/780, 11_processor_registers.md R230 to R247: what is written reads back, and nothing
else comes of it; SBIQC writes a quadword of zeros. -/
def Registers780 (s : State) (v : Long) : Prop :=
  (∃ t, writeReg 0x2C v s = .ok ⟨⟩ t ∧ readReg 0x2C t = .ok v t ∧ t = { s with v780 := { s.v780 with wcsa := v } })
  ∧ (∃ t, writeReg 0x30 v s = .ok ⟨⟩ t ∧ readReg 0x30 t = .ok v t ∧ t = { s with v780 := { s.v780 with sbifs := v } })
  ∧ (∃ t, writeReg 0x32 v s = .ok ⟨⟩ t ∧ readReg 0x32 t = .ok v t ∧ t = { s with v780 := { s.v780 with sbisc := v } })
  ∧ (∃ t, writeReg 0x33 v s = .ok ⟨⟩ t ∧ readReg 0x33 t = .ok v t ∧ t = { s with v780 := { s.v780 with sbimt := v } })
  ∧ (∃ t, writeReg 0x34 v s = .ok ⟨⟩ t ∧ readReg 0x34 t = .ok v t ∧ t = { s with v780 := { s.v780 with sbier := v } })
  ∧ (∃ t x, writeReg 0x3C v s = .ok ⟨⟩ t ∧ readReg 0x3C t = .ok (v &&& 0x1FFF) t ∧ t = { s with v780 := { s.v780 with mbrk := x } })
  ∧ (∃ t x, writeReg 0x28 v s = .ok ⟨⟩ t ∧ readReg 0x28 t = .ok x t ∧ x.getLsbD 15 = (v.getLsbD 15 && s.cfg.hasFPA)
    ∧ field x 0 8 = (if s.cfg.hasFPA then 1 else 0) ∧ x.getLsbD 31 = (x.getLsbD 29 || x.getLsbD 28 || x.getLsbD 27)
    ∧ x &&& 0x47FF7F00 = 0)
  ∧ (∃ t x, writeReg 0x29 v s = .ok ⟨⟩ t ∧ readReg 0x29 t = .ok x t ∧ x &&& 0xFF00FE00 = 0 ∧ t = { s with v780 := t.v780 }
    ∧ (v.getLsbD 31 = true → field x 16 8 = field v 16 8) ∧ (v.getLsbD 15 = true → field x 0 9 = field v 0 9))
  ∧ (readReg 0x2D s = .ok (s.cfg.present.setWidth 32) s
    ∧ ∃ t, writeReg 0x2D v s = .ok ⟨⟩ t ∧ t = { s with v780 := { s.v780 with wcsa := t.v780.wcsa }, draw := t.draw })
  ∧ ((∃ x n, readReg 0x31 s = .ok x { s with draw := n }) ∧ writeReg 0x31 v s = .error (.exc reservedOperand) s)
  ∧ (readReg 0x35 s = .ok s.v780.sbita s ∧ writeReg 0x35 v s = .error (.exc reservedOperand) s)
  ∧ readReg 0x36 s = .error (.exc reservedOperand) s
  ∧ (∀ pa, pa = (v &&& 0x3FFFFFF8).toNat →
    (s.hasRam pa = true → s.MemOk → ∃ t, writeReg 0x36 v s = .ok ⟨⟩ t ∧ (∀ k < 8, t.byte (pa + k) = 0)
      ∧ (∀ a, ¬ (pa ≤ a ∧ a < pa + 8) → t.byte a = s.byte a)
      ∧ t = { s with mem := t.mem, badMem := t.badMem, v780 := (s.answered pa 8).v780 })
    ∧ (s.hasRam pa = false → ∃ t, writeReg 0x36 v s = .ok ⟨⟩ t ∧ t.pend.memWrite = true ∧ t = { s with pend := t.pend }))
  ∧ ∀ n ∈ [0x17, 0x1C, 0x1D, 0x1E, 0x1F, 0x24, 0x25, 0x26, 0x27, 0x37, 0x3B],
      readReg n s = .error (.exc reservedOperand) s ∧ writeReg n v s = .error (.exc reservedOperand) s

end Sys2Proof.Machine

section

open Sys2Proof Sys2Proof.Machine

/-- Written-out instruction bytes decode to the instructions they stand for. The specifier layout is the one the spec
marks as general knowledge (notes/assumptions/18.md). -/
def Obligations.EncodedWordsDecode : Prop :=
  decode (streamOf [0xC1, 0x05, 0xAE, 0xFC, 0x51]) =
      .ok (.addl3 ⟨none, .lit 5⟩ ⟨none, .dispB 14 0xFC⟩ ⟨none, .reg 1⟩) 5
    ∧ decode (streamOf [0x9E, 0x42, 0xA1, 0x04, 0x50]) = .ok (.movab ⟨some 2, .dispB 1 4⟩ ⟨none, .reg 0⟩) 5
    ∧ decode (streamOf [0xD0, 0x8F, 0x78, 0x56, 0x34, 0x12, 0x9F, 0x00, 0x20, 0x00, 0x00]) =
      .ok (.movl ⟨none, .imm 0x12345678⟩ ⟨none, .absolute 0x2000⟩) 11
    ∧ decode (streamOf [0x11, 0xFE]) = .ok (.brb 0xFE) 2
    ∧ decode (streamOf [0xFD, 0x60, 0x61, 0x75]) = .ok (.addh2 ⟨none, .regDef 1⟩ ⟨none, .autoDec 5⟩) 4

/-- Decoding the encoding of a well-formed instruction gives it back. Which of two names of an opcode is decoded is the
model's choice (notes/assumptions/19.md). -/
def Obligations.DecodeOfEncodeIsCanonical : Prop :=
  ∀ (i : Instr) (rest : List Byte), i.wellFormed = true →
    decode (streamOf (encode i ++ rest)) = .ok i.canonical (encode i).length

/-- Unassigned opcodes raise the reserved instruction fault. That a fault undoes everything is the spec's decision D35,
that the V780 clears FPD its decision for I12 (notes/assumptions/13.md, notes/assumptions/25.md). -/
def Obligations.UnassignedOpcodesFault : Prop :=
  ∀ s : State,
    (∀ b, s.fetch 0 = some b → b ∈ ([0x57, 0x59, 0x5A, 0x5B, 0x77, 0xFE, 0xFF] : List Byte) →
      runInstruction s = outcomeOf (enterException reservedInstruction s.pc (s.fetched 1).clearedFpd))
    ∧ (∀ c, s.fetch 0 = some 0xFD → s.fetch 1 = some c →
      (∀ i : Instr, i.opcode ≠ 0xFD + 256 * c.toNat) →
      runInstruction s = outcomeOf (enterException reservedInstruction s.pc (s.fetched 2).clearedFpd))
    ∧ (s.cfg.hasGH = false → ∀ i : Instr, 256 ≤ i.opcode →
      exec i s = outcomeOf (enterException reservedInstruction s.pc s.clearedFpd))

/-- Instructions that share an opcode have one meaning. -/
def Obligations.SharedOpcodesAgree : Prop :=
  ∀ (i : Instr) (s : State), exec i.canonical s = exec i s

/-- A step runs the decoded instruction. The list of events is the model's own; what reading instruction bytes under
FORCE ERR or in ECC Disable Mode leaves is the model's choice (notes/assumptions/10.md, notes/assumptions/60.md). -/
def Obligations.StepRunsDecodedInstruction : Prop :=
  ∀ (s : State) (i : Instr) (n : Nat),
    s.events = [] → s.run = .running → s.pend.doubleWrite = false → s.pend.machineCheck = none → s.pend.trap = none →
    s.pend.consoleHalt = false → deliverable s = [] → s.tp = false → s.cm = false → pslLegal s.psl = true →
    ∀ u : State, u = { s with psl := putBit s.psl 30 s.t, v780 := if s.is750 then s.v780 else { s.v780 with accErr := 0 } } →
    decode u.stream = .ok i n →
    step s = exec i (u.fetched n) ∧ (u.fetchQuiet = true → u.fetched n = u)
      ∧ u.fetched n = { u with v750 := (u.fetched n).v750, v780 := (u.fetched n).v780, draw := (u.fetched n).draw }

/-- Order of recognition between two instructions. The list of events is the model's own; that a double write error
halts before everything else at the boundary, and when a machine check counts as still being handled, is the
model's choice (notes/assumptions/10.md, notes/assumptions/57.md). -/
def Obligations.BoundaryOrder : Prop :=
  ∀ s : State, s.events = [] → s.run = .running →
    (s.pend.doubleWrite = true →
      ∃ t, step s = .next t ∧ t.run = .halted .doubleWriteError ∧ t.r = s.r ∧ t.psl = s.psl ∧ t.mem = s.mem)
    ∧ (∀ c, s.pend.doubleWrite = false → s.pend.machineCheck = some c →
      step s = finish { s with pend := { s.pend with machineCheck := none } }
        ((do
          if s.is750 then noteCause c
          machineCheck : Meaning) { s with pend := { s.pend with machineCheck := none } }))
    ∧ (∀ c, s.pend.doubleWrite = false → s.pend.machineCheck = some c → s.pend.inMachineCheck ≠ 0 → s.ipl = 31 →
      ∃ t, step s = .next t ∧ t.run = .halted .doubleError ∧ t.pc = s.pc ∧ t.mem = s.mem)
    ∧ (s.pend.doubleWrite = false → s.pend.machineCheck = none →
      (∀ k, s.pend.trap = some k → step s = outcomeOf (enterTrap k s))
      ∧ (s.pend.trap = none →
        (s.pend.consoleHalt = true →
          ∃ t, step s = .next t ∧ t.run = .halted .consoleHalt ∧ t.r = s.r ∧ t.psl = s.psl ∧ t.mem = s.mem)
        ∧ (s.pend.consoleHalt = false → deliverable s ≠ [] → step s = outcomeOf (takeInterrupt (deliverable s) s))
        ∧ (s.pend.consoleHalt = false → deliverable s = [] → s.tp = true → step s = outcomeOf (enterTrace s))))

/-- Only requests above the current IPL interrupt, the highest first. Which conditions are requests is read from the
register rules (notes/assumptions/32.md). -/
def Obligations.OnlyHigherRequestsInterrupt : Prop :=
  ∀ s : State,
    (deliverable s ≠ [] ↔ ∃ r ∈ requests s, s.ipl < r.level)
    ∧ ∀ r ∈ deliverable s, r ∈ requests s ∧ s.ipl < r.level ∧ ∀ q ∈ requests s, q.level ≤ r.level

/-- An interrupt is entered at its level in kernel mode. That an interrupt saves the true condition codes is the spec's
decision D45 of R1030 note 3 and R1060 (notes/assumptions/29.md). -/
def Obligations.InterruptEntry : Prop :=
  ∀ (s s1 s2 s3 : State) (offset ipl : Nat) (v : Long),
    ipl < 32 → readVector offset s = .ok (some v) s1 → field v 0 2 = 1 ∨ (field v 0 2 = 0 ∧ seriousOffset offset = false) →
    s2 = (if s1.is then s1 else
      State.setReg { s1 with sp := s1.sp.put s1.cur (s1.reg 14) } 14 (if field v 0 2 = 1 then s1.sp.isp else
        (s1.sp.put s1.cur (s1.reg 14)).ksp)) →
    pushHandler (s1.is || field v 0 2 == 1) [s.psl, s.pc] s2 = .ok ⟨⟩ s3 →
    ∃ t, enterInterrupt offset ipl s = .ok true t ∧ t.pc = v &&& 0xFFFFFFFC ∧ t.ipl = ipl ∧ t.cur = 0 ∧ t.prv = 0
      ∧ t.is = (s.is || field v 0 2 == 1) ∧ t.psl &&& 0xF800FFFF = 0 ∧ t.mem = s3.mem ∧ t.sp = s3.sp
      ∧ ∀ n : Reg, n ≠ 15 → t.reg n = s3.reg n

/-- An exception is entered in kernel mode through its vector. That the saved condition codes of a fault or an abort
are free is the rule's, that those of a trace fault are the true ones the model's reading; that a frame is tested
whole before it is pushed is the spec's decision D44 (notes/assumptions/29.md, notes/assumptions/30.md). -/
def Obligations.ExceptionEntry : Prop :=
  (∀ (s s1 s2 s3 : State) (e : Entry) (v : Long),
    e.ipl = none → readVector e.offset s = .ok (some v) s1 → field v 0 2 = 1 ∨ (field v 0 2 = 0 ∧ seriousOffset e.offset = false) →
    s2 = (if s1.is then s1 else
      State.setReg { s1 with sp := s1.sp.put s1.cur (s1.reg 14) } 14 (if field v 0 2 = 1 then s1.sp.isp else
        (s1.sp.put s1.cur (s1.reg 14)).ksp)) →
    pushHandler (s1.is || field v 0 2 == 1) ([e.saved, e.pc] ++ e.params) s2 = .ok ⟨⟩ s3 →
    ∃ t, enter e s = .ok true t ∧ t.pc = v &&& 0xFFFFFFFC ∧ t.cur = 0 ∧ t.prv = s.cur
      ∧ t.ipl = (if field v 0 2 = 1 then 31 else s.ipl) ∧ t.is = (s.is || field v 0 2 == 1)
      ∧ t.psl &&& 0xF800FFFF = 0 ∧ t.mem = s3.mem ∧ t.sp = s3.sp ∧ ∀ n : Reg, n ≠ 15 → t.reg n = s3.reg n)
  ∧ (∀ (s s1 s3 t : State) (e : Entry) (v : Long) (x : Exc),
    readVector e.offset s = .ok (some v) s1 → field v 0 2 = 0 → seriousOffset e.offset = false → s1.is = false →
    pushHandler false ([e.saved, e.pc] ++ e.params)
      (State.setReg { s1 with sp := s1.sp.put s1.cur (s1.reg 14) } 14 (s1.sp.put s1.cur (s1.reg 14)).ksp) = .error (.exc x) s3 →
    x.offset ≠ 4 → enterSerious 0x08 [] e s.psl s3 = .ok ⟨⟩ t → enter e s = .ok false t)
  ∧ (∀ (s s1 s2 : State) (offset : Nat) (params : List Long) (e : Entry) (old v : Long),
    readVector offset s = .ok (some v) s1 → field v 0 2 = 1 →
    pushHandler true ([e.saved, e.pc] ++ params) (s1.setReg 14 s1.sp.isp) = .ok ⟨⟩ s2 →
    ∃ t, enterSerious offset params e old s = .ok ⟨⟩ t ∧ t.pc = v &&& 0xFFFFFFFC ∧ t.cur = 0 ∧ t.prv = field old 24 2
      ∧ t.ipl = 31 ∧ t.is = true ∧ t.psl &&& 0xF800FFFF = 0 ∧ t.mem = s2.mem
      ∧ (∀ n : Reg, n ≠ 15 → n ≠ 13 → t.reg n = s2.reg n) ∧ (offset ≠ 8 → t.reg 13 = s2.reg 13 ∧ t.sp = s2.sp))
  ∧ (∀ (s : State) (x : Exc) (pc : Long), x.offset ≠ 4 ∨ s.doubleCheck = false →
    ∃ (saved : Long) (n : Nat), saved &&& 0xBFFFFFF0 = s.psl &&& 0xBFFFFFF0 ∧ saved.getLsbD 30 = (x.abort && s.tp)
      ∧ ∀ b t, enter ⟨x.offset, x.params, pc, saved, none⟩ { s with draw := n } = .ok b t → enterException x pc s = .ok ⟨⟩ t)
  ∧ (∀ (s t : State) (code : Nat) (b : Bool),
    enter ⟨0x34, [BitVec.ofNat 32 code], s.pc, s.psl, none⟩ { s with pend := { s.pend with trap := none } } = .ok b t →
    enterTrap code s = .ok ⟨⟩ t)
  ∧ (∀ (s t : State) (b : Bool),
    enter ⟨0x28, [], s.pc, s.psl &&& 0xBFFFFFFF, none⟩ { s with psl := s.psl &&& 0xBFFFFFFF } = .ok b t → enterTrace s = .ok ⟨⟩ t)

/-- A pushed frame lies on the stack, the last longword lowest. That a frame is tested whole before it is pushed is the
spec's decision D44 (notes/assumptions/30.md). -/
def Obligations.FramePushedOnStack : Prop :=
  ∀ (s : State) (mode : Nat) (ws : List Long),
    s.mm.mapen = false → s.MemOk → 0 < ws.length → 4 * ws.length ≤ leftInPage (s.reg 14 - BitVec.ofNat 32 (4 * ws.length)) →
    s.during = [] → (∀ k < 4 * ws.length, place s ((s.reg 14 - BitVec.ofNat 32 (4 * ws.length)).toNat % 2 ^ s.cfg.paw + k) = .ram) →
    s.bad ((s.reg 14 - BitVec.ofNat 32 (4 * ws.length)).toNat % 2 ^ s.cfg.paw) (4 * ws.length) = false →
    ∃ t, pushFrame mode ws s = .ok ⟨⟩ t ∧ t.reg 14 = s.reg 14 - BitVec.ofNat 32 (4 * ws.length)
      ∧ (∀ n : Reg, n ≠ 14 → t.reg n = s.reg n) ∧ t.psl = s.psl
      ∧ (∀ k < ws.length, leNat (ramBytes t.mem ((t.reg 14).toNat % 2 ^ s.cfg.paw + 4 * k) 4) =
          (ws.getD (ws.length - 1 - k) 0).toNat)
      ∧ ∀ a, ¬ ((t.reg 14).toNat % 2 ^ s.cfg.paw ≤ a ∧ a < (t.reg 14).toNat % 2 ^ s.cfg.paw + 4 * ws.length) →
          t.byte a = s.byte a

/-- BPT and XFC raise their faults. -/
def Obligations.BreakpointAndCustomerFault : Prop :=
  ∀ s : State, s.fpd = false →
    exec .bpt s = outcomeOf (enterException ⟨false, 0x2C, []⟩ s.pc s)
    ∧ exec .xfc s = outcomeOf (enterException ⟨false, 0x14, []⟩ s.pc s)
    ∧ ((∃ t, enterException ⟨false, 0x2C, []⟩ s.pc s = .ok ⟨⟩ t) → ∃ t, exec .bpt s = .next t)
    ∧ ((∃ t, enterException ⟨false, 0x14, []⟩ s.pc s = .ok ⟨⟩ t) → ∃ t, exec .xfc s = .next t)

/-- Privileged instructions fault outside kernel mode. That a fault undoes everything is the spec's decision D35, that
the V780 clears FPD its decision for I12 (notes/assumptions/13.md, notes/assumptions/25.md). -/
def Obligations.PrivilegedInstructionsTrap : Prop :=
  ∀ (s : State) (a b : Opnd), s.cur ≠ 0 →
    ∀ i ∈ ([.halt, .ldpctx, .svpctx, .mtpr a b, .mfpr a b] : List Instr),
      exec i s = outcomeOf (enterException reservedInstruction s.pc s.clearedFpd)

/-- The machine right after reset. That the state after reset is running, not halted, is the model's choice
(notes/assumptions/16.md). -/
def Obligations.ResetState : Prop :=
  State.reset.pc = 0 ∧ State.reset.psl = 0x041F0000 ∧ State.reset.mm.mapen = false ∧ State.reset.sisr = 0
    ∧ State.reset.astlvl = 4 ∧ State.reset.pme = false ∧ State.reset.clock.ie = false ∧ State.reset.clock.run = false
    ∧ State.reset.term.rx = ⟨false, false⟩ ∧ State.reset.term.tx = ⟨true, false⟩ ∧ State.reset.run = .running
    ∧ State.reset.v750.tbdr = 0 ∧ State.reset.v750.mcesr = 0 ∧ State.reset.v750.mcsr = 0 ∧ State.reset.v750.caer = 0
    ∧ State.reset.MemOk ∧ State.reset.badMem = [] ∧ State.reset.PslOk

/-- Every step keeps memory in its canonical form. The value an unlisted byte reads as is the model's choice
(notes/assumptions/7.md). -/
def Obligations.StepKeepsMemoryCanonical : Prop :=
  ∀ s t : State, s.MemOk → step s = .next t → t.MemOk

/-- Every step keeps the invariants of the PSL. The list of events is the model's own; only a console deposit, typed or in a
command file, could break these invariants (notes/assumptions/10.md, notes/assumptions/45.md, notes/assumptions/65.md). -/
def Obligations.StepKeepsPslLegal : Prop :=
  ∀ s t : State, s.PslOk → step s = .next t → t.PslOk

/-- No step changes the configuration. That the installation is a field of the state is the model's choice
(notes/assumptions/8.md). -/
def Obligations.StepKeepsConfiguration : Prop :=
  ∀ s t : State, step s = .next t → t.cfg = s.cfg

/-- Main memory and device registers read back what was written. The layout of the UNIBUS map is the spec's decision
D19, that of register C its decision D53; what other diagnostic bits do is the model's choice
(notes/assumptions/35.md, notes/assumptions/40.md, notes/assumptions/60.md, notes/assumptions/62.md). -/
def Obligations.MemoryReadsBackWhatWasWritten : Prop :=
  (∀ (s : State) (u u' : Use) (pa n : Nat) (v : Octa), s.MemOk → n ≤ 16 → s.goodRam pa n →
    ∃ t, physWrite u pa n v s = .ok ⟨⟩ t ∧ t.MemOk
      ∧ physRead u' pa n t = .ok (BitVec.ofNat 128 (v.toNat % 2 ^ (8 * n))) t
      ∧ (∀ k < n, t.byte (pa + k) = (v >>> (8 * k)).setWidth 8)
      ∧ (∀ a, ¬ (pa ≤ a ∧ a < pa + n) → t.byte a = s.byte a)
      ∧ t.r = s.r ∧ t.psl = s.psl ∧ t.sp = s.sp ∧ t.mm = s.mm)
  ∧ (∀ (s : State) (pa : Nat) (w : Long), s.during = [] →
    (place s pa = .device (.memoryCsr750 0) → pa % 4 = 0 → RegisterAnswers s pa w s.v750.csr0 (csr0After s.v750.csr0 w))
    ∧ (place s pa = .device (.memoryCsr750 1) → pa % 4 = 0 → s.v750.checkCopied = false →
      RegisterAnswers s pa w s.v750.csr1 (w &&& 0x1EFFFE7F))
    ∧ (place s pa = .device (.memoryCsr750 2) → pa % 4 = 0 → ∃ x, RegisterAnswers s pa w x x)
    ∧ (∀ i, place s pa = .device (.ubMap750 i) → pa % 4 = 0 → Sparse.wfFrom 0 s.v750.ubMap = true →
      RegisterAnswers s pa w (Sparse.get s.v750.ubMap i) (w &&& 0x82607FFF))
    ∧ (∀ k, place s pa = .device (.memory780 k 8) → k < s.v780.mems.length → s.is750 = false → pa % 4 = 0 →
      ∀ x, x = (s.v780.mems.getD k (MemCtl.powerUp 0)).regC →
        RegisterAnswers s pa w x ((x &&& 0xBFFFFFFF &&& ~~~ (w &&& 0x30000000)) ||| (w &&& 0x40000000)))
    ∧ (∀ k off, place s pa = .device (.uba k off) → k < s.v780.ubas.length → s.is750 = false → pa % 4 = 0 → ∀ a,
      a = s.v780.ubas.getD k Uba.powerUp →
      (off = 4 → w &&& 3 = 0 → RegisterAnswers s pa w a.cr (w &&& 0x7C00007E))
      ∧ (off = 8 → RegisterAnswers s pa w a.sr (a.sr &&& ~~~ (w &&& 0x7FF)))
      ∧ (∀ i < 496, off = 0x800 + 4 * i → Sparse.wfFrom 0 a.map = true → RegisterAnswers s pa w (Sparse.get a.map i) w))
    ∧ (∀ k off, place s pa = .device (.mba k off) → k < s.mbas.length → pa % 4 = 0 → ∀ m,
      m = s.mbas.getD k (Mba.powerUp (!s.is750)) → m.busy = false → m.mmm = false →
      (off = 4 → w &&& 9 = 0 → ∃ x, RegisterAnswers s pa w x (w &&& (if s.is750 then 0x16 else 6)))
      ∧ (off = 8 → m.attn = false → RegisterAnswers s pa w m.sr (m.sr &&& ~~~ (w &&& (if s.is750 then 0x208F7FFA else 0x600F3FFF))))
      ∧ (off = 0xC → RegisterAnswers s pa w (m.var.setWidth 32) (w &&& 0x1FFFF))
      ∧ (off = 0x10 → ∃ x, RegisterAnswers s pa w x ((w &&& 0xFFFF) ||| w <<< 16))
      ∧ (∀ i < 256, off = 0x800 + 4 * i → Sparse.wfFrom 0 m.map = true →
        RegisterAnswers s pa w (Sparse.get m.map i) (w &&& (if s.is750 then 0x80007FFF else 0x801FFFFF)))))

/-- Addresses without mapping, of system space and of process space, and the M bit that a write sets. That the entry in
memory is used whatever the translation buffer holds is the spec's decision D24 of R381; the write bit of a fault in
reaching a process entry is that of the intended access, where R362 and R366 differ, and whether the system entry behind
a process entry gets its M bit too is free: the model's choice (notes/assumptions/12.md, notes/assumptions/26.md,
notes/assumptions/28.md). -/
def Obligations.SystemTranslation : Prop :=
  ∀ (s : State) (va : Long) (write : Bool) (mode : Nat),
    (s.mm.mapen = false → translate va write mode s = .ok (match s.cfg.cpu with
      | .v780 => va.toNat % 2 ^ 30
      | .v750 => va.toNat % 2 ^ 24) s)
    ∧ (s.mm.mapen = true → (s.is750 = true → field s.v750.tbdr 0 2 ≠ 3) →
    (field va 30 2 = 3 → check va write mode s = .error (.exc ⟨false, 0x20, [va, (if write then 4 else 0) + 1]⟩) s)
    ∧ (field va 30 2 < 2 →
      (s.beyondTable va → check va write mode s = .error (.exc ⟨false, 0x20, [va, (if write then 4 else 0) + 1]⟩) s)
      ∧ (¬ s.beyondTable va → field (s.processPteVa va) 30 2 ≠ 2 ∨ s.mm.slr.toNat ≤ field (s.processPteVa va) 9 21 →
        check va write mode s = .error (.exc ⟨false, 0x20, [va, (if write then 4 else 0) + 3]⟩) s)
      ∧ (∀ x, s.tableEntry va x →
        (accessAllowed (field x 27 4) 0 false = false →
          check va write mode s = .error (.exc ⟨false, 0x20, [va, (if write then 4 else 0) + 2]⟩) s)
        ∧ (accessAllowed (field x 27 4) 0 false = true → x.getLsbD 31 = false →
          check va write mode s = .error (.exc ⟨false, 0x24, [va, (if write then 4 else 0) + 2]⟩) s))
      ∧ (∀ pa, s.entryAt va pa →
        (accessAllowed (field (s.longAt pa) 27 4) mode write = false →
          check va write mode s = .error (.exc ⟨false, 0x20, [va, if write then 4 else 0]⟩) s)
        ∧ (accessAllowed (field (s.longAt pa) 27 4) mode write = true → (s.longAt pa).getLsbD 31 = false →
          check va write mode s = .error (.exc ⟨false, 0x24, [va, if write then 4 else 0]⟩) s)
        ∧ (accessAllowed (field (s.longAt pa) 27 4) mode write = true → (s.longAt pa).getLsbD 31 = true →
          ∃ w, check va write mode s = .ok ⟨field (s.longAt pa) 0 s.cfg.pfnw * 512 + field va 0 9, some w⟩ s ∧ w.ptePa = pa)
        ∧ (accessAllowed (field (s.longAt pa) 27 4) mode true = true → (s.longAt pa).getLsbD 31 = true → s.MemOk →
          pa % 4 = 0 → SetsModify s va mode pa [systemPte s (s.processPteVa va)])))
    ∧ (field va 30 2 = 2 →
    (s.mm.slr.toNat ≤ field va 9 21 →
      check va write mode s = .error (.exc ⟨false, 0x20, [va, (if write then 4 else 0) + 1]⟩) s)
    ∧ (field va 9 21 < s.mm.slr.toNat → s.goodRam (systemPte s va) 4 →
      field (s.longAt (systemPte s va)) 27 4 ≠ 1 →
      (accessAllowed (field (s.longAt (systemPte s va)) 27 4) mode write = false →
        check va write mode s = .error (.exc ⟨false, 0x20, [va, if write then 4 else 0]⟩) s)
      ∧ (accessAllowed (field (s.longAt (systemPte s va)) 27 4) mode write = true →
        (s.longAt (systemPte s va)).getLsbD 31 = false →
        check va write mode s = .error (.exc ⟨false, 0x24, [va, if write then 4 else 0]⟩) s)
      ∧ (accessAllowed (field (s.longAt (systemPte s va)) 27 4) mode write = true →
        (s.longAt (systemPte s va)).getLsbD 31 = true →
        ∃ w, check va write mode s = .ok ⟨field (s.longAt (systemPte s va)) 0 s.cfg.pfnw * 512 + field va 0 9, some w⟩ s
          ∧ w.ptePa = systemPte s va)
      ∧ (accessAllowed (field (s.longAt (systemPte s va)) 27 4) mode true = true →
        (s.longAt (systemPte s va)).getLsbD 31 = true → s.MemOk → SetsModify s va mode (systemPte s va) []))))

/-- The protection codes. -/
def Obligations.ProtectionCodes : Prop :=
  ∀ code < 16, code ≠ 1 → ∀ mode < 4,
    (accessAllowed code mode true = true → accessAllowed code mode false = true)
    ∧ (∀ m < mode, ∀ w, accessAllowed code mode w = true → accessAllowed code m w = true)
    ∧ (accessAllowed code mode false = true ↔
        (mode, code) ∈ ([(0, 2), (0, 3), (0, 4), (0, 5), (0, 6), (0, 7), (0, 8), (0, 9), (0, 10), (0, 11), (0, 12), (0, 13),
          (0, 14), (0, 15), (1, 4), (1, 5), (1, 6), (1, 7), (1, 8), (1, 9), (1, 10), (1, 11), (1, 12), (1, 13), (1, 14),
          (1, 15), (2, 4), (2, 8), (2, 9), (2, 10), (2, 11), (2, 12), (2, 13), (2, 14), (2, 15), (3, 4), (3, 12), (3, 13),
          (3, 14), (3, 15)] : List (Nat × Nat)))
    ∧ (accessAllowed code mode true = true ↔
        (mode, code) ∈ ([(0, 2), (0, 4), (0, 5), (0, 6), (0, 8), (0, 9), (0, 10), (0, 12), (0, 13), (0, 14), (1, 4), (1, 5),
          (1, 8), (1, 9), (1, 12), (1, 13), (2, 4), (2, 8), (2, 12), (3, 4)] : List (Nat × Nat)))

/-- Register, literal and immediate operands. -/
def Obligations.RegisterLiteralAndImmediateOperands : Prop :=
  ∀ (s : State) (t : DT),
    (∀ n : Reg, n.val + t.regs ≤ 15 →
      rd t ⟨none, .reg n⟩ s = .ok ((s.regs4 n).setWidth _) (s.setReg 15 (s.pc + 1))
      ∧ wr t ⟨none, .reg n⟩ s = .ok (.reg n) (s.setReg 15 (s.pc + 1))
      ∧ md t ⟨none, .reg n⟩ s = .ok (.reg n, (s.regs4 n).setWidth _) (s.setReg 15 (s.pc + 1)))
    ∧ (∀ v : BitVec 6, t ∈ [.b, .w, .l, .q, .o] → rd t ⟨none, .lit v⟩ s = .ok (v.setWidth _) (s.setReg 15 (s.pc + 1)))
    ∧ (∀ v : Octa, rd t ⟨none, .imm v⟩ s = .ok (v.setWidth _) (s.setReg 15 (s.pc + 1 + BitVec.ofNat 32 t.len)))
    ∧ (∀ (n : Reg) (v : Byte), store .b (.reg n) v s = .ok ⟨⟩ (s.setReg n ((s.reg n &&& 0xFFFFFF00) ||| v.setWidth 32)))
    ∧ (∀ (n : Reg) (v : Word16), store .w (.reg n) v s = .ok ⟨⟩ (s.setReg n ((s.reg n &&& 0xFFFF0000) ||| v.setWidth 32)))
    ∧ (∀ (n : Reg) (v : Long), store .l (.reg n) v s = .ok ⟨⟩ (s.setReg n v) ∧ store .f (.reg n) v s = .ok ⟨⟩ (s.setReg n v))
    ∧ (∀ (n : Reg) (v : Quad) (u : State), n.val ≤ 13 →
      u = (s.setReg n (v.setWidth 32)).setReg (Reg.plus n 1) ((v >>> 32).setWidth 32) →
      store .q (.reg n) v s = .ok ⟨⟩ u ∧ store .d (.reg n) v s = .ok ⟨⟩ u ∧ store .g (.reg n) v s = .ok ⟨⟩ u)
    ∧ (∀ (n : Reg) (v : Octa) (u : State), n.val ≤ 11 →
      u = (((s.setReg n (v.setWidth 32)).setReg (Reg.plus n 1) ((v >>> 32).setWidth 32)).setReg (Reg.plus n 2)
        ((v >>> 64).setWidth 32)).setReg (Reg.plus n 3) ((v >>> 96).setWidth 32) →
      store .o (.reg n) v s = .ok ⟨⟩ u ∧ store .h (.reg n) v s = .ok ⟨⟩ u)
    ∧ (∀ v : BitVec 6, t ∈ [.f, .d, .g, .h] → ∃ r : BitVec t.bits, rd t ⟨none, .lit v⟩ s = .ok r (s.setReg 15 (s.pc + 1))
      ∧ reservedFloat t r = false ∧ (floatValue t r).rat = (8 + v.toNat % 8 : Nat) / 16 * (2 : ℚ) ^ (v.toNat / 8))

/-- Addresses of the memory modes. -/
def Obligations.MemoryModeAddresses : Prop :=
  ∀ (s : State) (u : Use) (t : DT) (n : Reg) (b : Byte) (w : Word16) (l : Long),
    modeAddress u t (.absolute l) s = .ok l (s.setReg 15 (s.pc + 5))
    ∧ (n ≠ 15 →
      modeAddress u t (.regDef n) s = .ok (s.reg n) (s.setReg 15 (s.pc + 1))
      ∧ modeAddress u t (.autoDec n) s = .ok (s.reg n - BitVec.ofNat 32 t.len)
          ((s.setReg 15 (s.pc + 1)).setReg n (s.reg n - BitVec.ofNat 32 t.len))
      ∧ modeAddress u t (.autoInc n) s = .ok (s.reg n)
          ((s.setReg 15 (s.pc + 1)).setReg n (s.reg n + BitVec.ofNat 32 t.len))
      ∧ modeAddress u t (.dispB n b) s = .ok (s.reg n + b.signExtend 32) (s.setReg 15 (s.pc + 2))
      ∧ modeAddress u t (.dispW n w) s = .ok (s.reg n + w.signExtend 32) (s.setReg 15 (s.pc + 3))
      ∧ modeAddress u t (.dispL n l) s = .ok (s.reg n + l) (s.setReg 15 (s.pc + 5))
      ∧ (∀ x s', pointer u (s.reg n + b.signExtend 32) (s.setReg 15 (s.pc + 2)) = .ok x s' →
          modeAddress u t (.dispBDef n b) s = .ok x s')
      ∧ (∀ x s', pointer u (s.reg n + w.signExtend 32) (s.setReg 15 (s.pc + 3)) = .ok x s' →
          modeAddress u t (.dispWDef n w) s = .ok x s')
      ∧ (∀ x s', pointer u (s.reg n + l) (s.setReg 15 (s.pc + 5)) = .ok x s' →
          modeAddress u t (.dispLDef n l) s = .ok x s')
      ∧ ∀ x s', pointer u (s.reg n) (s.setReg 15 (s.pc + 1)) = .ok x s' →
          modeAddress u t (.autoIncDef n) s = .ok x (s'.setReg n (s.reg n + 4)))
    ∧ modeAddress u t (.dispB 15 b) s = .ok (s.pc + 2 + b.signExtend 32) (s.setReg 15 (s.pc + 2))
    ∧ modeAddress u t (.dispW 15 w) s = .ok (s.pc + 3 + w.signExtend 32) (s.setReg 15 (s.pc + 3))
    ∧ modeAddress u t (.dispL 15 l) s = .ok (s.pc + 5 + l) (s.setReg 15 (s.pc + 5))
    ∧ (∀ (x : Reg) (m : Mode) (a : Long) (s' : State), x ≠ 15 → checkBase x m s = .ok ⟨⟩ s →
      modeAddress u t m (s.setReg 15 (s.pc + 1)) = .ok a s' →
      address u t ⟨some x, m⟩ s = .ok (a + BitVec.ofNat 32 t.len * s'.reg x) s')
    ∧ (∀ x s', pointer u (s.pc + 2 + b.signExtend 32) (s.setReg 15 (s.pc + 2)) = .ok x s' →
      modeAddress u t (.dispBDef 15 b) s = .ok x s')
    ∧ (∀ x s', pointer u (s.pc + 3 + w.signExtend 32) (s.setReg 15 (s.pc + 3)) = .ok x s' →
      modeAddress u t (.dispWDef 15 w) s = .ok x s')
    ∧ (∀ x s', pointer u (s.pc + 5 + l) (s.setReg 15 (s.pc + 5)) = .ok x s' → modeAddress u t (.dispLDef 15 l) s = .ok x s')

/-- Register and literal modes fault where an address is needed. The case of a register is deduced
(notes/assumptions/22.md). -/
def Obligations.RegistersHaveNoAddress : Prop :=
  ∀ (s : State) (n x : Reg) (v : BitVec 6) (o dst : Opnd), s.fpd = false →
    o = ⟨none, .reg n⟩ ∨ o = ⟨none, .lit v⟩ ∨ o = ⟨some x, .reg n⟩ ∨ o = ⟨some x, .lit v⟩ →
    (∀ i ∈ ([.movab o dst, .movaw o dst, .moval o dst, .movaf o dst, .movaq o dst, .movad o dst, .movag o dst,
        .pushab o, .pushaw o, .pushal o, .pushaf o, .pushaq o, .pushad o, .pushag o, .jmp o, .jsb o] : List Instr),
      exec i s = outcomeOf (enterException ⟨false, 0x1C, []⟩ s.pc s))
    ∧ (s.cfg.hasGH = true → ∀ i ∈ ([.movao o dst, .movah o dst, .pushao o, .pushah o] : List Instr),
      exec i s = outcomeOf (enterException ⟨false, 0x1C, []⟩ s.pc s))

/-- Operand evaluation changes only the PC and the stepped register. When the M bit is set, and that cycles of other
agents are events, is the model's choice (notes/assumptions/26.md, notes/assumptions/56.md). -/
def Obligations.OperandsChangeOnlySteppedRegisters : Prop :=
  ∀ (s s' : State) (t : DT) (o : Opnd),
    (∀ v, rd t o s = .ok v s' → s.ReadFrame s' (stepped o) ∧ s'.psl = s.psl)
    ∧ (∀ d, wr t o s = .ok d s' → s.ReadFrame s' (stepped o) ∧ s'.psl = s.psl)
    ∧ (∀ a, adr t o s = .ok a s' → s.ReadFrame s' (stepped o) ∧ s'.psl = s.psl)
    ∧ (∀ b, fld o s = .ok b s' → s.ReadFrame s' (stepped o) ∧ s'.psl = s.psl)
    ∧ (∀ v, md t o s = .ok v s' →
        s.WriteFrame s' (stepped o) ∧ s'.psl = s.psl ∧ (s.mm.mapen = false → s.during = [] → s'.mem = s.mem)
        ∧ ((o.idx = none ∧ ∃ n, o.mode = .reg n) → s'.mem = s.mem)
        ∧ ∀ a s1, s.MemOk → s.during = [] → address (modifyUse t) t o s = .ok a s1 → (∀ p ∈ s1.touched a, place s1 p = .ram) →
          ∀ b, b ∉ s1.touched a → s'.byte b = s.byte b)

/-- A store changes only its destination. When the M bit is set, and that cycles of other agents are events, is the
model's choice (notes/assumptions/26.md, notes/assumptions/56.md). -/
def Obligations.StoresChangeOnlyTheirDestination : Prop :=
  ∀ (s s' : State) (t : DT) (v : BitVec t.bits),
    (∀ n, store t (.reg n) v s = .ok ⟨⟩ s' →
      s' = { s with r := s'.r } ∧ ∀ k : Reg, (∀ j < t.regs, k ≠ Reg.plus n j) → s'.reg k = s.reg k)
    ∧ (∀ sp : Span, s.MemOk → sp.inRam t.len s → store t (.place sp) v s = .ok ⟨⟩ s' →
      s.WriteFrame s' [] ∧ s'.psl = s.psl ∧ s'.pc = s.pc ∧ ∀ a, ¬ sp.has t.len a → s'.byte a = s.byte a)
    ∧ (∀ (va : Long) (sp : Span) (s1 : State), s.MemOk → s.during = [] → memDest va t.len s = .ok sp s1 → sp.inRam t.len s1 →
      store t (.mem va) v s = .ok ⟨⟩ s' →
      s.WriteFrame s' [] ∧ s'.psl = s.psl ∧ s'.pc = s.pc
      ∧ ((∀ p ∈ s.touched va, place s p = .ram) → ∀ a, a ∉ s.touched va → ¬ sp.has t.len a → s'.byte a = s.byte a))

/-- Moves, negations, complements and integer conversions. -/
def Obligations.UnaryIntegerResults : Prop :=
  ∀ e ∈ unaryRows, ∀ (src dst : Opnd) (s s1 s2 s3 : State) (x : BitVec e.ts.bits) (d : Dest),
    Ready e.op s → rd e.ts src (past e.op s) = .ok x s1 → wr e.td dst s1 = .ok d s2 →
    store e.td d (e.r x) s2 = .ok ⟨⟩ s3 →
    exec (e.mkI src dst) s = .next ((s3.flags (e.r x) (e.v x) (e.c x s3.ccC)).trappedIf (e.v x && s3.iv) 1)

/-- Two-operand integer arithmetic and logic. -/
def Obligations.TwoOperandIntegerResults : Prop :=
  ∀ e ∈ binaryRows, ∀ (src dst : Opnd) (s s1 s2 s3 : State) (a b : BitVec e.t.bits) (d : Dest),
    Ready e.op2 s → rd e.t src (past e.op2 s) = .ok a s1 → md e.t dst s1 = .ok (d, b) s2 →
    store e.t d (e.r a b) s2 = .ok ⟨⟩ s3 → e.trap a b = none → (e.v a b && s3.iv) = false →
    exec (e.mk2 src dst) s = .next (s3.flags (e.r a b) (e.v a b) (e.c a b s3.ccC))

/-- Three-operand integer arithmetic and logic. -/
def Obligations.ThreeOperandIntegerResults : Prop :=
  ∀ e ∈ binaryRows, ∀ (src1 src2 dst : Opnd) (s s1 s2 s3 s4 : State) (a b : BitVec e.t.bits) (d : Dest),
    Ready e.op3 s → rd e.t src1 (past e.op3 s) = .ok a s1 → rd e.t src2 s1 = .ok b s2 → wr e.t dst s2 = .ok d s3 →
    store e.t d (e.r a b) s3 = .ok ⟨⟩ s4 → e.trap a b = none → (e.v a b && s4.iv) = false →
    exec (e.mk3 src1 src2 dst) s = .next (s4.flags (e.r a b) (e.v a b) (e.c a b s4.ccC))

/-- Increments, decrements and the operations with carry. -/
def Obligations.IncrementDecrementAndCarryResults : Prop :=
  (∀ e ∈ stepRows, ∀ (dst : Opnd) (s s1 s2 : State) (x : BitVec e.t.bits) (d : Dest),
    Ready e.op s → md e.t dst (past e.op s) = .ok (d, x) s1 → store e.t d (e.r x) s1 = .ok ⟨⟩ s2 →
    (e.v x && s2.iv) = false →
    exec (e.mkI dst) s = .next (s2.flags (e.r x) (e.v x) (e.c x)))
  ∧ (∀ (src dst : Opnd) (s s1 s2 s3 : State) (a b : Long) (d : Dest),
    Ready 0xD8 s → rd .l src (past 0xD8 s) = .ok a s1 → md .l dst s1 = .ok (d, b) s2 →
    store .l d (b + a + bitL s2.ccC) s2 = .ok ⟨⟩ s3 →
    (decide (b.toInt + a.toInt + s2.ccC.toInt ≠ (b + a + bitL s2.ccC).toInt) && s3.iv) = false →
    exec (.adwc src dst) s = .next (s3.flags (b + a + bitL s2.ccC)
      (decide (b.toInt + a.toInt + s2.ccC.toInt ≠ (b + a + bitL s2.ccC).toInt))
      (decide (2 ^ 32 ≤ b.toNat + a.toNat + s2.ccC.toNat))))
  ∧ (∀ (src dst : Opnd) (s s1 s2 s3 : State) (a b : Long) (d : Dest),
    Ready 0xD9 s → rd .l src (past 0xD9 s) = .ok a s1 → md .l dst s1 = .ok (d, b) s2 →
    store .l d (b - a - bitL s2.ccC) s2 = .ok ⟨⟩ s3 →
    (decide (b.toInt - a.toInt - s2.ccC.toInt ≠ (b - a - bitL s2.ccC).toInt) && s3.iv) = false →
    exec (.sbwc src dst) s = .next (s3.flags (b - a - bitL s2.ccC)
      (decide (b.toInt - a.toInt - s2.ccC.toInt ≠ (b - a - bitL s2.ccC).toInt))
      (decide (b.toNat < a.toNat + s2.ccC.toNat))))

/-- Integer overflow and division by zero trap after the result is stored. -/
def Obligations.IntegerTraps : Prop :=
  (∀ e ∈ binaryRows, ∀ (src1 src2 dst : Opnd) (s s1 s2 s3 s4 : State) (a b : BitVec e.t.bits) (d : Dest),
    Ready e.op3 s → rd e.t src1 (past e.op3 s) = .ok a s1 → rd e.t src2 s1 = .ok b s2 → wr e.t dst s2 = .ok d s3 →
    store e.t d (e.r a b) s3 = .ok ⟨⟩ s4 →
    (e.trap a b = some 2 → exec (e.mk3 src1 src2 dst) s = .next ((s4.flags (e.r a b) (e.v a b) (e.c a b s4.ccC)).trapped 2))
    ∧ (e.trap a b = none → e.v a b = true → s4.iv = true →
      exec (e.mk3 src1 src2 dst) s = .next ((s4.flags (e.r a b) (e.v a b) (e.c a b s4.ccC)).trapped 1)))
  ∧ (∀ e ∈ binaryRows, ∀ (src dst : Opnd) (s s1 s2 s3 : State) (a b : BitVec e.t.bits) (d : Dest),
    Ready e.op2 s → rd e.t src (past e.op2 s) = .ok a s1 → md e.t dst s1 = .ok (d, b) s2 →
    store e.t d (e.r a b) s2 = .ok ⟨⟩ s3 →
    (e.trap a b = some 2 → exec (e.mk2 src dst) s = .next ((s3.flags (e.r a b) (e.v a b) (e.c a b s3.ccC)).trapped 2))
    ∧ (e.trap a b = none → e.v a b = true → s3.iv = true →
      exec (e.mk2 src dst) s = .next ((s3.flags (e.r a b) (e.v a b) (e.c a b s3.ccC)).trapped 1)))
  ∧ (∀ e ∈ unaryRows, ∀ (src dst : Opnd) (s s1 s2 s3 : State) (x : BitVec e.ts.bits) (d : Dest),
    Ready e.op s → rd e.ts src (past e.op s) = .ok x s1 → wr e.td dst s1 = .ok d s2 →
    store e.td d (e.r x) s2 = .ok ⟨⟩ s3 → e.v x = true → s3.iv = true →
    exec (e.mkI src dst) s = .next ((s3.flags (e.r x) (e.v x) (e.c x s3.ccC)).trapped 1))
  ∧ (∀ e ∈ stepRows, ∀ (dst : Opnd) (s s1 s2 : State) (x : BitVec e.t.bits) (d : Dest),
    Ready e.op s → md e.t dst (past e.op s) = .ok (d, x) s1 → store e.t d (e.r x) s1 = .ok ⟨⟩ s2 → e.v x = true → s2.iv = true →
    exec (e.mkI dst) s = .next ((s2.flags (e.r x) (e.v x) (e.c x)).trapped 1))
  ∧ (∀ (src dst : Opnd) (s s1 s2 s3 : State) (a b : Long) (d : Dest),
    (Ready 0xD8 s → rd .l src (past 0xD8 s) = .ok a s1 → md .l dst s1 = .ok (d, b) s2 →
      store .l d (b + a + bitL s2.ccC) s2 = .ok ⟨⟩ s3 →
      b.toInt + a.toInt + s2.ccC.toInt ≠ (b + a + bitL s2.ccC).toInt → s3.iv = true →
      exec (.adwc src dst) s = .next ((s3.flags (b + a + bitL s2.ccC) true
        (decide (2 ^ 32 ≤ b.toNat + a.toNat + s2.ccC.toNat))).trapped 1))
    ∧ (Ready 0xD9 s → rd .l src (past 0xD9 s) = .ok a s1 → md .l dst s1 = .ok (d, b) s2 →
      store .l d (b - a - bitL s2.ccC) s2 = .ok ⟨⟩ s3 →
      b.toInt - a.toInt - s2.ccC.toInt ≠ (b - a - bitL s2.ccC).toInt → s3.iv = true →
      exec (.sbwc src dst) s = .next ((s3.flags (b - a - bitL s2.ccC) true
        (decide (b.toNat < a.toNat + s2.ccC.toNat))).trapped 1)))
  ∧ (∀ (cnt src dst : Opnd) (s s1 s2 s3 s4 : State) (n : Byte) (d : Dest),
    (∀ x r : Long, Ready 0x78 s → rd .b cnt (past 0x78 s) = .ok n s1 → rd .l src s1 = .ok x s2 →
      wr .l dst s2 = .ok d s3 → 0 ≤ n.toInt → r = BitVec.ofInt 32 (x.toInt * 2 ^ n.toInt.toNat) → store .l d r s3 = .ok ⟨⟩ s4 →
      r.toInt ≠ x.toInt * 2 ^ n.toInt.toNat → s4.iv = true →
      exec (.ashl cnt src dst) s = .next ((s4.flags r true false).trapped 1))
    ∧ (∀ x r : Quad, Ready 0x79 s → rd .b cnt (past 0x79 s) = .ok n s1 → rd .q src s1 = .ok x s2 →
      wr .q dst s2 = .ok d s3 → 0 ≤ n.toInt → r = BitVec.ofInt 64 (x.toInt * 2 ^ n.toInt.toNat) → store .q d r s3 = .ok ⟨⟩ s4 →
      r.toInt ≠ x.toInt * 2 ^ n.toInt.toNat → s4.iv = true →
      exec (.ashq cnt src dst) s = .next ((s4.flags r true false).trapped 1)))
  ∧ (∀ (add : Opnd) (n : Reg) (s s1 : State) (la : Option Dest) (a r : Word16),
    Ready 0x58 s → n ≠ 15 → rdAt .w add (past 0x58 s) = .ok (la, a) s1 → la ≠ some (.reg n) →
    r = (s1.reg n).setWidth 16 + a → ((s1.reg n).setWidth 16 : Word16).toInt + a.toInt ≠ r.toInt → s1.iv = true →
    exec (.adawi add ⟨none, .reg n⟩) s =
      .next ((State.flags ((s1.setReg 15 (s1.pc + 1)).putRegs .w n r) r true
        (decide (2 ^ 16 ≤ ((s1.reg n).setWidth 16 : Word16).toNat + a.toNat))).trapped 1))
  ∧ (∀ (add sum : Opnd) (s s1 s2 s3 s4 s5 : State) (la : Option Dest) (a : Word16) (va : Long) (sp : Span) (w : Octa) (r : Word16),
    Ready 0x58 s → rdAt .w add (past 0x58 s) = .ok (la, a) s1 → wr .w sum s1 = .ok (.mem va) s2 →
    overlap la (.mem va) = false → va.getLsbD 0 = false → memDest va 2 s2 = .ok sp s3 → place s3 sp.a0 = .ram →
    s3.v750.lock = false → s3.v780.interlock = false →
    readSpan .interlocked sp 2 s3 = .ok w s4 → r = w.setWidth 16 + a →
    writeSpan .interlocked sp 2 (r.setWidth 128) s4 = .ok ⟨⟩ s5 →
    (w.setWidth 16 : Word16).toInt + a.toInt ≠ r.toInt → s5.iv = true →
    exec (.adawi add sum) s =
      .next ((s5.flags r true (decide (2 ^ 16 ≤ (w.setWidth 16 : Word16).toNat + a.toNat))).trapped 1))
  ∧ (∀ (divr divd quo rem : Opnd) (s s1 s2 s3 s4 s5 s6 s7 s8 : State) (a : Long) (b : Quad) (d1 d2 e1 e2 : Dest),
    Ready 0x7B s → rdPlain .l divr (past 0x7B s) = .ok a s1 → rdPlain .q divd s1 = .ok b s2 →
    wrPlain .l quo s2 = .ok d1 s3 → wrPlain .l rem s3 = .ok d2 s4 → prepare .l d1 s4 = .ok e1 s5 → prepare .l d2 s5 = .ok e2 s6 →
    storePlain .l e1 (b.setWidth 32) s6 = .ok ⟨⟩ s7 → storePlain .l e2 0 s7 = .ok ⟨⟩ s8 →
    (a = 0 → exec (.ediv divr divd quo rem) s = .next ((s8.flags (b.setWidth 32 : Long) true false).trapped 2))
    ∧ (a ≠ 0 → b.toInt.tdiv a.toInt < -2 ^ 31 ∨ 2 ^ 31 ≤ b.toInt.tdiv a.toInt →
      (s8.iv = true → exec (.ediv divr divd quo rem) s = .next ((s8.flags (b.setWidth 32 : Long) true false).trapped 1))
      ∧ (s8.iv = false → exec (.ediv divr divd quo rem) s = .next (s8.flags (b.setWidth 32 : Long) true false))))

/-- Compares and tests set the condition codes and write nothing. -/
def Obligations.CompareAndTestResults : Prop :=
  (∀ e ∈ compareRows, ∀ (src1 src2 : Opnd) (s s1 s2 : State) (a b : BitVec e.t.bits),
    Ready e.op s → rd e.t src1 (past e.op s) = .ok a s1 → rd e.t src2 s1 = .ok b s2 →
    exec (e.mkI src1 src2) s = .next (s2.withCC (e.n a b) (e.z a b) false (e.c a b s2.ccC))
    ∧ s.ReadFrame (s2.withCC (e.n a b) (e.z a b) false (e.c a b s2.ccC)) (stepped src1 ++ stepped src2))
  ∧ (∀ e ∈ testRows, ∀ (src : Opnd) (s s1 : State) (a : BitVec e.2.2.bits),
    Ready e.1 s → rd e.2.2 src (past e.1 s) = .ok a s1 →
    exec (e.2.1 src) s = .next (s1.withCC a.msb (decide (a = 0)) false false)
    ∧ s.ReadFrame (s1.withCC a.msb (decide (a = 0)) false false) (stepped src))

/-- Shifts, rotate, extended multiply and divide. -/
def Obligations.ShiftAndExtendedResults : Prop :=
  (∀ (cnt src dst : Opnd) (s s1 s2 s3 s4 : State) (n : Byte) (x : Long) (d : Dest) (r : Long),
    Ready 0x78 s → rd .b cnt (past 0x78 s) = .ok n s1 → rd .l src s1 = .ok x s2 → wr .l dst s2 = .ok d s3 →
    r = (if 0 ≤ n.toInt then BitVec.ofInt 32 (x.toInt * 2 ^ n.toInt.toNat) else BitVec.ofInt 32 (x.toInt / 2 ^ (-n.toInt).toNat)) →
    store .l d r s3 = .ok ⟨⟩ s4 → ∀ v, v = decide (0 ≤ n.toInt ∧ r.toInt ≠ x.toInt * 2 ^ n.toInt.toNat) →
    exec (.ashl cnt src dst) s = .next ((s4.flags r v false).trappedIf (v && s4.iv) 1))
  ∧ (∀ (cnt src dst : Opnd) (s s1 s2 s3 s4 : State) (n : Byte) (x : Quad) (d : Dest) (r : Quad),
    Ready 0x79 s → rd .b cnt (past 0x79 s) = .ok n s1 → rd .q src s1 = .ok x s2 → wr .q dst s2 = .ok d s3 →
    r = (if 0 ≤ n.toInt then BitVec.ofInt 64 (x.toInt * 2 ^ n.toInt.toNat) else BitVec.ofInt 64 (x.toInt / 2 ^ (-n.toInt).toNat)) →
    store .q d r s3 = .ok ⟨⟩ s4 → ∀ v, v = decide (0 ≤ n.toInt ∧ r.toInt ≠ x.toInt * 2 ^ n.toInt.toNat) →
    exec (.ashq cnt src dst) s = .next ((s4.flags r v false).trappedIf (v && s4.iv) 1))
  ∧ (∀ (cnt src dst : Opnd) (s s1 s2 s3 s4 : State) (n : Byte) (x : Long) (d : Dest),
    Ready 0x9C s → rd .b cnt (past 0x9C s) = .ok n s1 → rd .l src s1 = .ok x s2 → wr .l dst s2 = .ok d s3 →
    store .l d ((x <<< (n.toInt % 32).toNat) ||| (x >>> (32 - (n.toInt % 32).toNat))) s3 = .ok ⟨⟩ s4 →
    exec (.rotl cnt src dst) s =
      .next (s4.flags ((x <<< (n.toInt % 32).toNat) ||| (x >>> (32 - (n.toInt % 32).toNat))) false s4.ccC))
  ∧ (∀ (mulr muld add prod : Opnd) (s s1 s2 s3 s4 s5 : State) (a b e : Long) (d : Dest),
    Ready 0x7A s → rd .l mulr (past 0x7A s) = .ok a s1 → rd .l muld s1 = .ok b s2 → rd .l add s2 = .ok e s3 →
    wr .q prod s3 = .ok d s4 → store .q d (BitVec.ofInt 64 (a.toInt * b.toInt + e.toInt)) s4 = .ok ⟨⟩ s5 →
    exec (.emul mulr muld add prod) s = .next (s5.flags (BitVec.ofInt 64 (a.toInt * b.toInt + e.toInt)) false false))
  ∧ (∀ (divr divd quo rem : Opnd) (s s1 s2 s3 s4 s5 s6 s7 s8 : State) (a : Long) (b : Quad) (d1 d2 e1 e2 : Dest),
    Ready 0x7B s → rdPlain .l divr (past 0x7B s) = .ok a s1 → rdPlain .q divd s1 = .ok b s2 → wrPlain .l quo s2 = .ok d1 s3 →
    wrPlain .l rem s3 = .ok d2 s4 → prepare .l d1 s4 = .ok e1 s5 → prepare .l d2 s5 = .ok e2 s6 →
    ∀ fits, fits = decide (a ≠ 0 ∧ -2 ^ 31 ≤ b.toInt.tdiv a.toInt ∧ b.toInt.tdiv a.toInt < 2 ^ 31) →
    storePlain .l e1 (if fits then BitVec.ofInt 32 (b.toInt.tdiv a.toInt) else b.setWidth 32) s6 = .ok ⟨⟩ s7 →
    storePlain .l e2 (if fits then BitVec.ofInt 32 (b.toInt.tmod a.toInt) else 0) s7 = .ok ⟨⟩ s8 →
    exec (.ediv divr divd quo rem) s =
      .next (((s8.flags (if fits then BitVec.ofInt 32 (b.toInt.tdiv a.toInt) else (b.setWidth 32 : Long)) (!fits) false).trappedIf
        (!fits && s8.iv) 1).trappedIf (decide (a = 0)) 2))

/-- ADAWI adds to an aligned word. Overlapping operands, where the result is a free value, are left out; that an odd
address faults before the sum is read is the model's choice: R517 gives no order (notes/assumptions/48.md). -/
def Obligations.AddAlignedInterlocked : Prop :=
  (∀ (add : Opnd) (n : Reg) (s s1 : State) (la : Option Dest) (a : Word16) (r : Word16),
    Ready 0x58 s → n ≠ 15 → rdAt .w add (past 0x58 s) = .ok (la, a) s1 → la ≠ some (.reg n) →
    r = (s1.reg n).setWidth 16 + a →
    (decide (((s1.reg n).setWidth 16 : Word16).toInt + a.toInt ≠ r.toInt) && s1.iv) = false →
    exec (.adawi add ⟨none, .reg n⟩) s =
      .next (State.flags ((s1.setReg 15 (s1.pc + 1)).putRegs .w n r) r
        (decide (((s1.reg n).setWidth 16 : Word16).toInt + a.toInt ≠ r.toInt))
        (decide (2 ^ 16 ≤ ((s1.reg n).setWidth 16 : Word16).toNat + a.toNat))))
  ∧ (∀ (add sum : Opnd) (s s1 s2 s3 s4 s5 : State) (la : Option Dest) (a : Word16) (va : Long) (sp : Span) (w : Octa) (r : Word16),
    Ready 0x58 s → rdAt .w add (past 0x58 s) = .ok (la, a) s1 → wr .w sum s1 = .ok (.mem va) s2 →
    overlap la (.mem va) = false → va.getLsbD 0 = false → memDest va 2 s2 = .ok sp s3 → place s3 sp.a0 = .ram →
    s3.v750.lock = false → s3.v780.interlock = false →
    readSpan .interlocked sp 2 s3 = .ok w s4 → r = w.setWidth 16 + a →
    writeSpan .interlocked sp 2 (r.setWidth 128) s4 = .ok ⟨⟩ s5 →
    (decide ((w.setWidth 16 : Word16).toInt + a.toInt ≠ r.toInt) && s5.iv) = false →
    exec (.adawi add sum) s =
      .next (s5.flags r (decide ((w.setWidth 16 : Word16).toInt + a.toInt ≠ r.toInt))
        (decide (2 ^ 16 ≤ (w.setWidth 16 : Word16).toNat + a.toNat))))
  ∧ (∀ (add sum : Opnd) (s s1 s2 : State) (la : Option Dest) (a : Word16) (va : Long),
    Ready 0x58 s → rdAt .w add (past 0x58 s) = .ok (la, a) s1 → wr .w sum s1 = .ok (.mem va) s2 →
    va.getLsbD 0 = true →
    exec (.adawi add sum) s = s.turnedAway s2)

/-- Clears, address moves and pushes. -/
def Obligations.ClearMoveAddressAndPushResults : Prop :=
  (∀ e ∈ clearRows, ∀ (dst : Opnd) (s s1 s2 : State) (d : Dest),
    Ready e.1 s → wr e.2.2 dst (past e.1 s) = .ok d s1 → store e.2.2 d 0 s1 = .ok ⟨⟩ s2 →
    exec (e.2.1 dst) s = .next (s2.withCC false true false s2.ccC))
  ∧ (∀ e ∈ moveAddressRows, ∀ (src dst : Opnd) (s s1 s2 s3 : State) (a : Long) (d : Dest),
    Ready e.1 s → adr e.2.2 src (past e.1 s) = .ok a s1 → wr .l dst s1 = .ok d s2 → store .l d a s2 = .ok ⟨⟩ s3 →
    exec (e.2.1 src dst) s = .next (s3.flags a false s3.ccC))
  ∧ (∀ e ∈ pushAddressRows, ∀ (src : Opnd) (s s1 s2 : State) (a : Long),
    Ready e.1 s → adr e.2.2 src (past e.1 s) = .ok a s1 → push [a] s1 = .ok ⟨⟩ s2 →
    exec (e.2.1 src) s = .next (s2.flags a false s2.ccC))
  ∧ (∀ (src : Opnd) (s s1 s2 : State) (x : Long),
    Ready 0xDD s → rd .l src (past 0xDD s) = .ok x s1 → push [x] s1 = .ok ⟨⟩ s2 →
    exec (.pushl src) s = .next (s2.flags x false s2.ccC))

/-- Bit field extraction, comparison and search. -/
def Obligations.BitFieldReads : Prop :=
  (∀ (n : Nat) (v : Long), n ≤ 32 → ∀ i < 32,
    (signExtendField n v).getLsbD i = (if n = 0 then false else if i < n then v.getLsbD i else v.getLsbD (n - 1))) ∧
  (∀ (pos size base dst : Opnd) (s s1 s2 s3 s4 s5 s6 s7 : State) (p : Long) (n : Byte) (b : FieldBase) (d : Dest)
      (f : FieldPlace) (v : Long),
    (Ready 0xEE s → rdPlain .l pos (past 0xEE s) = .ok p s1 → rdPlain .b size s1 = .ok n s2 → fld base s2 = .ok b s3 →
      wr .l dst s3 = .ok d s4 → fieldPlace p n.toNat b s4 = .ok f s5 → fieldRead f s5 = .ok v s6 →
      store .l d (signExtendField n.toNat v) s6 = .ok ⟨⟩ s7 →
      exec (.extv pos size base dst) s = .next (s7.flags (signExtendField n.toNat v) false s7.ccC))
    ∧ (Ready 0xEF s → rdPlain .l pos (past 0xEF s) = .ok p s1 → rdPlain .b size s1 = .ok n s2 → fld base s2 = .ok b s3 →
      wr .l dst s3 = .ok d s4 → fieldPlace p n.toNat b s4 = .ok f s5 → fieldRead f s5 = .ok v s6 →
      store .l d v s6 = .ok ⟨⟩ s7 →
      exec (.extzv pos size base dst) s = .next (s7.flags v false s7.ccC)))
  ∧ (∀ (pos size base src : Opnd) (s s1 s2 s3 s4 s5 s6 : State) (p : Long) (n : Byte) (b : FieldBase) (x : Long)
      (f : FieldPlace) (v : Long),
    (Ready 0xEC s → rdPlain .l pos (past 0xEC s) = .ok p s1 → rdPlain .b size s1 = .ok n s2 → fld base s2 = .ok b s3 →
      rd .l src s3 = .ok x s4 → fieldPlace p n.toNat b s4 = .ok f s5 → fieldRead f s5 = .ok v s6 →
      exec (.cmpv pos size base src) s = .next (s6.withCC (decide ((signExtendField n.toNat v).toInt < x.toInt))
        (decide (signExtendField n.toNat v = x)) false (decide ((signExtendField n.toNat v).toNat < x.toNat))))
    ∧ (Ready 0xED s → rdPlain .l pos (past 0xED s) = .ok p s1 → rdPlain .b size s1 = .ok n s2 → fld base s2 = .ok b s3 →
      rd .l src s3 = .ok x s4 → fieldPlace p n.toNat b s4 = .ok f s5 → fieldRead f s5 = .ok v s6 →
      exec (.cmpzv pos size base src) s =
        .next (s6.withCC (decide (v.toInt < x.toInt)) (decide (v = x)) false (decide (v.toNat < x.toNat)))))
  ∧ (∀ (start size base findpos : Opnd) (s s1 s2 s3 s4 s5 s6 s7 : State) (p : Long) (n : Byte) (b : FieldBase) (d : Dest)
      (f : FieldPlace) (v : Long) (i : Nat),
    i ≤ n.toNat →
    (Ready 0xEA s → rdPlain .l start (past 0xEA s) = .ok p s1 → rdPlain .b size s1 = .ok n s2 → fld base s2 = .ok b s3 →
      wr .l findpos s3 = .ok d s4 → fieldPlace p n.toNat b s4 = .ok f s5 → fieldRead f s5 = .ok v s6 →
      (∀ j < i, v.getLsbD j = false) → (i < n.toNat → v.getLsbD i = true) →
      store .l d (p + BitVec.ofNat 32 i) s6 = .ok ⟨⟩ s7 →
      exec (.ffs start size base findpos) s = .next (s7.withCC false (decide (i = n.toNat)) false false))
    ∧ (Ready 0xEB s → rdPlain .l start (past 0xEB s) = .ok p s1 → rdPlain .b size s1 = .ok n s2 → fld base s2 = .ok b s3 →
      wr .l findpos s3 = .ok d s4 → fieldPlace p n.toNat b s4 = .ok f s5 → fieldRead f s5 = .ok v s6 →
      (∀ j < i, v.getLsbD j = true) → (i < n.toNat → v.getLsbD i = false) →
      store .l d (p + BitVec.ofNat 32 i) s6 = .ok ⟨⟩ s7 →
      exec (.ffc start size base findpos) s = .next (s7.withCC false (decide (i = n.toNat)) false false)))

/-- Where bit fields lie and how INSV writes them. That exactly the bytes that hold the field are referred to is the
spec's decision D31 of R641; that the field is checked for write before it is read is deduced
(notes/assumptions/24.md, notes/assumptions/59.md). -/
def Obligations.BitFieldPlacesAndInsertion : Prop :=
  (∀ (src pos size base : Opnd) (s s1 s2 s3 s4 s5 s6 : State) (x p : Long) (n : Byte) (b : FieldBase) (f : FieldPlace),
    Ready 0xF0 s → rd .l src (past 0xF0 s) = .ok x s1 → rdPlain .l pos s1 = .ok p s2 → rdPlain .b size s2 = .ok n s3 →
    fld base s3 = .ok b s4 → fieldPlace p n.toNat b s4 = .ok f s5 → fieldWrite f x s5 = .ok ⟨⟩ s6 →
    exec (.insv src pos size base) s = .next s6)
  ∧ (∀ (src pos size base : Opnd) (s s1 s2 s3 s4 s5 : State) (x p : Long) (n : Byte) (b : FieldBase) (e : Exc),
    Ready 0xF0 s → rd .l src (past 0xF0 s) = .ok x s1 → rdPlain .l pos s1 = .ok p s2 → rdPlain .b size s2 = .ok n s3 →
    fld base s3 = .ok b s4 → fieldPlace p n.toNat b s4 = .error (.exc e) s5 →
    exec (.insv src pos size base) s = outcomeOf (enterException e s.pc { s5 with r := s.r, psl := s.psl }))
  ∧ (∀ (s : State) (p x : Long) (b : FieldBase), fieldPlace p 0 b s = .ok .empty s
    ∧ fieldRead .empty s = .ok 0 s ∧ fieldWrite .empty x s = .ok ⟨⟩ s)
  ∧ (∀ (s : State) (p : Long) (n : Nat) (r : Reg) (x : Long), n ≤ 32 → p.toNat ≤ 31 → 32 < p.toNat + n → r.val ≤ 13 →
    fieldPlace p n (.reg r) s = .ok (.regs r p.toNat n) s
    ∧ (∃ v, fieldRead (.regs r p.toNat n) s = .ok v s
      ∧ ∀ i < 32, v.getLsbD i = (decide (i < n) && (s.reg (Reg.plus r 1) ++ s.reg r).getLsbD (p.toNat + i)))
    ∧ ∃ lo hi : Long, fieldWrite (.regs r p.toNat n) x s = .ok ⟨⟩ ((s.setReg r lo).setReg (Reg.plus r 1) hi)
      ∧ ∀ j < 64, (hi ++ lo).getLsbD j = if p.toNat ≤ j ∧ j < p.toNat + n then x.getLsbD (j - p.toNat)
          else (s.reg (Reg.plus r 1) ++ s.reg r).getLsbD j)
  ∧ (∀ (s : State) (p : Long) (n : Nat) (r : Reg) (x : Long), p.toNat + n ≤ 32 → 0 < n → p.toNat ≤ 31 →
    fieldPlace p n (.reg r) s = .ok (.regs r p.toNat n) s
    ∧ fieldRead (.regs r p.toNat n) s = .ok ((s.reg r >>> p.toNat) &&& fieldMask 0 n) s
    ∧ fieldWrite (.regs r p.toNat n) x s = .ok ⟨⟩ (s.setReg r (putField (s.reg r) p.toNat n x)))
  ∧ (∀ (s : State) (p : Long) (n : Nat) (r : Reg), 0 < n → 31 < p.toNat →
    fieldPlace p n (.reg r) s = .error (.exc reservedOperand) s)
  ∧ (∀ (s : State) (p : Long) (n : Nat) (b : FieldBase), 32 < n → fieldPlace p n b s = .error (.exc reservedOperand) s)
  ∧ (∀ (s : State) (p a : Long) (n : Nat), 0 < n → n ≤ 32 →
    ∃ k, fieldPlace p n (.mem a) s = .ok (.bytes (a + BitVec.ofInt 32 (p.toInt / 8)) (p.toNat % 8) k n) s
      ∧ p.toNat % 8 + n ≤ 8 * k ∧ 8 * k < p.toNat % 8 + n + 8)
  ∧ (∀ (s s1 : State) (a : Long) (o k n i : Nat) (w : Octa), k ≤ 5 → o + n ≤ 8 * k → n ≤ 32 → i < n →
    memRead .other a k s = .ok w s1 →
    ∃ v, fieldRead (.bytes a o k n) s = .ok v s1 ∧ v.getLsbD i = w.getLsbD (o + i))
  ∧ (∀ (s s1 s2 s3 : State) (a x : Long) (o k n : Nat) (sp : Span) (w y : Octa), o < 8 → n ≤ 32 →
    memDest a k s = .ok sp s1 → readSpan .other sp k s1 = .ok w s2 →
    (∀ j < 128, y.getLsbD j = if o ≤ j ∧ j < o + n then x.getLsbD (j - o) else w.getLsbD j) →
    writeSpan .other sp k y s2 = .ok ⟨⟩ s3 → fieldWrite (.bytes a o k n) x s = .ok ⟨⟩ s3)

/-- Branches. -/
def Obligations.BranchResults : Prop :=
  (∀ e ∈ branchRows, ∀ (d : Byte) (s : State), Ready e.1 s →
    exec (e.2.1 d) s = .next (s.setReg 15
      (if e.2.2 s.ccN s.ccZ s.ccV s.ccC then s.pc + 2 + d.signExtend 32 else s.pc + 2)))
  ∧ (∀ (d : Word16) (s : State), Ready 0x31 s →
    exec (.brw d) s = .next (s.setReg 15 (s.pc + 3 + d.signExtend 32)))
  ∧ (∀ (src : Opnd) (d : Byte) (s s1 : State) (x : Long),
    (Ready 0xE8 s → rd .l src (past 0xE8 s) = .ok x s1 →
      exec (.blbs src d) s =
        .next (s1.setReg 15 (if x.getLsbD 0 = true then s1.pc + 1 + d.signExtend 32 else s1.pc + 1)))
    ∧ (Ready 0xE9 s → rd .l src (past 0xE9 s) = .ok x s1 →
      exec (.blbc src d) s =
        .next (s1.setReg 15 (if x.getLsbD 0 = false then s1.pc + 1 + d.signExtend 32 else s1.pc + 1))))

/-- Branches on a bit. That the bit is checked for write before it is read, and that a held interlock makes the
instruction wait, is deduced (notes/assumptions/24.md, notes/assumptions/36.md). -/
def Obligations.BitBranchResults : Prop :=
  (∀ (pos base : Opnd) (d : Byte) (s s1 s2 s3 s4 : State) (p : Long) (b : FieldBase) (f : FieldPlace) (v : Long),
    (Ready 0xE0 s → rdPlain .l pos (past 0xE0 s) = .ok p s1 → fld base s1 = .ok b s2 →
      fieldPlace p 1 b (s2.setReg 15 (s2.pc + 1)) = .ok f s3 → fieldRead f s3 = .ok v s4 →
      exec (.bbs pos base d) s =
        .next (if v.getLsbD 0 = true then s4.setReg 15 (s2.pc + 1 + d.signExtend 32) else s4))
    ∧ (Ready 0xE1 s → rdPlain .l pos (past 0xE1 s) = .ok p s1 → fld base s1 = .ok b s2 →
      fieldPlace p 1 b (s2.setReg 15 (s2.pc + 1)) = .ok f s3 → fieldRead f s3 = .ok v s4 →
      exec (.bbc pos base d) s =
        .next (if v.getLsbD 0 = false then s4.setReg 15 (s2.pc + 1 + d.signExtend 32) else s4)))
  ∧ (∀ e ∈ bitBranchRows, ∀ (pos base : Opnd) (d : Byte) (s s1 s2 s3 s4 : State) (p : Long) (b : FieldBase) (f : FieldPlace)
      (old : Bool),
    Ready e.1 s → rdPlain .l pos (past e.1 s) = .ok p s1 → fld base s1 = .ok b s2 →
    fieldPlace p 1 b (s2.setReg 15 (s2.pc + 1)) = .ok f s3 → exchangeBit e.2.2.1 f e.2.2.2.2 s3 = .ok old s4 →
    exec (e.2.1 pos base d) s =
      .next (if old = e.2.2.2.1 then s4.setReg 15 (s2.pc + 1 + d.signExtend 32) else s4))
  ∧ (∀ (u : Use) (s : State) (r : Reg) (k : Nat) (new : Bool), k < 32 →
    exchangeBit u (.regs r k 1) new s = .ok ((s.reg r).getLsbD k) (s.setReg r (putField (s.reg r) k 1 (bitL new))))
  ∧ (∀ (u : Use) (s s1 : State) (va : Long) (o : Nat) (sp : Span) (new : Bool), o < 8 → s.MemOk →
    memDest va 1 s = .ok sp s1 → s1.goodRam sp.a0 1 → s1.v750.lock = false → s1.v780.interlock = false →
    ∃ t, exchangeBit u (.bytes va o 1 1) new s = .ok ((s1.byte sp.a0).getLsbD o) t
      ∧ (∀ i < 8, (t.byte sp.a0).getLsbD i = if i = o then new else (s1.byte sp.a0).getLsbD i)
      ∧ (∀ a, a ≠ sp.a0 → t.byte a = s1.byte a) ∧ t.r = s1.r ∧ t.psl = s1.psl)

/-- Loop instructions. -/
def Obligations.LoopResults : Prop :=
  (∀ e ∈ ([(0x9D, .acbb, .b), (0x3D, .acbw, .w), (0xF1, .acbl, .l)] :
      List (Nat × (Opnd → Opnd → Opnd → Word16 → Instr) × DT)),
    ∀ (limit add idx : Opnd) (d : Word16) (s s1 s2 s3 s4 : State) (l a i : BitVec e.2.2.bits) (k : Dest),
    Ready e.1 s → rdPlain e.2.2 limit (past e.1 s) = .ok l s1 → rdPlain e.2.2 add s1 = .ok a s2 → mdAs .other e.2.2 idx s2 = .ok (k, i) s3 →
    storePlain e.2.2 k (i + a) (s3.setReg 15 (s3.pc + 2)) = .ok ⟨⟩ s4 →
    ((decide (i.toInt + a.toInt ≠ (i + a).toInt) && s4.iv) = false →
      exec (e.2.1 limit add idx d) s =
        .next (State.flags (if (0 ≤ a.toInt ∧ (i + a).toInt ≤ l.toInt) ∨ (a.toInt < 0 ∧ l.toInt ≤ (i + a).toInt)
            then s4.setReg 15 (s3.pc + 2 + d.signExtend 32) else s4)
          (i + a) (decide (i.toInt + a.toInt ≠ (i + a).toInt)) s4.ccC))
    ∧ ((decide (i.toInt + a.toInt ≠ (i + a).toInt) && s4.iv) = true →
      exec (e.2.1 limit add idx d) s =
        .next (State.trapped (State.flags (if (0 ≤ a.toInt ∧ (i + a).toInt ≤ l.toInt) ∨ (a.toInt < 0 ∧ l.toInt ≤ (i + a).toInt)
            then s4.setReg 15 (s3.pc + 2 + d.signExtend 32) else s4)
          (i + a) true s4.ccC) 1)))
  ∧ (∀ e ∈ ([(0xF2, .aoblss, fun i l => decide (i < l)), (0xF3, .aobleq, fun i l => decide (i ≤ l))] :
      List (Nat × (Opnd → Opnd → Byte → Instr) × (Int → Int → Bool))),
    ∀ (limit idx : Opnd) (d : Byte) (s s1 s2 s3 : State) (l i : Long) (k : Dest),
    Ready e.1 s → rdPlain .l limit (past e.1 s) = .ok l s1 → mdAs .other .l idx s1 = .ok (k, i) s2 →
    storePlain .l k (i + 1) (s2.setReg 15 (s2.pc + 1)) = .ok ⟨⟩ s3 → 
    ((decide (i = 0x7FFFFFFF) && s3.iv) = false →
      exec (e.2.1 limit idx d) s =
        .next (State.flags (if e.2.2 (i + 1).toInt l.toInt then s3.setReg 15 (s2.pc + 1 + d.signExtend 32) else s3)
          (i + 1) (decide (i = 0x7FFFFFFF)) s3.ccC))
    ∧ ((decide (i = 0x7FFFFFFF) && s3.iv) = true →
      exec (e.2.1 limit idx d) s = .next (State.trapped
        (State.flags (if e.2.2 (i + 1).toInt l.toInt then s3.setReg 15 (s2.pc + 1 + d.signExtend 32) else s3) (i + 1) true s3.ccC) 1)))
  ∧ (∀ e ∈ ([(0xF4, .sobgeq, fun i => decide (0 ≤ i)), (0xF5, .sobgtr, fun i => decide (0 < i))] :
      List (Nat × (Opnd → Byte → Instr) × (Int → Bool))),
    ∀ (idx : Opnd) (d : Byte) (s s1 s2 : State) (i : Long) (k : Dest),
    Ready e.1 s → mdAs .other .l idx (past e.1 s) = .ok (k, i) s1 →
    storePlain .l k (i - 1) (s1.setReg 15 (s1.pc + 1)) = .ok ⟨⟩ s2 → 
    ((decide (i = 0x80000000) && s2.iv) = false →
      exec (e.2.1 idx d) s =
        .next (State.flags (if e.2.2 (i - 1).toInt then s2.setReg 15 (s1.pc + 1 + d.signExtend 32) else s2)
          (i - 1) (decide (i = 0x80000000)) s2.ccC))
    ∧ ((decide (i = 0x80000000) && s2.iv) = true →
      exec (e.2.1 idx d) s = .next (State.trapped
        (State.flags (if e.2.2 (i - 1).toInt then s2.setReg 15 (s1.pc + 1 + d.signExtend 32) else s2) (i - 1) true s2.ccC) 1)))

/-- Case instructions. -/
def Obligations.CaseResults : Prop :=
  ∀ e ∈ ([(0x8F, .caseb, .b), (0xAF, .casew, .w), (0xCF, .casel, .l)] :
      List (Nat × (Opnd → Opnd → Opnd → Instr) × DT)),
    ∀ (selector base limit : Opnd) (s s1 s2 s3 : State) (x b l : BitVec e.2.2.bits),
    Ready e.1 s → rd e.2.2 selector (past e.1 s) = .ok x s1 → rd e.2.2 base s1 = .ok b s2 → rd e.2.2 limit s2 = .ok l s3 →
    ((x - b).toNat ≤ l.toNat → ∀ (d : Word16) (s4 : State),
      streamWord (s3.pc + BitVec.ofNat 32 (2 * (x - b).toNat)) s3 = .ok d s4 →
      exec (e.2.1 selector base limit) s = .next ((s4.setReg 15 (s3.pc + d.signExtend 32)).withCC
        (decide ((x - b).toInt < l.toInt)) (decide (x - b = l)) false (decide ((x - b).toNat < l.toNat))))
    ∧ (l.toNat < (x - b).toNat →
      exec (e.2.1 selector base limit) s = .next ((s3.setReg 15 (s3.pc + BitVec.ofNat 32 (2 * (l.toNat + 1)))).withCC
        (decide ((x - b).toInt < l.toInt)) false false false))

/-- Jumps and subroutine calls. -/
def Obligations.JumpAndSubroutineResults : Prop :=
  (∀ (dst : Opnd) (s s1 : State) (a : Long), Ready 0x17 s → adr .b dst (past 0x17 s) = .ok a s1 →
    exec (.jmp dst) s = .next (s1.setReg 15 a))
  ∧ (∀ (dst : Opnd) (s s1 s2 : State) (a : Long), Ready 0x16 s → adr .b dst (past 0x16 s) = .ok a s1 →
    push [s1.pc] s1 = .ok ⟨⟩ s2 → exec (.jsb dst) s = .next (s2.setReg 15 a))
  ∧ (∀ (d : Byte) (s s1 : State), Ready 0x10 s → push [s.pc + 2] (s.setReg 15 (s.pc + 2)) = .ok ⟨⟩ s1 →
    exec (.bsbb d) s = .next (s1.setReg 15 (s.pc + 2 + d.signExtend 32)))
  ∧ (∀ (d : Word16) (s s1 : State), Ready 0x30 s → push [s.pc + 3] (s.setReg 15 (s.pc + 3)) = .ok ⟨⟩ s1 →
    exec (.bsbw d) s = .next (s1.setReg 15 (s.pc + 3 + d.signExtend 32)))
  ∧ (∀ (s s1 : State) (x : Long), Ready 0x05 s → pop (past 0x05 s) = .ok x s1 →
    exec .rsb s = .next (s1.setReg 15 x))
  ∧ (∀ (s t : State) (e : Exc),
    (∀ d : Byte, Ready 0x10 s → push [s.pc + 2] (s.setReg 15 (s.pc + 2)) = .error (.exc e) t →
      exec (.bsbb d) s = outcomeOf (enterException e s.pc { t with r := s.r, psl := s.psl }))
    ∧ (∀ d : Word16, Ready 0x30 s → push [s.pc + 3] (s.setReg 15 (s.pc + 3)) = .error (.exc e) t →
      exec (.bsbw d) s = outcomeOf (enterException e s.pc { t with r := s.r, psl := s.psl })))

/-- Procedure calls build the frame of the entry mask. That a push that faults leaves none of the frame written, where
R745 lets memory below SP be written, is the model's choice (notes/assumptions/25.md). -/
def Obligations.CallResults : Prop :=
  (∀ (arglist dst : Opnd) (s s1 s2 s3 s4 s5 : State) (ap d fp : Long) (w : Octa) (mask : Word16) (xs : List Long) (ps : List Span),
    Ready 0xFA s → adr .b arglist (past 0xFA s) = .ok ap s1 → adr .b dst s1 = .ok d s2 →
    memRead .data d 2 s2 = .ok w s3 → mask = w.setWidth 16 → field mask 12 2 = 0 → xs = frameLongs s3 mask false (s3.reg 14 &&& 3) →
    longDests (slots (s3.reg 14 &&& 0xFFFFFFFC) xs.length) s3 = .ok ps s4 → putLongs (ps.zip xs) s4 = .ok ⟨⟩ s5 →
    fp = (s3.reg 14 &&& 0xFFFFFFFC) - BitVec.ofNat 32 (4 * xs.length) →
    exec (.callg arglist dst) s = .next (State.setReg { (((s5.setReg 14 fp).setReg 13 fp).setReg 12 ap) with
      psl := calledStatus s5.psl mask } 15 (d + 2)))
  ∧ (∀ (numarg dst : Opnd) (s s1 s2 s3 s4 s5 : State) (n d sp fp : Long) (w : Octa) (mask : Word16) (xs : List Long) (ps : List Span),
    Ready 0xFB s → rd .l numarg (past 0xFB s) = .ok n s1 → adr .b dst s1 = .ok d s2 →
    memRead .data d 2 s2 = .ok w s3 → mask = w.setWidth 16 → field mask 12 2 = 0 → sp = s3.reg 14 - 4 →
    xs = frameLongs s3 mask true (sp &&& 3) → longDests (sp :: slots (sp &&& 0xFFFFFFFC) xs.length) s3 = .ok ps s4 →
    putLongs (ps.zip (n :: xs)) s4 = .ok ⟨⟩ s5 → fp = (sp &&& 0xFFFFFFFC) - BitVec.ofNat 32 (4 * xs.length) →
    exec (.calls numarg dst) s = .next (State.setReg { (((s5.setReg 14 fp).setReg 13 fp).setReg 12 sp) with
      psl := calledStatus s5.psl mask } 15 (d + 2)))
  ∧ (∀ (arglist dst : Opnd) (s s1 s2 s3 s4 : State) (ap d : Long) (w : Octa) (mask : Word16) (e : Exc),
    Ready 0xFA s → adr .b arglist (past 0xFA s) = .ok ap s1 → adr .b dst s1 = .ok d s2 →
    memRead .data d 2 s2 = .ok w s3 → mask = w.setWidth 16 → field mask 12 2 = 0 →
    longDests (slots (s3.reg 14 &&& 0xFFFFFFFC) (frameLongs s3 mask false (s3.reg 14 &&& 3)).length) s3 = .error (.exc e) s4 →
    exec (.callg arglist dst) s = outcomeOf (enterException e s.pc { s4 with r := s.r, psl := s.psl }))
  ∧ (∀ (arglist dst : Opnd) (s s1 s2 s3 : State) (ap d : Long) (w : Octa),
    Ready 0xFA s → adr .b arglist (past 0xFA s) = .ok ap s1 → adr .b dst s1 = .ok d s2 →
    memRead .data d 2 s2 = .ok w s3 → field (w.setWidth 16 : Word16) 12 2 ≠ 0 →
    exec (.callg arglist dst) s = s.turnedAway s3)
  ∧ (∀ (numarg dst : Opnd) (s s1 s2 s3 s4 : State) (n d : Long) (w : Octa) (mask : Word16) (e : Exc),
    Ready 0xFB s → rd .l numarg (past 0xFB s) = .ok n s1 → adr .b dst s1 = .ok d s2 →
    memRead .data d 2 s2 = .ok w s3 → mask = w.setWidth 16 → field mask 12 2 = 0 →
    longDests ((s3.reg 14 - 4) :: slots ((s3.reg 14 - 4) &&& 0xFFFFFFFC)
      (frameLongs s3 mask true ((s3.reg 14 - 4) &&& 3)).length) s3 = .error (.exc e) s4 →
    exec (.calls numarg dst) s = outcomeOf (enterException e s.pc { s4 with r := s.r, psl := s.psl }))
  ∧ (∀ (numarg dst : Opnd) (s s1 s2 s3 : State) (n d : Long) (w : Octa),
    Ready 0xFB s → rd .l numarg (past 0xFB s) = .ok n s1 → adr .b dst s1 = .ok d s2 →
    memRead .data d 2 s2 = .ok w s3 → field (w.setWidth 16 : Word16) 12 2 ≠ 0 →
    exec (.calls numarg dst) s = s.turnedAway s3)

/-- Procedure returns undo the frame. -/
def Obligations.ReturnResults : Prop :=
  ∀ (s s1 s2 : State) (tmp ap fp pc : Long) (xs : List Long),
    (field tmp 8 8 ≠ 0 → Ready 0x04 s → pop ((past 0x04 s).setReg 14 (s.reg 13 + 4)) = .ok tmp s1 →
      exec .ret s = s.turnedAway s1)
    ∧ (Ready 0x04 s → pops 4 ((past 0x04 s).setReg 14 (s.reg 13 + 4)) = .ok [tmp, ap, fp, pc] s1 → field tmp 8 8 = 0 →
    pops ((List.range 12).filter fun i => tmp.getLsbD (16 + i)).length s1 = .ok xs s2 →
    (tmp.getLsbD 29 = false → ∃ t, exec .ret s = .next t ∧ t.pc = pc ∧ t.reg 12 = ap ∧ t.reg 13 = fp
      ∧ t.psl = (s2.psl &&& 0xFFFF0000) ||| (tmp &&& 0xFFFF)
      ∧ t.reg 14 = ((s2.reg 14 &&& 0xFFFFFFFC) ||| tmp >>> 30) ∧ t.mem = s2.mem
      ∧ (∀ i < 12, tmp.getLsbD (16 + i) = false → t.reg (Fin.ofNat 16 i) = s.reg (Fin.ofNat 16 i))
      ∧ ∀ (k i : Nat) (x : Long), xs[k]? = some x → ((List.range 12).filter fun i => tmp.getLsbD (16 + i))[k]? = some i →
          t.reg (Fin.ofNat 16 i) = x)
    ∧ (tmp.getLsbD 29 = true → ∀ (n : Long) (s3 : State),
      readLong ((s2.reg 14 &&& 0xFFFFFFFC) ||| tmp >>> 30)
        { ((s2.setReg 12 ap).setReg 13 fp) with psl := (s2.psl &&& 0xFFFF0000) ||| (tmp &&& 0xFFFF) } = .ok n s3 →
      ∃ t, exec .ret s = .next t ∧ t.pc = pc ∧ t.reg 12 = ap ∧ t.reg 13 = fp
        ∧ t.psl = (s2.psl &&& 0xFFFF0000) ||| (tmp &&& 0xFFFF)
        ∧ t.reg 14 = ((s2.reg 14 &&& 0xFFFFFFFC) ||| tmp >>> 30) + 4 + 4 * (n &&& 0xFF) ∧ t.mem = s3.mem
        ∧ (∀ i < 12, tmp.getLsbD (16 + i) = false → t.reg (Fin.ofNat 16 i) = s.reg (Fin.ofNat 16 i))
        ∧ ∀ (k i : Nat) (x : Long), xs[k]? = some x → ((List.range 12).filter fun i => tmp.getLsbD (16 + i))[k]? = some i →
            t.reg (Fin.ofNat 16 i) = x))

/-- Absolute queues. That all destinations are checked before any write is the spec's decision
(notes/assumptions/25.md). -/
def Obligations.QueueResults : Prop :=
  (∀ (entry pred : Opnd) (s s1 s2 s3 s4 s5 s6 s7 s8 s9 sA sB : State) (e p q : Long) (dp ds de de4 : Span),
    Ready 0x0E s → adrPlain .b entry (past 0x0E s) = .ok e s1 → adrPlain .b pred s1 = .ok p s2 → readLong p s2 = .ok q s3 →
    memDest p 4 s3 = .ok dp s4 → memDest (q + 4) 4 s4 = .ok ds s5 → memDest e 4 s5 = .ok de s6 →
    memDest (e + 4) 4 s6 = .ok de4 s7 →
    writeSpan .other de 4 (q.setWidth 128) s7 = .ok ⟨⟩ s8 → writeSpan .other de4 4 (p.setWidth 128) s8 = .ok ⟨⟩ s9 →
    writeSpan .other ds 4 (e.setWidth 128) s9 = .ok ⟨⟩ sA → writeSpan .other dp 4 (e.setWidth 128) sA = .ok ⟨⟩ sB →
    exec (.insque entry pred) s =
      .next (sB.withCC (decide (q.toInt < p.toInt)) (decide (q = p)) false (decide (q.toNat < p.toNat))))
  ∧ (∀ (entry addr : Opnd) (s s1 s2 s3 s4 : State) (e q p : Long) (d : Dest),
    Ready 0x0F s → adrPlain .b entry (past 0x0F s) = .ok e s1 → wr .l addr s1 = .ok d s2 → readLong e s2 = .ok q s3 →
    readLong (e + 4) s3 = .ok p s4 →
    (e = p → ∀ s5, store .l d e s4 = .ok ⟨⟩ s5 →
      exec (.remque entry addr) s =
        .next (s5.withCC (decide (q.toInt < p.toInt)) (decide (q = p)) true (decide (q.toNat < p.toNat))))
    ∧ (e ≠ p → ∀ (ds dp : Span) (k : Dest) (s5 s6 s7 s8 s9 sA : State), memDest (q + 4) 4 s4 = .ok ds s5 →
      memDest p 4 s5 = .ok dp s6 → prepare .l d s6 = .ok k s7 → writeSpan .other dp 4 (q.setWidth 128) s7 = .ok ⟨⟩ s8 →
      writeSpan .other ds 4 (p.setWidth 128) s8 = .ok ⟨⟩ s9 → store .l k e s9 = .ok ⟨⟩ sA →
      exec (.remque entry addr) s =
        .next (sA.withCC (decide (q.toInt < p.toInt)) (decide (q = p)) false (decide (q.toNat < p.toNat)))))

/-- Self-relative queues. That a held interlock makes the instruction wait is deduced (notes/assumptions/36.md). -/
def Obligations.SelfRelativeQueueResults : Prop :=
  (∀ e ∈ ([(0x5C, .insqhi), (0x5D, .insqti)] : List (Nat × (Opnd → Opnd → Instr))),
    ∀ (entry header : Opnd) (s s1 s2 : State) (n h : Long),
    Ready e.1 s → adrPlain .b entry (past e.1 s) = .ok n s1 → adrPlain .q header s1 = .ok h s2 →
    (h = n ∨ field h 0 3 ≠ 0 ∨ field n 0 3 ≠ 0 → exec (e.2 entry header) s = s.turnedAway s2)
    ∧ (h ≠ n → field h 0 3 = 0 → field n 0 3 = 0 → ∀ (s3 s4 : State) (a : Long) (es hs : Span),
      memDest n 8 s2 = .ok es s3 → lockedRead h s3 = .ok (hs, a) s4 →
      InsertionTests (exec (e.2 entry header) s) s hs a s4
      ∧ (e.1 = 0x5C → HeadInsertion (exec (e.2 entry header) s) h n es hs a s4)
      ∧ (e.1 = 0x5D → a = 0 → ∀ (s5 s6 s7 : State) (a' : Long) (es' hs' : Span), writeSpan .other hs 4 0 s4 = .ok ⟨⟩ s5 →
        memDest n 8 s5 = .ok es' s6 → lockedRead h s6 = .ok (hs', a') s7 →
        InsertionTests (exec (e.2 entry header) s) s hs' a' s7 ∧ HeadInsertion (exec (e.2 entry header) s) h n es' hs' a' s7)
      ∧ (e.1 = 0x5D → a ≠ 0 → field a 0 3 = 0 → ∀ (s5 s6 : State) (c : Long),
        writeSpan .other hs 4 ((a ||| 1).setWidth 128) s4 = .ok ⟨⟩ s5 → readLong (h + 4) s5 = .ok c s6 →
        (field (h + c) 0 3 ≠ 0 → ∀ s7, writeSpan .other hs 4 (a.setWidth 128) s6 = .ok ⟨⟩ s7 →
          exec (e.2 entry header) s = s.turnedAway s7)
        ∧ (field (h + c) 0 3 = 0 → ∀ (s7 s8 s9 sA sB sC sD : State) (dl dh : Span),
          memDest (h + c) 4 s6 = .ok dl s7 → memDest (h + 4) 4 s7 = .ok dh s8 →
          writeSpan .other dl 4 ((n - (h + c)).setWidth 128) s8 = .ok ⟨⟩ s9 →
          writeSpan .other (es.sub 0 4) 4 ((h - n).setWidth 128) s9 = .ok ⟨⟩ sA →
          writeSpan .other (es.sub 4 4) 4 ((h + c - n).setWidth 128) sA = .ok ⟨⟩ sB →
          writeSpan .other dh 4 ((n - h).setWidth 128) sB = .ok ⟨⟩ sC → writeSpan .other hs 4 (a.setWidth 128) sC = .ok ⟨⟩ sD →
          exec (e.2 entry header) s = .next (sD.withCC false false false false)))))
  ∧ (∀ e ∈ ([(0x5E, .remqhi), (0x5F, .remqti)] : List (Nat × (Opnd → Opnd → Instr))),
    ∀ (header addr : Opnd) (s s1 s2 : State) (h : Long) (d : Dest),
    Ready e.1 s → adrPlain .q header (past e.1 s) = .ok h s1 → wrPlain .l addr s1 = .ok d s2 →
    (field h 0 3 ≠ 0 ∨ d = .mem h → exec (e.2 header addr) s = s.turnedAway s2)
    ∧ (field h 0 3 = 0 → d ≠ .mem h → ∀ (s3 s4 : State) (a : Long) (k : Dest) (hs : Span),
      prepare .l d s2 = .ok k s3 → lockedRead h s3 = .ok (hs, a) s4 →
      RemovalTests (exec (e.2 header addr) s) s h k hs a s4
      ∧ (e.1 = 0x5E → HeadRemoval (exec (e.2 header addr) s) s h k hs a s4)
      ∧ (e.1 = 0x5F → a ≠ 0 → field a 0 3 = 0 → ∀ (s5 s6 : State) (c : Long),
        writeSpan .other hs 4 ((a ||| 1).setWidth 128) s4 = .ok ⟨⟩ s5 → readLong (h + 4) s5 = .ok c s6 →
        (c = a → ∀ (s7 s8 s9 : State) (a' : Long) (k' : Dest) (hs' : Span), writeSpan .other hs 4 (a.setWidth 128) s6 = .ok ⟨⟩ s7 →
          prepare .l d s7 = .ok k' s8 → lockedRead h s8 = .ok (hs', a') s9 →
          RemovalTests (exec (e.2 header addr) s) s h k' hs' a' s9 ∧ HeadRemoval (exec (e.2 header addr) s) s h k' hs' a' s9)
        ∧ (c ≠ a → field c 0 3 ≠ 0 → ∀ s7, writeSpan .other hs 4 (a.setWidth 128) s6 = .ok ⟨⟩ s7 →
          exec (e.2 header addr) s = s.turnedAway s7)
        ∧ (c ≠ a → field c 0 3 = 0 → ∀ (s7 : State) (b : Long), readLong (h + c + 4) s6 = .ok b s7 →
          (field (h + c + b) 0 3 ≠ 0 → ∀ s8, writeSpan .other hs 4 (a.setWidth 128) s7 = .ok ⟨⟩ s8 →
            exec (e.2 header addr) s = s.turnedAway s8)
          ∧ (field (h + c + b) 0 3 = 0 → ∀ (s8 s9 sA sB sC sD : State) (dp dh : Span),
            memDest (h + c + b) 4 s7 = .ok dp s8 → memDest (h + 4) 4 s8 = .ok dh s9 →
            writeSpan .other dp 4 ((h - (h + c + b)).setWidth 128) s9 = .ok ⟨⟩ sA →
            writeSpan .other dh 4 ((h + c + b - h).setWidth 128) sA = .ok ⟨⟩ sB →
            writeSpan .other hs 4 (a.setWidth 128) sB = .ok ⟨⟩ sC → storePlain .l k (h + c) sC = .ok ⟨⟩ sD →
            exec (e.2 header addr) s = .next (sD.withCC false false false false))))))

/-- Floating moves, tests and compares. -/
def Obligations.FloatMoveTestCompareResults : Prop :=
  (∀ e ∈ moveFloatRows, ∀ (src dst : Opnd) (s s1 s2 s3 : State) (v r : BitVec e.2.2.1.bits) (d : Dest),
    Ready e.1 s → rd e.2.2.1 src (past e.1 s) = .ok v s1 → wr e.2.2.1 dst s1 = .ok d s2 → reservedFloat e.2.2.1 v = false →
    r = (if (floatValue e.2.2.1 v).m = 0 then 0 else if e.2.2.2 then v ^^^ 0x8000 else v) → store e.2.2.1 d r s2 = .ok ⟨⟩ s3 →
    exec (e.2.1 src dst) s = .next (s3.withCC (r.getLsbD 15) (decide (r = 0)) false (!e.2.2.2 && s3.ccC))
    ∧ reservedFloat e.2.2.1 r = false
    ∧ (floatValue e.2.2.1 r).rat = if e.2.2.2 then -(floatValue e.2.2.1 v).rat else (floatValue e.2.2.1 v).rat)
  ∧ (∀ e ∈ testFloatRows, ∀ (src : Opnd) (s s1 : State) (v : BitVec e.2.2.bits),
    Ready e.1 s → rd e.2.2 src (past e.1 s) = .ok v s1 → reservedFloat e.2.2 v = false →
    exec (e.2.1 src) s = .next (s1.withCC (decide ((floatValue e.2.2 v).rat < 0)) (decide ((floatValue e.2.2 v).rat = 0)) false false))
  ∧ (∀ e ∈ compareFloatRows, ∀ (src1 src2 : Opnd) (s s1 s2 : State) (v w : BitVec e.2.2.bits),
    Ready e.1 s → rd e.2.2 src1 (past e.1 s) = .ok v s1 → rd e.2.2 src2 s1 = .ok w s2 →
    reservedFloat e.2.2 v = false → reservedFloat e.2.2 w = false →
    exec (e.2.1 src1 src2) s = .next (s2.withCC (decide ((floatValue e.2.2 v).rat < (floatValue e.2.2 w).rat))
      (decide ((floatValue e.2.2 v).rat = (floatValue e.2.2 w).rat)) false false))

/-- Floating add, subtract, multiply, divide. -/
def Obligations.FloatArithmeticResults : Prop :=
  ∀ e ∈ floatRows,
    (∀ (src dst : Opnd) (s s1 s2 s3 : State) (v w r : BitVec e.t.bits) (d : Dest),
      Ready e.op2 s → rd e.t src (past e.op2 s) = .ok v s1 → md e.t dst s1 = .ok (d, w) s2 →
      reservedFloat e.t v = false → reservedFloat e.t w = false → e.ok (floatValue e.t v) = true →
      roundTo e.t (e.f (floatValue e.t v) (floatValue e.t w)) = .value r → store e.t d r s2 = .ok ⟨⟩ s3 →
      exec (e.mk2 src dst) s = .next (s3.withCC (r.getLsbD 15) (decide (r = 0)) false false))
    ∧ (∀ (src1 src2 dst : Opnd) (s s1 s2 s3 s4 : State) (v w r : BitVec e.t.bits) (d : Dest),
      Ready e.op3 s → rd e.t src1 (past e.op3 s) = .ok v s1 → rd e.t src2 s1 = .ok w s2 → wr e.t dst s2 = .ok d s3 →
      reservedFloat e.t v = false → reservedFloat e.t w = false → e.ok (floatValue e.t v) = true →
      roundTo e.t (e.f (floatValue e.t v) (floatValue e.t w)) = .value r → store e.t d r s3 = .ok ⟨⟩ s4 →
      exec (e.mk3 src1 src2 dst) s = .next (s4.withCC (r.getLsbD 15) (decide (r = 0)) false false))

/-- Floating results are the nearest data to the exact results. -/
def Obligations.FloatResultsAreNearest : Prop :=
  ∀ t ∈ [DT.f, DT.d, DT.g, DT.h],
    (∀ (a : ExactNum) (r : BitVec t.bits), roundTo t a = .value r → IsNearest t a.rat r)
    ∧ (∀ a : ExactNum, roundTo t a = .overflow →
      ∀ v : BitVec t.bits, reservedFloat t v = false → |(floatValue t v).rat| < |a.rat|)
    ∧ (∀ a : ExactNum, roundTo t a = .underflow → a.rat ≠ 0
      ∧ ∀ v : BitVec t.bits, reservedFloat t v = false → (floatValue t v).rat ≠ 0 → |a.rat| < |(floatValue t v).rat|)
    ∧ (∀ a b : ExactNum, (b.add a).rat = b.rat + a.rat ∧ (b.sub a).rat = b.rat - a.rat ∧ (b.mul a).rat = b.rat * a.rat)
    ∧ (∀ (v w r : BitVec t.bits), reservedFloat t v = false → reservedFloat t w = false → (floatValue t v).rat ≠ 0 →
      roundTo t ((floatValue t w).div (fracLen t) (floatValue t v)) = .value r →
      IsNearest t ((floatValue t w).rat / (floatValue t v).rat) r)

/-- Reserved operands, overflow, underflow and division by zero of floating instructions. The V780 divide by zero trap is
the spec's decision D33; that the arithmetic fault of the V750 comes before a memory fault of a destination that is
only written, that an ACBx out of range clears C, and what the registers hold after a POLY overflow of the V780, is the
model's choice; that ACCS notes an underflow also with FU clear, and nothing for a zero divisor, is deduced. A POLY that
underflows and later overflows on the V780 with FU set is left out (notes/assumptions/41.md, notes/assumptions/53.md). -/
def Obligations.FloatExceptionReports : Prop :=
  (∀ e ∈ floatRows,
    (∀ (src dst : Opnd) (s s1 s2 : State) (v w : BitVec e.t.bits) (d : Dest),
      Ready e.op2 s → rd e.t src (past e.op2 s) = .ok v s1 → md e.t dst s1 = .ok (d, w) s2 → e.Excepts (exec (e.mk2 src dst) s) s s2 v w d)
    ∧ (∀ (src1 src2 dst : Opnd) (s s1 s2 s3 : State) (v w : BitVec e.t.bits) (d : Dest),
      Ready e.op3 s → rd e.t src1 (past e.op3 s) = .ok v s1 → rd e.t src2 s1 = .ok w s2 → wr e.t dst s2 = .ok d s3 →
      e.Excepts (exec (e.mk3 src1 src2 dst) s) s s3 v w d))
  ∧ (∀ e ∈ moveFloatRows, ∀ (src dst : Opnd) (s s1 s2 : State) (v : BitVec e.2.2.1.bits) (d : Dest),
    Ready e.1 s → rd e.2.2.1 src (past e.1 s) = .ok v s1 → wr e.2.2.1 dst s1 = .ok d s2 → reservedFloat e.2.2.1 v = true →
    exec (e.2.1 src dst) s = s.turnedAway s2)
  ∧ (∀ e ∈ testFloatRows, ∀ (src : Opnd) (s s1 : State) (v : BitVec e.2.2.bits),
    Ready e.1 s → rd e.2.2 src (past e.1 s) = .ok v s1 → reservedFloat e.2.2 v = true → exec (e.2.1 src) s = s.turnedAway s1)
  ∧ (∀ e ∈ compareFloatRows, ∀ (src1 src2 : Opnd) (s s1 s2 : State) (v w : BitVec e.2.2.bits),
    Ready e.1 s → rd e.2.2 src1 (past e.1 s) = .ok v s1 → rd e.2.2 src2 s1 = .ok w s2 →
    reservedFloat e.2.2 v = true ∨ reservedFloat e.2.2 w = true → exec (e.2.1 src1 src2) s = s.turnedAway s2)
  ∧ (∀ e ∈ floatToIntRows, ∀ (src dst : Opnd) (s s1 s2 : State) (v : BitVec e.2.2.1.bits) (d : Dest),
    Ready e.1 s → rd e.2.2.1 src (past e.1 s) = .ok v s1 → wr e.2.2.2.1 dst s1 = .ok d s2 → reservedFloat e.2.2.1 v = true →
    exec (e.2.1 src dst) s = s.turnedAway (s2.accNoted e.2.2.1 1))
  ∧ (∀ e ∈ floatToFloatRows, ∀ (src dst : Opnd) (s s1 s2 : State) (v : BitVec e.2.2.1.bits) (d : Dest),
    Ready e.1 s → rd e.2.2.1 src (past e.1 s) = .ok v s1 → wr e.2.2.2 dst s1 = .ok d s2 →
    (reservedFloat e.2.2.1 v = true → exec (e.2.1 src dst) s = s.turnedAway s2)
    ∧ (reservedFloat e.2.2.1 v = false →
      OutOfRange (exec (e.2.1 src dst) s) s s2 e.2.2.2 false d (roundTo e.2.2.2 (floatValue e.2.2.1 v)) id))
  ∧ (∀ e ∈ acbFloatRows, ∀ (limit add idx : Opnd) (d : Word16) (s s1 s2 s3 : State) (l a i : BitVec e.2.2.bits) (k : Dest),
    Ready e.1 s → rd e.2.2 limit (past e.1 s) = .ok l s1 → rd e.2.2 add s1 = .ok a s2 → md e.2.2 idx s2 = .ok (k, i) s3 →
    (reservedFloat e.2.2 l = true ∨ reservedFloat e.2.2 a = true ∨ reservedFloat e.2.2 i = true →
      exec (e.2.1 limit add idx d) s = s.turnedAway s3)
    ∧ (reservedFloat e.2.2 l = false → reservedFloat e.2.2 a = false → reservedFloat e.2.2 i = false →
      ∀ go : Bool, (go = true ↔ loopGoesOn (floatValue e.2.2 a).rat 0 (floatValue e.2.2 l).rat) →
      OutOfRange (exec (e.2.1 limit add idx d) s) s (s3.setReg 15 (s3.pc + 2)) e.2.2 false k
        (roundTo e.2.2 ((floatValue e.2.2 i).add (floatValue e.2.2 a)))
        fun t => if go then t.setReg 15 (s3.pc + 2 + d.signExtend 32) else t))
  ∧ (∀ e ∈ emodRows, ∀ (mulr mulrx muld intg fract : Opnd) (s s1 s2 s3 s4 s5 : State) (v w : BitVec e.2.2.1.bits)
      (x : BitVec e.2.2.2.1.bits) (di df : Dest),
    Ready e.1 s → rd e.2.2.1 mulr (past e.1 s) = .ok v s1 → rdPlain e.2.2.2.1 mulrx s1 = .ok x s2 → rd e.2.2.1 muld s2 = .ok w s3 →
    wrPlain .l intg s3 = .ok di s4 → wr e.2.2.1 fract s4 = .ok df s5 →
    (reservedFloat e.2.2.1 v = true ∨ reservedFloat e.2.2.1 w = true →
      exec (e.2.1 mulr mulrx muld intg fract) s = s.turnedAway (s5.accNoted e.2.2.1 1))
    ∧ (reservedFloat e.2.2.1 v = false → reservedFloat e.2.2.1 w = false → ∀ p, p = emodProduct e.2.2.1 e.2.2.2.1 e.2.2.2.2 v x w →
      roundTo e.2.2.1 p.fract = .underflow →
      (s5.fu = true → s5.is750 = true → exec (e.2.1 mulr mulrx muld intg fract) s =
        outcomeOf (enterException (arithFault 0xA) s.pc { s5 with r := s.r, psl := s.psl }))
      ∧ (s5.fu = false ∨ s5.is750 = false → ∀ (ki kf : Dest) (s6 s7 s8 s9 : State) (z : Bool),
        prepare .l di (s5.accNoted e.2.2.1 4) = .ok ki s6 → prepare e.2.2.1 df s6 = .ok kf s7 → destsOverlap .l ki e.2.2.1 kf = false →
        storePlain .l ki (BitVec.ofInt 32 p.trunc) s7 = .ok ⟨⟩ s8 → store e.2.2.1 kf 0 s8 = .ok ⟨⟩ s9 →
        z = decide ((BitVec.ofInt 32 p.trunc).toInt ≠ p.trunc) →
        exec (e.2.1 mulr mulrx muld intg fract) s =
          .next (((s9.withCC false true z false).trappedIf (z && s9.iv) 1).trappedIf s5.fu 5))))
  ∧ (∀ e ∈ polyRows, ∀ (arg degree tbladdr : Opnd) (s s1 s2 s3 : State) (v : BitVec e.2.2.bits) (n : Word16) (tbl : Long),
    Ready e.1 s → rd e.2.2 arg (past e.1 s) = .ok v s1 → rdPlain .w degree s1 = .ok n s2 → adrPlain .b tbladdr s2 = .ok tbl s3 →
    (reservedFloat e.2.2 v = true → exec (e.2.1 arg degree tbladdr) s = s.turnedAway (s3.accNoted e.2.2 1))
    ∧ (reservedFloat e.2.2 v = false → 31 < n.toNat → exec (e.2.1 arg degree tbladdr) s = s.turnedAway s3)
    ∧ (reservedFloat e.2.2 v = false → n.toNat ≤ 31 →
      (∀ (w : Octa) (s4 : State), memRead .other tbl e.2.2.len s3 = .ok w s4 → reservedFloat e.2.2 (w.setWidth _) = true →
        exec (e.2.1 arg degree tbladdr) s = s.turnedAway (s4.accNoted e.2.2 1))
      ∧ (∀ (j : Nat) (s4 s5 : State) (c0 : ExactNum) (cs : List ExactNum) (r0 r : BitVec e.2.2.bits), j < n.toNat →
        coefficients e.2.2 tbl 0 (j + 1) s3 = .ok (c0 :: cs) s4 → roundTo e.2.2 c0 = .value r0 →
        cs.foldlM (hornerStep e.2.2 (floatValue e.2.2 v)) r0 = some r →
        (∀ w : Octa, memRead .other (tbl + BitVec.ofNat 32 ((j + 1) * e.2.2.len)) e.2.2.len s4 = .ok w s5 →
          reservedFloat e.2.2 (w.setWidth _) = true → exec (e.2.1 arg degree tbladdr) s = s.turnedAway (s5.accNoted e.2.2 1))
        ∧ (∀ c : ExactNum, coefficient e.2.2 tbl (j + 1) s4 = .ok c s5 →
          (hornerRound e.2.2 (floatValue e.2.2 v) r c = .overflow →
            (s5.is750 = true → exec (e.2.1 arg degree tbladdr) s =
              outcomeOf (enterException (arithFault 8) s.pc { s5 with r := s.r, psl := s.psl }))
            ∧ (s5.is750 = false → PolyEnds (exec (e.2.1 arg degree tbladdr) s) e.2.2 (floatReserved e.2.2)
              (tbl + BitVec.ofNat 32 (e.2.2.len * (n.toNat + 1))) true (some 3) s5))
          ∧ (hornerRound e.2.2 (floatValue e.2.2 v) r c = .underflow →
            (s5.fu = true → s5.is750 = true → exec (e.2.1 arg degree tbladdr) s =
              outcomeOf (enterException (arithFault 0xA) s.pc { s5 with r := s.r, psl := s.psl }))
            ∧ (s5.fu = false ∨ s5.is750 = false → ∀ (s6 : State) (ds : List ExactNum) (q : BitVec e.2.2.bits),
              coefficients e.2.2 tbl (j + 2) (n.toNat - j - 1) (s5.accNoted e.2.2 4) = .ok ds s6 →
              ds.foldlM (hornerStep e.2.2 (floatValue e.2.2 v)) 0 = some q →
              PolyEnds (exec (e.2.1 arg degree tbladdr) s) e.2.2 q (tbl + BitVec.ofNat 32 (e.2.2.len * (n.toNat + 1))) false
                (if s5.fu then some 5 else none) s6))))))

/-- Floating conversions. -/
def Obligations.FloatConversionResults : Prop :=
  (∀ e ∈ intToFloatRows, ∀ (src dst : Opnd) (s s1 s2 s3 : State) (x : BitVec e.2.2.1.bits) (r : BitVec e.2.2.2.bits) (d : Dest),
    Ready e.1 s → rd e.2.2.1 src (past e.1 s) = .ok x s1 → wr e.2.2.2 dst s1 = .ok d s2 →
    IsNearest e.2.2.2 x.toInt r → ((floatValue e.2.2.2 r).rat = 0 → r = 0) → store e.2.2.2 d r s2 = .ok ⟨⟩ s3 →
    exec (e.2.1 src dst) s = .next (s3.withCC (r.getLsbD 15) (decide (r = 0)) false false))
  ∧ (∀ e ∈ floatToIntRows, ∀ (src dst : Opnd) (s s1 s2 s3 : State) (v : BitVec e.2.2.1.bits) (z : Int) (d : Dest),
    Ready e.1 s → rd e.2.2.1 src (past e.1 s) = .ok v s1 → wr e.2.2.2.1 dst s1 = .ok d s2 → reservedFloat e.2.2.1 v = false →
    z = (if (floatValue e.2.2.1 v).rat < 0 then -⌊|(floatValue e.2.2.1 v).rat| + (if e.2.2.2.2 then 1 / 2 else 0)⌋
      else ⌊|(floatValue e.2.2.1 v).rat| + (if e.2.2.2.2 then 1 / 2 else 0)⌋) →
    store e.2.2.2.1 d (BitVec.ofInt _ z) s2 = .ok ⟨⟩ s3 → ∀ o, o = decide ((BitVec.ofInt e.2.2.2.1.bits z).toInt ≠ z) →
    exec (e.2.1 src dst) s = .next ((s3.flags (BitVec.ofInt e.2.2.2.1.bits z) o false).trappedIf (o && s3.iv) 1))
  ∧ (∀ e ∈ floatToFloatRows, ∀ (src dst : Opnd) (s s1 s2 s3 : State) (v : BitVec e.2.2.1.bits) (r : BitVec e.2.2.2.bits) (d : Dest),
    Ready e.1 s → rd e.2.2.1 src (past e.1 s) = .ok v s1 → wr e.2.2.2 dst s1 = .ok d s2 → reservedFloat e.2.2.1 v = false →
    roundTo e.2.2.2 (floatValue e.2.2.1 v) = .value r → store e.2.2.2 d r s2 = .ok ⟨⟩ s3 →
    exec (e.2.1 src dst) s = .next (s3.withCC (r.getLsbD 15) (decide (r = 0)) false false))

/-- ACBx, EMODx and POLYx of floating types. Overlapping destinations of EMODx are left out (notes/assumptions/52.md). -/
def Obligations.FloatLoopEmodAndPolyResults : Prop :=
  (∀ e ∈ acbFloatRows, ∀ (limit add idx : Opnd) (d : Word16) (s s1 s2 s3 s4 : State) (l a i r : BitVec e.2.2.bits) (k : Dest),
    Ready e.1 s → rd e.2.2 limit (past e.1 s) = .ok l s1 → rd e.2.2 add s1 = .ok a s2 → md e.2.2 idx s2 = .ok (k, i) s3 →
    reservedFloat e.2.2 l = false → reservedFloat e.2.2 a = false → reservedFloat e.2.2 i = false →
    roundTo e.2.2 ((floatValue e.2.2 i).add (floatValue e.2.2 a)) = .value r →
    store e.2.2 k r (s3.setReg 15 (s3.pc + 2)) = .ok ⟨⟩ s4 →
    ∀ go : Bool, (go = true ↔ loopGoesOn (floatValue e.2.2 a).rat (floatValue e.2.2 r).rat (floatValue e.2.2 l).rat) →
    exec (e.2.1 limit add idx d) s = .next (State.withCC (if go then s4.setReg 15 (s3.pc + 2 + d.signExtend 32) else s4)
        (r.getLsbD 15) (decide (r = 0)) false s4.ccC))
  ∧ (∀ e ∈ emodRows, ∀ (mulr mulrx muld intg fract : Opnd) (s s1 s2 s3 s4 s5 s6 s7 s8 s9 : State) (v w f : BitVec e.2.2.1.bits)
      (x : BitVec e.2.2.2.1.bits) (di df ki kf : Dest) (p : ExactNum) (z : Bool),
    Ready e.1 s → rd e.2.2.1 mulr (past e.1 s) = .ok v s1 → rdPlain e.2.2.2.1 mulrx s1 = .ok x s2 → rd e.2.2.1 muld s2 = .ok w s3 →
    wrPlain .l intg s3 = .ok di s4 → wr e.2.2.1 fract s4 = .ok df s5 →
    reservedFloat e.2.2.1 v = false → reservedFloat e.2.2.1 w = false →
    p = emodProduct e.2.2.1 e.2.2.2.1 e.2.2.2.2 v x w → roundTo e.2.2.1 p.fract = .value f →
    prepare .l di s5 = .ok ki s6 → prepare e.2.2.1 df s6 = .ok kf s7 → destsOverlap .l ki e.2.2.1 kf = false →
    storePlain .l ki (BitVec.ofInt 32 p.trunc) s7 = .ok ⟨⟩ s8 → store e.2.2.1 kf f s8 = .ok ⟨⟩ s9 →
    z = decide ((BitVec.ofInt 32 p.trunc).toInt ≠ p.trunc) →
    exec (e.2.1 mulr mulrx muld intg fract) s =
      .next ((s9.withCC (f.getLsbD 15) (decide (f = 0)) z false).trappedIf (z && s9.iv) 1))
  ∧ (∀ a : ExactNum, a.rat = a.trunc + a.fract.rat ∧ |a.fract.rat| < 1 ∧ 0 ≤ a.fract.rat * a.rat)
  ∧ (∀ e ∈ polyRows, ∀ (arg degree tbladdr : Opnd) (s s1 s2 s3 s4 : State) (v r0 r : BitVec e.2.2.bits) (n : Word16) (tbl : Long) (c0 : ExactNum)
      (cs : List ExactNum),
    Ready e.1 s → rd e.2.2 arg (past e.1 s) = .ok v s1 → rdPlain .w degree s1 = .ok n s2 → adrPlain .b tbladdr s2 = .ok tbl s3 →
    reservedFloat e.2.2 v = false → n.toNat ≤ 31 → coefficients e.2.2 tbl 0 (n.toNat + 1) s3 = .ok (c0 :: cs) s4 →
    roundTo e.2.2 c0 = .value r0 → cs.foldlM (hornerStep e.2.2 (floatValue e.2.2 v)) r0 = some r →
    PolyEnds (exec (e.2.1 arg degree tbladdr) s) e.2.2 r (tbl + BitVec.ofNat 32 (e.2.2.len * (n.toNat + 1))) false none s4)

/-- Character string moves. Where an overlap is UNPREDICTABLE the bytes are free (notes/assumptions/49.md). -/
def Obligations.StringMoveResults : Prop :=
  (∀ (len srcaddr dstaddr : Opnd) (s s1 s2 s3 s4 s5 : State) (n : Word16) (a b : Long) (bs : List Byte) (dest : List Nat),
    Ready 0x28 s → rdPlain .w len (past 0x28 s) = .ok n s1 → adrPlain .b srcaddr s1 = .ok a s2 → adrPlain .b dstaddr s2 = .ok b s3 →
    bs.length = n.toNat → s3.shows a bs → destBytes b n.toNat s3 = .ok dest s4 → putBytes (dest.zip bs) s4 = .ok ⟨⟩ s5 →
    exec (.movc3 len srcaddr dstaddr) s =
      .next ((s5.withRegs [0, a + long n.toNat, 0, b + long n.toNat, 0, 0]).withCC false true false false))
  ∧ (∀ (srclen srcaddr fill dstlen dstaddr : Opnd) (s s1 s2 s3 s4 s5 s6 s7 : State) (n m : Word16) (f : Byte) (a b : Long)
      (bs : List Byte) (dest : List Nat),
    Ready 0x2C s → rdPlain .w srclen (past 0x2C s) = .ok n s1 → adrPlain .b srcaddr s1 = .ok a s2 → rdPlain .b fill s2 = .ok f s3 →
    rdPlain .w dstlen s3 = .ok m s4 → adrPlain .b dstaddr s4 = .ok b s5 → bs.length = min n.toNat m.toNat → s5.shows a bs →
    destBytes b m.toNat s5 = .ok dest s6 →
    putBytes (dest.zip (bs ++ List.replicate (m.toNat - n.toNat) f)) s6 = .ok ⟨⟩ s7 →
    exec (.movc5 srclen srcaddr fill dstlen dstaddr) s =
      .next ((s7.withRegs [long (n.toNat - m.toNat), a + long bs.length, 0, b + long m.toNat, 0, 0]).withCC
        (decide (n.toInt < m.toInt)) (decide (n = m)) false (decide (n.toNat < m.toNat))))
  ∧ (∀ (srclen srcaddr fill tbladdr dstlen dstaddr : Opnd) (s s1 s2 s3 s4 s5 s6 s7 s8 : State) (n m : Word16) (f : Byte)
      (a b t : Long) (bs : List Byte) (tr : Byte → Byte) (dest : List Nat),
    Ready 0x2E s → rdPlain .w srclen (past 0x2E s) = .ok n s1 → adrPlain .b srcaddr s1 = .ok a s2 → rdPlain .b fill s2 = .ok f s3 →
    adrPlain .b tbladdr s3 = .ok t s4 → rdPlain .w dstlen s4 = .ok m s5 → adrPlain .b dstaddr s5 = .ok b s6 →
    bs.length = min n.toNat m.toNat → s6.shows a bs → (∀ x ∈ bs, s6.shows (t + x.setWidth 32) [tr x]) →
    rangesOverlap b m.toNat t 256 = false → destBytes b m.toNat s6 = .ok dest s7 →
    putBytes (dest.zip (bs.map tr ++ List.replicate (m.toNat - n.toNat) f)) s7 = .ok ⟨⟩ s8 →
    exec (.movtc srclen srcaddr fill tbladdr dstlen dstaddr) s =
      .next ((s8.withRegs [long (n.toNat - m.toNat), a + long bs.length, 0, t, 0, b + long m.toNat]).withCC
        (decide (n.toInt < m.toInt)) (decide (n = m)) false (decide (n.toNat < m.toNat))))
  ∧ (∀ (srclen srcaddr esc tbladdr dstlen dstaddr : Opnd) (s s1 s2 s3 s4 s5 s6 s7 s8 : State) (n m : Word16) (x : Byte)
      (a b t : Long) (out : List (Nat × Byte)) (met : Bool),
    Ready 0x2F s → rdPlain .w srclen (past 0x2F s) = .ok n s1 → adrPlain .b srcaddr s1 = .ok a s2 → rdPlain .b esc s2 = .ok x s3 →
    adrPlain .b tbladdr s3 = .ok t s4 → rdPlain .w dstlen s4 = .ok m s5 → adrPlain .b dstaddr s5 = .ok b s6 →
    rangesOverlap b m.toNat a n.toNat = false → rangesOverlap b m.toNat t 256 = false →
    translateUntil t x a b (min n.toNat m.toNat) s6 = .ok (out, met) s7 → putBytes out s7 = .ok ⟨⟩ s8 →
    exec (.movtuc srclen srcaddr esc tbladdr dstlen dstaddr) s =
      .next ((s8.withRegs [long (n.toNat - out.length), a + long out.length, 0, t, long (m.toNat - out.length),
        b + long out.length]).withCC (decide (n.toInt < m.toInt)) (decide (n = m)) met (decide (n.toNat < m.toNat))))
  ∧ (∀ (s : State) (t a b : Long) (x : Byte) (bs : List Byte) (tr : Byte → Byte) (i n : Nat), s.mm.mapen = false →
    i ≤ n → bs.length = min n (i + 1) → s.shows a bs → (∀ y ∈ bs, s.shows (t + y.setWidth 32) [tr y]) →
    (∀ j < i, ∀ y, bs[j]? = some y → tr y ≠ x) → (∀ y, bs[i]? = some y → tr y = x) →
    translateUntil t x a b n s = .ok ((bs.take i).zipIdx.map fun p => ((b + long p.2).toNat % 2 ^ s.cfg.paw, tr p.1),
      decide (i < n)) s)

/-- Character string searches and comparisons. -/
def Obligations.StringSearchResults : Prop :=
  (∀ e ∈ ([(0x3A, .locc, fun x k => x == k), (0x3B, .skpc, fun x k => x != k)] : List (Nat × (Opnd → Opnd → Opnd → Instr) × (Byte → Byte → Bool))),
    ∀ (char len addr : Opnd) (s s1 s2 s3 : State) (k : Byte) (n : Word16) (a : Long) (bs : List Byte) (i : Nat),
    Ready e.1 s → rdPlain .b char (past e.1 s) = .ok k s1 → rdPlain .w len s1 = .ok n s2 → adrPlain .b addr s2 = .ok a s3 →
    i ≤ n.toNat → bs.length = min n.toNat (i + 1) → s3.shows a bs →
    (∀ j < i, ∀ x, bs[j]? = some x → e.2.2 x k = false) → (∀ x, bs[i]? = some x → e.2.2 x k = true) →
    exec (e.2.1 char len addr) s = .next ((s3.withRegs [long (n.toNat - i), a + long i]).withCC false (decide (i = n.toNat)) false false))
  ∧ (∀ e ∈ ([(0x2A, .scanc, fun x m => x &&& m != 0), (0x2B, .spanc, fun x m => x &&& m == 0)] : List (Nat × (Opnd → Opnd → Opnd → Opnd → Instr) × (Byte → Byte → Bool))),
    ∀ (len addr tbladdr mask : Opnd) (s s1 s2 s3 s4 : State) (m : Byte) (n : Word16) (a t : Long) (bs : List Byte)
      (tr : Byte → Byte) (i : Nat),
    Ready e.1 s → rdPlain .w len (past e.1 s) = .ok n s1 → adrPlain .b addr s1 = .ok a s2 → adrPlain .b tbladdr s2 = .ok t s3 →
    rdPlain .b mask s3 = .ok m s4 → i ≤ n.toNat → bs.length = min n.toNat (i + 1) → s4.shows a bs →
    (∀ x ∈ bs, s4.shows (t + x.setWidth 32) [tr x]) →
    (∀ j < i, ∀ x, bs[j]? = some x → e.2.2 (tr x) m = false) → (∀ x, bs[i]? = some x → e.2.2 (tr x) m = true) →
    exec (e.2.1 len addr tbladdr mask) s =
      .next ((s4.withRegs [long (n.toNat - i), a + long i, 0, t]).withCC false (decide (i = n.toNat)) false false))
  ∧ (∀ (s : State) (a b : Long) (n m i : Nat) (f : Byte) (xs ys : List Byte), i ≤ max n m → n < 65536 → m < 65536 →
    xs.length = min n (i + 1) → ys.length = min m (i + 1) → s.shows a xs → s.shows b ys →
    (∀ j < i, xs.getD j f = ys.getD j f) → (i < max n m → xs.getD i f ≠ ys.getD i f) →
    compareStrings a b n m f s =
      .ok none ((s.withRegs [long (n - i), a + long (min i n), long (m - i), b + long (min i m)]).withCC
        (decide (i < max n m ∧ (xs.getD i f).toInt < (ys.getD i f).toInt)) (decide (i = max n m)) false
        (decide (i < max n m ∧ (xs.getD i f).toNat < (ys.getD i f).toNat))))
  ∧ (∀ (len src1addr src2addr : Opnd) (s s1 s2 s3 s4 : State) (n : Word16) (a b : Long),
    Ready 0x29 s → rdPlain .w len (past 0x29 s) = .ok n s1 → adrPlain .b src1addr s1 = .ok a s2 → adrPlain .b src2addr s2 = .ok b s3 →
    compareStrings a b n.toNat n.toNat 0 s3 = .ok none s4 → exec (.cmpc3 len src1addr src2addr) s = .next s4)
  ∧ (∀ (src1len src1addr fill src2len src2addr : Opnd) (s s1 s2 s3 s4 s5 s6 : State) (n m : Word16) (f : Byte) (a b : Long),
    Ready 0x2D s → rdPlain .w src1len (past 0x2D s) = .ok n s1 → adrPlain .b src1addr s1 = .ok a s2 → rdPlain .b fill s2 = .ok f s3 →
    rdPlain .w src2len s3 = .ok m s4 → adrPlain .b src2addr s4 = .ok b s5 → compareStrings a b n.toNat m.toNat f s5 = .ok none s6 →
    exec (.cmpc5 src1len src1addr fill src2len src2addr) s = .next s6)
  ∧ (∀ (objlen objaddr srclen srcaddr : Opnd) (s s1 s2 s3 s4 : State) (n m : Word16) (o a : Long) (os bs : List Byte) (j : Nat),
    Ready 0x39 s → rdPlain .w objlen (past 0x39 s) = .ok n s1 → adrPlain .b objaddr s1 = .ok o s2 → rdPlain .w srclen s2 = .ok m s3 →
    adrPlain .b srcaddr s3 = .ok a s4 → os.length = n.toNat → s4.shows o os → s4.shows a bs →
    (∀ k < j, k + n.toNat ≤ m.toNat → (bs.drop k).take n.toNat ≠ os) →
    (j + n.toNat ≤ m.toNat → bs.length = j + n.toNat → bs.drop j = os →
      exec (.matchc objlen objaddr srclen srcaddr) s = .next ((s4.withRegs [0, o + long n.toNat, long (m.toNat - j - n.toNat),
        a + long (j + n.toNat)]).withCC false true false false))
    ∧ (j = m.toNat + 1 → bs.length = m.toNat →
      exec (.matchc objlen objaddr srclen srcaddr) s =
        .next ((s4.withRegs [long n.toNat, o, 0, a + long m.toNat]).withCC false false false false)))

/-- The bytes of a destination string are stored in order, and no others. -/
def Obligations.StringBytesAreStoredInOrder : Prop :=
  (∀ (va : Long) (n : Nat) (s s' : State) (dest : List Nat), destBytes va n s = .ok dest s' →
    dest.length = n ∧ s.WriteFrame s' [] ∧ s'.r = s.r ∧ s'.psl = s.psl
    ∧ (s.mm.mapen = false → s'.mem = s.mem ∧ dest = (List.range n).map fun k => (va + long k).toNat % 2 ^ s.cfg.paw))
  ∧ (∀ (out : List (Nat × Byte)) (s s' : State), s.MemOk → (∀ p ∈ out, s.goodRam p.1 1) → putBytes out s = .ok ⟨⟩ s' →
    s' = { s with mem := s'.mem } ∧ s'.MemOk
    ∧ ∀ a, s'.byte a = ((out.reverse.find? fun p => p.1 == a).map Prod.snd).getD (s.byte a))
  ∧ (∀ (out : List (Nat × Byte)) (s : State), s.during = [] → (∀ p ∈ out, place s p.1 = .ram) → ∃ s', putBytes out s = .ok ⟨⟩ s')

/-- Packed decimal moves, compares and arithmetic. Invalid digits fault by the spec's decision D36, overlaps give free
bytes; that the first source is read and validated before the second, and that a zero divisor frees the bytes of the
destination, where R943 and R1079 differ, is the model's choice (notes/assumptions/50.md, notes/assumptions/51.md). -/
def Obligations.DecimalArithmeticResults : Prop :=
  (∀ (len srcaddr dstaddr : Opnd) (s s1 s2 s3 : State) (n : Word16) (a d : Long),
    Ready 0x34 s → rdPlain .w len (past 0x34 s) = .ok n s1 → adrPlain .b srcaddr s1 = .ok a s2 → adrPlain .b dstaddr s2 = .ok d s3 →
    (31 < n.toNat ∨ (n.toNat ≤ 31 ∧ s3.notPacked a n.toNat) → exec (.movp len srcaddr dstaddr) s = s.turnedAway s3)
    ∧ (∀ (v : Int) (s4 : State), n.toNat ≤ 31 → s3.packed a n.toNat v →
      (packedString d n.toNat).clash (packedString a n.toNat) = false → s3.stores d (packedImage n.toNat v) s4 →
      exec (.movp len srcaddr dstaddr) s = .next (s4.decimal [0, a, 0, d] n.toNat v s4.ccC)))
  ∧ (∀ (len src1addr src2addr : Opnd) (s s1 s2 s3 : State) (n : Word16) (a b : Long),
    Ready 0x35 s → rdPlain .w len (past 0x35 s) = .ok n s1 → adrPlain .b src1addr s1 = .ok a s2 → adrPlain .b src2addr s2 = .ok b s3 →
    (31 < n.toNat ∨ (n.toNat ≤ 31 ∧ (s3.notPacked a n.toNat ∨ ∃ x, s3.packed a n.toNat x ∧ s3.notPacked b n.toNat)) →
      exec (.cmpp3 len src1addr src2addr) s = s.turnedAway s3)
    ∧ (∀ x y : Int, n.toNat ≤ 31 → s3.packed a n.toNat x → s3.packed b n.toNat y →
      exec (.cmpp3 len src1addr src2addr) s =
        .next ((s3.withRegs [0, a, 0, b]).withCC (decide (x < y)) (decide (x = y)) false false)))
  ∧ (∀ (src1len src1addr src2len src2addr : Opnd) (s s1 s2 s3 s4 : State) (n m : Word16) (a b : Long),
    Ready 0x37 s → rdPlain .w src1len (past 0x37 s) = .ok n s1 → adrPlain .b src1addr s1 = .ok a s2 → rdPlain .w src2len s2 = .ok m s3 →
    adrPlain .b src2addr s3 = .ok b s4 →
    (s4.badPair a n.toNat b m.toNat → exec (.cmpp4 src1len src1addr src2len src2addr) s = s.turnedAway s4)
    ∧ (∀ x y : Int, n.toNat ≤ 31 → m.toNat ≤ 31 → s4.packed a n.toNat x → s4.packed b m.toNat y →
      exec (.cmpp4 src1len src1addr src2len src2addr) s =
        .next ((s4.withRegs [0, a, 0, b]).withCC (decide (x < y)) (decide (x = y)) false false)))
  ∧ (∀ e ∈ ([(0x20, .addp4, fun x y => y + x), (0x22, .subp4, fun x y => y - x)] : List (Nat × (Opnd → Opnd → Opnd → Opnd → Instr) × (Int → Int → Int))),
    ∀ (len1 addr1 len2 addr2 : Opnd) (s s1 s2 s3 s4 : State) (n m : Word16) (a b : Long),
    Ready e.1 s → rdPlain .w len1 (past e.1 s) = .ok n s1 → adrPlain .b addr1 s1 = .ok a s2 → rdPlain .w len2 s2 = .ok m s3 →
    adrPlain .b addr2 s3 = .ok b s4 →
    (s4.badPair a n.toNat b m.toNat → exec (e.2.1 len1 addr1 len2 addr2) s = s.turnedAway s4)
    ∧ (∀ (x y : Int) (s5 : State), n.toNat ≤ 31 → m.toNat ≤ 31 → s4.packed a n.toNat x → s4.packed b m.toNat y →
      (packedString b m.toNat).clash (packedString a n.toNat) = false → s4.stores b (packedImage m.toNat (e.2.2 x y)) s5 →
      exec (e.2.1 len1 addr1 len2 addr2) s = s5.decimalDone [0, a, 0, b] m.toNat (e.2.2 x y)))
  ∧ (∀ e ∈ ([(0x21, .addp6, fun x y => y + x), (0x23, .subp6, fun x y => y - x), (0x25, .mulp, fun x y => y * x),
 (0x27, .divp, fun x y => y.tdiv x)] : List (Nat × (Opnd → Opnd → Opnd → Opnd → Opnd → Opnd → Instr) × (Int → Int → Int))),
    ∀ (len1 addr1 len2 addr2 len3 addr3 : Opnd) (s s1 s2 s3 s4 s5 s6 : State) (n m k : Word16) (a b d : Long),
    Ready e.1 s → rdPlain .w len1 (past e.1 s) = .ok n s1 → adrPlain .b addr1 s1 = .ok a s2 → rdPlain .w len2 s2 = .ok m s3 →
    adrPlain .b addr2 s3 = .ok b s4 → rdPlain .w len3 s4 = .ok k s5 → adrPlain .b addr3 s5 = .ok d s6 →
    (31 < k.toNat ∨ 31 < n.toNat ∨ 31 < m.toNat → exec (e.2.1 len1 addr1 len2 addr2 len3 addr3) s = s.turnedAway s6)
    ∧ (n.toNat ≤ 31 → m.toNat ≤ 31 → k.toNat ≤ 31 →
      (s6.notPacked a n.toNat → exec (e.2.1 len1 addr1 len2 addr2 len3 addr3) s = s.turnedAway s6)
      ∧ (∀ x : Int, s6.packed a n.toNat x → (e.1 = 0x27 → x ≠ 0) →
        (s6.notPacked b m.toNat → exec (e.2.1 len1 addr1 len2 addr2 len3 addr3) s = s.turnedAway s6)
        ∧ (∀ (y : Int) (s7 : State), s6.packed b m.toNat y → (packedString d k.toNat).clash (packedString a n.toNat) = false →
          (packedString d k.toNat).clash (packedString b m.toNat) = false → s6.stores d (packedImage k.toNat (e.2.2 x y)) s7 →
          exec (e.2.1 len1 addr1 len2 addr2 len3 addr3) s = s7.decimalDone [0, a, 0, b, 0, d] k.toNat (e.2.2 x y)))
      ∧ (e.1 = 0x27 → s6.packed a n.toNat 0 → ∀ (dest : List Nat) (s7 : State), destBytes d (packedLen k.toNat) s6 = .ok dest s7 →
        s7.during = [] → (∀ p ∈ dest, place s7 p = .ram) →
        ∃ (bs : List Byte) (i j : Nat) (s8 : State) (fn fz fv fc : Bool), bs.length = packedLen k.toNat
          ∧ putBytes (dest.zip bs) { s7 with draw := i } = .ok ⟨⟩ s8
          ∧ exec (e.2.1 len1 addr1 len2 addr2 len3 addr3) s =
            .next (State.trapped { (s8.withRegs [0, a, 0, b, 0, d]).withCC fn fz fv fc with draw := j } 4))))
  ∧ (∀ (cnt srclen srcaddr round dstlen dstaddr : Opnd) (s s1 s2 s3 s4 s5 s6 : State) (k r : Byte) (n m : Word16) (a d : Long),
    Ready 0xF8 s → rdPlain .b cnt (past 0xF8 s) = .ok k s1 → rdPlain .w srclen s1 = .ok n s2 → adrPlain .b srcaddr s2 = .ok a s3 →
    rdPlain .b round s3 = .ok r s4 → rdPlain .w dstlen s4 = .ok m s5 → adrPlain .b dstaddr s5 = .ok d s6 →
    (31 < n.toNat ∨ 31 < m.toNat ∨ (n.toNat ≤ 31 ∧ m.toNat ≤ 31 ∧ s6.notPacked a n.toNat) →
      exec (.ashp cnt srclen srcaddr round dstlen dstaddr) s = s.turnedAway s6)
    ∧ (∀ (v w : Int) (s7 : State), n.toNat ≤ 31 → m.toNat ≤ 31 → s6.packed a n.toNat v →
      w = (if 0 ≤ k.toInt then v * 10 ^ k.toInt.toNat
        else if v < 0 then -(((v.natAbs + r.toNat % 16 * 10 ^ ((-k.toInt).toNat - 1)) / 10 ^ (-k.toInt).toNat : Nat) : Int)
        else ((v.natAbs + r.toNat % 16 * 10 ^ ((-k.toInt).toNat - 1)) / 10 ^ (-k.toInt).toNat : Nat)) →
      (packedString d m.toNat).clash (packedString a n.toNat) = false → s6.stores d (packedImage m.toNat w) s7 →
      exec (.ashp cnt srclen srcaddr round dstlen dstaddr) s = s7.decimalDone [0, a, 0, d] m.toNat w))

/-- Decimal conversions and EDITPC. Invalid digits fault by the spec's decision D36, overlaps give free bytes; that
EDITPC leaves R3 at the EO$END byte, where R951 and R953 differ, and that CVTTP reads its table before it validates the
leading digits, is the model's choice (notes/assumptions/50.md, notes/assumptions/51.md). -/
def Obligations.DecimalConversionResults : Prop :=
  (∀ (src dstlen dstaddr : Opnd) (s s1 s2 s3 : State) (x : Long) (m : Word16) (d : Long),
    Ready 0xF9 s → rdPlain .l src (past 0xF9 s) = .ok x s1 → rdPlain .w dstlen s1 = .ok m s2 → adrPlain .b dstaddr s2 = .ok d s3 →
    (31 < m.toNat → exec (.cvtlp src dstlen dstaddr) s = s.turnedAway s3)
    ∧ (∀ s4, m.toNat ≤ 31 → s3.stores d (packedImage m.toNat x.toInt) s4 →
      exec (.cvtlp src dstlen dstaddr) s = s4.decimalDone [0, 0, 0, d] m.toNat x.toInt))
  ∧ (∀ (srclen srcaddr dst : Opnd) (s s1 s2 : State) (n : Word16) (a : Long),
    Ready 0x36 s → rdPlain .w srclen (past 0x36 s) = .ok n s1 → adrPlain .b srcaddr s1 = .ok a s2 →
    (31 < n.toNat ∨ (n.toNat ≤ 31 ∧ s2.notPacked a n.toNat) → exec (.cvtpl srclen srcaddr dst) s = s.turnedAway s2)
    ∧ (∀ (v : Int) (d : Dest) (o : Bool) (s3 s4 : State), n.toNat ≤ 31 → s2.packed a n.toNat v →
      wrPlain .l dst (s2.withRegs [0, a, 0, 0]) = .ok d s3 → storePlain .l d (BitVec.ofInt 32 v) s3 = .ok ⟨⟩ s4 →
      o = decide ((BitVec.ofInt 32 v).toInt ≠ v) →
      exec (.cvtpl srclen srcaddr dst) s = .next ((s4.flags (BitVec.ofInt 32 v) o false).trappedIf (o && s4.iv) 1)))
  ∧ (∀ (srclen srcaddr dstlen dstaddr : Opnd) (s s1 s2 s3 s4 : State) (n m : Word16) (a d : Long),
    (Ready 0x08 s → rdPlain .w srclen (past 0x08 s) = .ok n s1 → adrPlain .b srcaddr s1 = .ok a s2 → rdPlain .w dstlen s2 = .ok m s3 →
      adrPlain .b dstaddr s3 = .ok d s4 →
      (31 < n.toNat ∨ 31 < m.toNat ∨ (n.toNat ≤ 31 ∧ m.toNat ≤ 31 ∧ s4.notPacked a n.toNat) →
        exec (.cvtps srclen srcaddr dstlen dstaddr) s = s.turnedAway s4)
      ∧ (∀ (v : Int) (s5 : State), n.toNat ≤ 31 → m.toNat ≤ 31 → s4.packed a n.toNat v →
        DecString.clash ⟨d, m.toNat, m.toNat + 1⟩ (packedString a n.toNat) = false →
        s4.stores d ((if v < 0 then 0x2D else 0x2B) :: (digitsOf m.toNat v.natAbs).map fun k => BitVec.ofNat 8 (0x30 + k)) s5 →
        exec (.cvtps srclen srcaddr dstlen dstaddr) s = s5.decimalDone [0, a, 0, d] m.toNat v))
    ∧ (Ready 0x09 s → rdPlain .w srclen (past 0x09 s) = .ok n s1 → adrPlain .b srcaddr s1 = .ok a s2 →
      rdPlain .w dstlen s2 = .ok m s3 → adrPlain .b dstaddr s3 = .ok d s4 →
      (31 < n.toNat ∨ 31 < m.toNat → exec (.cvtsp srclen srcaddr dstlen dstaddr) s = s.turnedAway s4)
      ∧ (∀ bs : List Byte, n.toNat ≤ 31 → m.toNat ≤ 31 → bs.length = n.toNat + 1 → s4.shows a bs →
        (separateValue bs = none → exec (.cvtsp srclen srcaddr dstlen dstaddr) s = s.turnedAway s4)
        ∧ (∀ (v : Int) (s5 : State), separateValue bs = some v →
          DecString.clash (packedString d m.toNat) ⟨a, n.toNat, n.toNat + 1⟩ = false → s4.stores d (packedImage m.toNat v) s5 →
          exec (.cvtsp srclen srcaddr dstlen dstaddr) s = s5.decimalDone [0, a, 0, d] m.toNat v))))
  ∧ (∀ (srclen srcaddr tbladdr dstlen dstaddr : Opnd) (s s1 s2 s3 s4 s5 : State) (n m : Word16) (a t d : Long),
    (Ready 0x24 s → rdPlain .w srclen (past 0x24 s) = .ok n s1 → adrPlain .b srcaddr s1 = .ok a s2 → adrPlain .b tbladdr s2 = .ok t s3 →
      rdPlain .w dstlen s3 = .ok m s4 → adrPlain .b dstaddr s4 = .ok d s5 →
      (31 < n.toNat ∨ 31 < m.toNat ∨ (n.toNat ≤ 31 ∧ m.toNat ≤ 31 ∧ s5.notPacked a n.toNat) →
        exec (.cvtpt srclen srcaddr tbladdr dstlen dstaddr) s = s.turnedAway s5)
      ∧ (∀ v : Int, n.toNat ≤ 31 → m.toNat ≤ 31 → s5.packed a n.toNat v →
        (m.toNat = 0 → exec (.cvtpt srclen srcaddr tbladdr dstlen dstaddr) s = s5.decimalDone [0, a, 0, d] 0 v)
        ∧ (0 < m.toNat → ∀ (x : Byte) (s6 : State), s5.shows (t + long (v.natAbs % 10 * 16 + if v < 0 then 13 else 12)) [x] →
          DecString.clash ⟨d, m.toNat, m.toNat⟩ (packedString a n.toNat) = false →
          s5.stores d (((digitsOf (m.toNat - 1) (v.natAbs / 10)).map fun k => BitVec.ofNat 8 (0x30 + k)) ++ [x]) s6 →
          exec (.cvtpt srclen srcaddr tbladdr dstlen dstaddr) s = s6.decimalDone [0, a, 0, d] m.toNat v)))
    ∧ (Ready 0x26 s → rdPlain .w srclen (past 0x26 s) = .ok n s1 → adrPlain .b srcaddr s1 = .ok a s2 → adrPlain .b tbladdr s2 = .ok t s3 →
      rdPlain .w dstlen s3 = .ok m s4 → adrPlain .b dstaddr s4 = .ok d s5 →
      (31 < n.toNat ∨ 31 < m.toNat → exec (.cvttp srclen srcaddr tbladdr dstlen dstaddr) s = s.turnedAway s5)
      ∧ (n.toNat = 0 → m.toNat ≤ 31 → ∀ s6, s5.stores d (packedImage m.toNat 0) s6 →
        exec (.cvttp srclen srcaddr tbladdr dstlen dstaddr) s = s6.decimalDone [0, a, 0, d] m.toNat 0)
      ∧ (∀ (lead : List Byte) (k y : Byte), n.toNat ≤ 31 → m.toNat ≤ 31 → lead.length + 1 = n.toNat → s5.shows a (lead ++ [k]) →
        s5.shows (t + k.setWidth 32) [y] →
        (trailingValue lead y = none → exec (.cvttp srclen srcaddr tbladdr dstlen dstaddr) s = s.turnedAway s5)
        ∧ (∀ (v : Int) (s6 : State), trailingValue lead y = some v →
          DecString.clash (packedString d m.toNat) ⟨a, n.toNat, n.toNat⟩ = false → s5.stores d (packedImage m.toNat v) s6 →
          exec (.cvttp srclen srcaddr tbladdr dstlen dstaddr) s = s6.decimalDone [0, a, 0, d] m.toNat v))))
  ∧ (∀ (srclen srcaddr pattern dstaddr : Opnd) (s s1 s2 s3 s4 : State) (n : Word16) (a p d : Long) (bs : List Byte),
    Ready 0x38 s → rdPlain .w srclen (past 0x38 s) = .ok n s1 → adrPlain .b srcaddr s1 = .ok a s2 → adrPlain .b pattern s2 = .ok p s3 →
    adrPlain .b dstaddr s3 = .ok d s4 →
    (31 < n.toNat → exec (.editpc srclen srcaddr pattern dstaddr) s = s.turnedAway s4)
    ∧ (n.toNat ≤ 31 → bs.length = packedLen n.toNat → s4.shows a bs →
      (beNat bs % 16 < 10 ∨ (n.toNat % 2 = 0 ∧ (packedDigits n.toNat bs).headD 0 ≠ 0) →
        exec (.editpc srclen srcaddr pattern dstaddr) s = s.turnedAway s4)
      ∧ (10 ≤ beNat bs % 16 → (n.toNat % 2 = 0 → (packedDigits n.toNat bs).headD 0 = 0) → ∀ (minus : Bool) (start : Edit),
        minus = decide (beNat bs % 16 = 11 ∨ beNat bs % 16 = 13) →
        start = ⟨(packedDigits n.toNat bs).drop ((packedDigits n.toNat bs).length - n.toNat), 0, 0x20, if minus then 0x2D else 0x20, d, p,
          [], minus, true, false, false⟩ →
        (∀ s5, editRun start (2 ^ 32) s4 = .error (.exc reservedOperand) s5 →
          exec (.editpc srclen srcaddr pattern dstaddr) s = s.turnedAway s5)
        ∧ (∀ (e : Edit) (s5 s6 : State), editRun start (2 ^ 32) s4 = .ok e s5 →
          rangesOverlap d e.out.length a (packedLen n.toNat) = false →
          rangesOverlap d e.out.length p ((e.pp - p).toNat + 1) = false → putBytes e.out.reverse s5 = .ok ⟨⟩ s6 →
          exec (.editpc srclen srcaddr pattern dstaddr) s =
            .next (((s6.withRegs [long n.toNat, a, 0, e.pp, 0, e.dp]).withCC e.n e.z e.v e.c).trappedIf (e.v && s6.dv) 6)))))
  ∧ (∀ (digits : List Nat) (minus : Bool) (p d : Long) (s : State) (pattern : List Byte) (x : EditText) (k : Nat),
    s.mm.mapen = false → pattern.length < 2 ^ 32 → s.shows p pattern → EditText.run pattern (.start digits minus) = some (x, k) →
    ∃ e, editRun ⟨digits, 0, 0x20, if minus then 0x2D else 0x20, d, p, [], minus, true, false, false⟩ (2 ^ 32) s = .ok e s
      ∧ e.out.reverse = x.text.zipIdx.map (fun y => ((d + long y.2).toNat % 2 ^ s.cfg.paw, y.1))
      ∧ e.dp = d + long x.text.length ∧ e.pp = p + long k ∧ e.n = x.n ∧ e.z = x.z ∧ e.v = x.v ∧ e.c = x.c)
  ∧ (∀ (e : Edit) (s : State) (b : Byte) (fuel : Nat), readByte e.pp s = .ok b s →
    (0x05 ≤ b.toNat ∧ b.toNat ≤ 0x3F) ∨ (0x48 ≤ b.toNat ∧ b.toNat ≤ 0x80) ∨ b = 0x90 ∨ b = 0xA0 ∨ 0xB0 ≤ b.toNat
      ∨ ((0x91 ≤ b.toNat ∧ b.toNat ≤ 0x9F ∨ 0xA1 ≤ b.toNat ∧ b.toNat ≤ 0xAF) ∧ e.zeros = 0 ∧ ∀ d ∈ e.digits.head?, 9 < d)
      ∨ (b = 0 ∧ (e.digits ≠ [] ∨ e.zeros ≠ 0)) →
    editRun e (fuel + 1) s = .error (.exc reservedOperand) s)
  ∧ ((EditText.run [0x43, 0x2D, 0xA4, 0x01, 0x91, 0x00] (.start [0, 1, 2, 3, 4] true)).map (fun r => (r.1.text, r.1.n, r.1.z, r.1.v, r.1.c)) =
      some ([0x20, 0x2D, 0x31, 0x32, 0x33, 0x34], true, false, false, true)
    ∧ (EditText.run [0x43, 0x2D, 0xA4, 0x01, 0x91, 0x00] (.start [0, 0, 0, 0, 0] false)).map (fun r => (r.1.text, r.1.n, r.1.z, r.1.v, r.1.c)) =
      some ([0x20, 0x20, 0x20, 0x20, 0x20, 0x30], false, true, false, true))

/-- Stored decimal strings read back as the low-order digits of the value. -/
def Obligations.PackedStringsKeepTheirValue : Prop :=
  (∀ (len : Nat) (v : Int), packedValue len (packedImage len v) =
    some (if v < 0 then -((v.natAbs % 10 ^ len : Nat) : Int) else ((v.natAbs % 10 ^ len : Nat) : Int)))
  ∧ (∀ (len : Nat) (v : Int), (packedImage len v).length = len / 2 + 1)
  ∧ (∀ (len : Nat) (v : Int), separateValue ((if v < 0 then 0x2D else 0x2B) ::
      (digitsOf len v.natAbs).map fun k => BitVec.ofNat 8 (0x30 + k)) =
    some (if v < 0 then -((v.natAbs % 10 ^ len : Nat) : Int) else ((v.natAbs % 10 ^ len : Nat) : Int)))
  ∧ (∀ (len : Nat) (bs : List Byte) (v : Int), bs.length = len / 2 + 1 → packedValue len bs = some v → v.natAbs < 10 ^ len)

/-- Register masks, PSW, INDEX, NOP and CRC. -/
def Obligations.MiscellaneousResults : Prop :=
  (∀ (mask : Opnd) (s s1 s2 : State) (m : Word16), Ready 0xBB s → rd .w mask (past 0xBB s) = .ok m s1 →
    (field m 0 15 = 0 → exec (.pushr mask) s = .next s1)
    ∧ (field m 0 15 ≠ 0 →
      push (((List.range 15).reverse.filter fun i => m.getLsbD i).map fun i => s1.reg (Fin.ofNat 16 i)) s1 = .ok ⟨⟩ s2 →
      exec (.pushr mask) s = .next s2)
    ∧ (∀ e, field m 0 15 ≠ 0 →
      push (((List.range 15).reverse.filter fun i => m.getLsbD i).map fun i => s1.reg (Fin.ofNat 16 i)) s1 = .error (.exc e) s2 →
      exec (.pushr mask) s = outcomeOf (enterException e s.pc { s2 with r := s.r, psl := s.psl })))
  ∧ (∀ (mask : Opnd) (s s1 s2 : State) (m : Word16) (rs : List Nat) (xs : List Long) (e : Exc), Ready 0xBA s →
    rd .w mask (past 0xBA s) = .ok m s1 → rs = (List.range 15).filter (fun i => m.getLsbD i) →
    (rs = [] → exec (.popr mask) s = .next s1)
    ∧ (rs ≠ [] → stackTop rs.length s1 = .ok xs s2 →
      ∃ t, exec (.popr mask) s = .next t ∧ t = { s2 with r := t.r } ∧ t.pc = s2.pc
        ∧ (s1.during = [] →
          s2 = { s1 with v750 := s2.v750, v780 := s2.v780, mbas := s2.mbas, sent := s2.sent, draw := s2.draw })
        ∧ (∀ i < 14, i ∉ rs → t.reg (Fin.ofNat 16 i) = s2.reg (Fin.ofNat 16 i))
        ∧ (∀ (k i : Nat) (x : Long), xs[k]? = some x → rs[k]? = some i → t.reg (Fin.ofNat 16 i) = x)
        ∧ (14 ∉ rs → t.reg 14 = s2.reg 14 + BitVec.ofNat 32 (4 * rs.length)))
    ∧ (rs ≠ [] → stackTop rs.length s1 = .error (.exc e) s2 →
      exec (.popr mask) s = outcomeOf (enterException e s.pc { s2 with r := s.r, psl := s.psl })))
  ∧ (∀ (n : Nat) (s s1 : State) (e : Stop),
    (translateSpan (s.reg 14) (4 * n) false s.cur s = .error e s1 → stackTop n s = .error e s1)
    ∧ (s.mm.mapen = false → 4 * n ≤ leftInPage (s.reg 14) →
      (∀ k < n, s.goodRam ((s.reg 14).toNat % 2 ^ s.cfg.paw + 4 * k) 4) →
      stackTop n s = .ok ((List.range n).map fun k => s.longAt ((s.reg 14).toNat % 2 ^ s.cfg.paw + 4 * k)) s))
  ∧ (∀ (dst : Opnd) (s s1 s2 : State) (d : Dest), Ready 0xDC s → wr .l dst (past 0xDC s) = .ok d s1 →
    store .l d (s1.psl &&& 0xB7FFFFFF) s1 = .ok ⟨⟩ s2 → exec (.movpsl dst) s = .next s2)
  ∧ (∀ (mask : Opnd) (s s1 : State) (m : Word16),
    (Ready 0xB8 s → rd .w mask (past 0xB8 s) = .ok m s1 →
      (m.toNat < 256 → exec (.bispsw mask) s = .next { s1 with psl := s1.psl ||| m.setWidth 32 })
      ∧ (256 ≤ m.toNat →
        exec (.bispsw mask) s = s.turnedAway s1))
    ∧ (Ready 0xB9 s → rd .w mask (past 0xB9 s) = .ok m s1 →
      (m.toNat < 256 → exec (.bicpsw mask) s = .next { s1 with psl := s1.psl &&& ~~~(m.setWidth 32) })
      ∧ (256 ≤ m.toNat →
        exec (.bicpsw mask) s = s.turnedAway s1)))
  ∧ (∀ (subscript low high size indexin indexout : Opnd) (s s1 s2 s3 s4 s5 s6 s7 : State) (i lo hi n x : Long) (d : Dest),
    Ready 0x0A s → rd .l subscript (past 0x0A s) = .ok i s1 → rd .l low s1 = .ok lo s2 → rd .l high s2 = .ok hi s3 →
    rd .l size s3 = .ok n s4 → rd .l indexin s4 = .ok x s5 → wr .l indexout s5 = .ok d s6 →
    store .l d ((x + i) * n) s6 = .ok ⟨⟩ s7 →
    (lo.toInt ≤ i.toInt ∧ i.toInt ≤ hi.toInt →
      exec (.index subscript low high size indexin indexout) s = .next (s7.flags ((x + i) * n) false false))
    ∧ (¬ (lo.toInt ≤ i.toInt ∧ i.toInt ≤ hi.toInt) →
      exec (.index subscript low high size indexin indexout) s = .next ((s7.flags ((x + i) * n) false false).trapped 7)))
  ∧ (∀ s : State, Ready 0x01 s → exec .nop s = .next (s.setReg 15 (s.pc + 1)))
  ∧ (∀ (tbl inicrc strlen stream : Opnd) (s s1 s2 s3 s4 : State) (t x a : Long) (n : Word16) (table : Nat → Long) (bs : List Byte),
    Ready 0x0B s → adrPlain .b tbl (past 0x0B s) = .ok t s1 → rdPlain .l inicrc s1 = .ok x s2 → rdPlain .w strlen s2 = .ok n s3 →
    adrPlain .b stream s3 = .ok a s4 → (∀ k < 16, readLong (t + BitVec.ofNat 32 (4 * k)) s4 = .ok (table k) s4) →
    bs.length = n.toNat → s4.shows a bs →
    exec (.crc tbl inicrc strlen stream) s =
      .next ((s4.withRegs [bs.foldl (fun y b => crcStep table (crcStep table (y ^^^ b.setWidth 32))) x, 0, 0,
          a + BitVec.ofNat 32 n.toNat]).flags
        (bs.foldl (fun y b => crcStep table (crcStep table (y ^^^ b.setWidth 32))) x) false s4.ccC))

/-- REI and the change mode instructions. That CHMx halts on a vector code is the spec's decision D37, that the AST
request is SISR<2> its decision D48 (notes/assumptions/31.md, notes/assumptions/32.md). -/
def Obligations.ReturnFromExceptionAndChangeMode : Prop :=
  (∀ (s s1 s2 : State) (pc new : Long), Ready 0x02 s → pop (past 0x02 s) = .ok pc s1 → pop s1 = .ok new s2 →
    (ReiLegal s.psl new →
      ∃ t, exec .rei s = .next t ∧ t.pc = pc ∧ t.psl = (if s.psl.getLsbD 30 then new ||| 0x40000000 else new) ∧ t.mem = s2.mem
        ∧ (∀ k : Reg, k ≠ 14 → k ≠ 15 → t.reg k = s2.reg k)
        ∧ t.sp = (if s.is then { s2.sp with isp := s2.reg 14 } else s2.sp.put s.cur (s2.reg 14))
        ∧ t.reg 14 = (if new.getLsbD 26 then s2.reg 14 else t.sp.get (field new 24 2))
        ∧ t.sisr = (if new.getLsbD 26 = false ∧ s2.astlvl.toNat ≤ field new 24 2 then s2.sisr ||| 4 else s2.sisr))
    ∧ (¬ ReiLegal s.psl new →
      exec .rei s = s.turnedAway s2))
  ∧ (∀ e ∈ ([(0xBC, .chmk, 0), (0xBD, .chme, 1), (0xBE, .chms, 2), (0xBF, .chmu, 3)] :
      List (Nat × (Opnd → Instr) × Nat)),
    ∀ (code : Opnd) (s s1 : State) (x : Word16), Ready e.1 s → rd .w code (past e.1 s) = .ok x s1 →
    (s1.is = true → ∃ t, exec (e.2.1 code) s = .next t ∧ t.run = .halted .chmOnInterruptStack ∧ t.r = s1.r ∧ t.psl = s1.psl ∧ t.mem = s1.mem)
    ∧ (s1.is = false → ∀ (s2 s3 s4 : State) (v : Long), readVector (0x40 + 4 * e.2.2) s1 = .ok (some v) s2 →
      (field v 0 2 ≠ 0 → ∃ t, exec (e.2.1 code) s = .next t ∧ t.run = .halted .chmVector ∧ t.r = s2.r ∧ t.psl = s1.psl)
      ∧ (field v 0 2 = 0 → s3 = (if min e.2.2 s1.cur = s1.cur then s2 else s2.setReg 14 (s1.sp.get (min e.2.2 s1.cur))) →
        pushFrame (min e.2.2 s1.cur) [s1.psl, s1.pc, x.signExtend 32] s3 = .ok ⟨⟩ s4 →
        ∃ t, exec (e.2.1 code) s = .next t ∧ t.pc = v &&& 0xFFFFFFFC ∧ t.cur = min e.2.2 s1.cur ∧ t.prv = s1.cur ∧ t.ipl = s1.ipl
          ∧ t.is = false ∧ t.psl &&& 0xC80000FF = 0 ∧ t.sp = s4.sp.put s1.cur (s1.reg 14) ∧ t.mem = s4.mem
          ∧ ∀ k : Reg, k ≠ 15 → t.reg k = s4.reg k)))

/-- Moves to and from processor registers. That MBZ bits are ignored is the spec's decision D12, the check of P0BR and
P1BR beyond their first bit its decision D13, that WCSA and the SBI registers read back what was written its
decision D18, what I/O reset does its decision D17; that condition codes come before the register write, that an access
ends an initialization, and what registers whose layout is lost read, is the model's choice (notes/assumptions/39.md,
notes/assumptions/40.md, notes/assumptions/41.md, notes/assumptions/42.md, notes/assumptions/43.md,
notes/assumptions/44.md, notes/assumptions/59.md, notes/assumptions/61.md). -/
def Obligations.ProcessorRegisterTransfers : Prop :=
  (∀ (src procreg : Opnd) (s s1 s2 s3 : State) (v n : Long), Ready 0xDA s → rd .l src (past 0xDA s) = .ok v s1 →
    rd .l procreg s1 = .ok n s2 → writeReg n.toNat v (s2.flags v false s2.ccC) = .ok ⟨⟩ s3 → exec (.mtpr src procreg) s = .next s3)
  ∧ (∀ (procreg dst : Opnd) (s s1 s2 s3 s4 s5 : State) (n v : Long) (d k : Dest), Ready 0xDB s →
    rd .l procreg (past 0xDB s) = .ok n s1 → wr .l dst s1 = .ok d s2 → prepare .l d s2 = .ok k s3 →
    readReg n.toNat s3 = .ok v s4 → store .l k v s4 = .ok ⟨⟩ s5 → exec (.mfpr procreg dst) s = .next (s5.flags v false s5.ccC))
  ∧ (∀ (s : State) (v : Long), ∀ e ∈ ([(0x00, 0xFFFFFFFF), (0x01, 0xFFFFFFFF), (0x02, 0xFFFFFFFF), (0x03, 0xFFFFFFFF),
      (0x04, 0xFFFFFFFF), (0x09, 0x003FFFFF), (0x0B, 0x003FFFFF), (0x0D, 0x003FFFFF), (0x12, 0x1F), (0x15, 0xFFFE), (0x38, 1),
      (0x3D, 1), (0x0C, if s.is750 then 0x00FFFFFC else 0x3FFFFFFC), (0x10, 0xFFFFFFFF),
      (0x11, if s.is750 then 0x00FFFE00 else 0x3FFFFE00)] : List (Nat × Long)),
    ∃ t, writeReg e.1 v s = .ok ⟨⟩ t ∧ readReg e.1 t = .ok (v &&& e.2) t ∧ t.mem = s.mem ∧ (∀ k : Reg, k ≠ 14 → t.reg k = s.reg k)
      ∧ (e.1 ≠ 0x12 → t.psl = s.psl))
  ∧ (∀ (s : State) (v : Long),
    (field v 30 2 = 2 ∧ field v 0 2 = 0 → ∃ t, writeReg 0x08 v s = .ok ⟨⟩ t ∧ readReg 0x08 t = .ok v t)
    ∧ (¬ (field v 30 2 = 2 ∧ field v 0 2 = 0) → writeReg 0x08 v s = .error (.exc reservedOperand) s)
    ∧ (field (v + 0x00800000) 30 2 = 2 ∧ field v 0 2 = 0 → ∃ t, writeReg 0x0A v s = .ok ⟨⟩ t ∧ readReg 0x0A t = .ok v t)
    ∧ (¬ (field (v + 0x00800000) 30 2 = 2 ∧ field v 0 2 = 0) → writeReg 0x0A v s = .error (.exc reservedOperand) s)
    ∧ (writeReg 0x39 v s = .ok ⟨⟩ { s with tb := [] } ∧ readReg 0x39 s = .error (.exc reservedOperand) s
      ∧ readReg 0x3A s = .error (.exc reservedOperand) s)
    ∧ (Sparse.wfFrom 0 s.tb = true → ∃ t, writeReg 0x3A v s = .ok ⟨⟩ t ∧ t = { s with tb := t.tb }
      ∧ ∀ p, Sparse.get t.tb p = if p = field v 9 23 then 0 else Sparse.get s.tb p)
    ∧ (field v 0 3 < 5 → ∃ t, writeReg 0x13 v s = .ok ⟨⟩ t ∧ readReg 0x13 t = .ok (v &&& 7) t)
    ∧ (5 ≤ field v 0 3 → writeReg 0x13 v s = .error (.exc reservedOperand) s)
    ∧ (field v 0 4 ≠ 0 → writeReg 0x14 v s = .ok ⟨⟩ { s with sisr := s.sisr ||| (1#16 <<< field v 0 4) })
    ∧ readReg 0x3E s = .ok s.cfg.sidValue s ∧ readReg 0x14 s = .error (.exc reservedOperand) s
    ∧ writeReg 0x3E v s = .error (.exc reservedOperand) s ∧ writeReg 0x1A v s = .error (.exc reservedOperand) s
    ∧ (∀ n, 0x40 ≤ n → readReg n s = .error (.exc reservedOperand) s ∧ writeReg n v s = .error (.exc reservedOperand) s)
    ∧ ClockRegisters s v ∧ ConsoleRegisters s v ∧ (s.is750 = true → ErrorRegisters750 s v)
    ∧ (s.is750 = false → Registers780 s v))

/-- Process context, PROBEx and HALT. That LDPCTX checks everything before it loads is the spec's decision D38, the
empty translation buffer its decision D24; that all is read before LDPCTX pushes, and popped before SVPCTX stores,
is the model's choice (notes/assumptions/12.md, notes/assumptions/59.md, notes/assumptions/63.md). -/
def Obligations.ContextSwitchProbeAndHalt : Prop :=
  (∀ (s s1 s2 s3 : State) (w : List Long) (t : State), Ready 0x06 s → readPcbs 0 24 (past 0x06 s) = .ok w s1 →
    field (w.getD 20 0) 30 2 = 2 → field (w.getD 20 0) 0 2 = 0 → w.getD 21 0 &&& 0xF8C00000 = 0 → field (w.getD 21 0) 24 3 < 5 →
    field (w.getD 22 0 + 0x00800000) 30 2 = 2 → field (w.getD 22 0) 0 2 = 0 → w.getD 23 0 &&& 0x7FC00000 = 0 →
    t = { s1.withRegs ((w.drop 4).take 14) with
      tb := s1.tb.filter fun e => decide (0x400000 ≤ e.1)
      sp := ⟨w.getD 0 0, w.getD 1 0, w.getD 2 0, w.getD 3 0, s1.sp.isp⟩
      mm := { s1.mm with
        p0br := w.getD 20 0, p0lr := (w.getD 21 0).setWidth 22, p1br := w.getD 22 0, p1lr := (w.getD 23 0).setWidth 22 }
      astlvl := (w.getD 21 0).extractLsb' 24 3
      pme := (w.getD 23 0).getLsbD 31 } →
    s2 = (if s1.is then { (t.setReg 14 (w.getD 0 0)) with
      sp := { t.sp with isp := s1.reg 14 }, psl := t.psl &&& 0xFBFFFFFF } else t) →
    pushFrame 0 [w.getD 19 0, w.getD 18 0] s2 = .ok ⟨⟩ s3 → exec .ldpctx s = .next s3)
  ∧ (∀ (s s1 : State) (w : List Long), Ready 0x06 s → readPcbs 0 24 (past 0x06 s) = .ok w s1 →
    field (w.getD 20 0) 30 2 ≠ 2 ∨ field (w.getD 20 0) 0 2 ≠ 0 ∨ w.getD 21 0 &&& 0xF8C00000 ≠ 0 ∨ 5 ≤ field (w.getD 21 0) 24 3
      ∨ field (w.getD 22 0 + 0x00800000) 30 2 ≠ 2 ∨ field (w.getD 22 0) 0 2 ≠ 0 ∨ w.getD 23 0 &&& 0x7FC00000 ≠ 0 →
    exec .ldpctx s = outcomeOf (enterException ⟨true, 0x18, []⟩ s.pc { s1 with r := s.r, psl := s.psl })
    ∧ (s.during = [] → { s1 with r := s.r, psl := s.psl } =
      { s with v750 := s1.v750, v780 := s1.v780, mbas := s1.mbas, sent := s1.sent, draw := s1.draw }))
  ∧ (∀ (s s1 s2 s3 : State) (pc psl : Long), Ready 0x07 s → pop (past 0x07 s) = .ok pc s1 → pop s1 = .ok psl s2 →
    writePcbs 0 ([s2.sp.ksp, s2.sp.esp, s2.sp.ssp, s2.sp.usp] ++ ((List.range 14).map fun i => s2.reg (Fin.ofNat 16 i)) ++ [pc, psl]) s2 =
      .ok ⟨⟩ s3 →
    (s2.is = true → exec .svpctx s = .next s3)
    ∧ (s2.is = false → ∀ s4, writePcbs 0 [s2.reg 14] s3 = .ok ⟨⟩ s4 →
      ∃ t, exec .svpctx s = .next t ∧ t.is = true ∧ t.ipl = max 1 s2.ipl ∧ t.cur = s4.cur ∧ t.mem = s4.mem ∧ t.reg 14 = s4.sp.isp
        ∧ t.sp = { s4.sp with ksp := s2.reg 14 } ∧ ∀ k : Reg, k ≠ 14 → t.reg k = s4.reg k))
  ∧ (∀ e ∈ ([(0x0C, .prober, false), (0x0D, .probew, true)] : List (Nat × (Opnd → Opnd → Opnd → Instr) × Bool)),
    ∀ (modeOp len base : Opnd) (s s1 s2 s3 s4 s5 : State) (m : Byte) (n : Word16) (a : Long) (x y : Bool),
    Ready e.1 s → rd .b modeOp (past e.1 s) = .ok m s1 → rd .w len s1 = .ok n s2 → adr .b base s2 = .ok a s3 →
    accessible a e.2.2 (max (m.toNat % 4) s3.prv) s3 = .ok x s4 →
    accessible (a + n.setWidth 32 - 1) e.2.2 (max (m.toNat % 4) s3.prv) s4 = .ok y s5 →
    exec (e.2.1 modeOp len base) s = .next (s5.withCC false (!(x && y)) false false))
  ∧ (∀ (s : State) (va : Long) (write : Bool) (mode : Nat),
    (s.mm.mapen = false → accessible va write mode s = .ok true s)
    ∧ (s.mm.mapen = true → (s.is750 = true → field s.v750.tbdr 0 2 ≠ 3) → field va 30 2 = 2 →
      (s.mm.slr.toNat ≤ field va 9 21 → accessible va write mode s = .ok false s)
      ∧ (field va 9 21 < s.mm.slr.toNat → s.goodRam (systemPte s va) 4 → field (s.longAt (systemPte s va)) 27 4 ≠ 1 →
        accessible va false mode s = .ok (accessAllowed (field (s.longAt (systemPte s va)) 27 4) mode false) s)
      ∧ (field va 9 21 < s.mm.slr.toNat → s.goodRam (systemPte s va) 4 → field (s.longAt (systemPte s va)) 27 4 ≠ 1 →
        ∃ t, accessible va true mode s = .ok (accessAllowed (field (s.longAt (systemPte s va)) 27 4) mode true) t
          ∧ t.r = s.r ∧ t.psl = s.psl))
    ∧ (s.mm.mapen = true → (s.is750 = true → field s.v750.tbdr 0 2 ≠ 3) →
      (field va 30 2 = 3 → accessible va write mode s = .ok false s)
      ∧ (field va 30 2 < 2 →
        (s.beyondTable va → accessible va write mode s = .ok false s)
        ∧ (¬ s.beyondTable va → field (s.processPteVa va) 30 2 ≠ 2 ∨ s.mm.slr.toNat ≤ field (s.processPteVa va) 9 21 →
          accessible va write mode s = .ok false s)
        ∧ (∀ x, s.tableEntry va x →
          (accessAllowed (field x 27 4) 0 false = false → accessible va write mode s = .ok false s)
          ∧ (accessAllowed (field x 27 4) 0 false = true → x.getLsbD 31 = false →
            accessible va write mode s = .error (.exc ⟨false, 0x24, [va, (if write then 4 else 0) + 2]⟩) s))
        ∧ (∀ pa, s.entryAt va pa →
          accessible va false mode s = .ok (accessAllowed (field (s.longAt pa) 27 4) mode false) s
          ∧ ∃ t, accessible va true mode s = .ok (accessAllowed (field (s.longAt pa) 27 4) mode true) t
            ∧ t.r = s.r ∧ t.psl = s.psl))))
  ∧ (∀ s : State, Ready 0x00 s →
    ∃ t, exec .halt s = .next t ∧ t.run = .halted .haltInstruction ∧ t.pc = s.pc + 1 ∧ t.psl = s.psl ∧ t.mem = s.mem
      ∧ ∀ k : Reg, k ≠ 15 → t.reg k = s.reg k)

end
end

