-- ==== Sys2Proof/Laws/Keeps.lean ====
section
/-! SUPPORT. What an action keeps however it ends: a property of the state, or a relation to the state before. -/
namespace Sys2Proof.Machine

/-- The state an action ends with, whether it completed or stopped. -/
def endState {α : Type} : EStateM.Result Stop State α → State
  | .ok _ t => t
  | .error _ t => t

/-- Started where `P` holds, `x` ends where `P` holds, however it ends. With `P t := R s t` for a fixed `s` it says
that `R` relates every state `x` reaches to `s`. -/
structure Keeps {α : Type} (P : State → Prop) (x : M α) : Prop where
  holds : ∀ s, P s → P (endState (x s))

variable {α β : Type} {P : State → Prop}

theorem Keeps.pure (a : α) : Keeps P (Pure.pure a : M α) := ⟨fun _ h => h⟩
theorem Keeps.get : Keeps P (MonadState.get : M State) := ⟨fun _ h => h⟩
theorem Keeps.throw (e : Stop) : Keeps P (throw e : M α) := ⟨fun _ h => h⟩
theorem Keeps.raise (e : Exc) : Keeps P (raise e : M α) := ⟨fun _ h => h⟩
theorem Keeps.refuse (e : Refusal) : Keeps P (refuse e : M α) := ⟨fun _ h => h⟩
theorem Keeps.done : Keeps P done := ⟨fun _ h => h⟩
theorem Keeps.modify {f : State → State} (hf : ∀ s, P s → P (f s)) : Keeps P (modify f : M PUnit) := ⟨fun s h => hf s h⟩
theorem Keeps.set {t : State} (ht : P t) : Keeps P (set t : M PUnit) := ⟨fun _ _ => ht⟩

theorem Keeps.bind {x : M α} {f : α → M β} (hx : Keeps P x) (hf : ∀ a, Keeps P (f a)) : Keeps P (x >>= f) := by
  refine ⟨fun s hs => ?_⟩
  have h1 := hx.holds s hs
  show P (endState (EStateM.bind x f s))
  unfold EStateM.bind
  cases hr : x s with
  | ok a t => rw [hr] at h1; exact (hf a).holds t h1
  | error e t => rw [hr] at h1; exact h1

/-- An action that looks at the state: what holds of it may be used. -/
theorem Keeps.bindGet {f : State → M β} (hf : ∀ s, P s → Keeps P (f s)) : Keeps P (MonadState.get >>= f) :=
  ⟨fun s hs => (hf s hs).holds s hs⟩

theorem Keeps.map {x : M α} (f : α → β) (hx : Keeps P x) : Keeps P (f <$> x) := by
  refine ⟨fun s hs => ?_⟩
  have h1 := hx.holds s hs
  show P (endState (EStateM.map f x s))
  unfold EStateM.map
  cases hr : x s <;> rw [hr] at h1 <;> exact h1

theorem Keeps.attempt {x : M α} (hx : Keeps P x) : Keeps P (attempt x) := by
  refine ⟨fun s hs => ?_⟩
  have h1 := hx.holds s hs
  unfold Sys2Proof.Machine.attempt
  cases hr : x s <;> rw [hr] at h1 <;> exact h1

theorem Keeps.forM (l : List β) {f : β → M PUnit} (hf : ∀ b, Keeps P (f b)) : Keeps P (l.forM f) := by
  induction l with
  | nil => exact Keeps.pure _
  | cons b rest ih => exact Keeps.bind (hf b) fun _ => ih

theorem Keeps.foldlM (l : List β) {f : α → β → M α} (hf : ∀ a b, Keeps P (f a b)) (a : α) :
    Keeps P (l.foldlM f a) := by
  induction l generalizing a with
  | nil => exact Keeps.pure _
  | cons b rest ih => exact Keeps.bind (hf a b) fun c => ih c

theorem Keeps.mapM (l : List α) {f : α → M β} (hf : ∀ a, Keeps P (f a)) : Keeps P (l.mapM f) := by
  have go : ∀ (acc : List β), Keeps P (List.mapM.loop f l acc) := by
    induction l with
    | nil => intro acc; exact Keeps.pure _
    | cons a rest ih => intro acc; exact Keeps.bind (hf a) fun b => ih (b :: acc)
  exact go []

theorem Keeps.discard {x : M α} (hx : Keeps P x) : Keeps P (discard x) := Keeps.map _ hx

/-- What an action that completes leaves. -/
theorem Keeps.of_ok {x : M α} (hx : Keeps P x) {s t : State} {a : α} (e : x s = .ok a t) (hs : P s) : P t := by
  have := hx.holds s hs
  rw [e] at this
  exact this

/-- What an action that stops leaves. -/
theorem Keeps.of_error {x : M α} (hx : Keeps P x) {s t : State} {k : Stop} (e : x s = .error k t) (hs : P s) : P t := by
  have := hx.holds s hs
  rw [e] at this
  exact this

/-- The first step of a composition that completes. -/
theorem bind_ok {x : M α} {f : α → M β} {s u : State} {b : β} (e : (x >>= f) s = .ok b u) :
    ∃ a t, x s = .ok a t ∧ f a t = .ok b u := by
  change EStateM.bind x f s = _ at e
  unfold EStateM.bind at e
  cases hr : x s with
  | ok a t => rw [hr] at e; exact ⟨a, t, rfl, e⟩
  | error k t => rw [hr] at e; exact nomatch e

/-- A composition whose first step completes goes on from there. -/
theorem bind_of_ok {x : M α} (f : α → M β) {s t : State} {a : α} (e : x s = .ok a t) : (x >>= f) s = f a t := by
  change EStateM.bind x f s = _
  unfold EStateM.bind
  rw [e]

/-- A composition whose first step stops, stops. -/
theorem bind_of_error {x : M α} (f : α → M β) {s t : State} {k : Stop} (e : x s = .error k t) :
    (x >>= f) s = .error k t := by
  change EStateM.bind x f s = _
  unfold EStateM.bind
  rw [e]

/-! ### The plainest actions evaluated -/

@[simp] theorem run_pure (a : α) (s : State) : (Pure.pure a : M α) s = .ok a s := rfl
@[simp] theorem run_get (s : State) : (MonadState.get : M State) s = .ok s s := rfl
@[simp] theorem run_set (t s : State) : (MonadStateOf.set t : M PUnit) s = .ok ⟨⟩ t := rfl
@[simp] theorem run_modify (f : State → State) (s : State) : (modify f : M PUnit) s = .ok ⟨⟩ (f s) := rfl
@[simp] theorem run_throw (e : Stop) (s : State) : (throw e : M α) s = .error e s := rfl
@[simp] theorem run_raise (e : Exc) (s : State) : (Sys2Proof.Machine.raise e : M α) s = .error (.exc e) s := rfl
@[simp] theorem run_refuse (e : Refusal) (s : State) : (Sys2Proof.Machine.refuse e : M α) s = .error (.refuse e) s := rfl
@[simp] theorem run_getR (n : Reg) (s : State) : getR n s = .ok (s.reg n) s := rfl
@[simp] theorem run_setR (n : Reg) (v : Long) (s : State) : setR n v s = .ok ⟨⟩ (s.setReg n v) := rfl
@[simp] theorem run_getPC (s : State) : getPC s = .ok s.pc s := rfl
@[simp] theorem run_setPC (v : Long) (s : State) : setPC v s = .ok ⟨⟩ (s.setReg 15 v) := rfl
@[simp] theorem run_setCC (n z v c : Bool) (s : State) : setCC n z v c s = .ok ⟨⟩ (s.withCC n z v c) := rfl
@[simp] theorem run_setNZV (n z v : Bool) (s : State) : setNZV n z v s = .ok ⟨⟩ (s.withCC n z v s.ccC) := rfl
@[simp] theorem run_done (s : State) : done s = .ok none s := rfl
@[simp] theorem run_draw (s : State) : draw s = .ok (Config.unpred s.draw) { s with draw := s.draw + 1 } := rfl

end Sys2Proof.Machine
end

