-- ==== Sys2Proof/Laws/Memory.lean ====
section
/-! SUPPORT. Reading after writing, and the canonical form of memory: every write keeps it. -/
namespace Sys2Proof.Machine

theorem Sparse.get_set {w : Nat} (l : List (Nat × BitVec w)) (a b : Nat) (v : BitVec w)
    (h : Sparse.wfFrom lo l = true) : Sparse.get (Sparse.set l a v) b = if b = a then v else Sparse.get l b := by
  induction l generalizing lo with
  | nil =>
    unfold Sparse.set
    split <;> simp_all [Sparse.get]
  | cons e rest ih =>
    obtain ⟨k, x⟩ := e
    simp only [Sparse.wfFrom, Bool.and_eq_true, decide_eq_true_eq] at h
    have below : ∀ (m : List (Nat × BitVec w)) (j : Nat), Sparse.wfFrom j m = true → ∀ c, c < j → Sparse.get m c = 0 := by
      intro m
      induction m with
      | nil => intros; rfl
      | cons f r ihm =>
        obtain ⟨q, y⟩ := f
        intro j hj c hc
        simp only [Sparse.wfFrom, Bool.and_eq_true, decide_eq_true_eq] at hj
        have hq : c ≠ q := by omega
        simp only [Sparse.get, hq, if_false]
        exact ihm (q + 1) hj.2 c (by omega)
    unfold Sparse.set
    by_cases h1 : a < k
    · simp only [h1, if_true]
      have ha : Sparse.get ((k, x) :: rest) a = 0 :=
        below _ k (by simp only [Sparse.wfFrom, h.1.2, h.2, Bool.and_true, le_refl, decide_true]) a h1
      split
      next hv =>
        split
        next hb => rw [hb, ha, hv]
        next => rfl
      next =>
        split
        next hb => simp [Sparse.get, hb]
        next hb => simp [Sparse.get, hb]
    · simp only [h1, if_false]
      by_cases h2 : a = k
      · simp only [h2, if_true]
        have hk : Sparse.get rest k = 0 := below rest (k + 1) h.2 k (by omega)
        split
        next hv =>
          by_cases hb : b = k
          · simp [hb, hk, hv]
          · simp [Sparse.get, hb]
        next =>
          by_cases hb : b = k
          · simp [Sparse.get, hb]
          · simp [Sparse.get, hb]
      · simp only [h2, if_false, Sparse.get]
        rw [ih h.2]
        by_cases hb : b = k
        · have : b ≠ a := by omega
          have : ¬ k = a := by omega
          simp [hb, this]
        · simp [hb]

theorem Sparse.set_wfFrom {w : Nat} (l : List (Nat × BitVec w)) (lo a : Nat) (v : BitVec w)
    (h : Sparse.wfFrom lo l = true) (ha : lo ≤ a) : Sparse.wfFrom lo (Sparse.set l a v) = true := by
  induction l generalizing lo with
  | nil =>
    unfold Sparse.set
    split <;> simp_all [Sparse.wfFrom]
  | cons e rest ih =>
    obtain ⟨k, x⟩ := e
    simp only [Sparse.wfFrom, Bool.and_eq_true, decide_eq_true_eq] at h
    unfold Sparse.set
    split
    next h1 =>
      split
      next => simp_all [Sparse.wfFrom]
      next => simp_all [Sparse.wfFrom]
    next h1 =>
      split
      next h2 =>
        split
        next =>
          have weak : ∀ (m : List (Nat × BitVec w)) (i j : Nat), i ≤ j → Sparse.wfFrom j m = true → Sparse.wfFrom i m = true := by
            intro m i j hij hm
            cases m with
            | nil => rfl
            | cons f r =>
              simp only [Sparse.wfFrom, Bool.and_eq_true, decide_eq_true_eq] at hm ⊢
              exact ⟨⟨by omega, hm.1.2⟩, hm.2⟩
          exact weak rest lo (k + 1) (by omega) h.2
        next => simp_all [Sparse.wfFrom]
      next h2 =>
        simp only [Sparse.wfFrom, Bool.and_eq_true, decide_eq_true_eq]
        exact ⟨h.1, ih (k + 1) h.2 (by omega)⟩

/-- Writing a byte keeps memory canonical. -/
theorem Memory.set_wf (m : Memory) (a : Nat) (b : Byte) (h : Memory.wf m = true) : Memory.wf (Sparse.set m a b) = true :=
  Sparse.set_wfFrom m 0 a b h (Nat.zero_le _)

theorem Memory.get_set (m : Memory) (a b : Nat) (v : Byte) (h : Memory.wf m = true) :
    Sparse.get (Sparse.set m a v) b = if b = a then v else Sparse.get m b :=
  Sparse.get_set m a b v h

/-- Writing bytes keeps memory canonical. -/
theorem ramWrite_wf (m : Memory) (pa n : Nat) (v : Octa) (h : Memory.wf m = true) : Memory.wf (ramWrite m pa n v) = true := by
  induction n generalizing m pa v with
  | zero => exact h
  | succ n ih => exact ih _ _ _ (Memory.set_wf m pa _ h)

/-- Where `n` bytes are written, byte `k` of the value is read; elsewhere what was there. -/
theorem get_ramWrite (m : Memory) (pa n : Nat) (v : Octa) (a : Nat) (h : Memory.wf m = true) :
    Sparse.get (ramWrite m pa n v) a =
      if pa ≤ a ∧ a < pa + n then (v >>> (8 * (a - pa))).setWidth 8 else Sparse.get m a := by
  induction n generalizing m pa v with
  | zero =>
    rw [if_neg (by omega)]
    rfl
  | succ n ih =>
    simp only [ramWrite]
    rw [ih _ _ _ (Memory.set_wf m pa _ h), Memory.get_set m pa a _ h]
    by_cases h1 : a = pa
    · have h2 : ¬ (pa + 1 ≤ a ∧ a < pa + 1 + n) := by omega
      have h3 : pa ≤ a ∧ a < pa + (n + 1) := by omega
      simp [h1]
    · by_cases h2 : pa + 1 ≤ a ∧ a < pa + 1 + n
      · have h3 : pa ≤ a ∧ a < pa + (n + 1) := by omega
        have h4 : 8 * (a - pa) = 8 + 8 * (a - (pa + 1)) := by omega
        simp only [h2, h3, h4, and_self, if_true, BitVec.shiftRight_add]
      · have h3 : ¬ (pa ≤ a ∧ a < pa + (n + 1)) := by omega
        rw [if_neg h2, if_neg h1, if_neg h3]

/-- Bytes outside a write are as before. -/
theorem get_ramWrite_outside (m : Memory) (pa n : Nat) (v : Octa) (a : Nat) (h : Memory.wf m = true)
    (ha : ¬ (pa ≤ a ∧ a < pa + n)) : Sparse.get (ramWrite m pa n v) a = Sparse.get m a := by
  rw [get_ramWrite m pa n v a h, if_neg ha]

/-- So does writing those that are not lost. -/
theorem ramMerge_wf (lost : Nat → Bool) (m : Memory) (pa n : Nat) (v : Octa) (h : Memory.wf m = true) :
    Memory.wf (ramMerge lost m pa n v) = true := by
  induction n generalizing m pa v with
  | zero => exact h
  | succ n ih =>
    unfold ramMerge
    split
    · exact ih _ _ _ h
    · exact ih _ _ _ (Memory.set_wf m pa _ h)

/-- Bytes outside such a write, and lost ones, are as before. -/
theorem get_ramMerge_keep (lost : Nat → Bool) (m : Memory) (pa n : Nat) (v : Octa) (a : Nat) (h : Memory.wf m = true)
    (ha : ¬ (pa ≤ a ∧ a < pa + n) ∨ lost a = true) : Sparse.get (ramMerge lost m pa n v) a = Sparse.get m a := by
  induction n generalizing m pa v with
  | zero => rfl
  | succ n ih =>
    have step : ¬ (pa + 1 ≤ a ∧ a < pa + 1 + n) ∨ lost a = true := by
      rcases ha with ha | ha
      · exact .inl (by omega)
      · exact .inr ha
    unfold ramMerge
    split
    · exact ih _ _ _ h step
    next hl =>
      rw [ih _ _ _ (Memory.set_wf m pa _ h) step, Memory.get_set m pa a _ h, if_neg]
      rintro rfl
      rcases ha with ha | ha
      · omega
      · exact hl ha

/-- Every write to main memory keeps it canonical. -/
theorem State.storeRam_wf (s : State) (pa n : Nat) (v : Octa) (h : Memory.wf s.mem = true) :
    Memory.wf (s.storeRam pa n v).mem = true := by
  show Memory.wf (if s.bad pa n then ramMerge (s.lost pa n) s.mem pa n v else ramWrite s.mem pa n v) = true
  split
  · exact ramMerge_wf _ _ _ _ _ h
  · exact ramWrite_wf _ _ _ _ h

theorem State.storeQuad_wf (s : State) (pa : Nat) (v : Quad) (h : Memory.wf s.mem = true) :
    Memory.wf (s.storeQuad pa v).mem = true :=
  ramWrite_wf s.mem _ 8 _ h

/-- A write to memory changes no byte outside it. -/
theorem State.storeRam_outside (s : State) (pa n : Nat) (v : Octa) (a : Nat) (h : Memory.wf s.mem = true)
    (ha : ¬ (pa ≤ a ∧ a < pa + n)) : Sparse.get (s.storeRam pa n v).mem a = Sparse.get s.mem a := by
  show Sparse.get (if s.bad pa n then ramMerge (s.lost pa n) s.mem pa n v else ramWrite s.mem pa n v) a = _
  split
  · exact get_ramMerge_keep _ _ _ _ _ _ h (.inl ha)
  · exact get_ramWrite_outside _ _ _ _ _ h ha

/-- Where no unit has an error the bytes written are the bytes there. -/
theorem State.storeRam_good (s : State) (pa n : Nat) (v : Octa) (h : s.bad pa n = false) :
    (s.storeRam pa n v).mem = ramWrite s.mem pa n v := by
  simp [State.storeRam, h]

theorem State.spoiled_nil (s : State) (pa n : Nat) (h : s.badMem = []) : s.spoiled pa n = false := by
  simp [State.spoiled, h]

/-- Good bytes carry no error and no substituted check bits, and no array of theirs is being initialized. -/
theorem State.good_iff (s : State) (pa n : Nat) :
    s.bad pa n = false ↔ s.spoiled pa n = false ∧ s.forced pa n = false ∧ s.initializing pa n = false := by
  simp [State.bad, and_assoc]

/-- What has no error can be read. -/
theorem State.readable_of_good (s : State) (pa n : Nat) (h : s.bad pa n = false) : s.unreadable pa n = false := by
  simp [State.unreadable, ((s.good_iff pa n).mp h).1]

/-- Keeping some of the entries keeps memory canonical. -/
theorem Sparse.filter_wfFrom {w : Nat} (p : Nat × BitVec w → Bool) (l : List (Nat × BitVec w)) (i j : Nat) (hij : i ≤ j)
    (h : Sparse.wfFrom j l = true) : Sparse.wfFrom i (l.filter p) = true := by
  induction l generalizing i j with
  | nil => rfl
  | cons e rest ih =>
    obtain ⟨k, x⟩ := e
    simp only [Sparse.wfFrom, Bool.and_eq_true, decide_eq_true_eq] at h
    rw [List.filter_cons]
    split
    · simp only [Sparse.wfFrom, Bool.and_eq_true, decide_eq_true_eq]
      exact ⟨⟨by omega, h.1.2⟩, ih (k + 1) (k + 1) (Nat.le_refl _) h.2⟩
    · exact ih i (k + 1) (by omega) h.2

theorem Memory.filter_wf (m : Memory) (p : Host.Cell → Bool) (h : Memory.wf m = true) : Memory.wf (m.filter p) = true :=
  Sparse.filter_wfFrom p m 0 0 (Nat.le_refl _) h

/-- The bytes of a just written place are those of the value. -/
theorem ramBytes_ramWrite (m : Memory) (pa n : Nat) (v : Octa) (h : Memory.wf m = true) :
    leNat (ramBytes (ramWrite m pa n v) pa n) = v.toNat % 2 ^ (8 * n) := by
  have key : ∀ (k j : Nat), j + k ≤ n → leNat (ramBytes (ramWrite m pa n v) (pa + j) k) = v.toNat / 2 ^ (8 * j) % 2 ^ (8 * k) := by
    intro k
    induction k with
    | zero => intro j _; simp [ramBytes, leNat, Nat.mod_one]
    | succ k ih =>
      intro j hj
      have h1 := ih (j + 1) (by omega)
      simp only [ramBytes, leNat]
      rw [show pa + j + 1 = pa + (j + 1) from by omega, h1, get_ramWrite m pa n v (pa + j) h]
      have h2 : pa ≤ pa + j ∧ pa + j < pa + n := by omega
      rw [if_pos h2, show pa + j - pa = j from by omega]
      simp only [BitVec.toNat_setWidth, BitVec.toNat_ushiftRight, Nat.shiftRight_eq_div_pow]
      have h3 : 2 ^ (8 * (j + 1)) = 2 ^ (8 * j) * 256 := by rw [Nat.mul_add, pow_add]; norm_num
      have h4 : 2 ^ (8 * (k + 1)) = 256 * 2 ^ (8 * k) := by rw [Nat.mul_add, pow_add]; norm_num; omega
      rw [h3, h4, Nat.mod_mul, Nat.div_div_eq_div_mul]
  have := key n 0 (by omega)
  simpa using this

end Sys2Proof.Machine
end

