-- ==== Sys2Proof/Laws/State.lean ====
section
/-! SUPPORT. One lemma per field and accessor for each update of the state. -/
namespace Sys2Proof.Machine


/-! ### setReg -/

@[simp] theorem State.setReg_psl (s : State) (n : Reg) (v : Long) : (s.setReg n v).psl = s.psl := rfl
@[simp] theorem State.setReg_sp (s : State) (n : Reg) (v : Long) : (s.setReg n v).sp = s.sp := rfl
@[simp] theorem State.setReg_mm (s : State) (n : Reg) (v : Long) : (s.setReg n v).mm = s.mm := rfl
@[simp] theorem State.setReg_tb (s : State) (n : Reg) (v : Long) : (s.setReg n v).tb = s.tb := rfl
@[simp] theorem State.setReg_pcbb (s : State) (n : Reg) (v : Long) : (s.setReg n v).pcbb = s.pcbb := rfl
@[simp] theorem State.setReg_scbb (s : State) (n : Reg) (v : Long) : (s.setReg n v).scbb = s.scbb := rfl
@[simp] theorem State.setReg_astlvl (s : State) (n : Reg) (v : Long) : (s.setReg n v).astlvl = s.astlvl := rfl
@[simp] theorem State.setReg_sisr (s : State) (n : Reg) (v : Long) : (s.setReg n v).sisr = s.sisr := rfl
@[simp] theorem State.setReg_pme (s : State) (n : Reg) (v : Long) : (s.setReg n v).pme = s.pme := rfl
@[simp] theorem State.setReg_clock (s : State) (n : Reg) (v : Long) : (s.setReg n v).clock = s.clock := rfl
@[simp] theorem State.setReg_term (s : State) (n : Reg) (v : Long) : (s.setReg n v).term = s.term := rfl
@[simp] theorem State.setReg_v750 (s : State) (n : Reg) (v : Long) : (s.setReg n v).v750 = s.v750 := rfl
@[simp] theorem State.setReg_v780 (s : State) (n : Reg) (v : Long) : (s.setReg n v).v780 = s.v780 := rfl
@[simp] theorem State.setReg_mbas (s : State) (n : Reg) (v : Long) : (s.setReg n v).mbas = s.mbas := rfl
@[simp] theorem State.setReg_mem (s : State) (n : Reg) (v : Long) : (s.setReg n v).mem = s.mem := rfl
@[simp] theorem State.setReg_badMem (s : State) (n : Reg) (v : Long) : (s.setReg n v).badMem = s.badMem := rfl
@[simp] theorem State.setReg_pend (s : State) (n : Reg) (v : Long) : (s.setReg n v).pend = s.pend := rfl
@[simp] theorem State.setReg_run (s : State) (n : Reg) (v : Long) : (s.setReg n v).run = s.run := rfl
@[simp] theorem State.setReg_con (s : State) (n : Reg) (v : Long) : (s.setReg n v).con = s.con := rfl
@[simp] theorem State.setReg_ubWords (s : State) (n : Reg) (v : Long) : (s.setReg n v).ubWords = s.ubWords := rfl
@[simp] theorem State.setReg_driveRegs (s : State) (n : Reg) (v : Long) : (s.setReg n v).driveRegs = s.driveRegs := rfl
@[simp] theorem State.setReg_driveCmds (s : State) (n : Reg) (v : Long) : (s.setReg n v).driveCmds = s.driveCmds := rfl
@[simp] theorem State.setReg_cfg (s : State) (n : Reg) (v : Long) : (s.setReg n v).cfg = s.cfg := rfl
@[simp] theorem State.setReg_draw (s : State) (n : Reg) (v : Long) : (s.setReg n v).draw = s.draw := rfl
@[simp] theorem State.setReg_events (s : State) (n : Reg) (v : Long) : (s.setReg n v).events = s.events := rfl
@[simp] theorem State.setReg_sent (s : State) (n : Reg) (v : Long) : (s.setReg n v).sent = s.sent := rfl
@[simp] theorem State.setReg_during (s : State) (n : Reg) (v : Long) : (s.setReg n v).during = s.during := rfl
@[simp] theorem State.setReg_ccC (s : State) (n : Reg) (v : Long) : (s.setReg n v).ccC = s.ccC := rfl
@[simp] theorem State.setReg_ccV (s : State) (n : Reg) (v : Long) : (s.setReg n v).ccV = s.ccV := rfl
@[simp] theorem State.setReg_ccZ (s : State) (n : Reg) (v : Long) : (s.setReg n v).ccZ = s.ccZ := rfl
@[simp] theorem State.setReg_ccN (s : State) (n : Reg) (v : Long) : (s.setReg n v).ccN = s.ccN := rfl
@[simp] theorem State.setReg_t (s : State) (n : Reg) (v : Long) : (s.setReg n v).t = s.t := rfl
@[simp] theorem State.setReg_iv (s : State) (n : Reg) (v : Long) : (s.setReg n v).iv = s.iv := rfl
@[simp] theorem State.setReg_fu (s : State) (n : Reg) (v : Long) : (s.setReg n v).fu = s.fu := rfl
@[simp] theorem State.setReg_dv (s : State) (n : Reg) (v : Long) : (s.setReg n v).dv = s.dv := rfl
@[simp] theorem State.setReg_ipl (s : State) (n : Reg) (v : Long) : (s.setReg n v).ipl = s.ipl := rfl
@[simp] theorem State.setReg_prv (s : State) (n : Reg) (v : Long) : (s.setReg n v).prv = s.prv := rfl
@[simp] theorem State.setReg_cur (s : State) (n : Reg) (v : Long) : (s.setReg n v).cur = s.cur := rfl
@[simp] theorem State.setReg_is (s : State) (n : Reg) (v : Long) : (s.setReg n v).is = s.is := rfl
@[simp] theorem State.setReg_fpd (s : State) (n : Reg) (v : Long) : (s.setReg n v).fpd = s.fpd := rfl
@[simp] theorem State.setReg_tp (s : State) (n : Reg) (v : Long) : (s.setReg n v).tp = s.tp := rfl
@[simp] theorem State.setReg_cm (s : State) (n : Reg) (v : Long) : (s.setReg n v).cm = s.cm := rfl
@[simp] theorem State.setReg_is750 (s : State) (n : Reg) (v : Long) : (s.setReg n v).is750 = s.is750 := rfl
@[simp] theorem State.setReg_reg_same (s : State) (n : Reg) (v : Long) : (s.setReg n v).reg n = v := by
  simp [State.setReg, State.reg]
theorem State.setReg_reg_ne (s : State) {n m : Reg} (v : Long) (h : n ≠ m) : (s.setReg n v).reg m = s.reg m := by
  have h' : n.val ≠ m.val := fun e => h (Fin.ext e)
  simp [State.setReg, State.reg, h']
theorem State.setReg_reg (s : State) (n m : Reg) (v : Long) :
    (s.setReg n v).reg m = if n = m then v else s.reg m := by
  split
  next h => subst h; simp
  next h => exact s.setReg_reg_ne v h
@[simp] theorem State.setReg_pc (s : State) (v : Long) : (s.setReg 15 v).pc = v := s.setReg_reg_same 15 v
theorem State.setReg_pc_ne (s : State) {n : Reg} (v : Long) (h : n ≠ 15) : (s.setReg n v).pc = s.pc := s.setReg_reg_ne v h
theorem State.setReg_twice (s : State) (n : Reg) (v w : Long) : (s.setReg n v).setReg n w = s.setReg n w := by
  simp [State.setReg]

/-! ### withCC -/

@[simp] theorem State.withCC_r (s : State) (n z v c : Bool) : (s.withCC n z v c).r = s.r := rfl
@[simp] theorem State.withCC_sp (s : State) (n z v c : Bool) : (s.withCC n z v c).sp = s.sp := rfl
@[simp] theorem State.withCC_mm (s : State) (n z v c : Bool) : (s.withCC n z v c).mm = s.mm := rfl
@[simp] theorem State.withCC_tb (s : State) (n z v c : Bool) : (s.withCC n z v c).tb = s.tb := rfl
@[simp] theorem State.withCC_pcbb (s : State) (n z v c : Bool) : (s.withCC n z v c).pcbb = s.pcbb := rfl
@[simp] theorem State.withCC_scbb (s : State) (n z v c : Bool) : (s.withCC n z v c).scbb = s.scbb := rfl
@[simp] theorem State.withCC_astlvl (s : State) (n z v c : Bool) : (s.withCC n z v c).astlvl = s.astlvl := rfl
@[simp] theorem State.withCC_sisr (s : State) (n z v c : Bool) : (s.withCC n z v c).sisr = s.sisr := rfl
@[simp] theorem State.withCC_pme (s : State) (n z v c : Bool) : (s.withCC n z v c).pme = s.pme := rfl
@[simp] theorem State.withCC_clock (s : State) (n z v c : Bool) : (s.withCC n z v c).clock = s.clock := rfl
@[simp] theorem State.withCC_term (s : State) (n z v c : Bool) : (s.withCC n z v c).term = s.term := rfl
@[simp] theorem State.withCC_v750 (s : State) (n z v c : Bool) : (s.withCC n z v c).v750 = s.v750 := rfl
@[simp] theorem State.withCC_v780 (s : State) (n z v c : Bool) : (s.withCC n z v c).v780 = s.v780 := rfl
@[simp] theorem State.withCC_mbas (s : State) (n z v c : Bool) : (s.withCC n z v c).mbas = s.mbas := rfl
@[simp] theorem State.withCC_mem (s : State) (n z v c : Bool) : (s.withCC n z v c).mem = s.mem := rfl
@[simp] theorem State.withCC_badMem (s : State) (n z v c : Bool) : (s.withCC n z v c).badMem = s.badMem := rfl
@[simp] theorem State.withCC_pend (s : State) (n z v c : Bool) : (s.withCC n z v c).pend = s.pend := rfl
@[simp] theorem State.withCC_run (s : State) (n z v c : Bool) : (s.withCC n z v c).run = s.run := rfl
@[simp] theorem State.withCC_con (s : State) (n z v c : Bool) : (s.withCC n z v c).con = s.con := rfl
@[simp] theorem State.withCC_ubWords (s : State) (n z v c : Bool) : (s.withCC n z v c).ubWords = s.ubWords := rfl
@[simp] theorem State.withCC_driveRegs (s : State) (n z v c : Bool) : (s.withCC n z v c).driveRegs = s.driveRegs := rfl
@[simp] theorem State.withCC_driveCmds (s : State) (n z v c : Bool) : (s.withCC n z v c).driveCmds = s.driveCmds := rfl
@[simp] theorem State.withCC_cfg (s : State) (n z v c : Bool) : (s.withCC n z v c).cfg = s.cfg := rfl
@[simp] theorem State.withCC_draw (s : State) (n z v c : Bool) : (s.withCC n z v c).draw = s.draw := rfl
@[simp] theorem State.withCC_events (s : State) (n z v c : Bool) : (s.withCC n z v c).events = s.events := rfl
@[simp] theorem State.withCC_sent (s : State) (n z v c : Bool) : (s.withCC n z v c).sent = s.sent := rfl
@[simp] theorem State.withCC_during (s : State) (n z v c : Bool) : (s.withCC n z v c).during = s.during := rfl
@[simp] theorem State.withCC_reg (s : State) (n z v c : Bool) (k : Reg) : (s.withCC n z v c).reg k = s.reg k := rfl
@[simp] theorem State.withCC_pc (s : State) (n z v c : Bool) : (s.withCC n z v c).pc = s.pc := rfl
@[simp] theorem State.withCC_is750 (s : State) (n z v c : Bool) : (s.withCC n z v c).is750 = s.is750 := rfl
@[simp] theorem State.withCC_ccN (s : State) (n z v c : Bool) : (s.withCC n z v c).ccN = n := by
  cases n <;> cases z <;> cases v <;> cases c <;>
    simp [State.withCC, State.ccN, putField, fieldMask, ccBits, bitL]
@[simp] theorem State.withCC_ccZ (s : State) (n z v c : Bool) : (s.withCC n z v c).ccZ = z := by
  cases n <;> cases z <;> cases v <;> cases c <;>
    simp [State.withCC, State.ccZ, putField, fieldMask, ccBits, bitL]
@[simp] theorem State.withCC_ccV (s : State) (n z v c : Bool) : (s.withCC n z v c).ccV = v := by
  cases n <;> cases z <;> cases v <;> cases c <;>
    simp [State.withCC, State.ccV, putField, fieldMask, ccBits, bitL]
@[simp] theorem State.withCC_ccC (s : State) (n z v c : Bool) : (s.withCC n z v c).ccC = c := by
  cases n <;> cases z <;> cases v <;> cases c <;>
    simp [State.withCC, State.ccC, putField, fieldMask, ccBits, bitL]
@[simp] theorem State.withCC_t (s : State) (n z v c : Bool) : (s.withCC n z v c).t = s.t := by
  cases n <;> cases z <;> cases v <;> cases c <;>
    simp [State.withCC, State.t, putField, fieldMask, ccBits, bitL]
@[simp] theorem State.withCC_iv (s : State) (n z v c : Bool) : (s.withCC n z v c).iv = s.iv := by
  cases n <;> cases z <;> cases v <;> cases c <;>
    simp [State.withCC, State.iv, putField, fieldMask, ccBits, bitL]
@[simp] theorem State.withCC_fu (s : State) (n z v c : Bool) : (s.withCC n z v c).fu = s.fu := by
  cases n <;> cases z <;> cases v <;> cases c <;>
    simp [State.withCC, State.fu, putField, fieldMask, ccBits, bitL]
@[simp] theorem State.withCC_dv (s : State) (n z v c : Bool) : (s.withCC n z v c).dv = s.dv := by
  cases n <;> cases z <;> cases v <;> cases c <;>
    simp [State.withCC, State.dv, putField, fieldMask, ccBits, bitL]
@[simp] theorem State.withCC_is (s : State) (n z v c : Bool) : (s.withCC n z v c).is = s.is := by
  cases n <;> cases z <;> cases v <;> cases c <;>
    simp [State.withCC, State.is, putField, fieldMask, ccBits, bitL]
@[simp] theorem State.withCC_fpd (s : State) (n z v c : Bool) : (s.withCC n z v c).fpd = s.fpd := by
  cases n <;> cases z <;> cases v <;> cases c <;>
    simp [State.withCC, State.fpd, putField, fieldMask, ccBits, bitL]
@[simp] theorem State.withCC_tp (s : State) (n z v c : Bool) : (s.withCC n z v c).tp = s.tp := by
  cases n <;> cases z <;> cases v <;> cases c <;>
    simp [State.withCC, State.tp, putField, fieldMask, ccBits, bitL]
@[simp] theorem State.withCC_cm (s : State) (n z v c : Bool) : (s.withCC n z v c).cm = s.cm := by
  cases n <;> cases z <;> cases v <;> cases c <;>
    simp [State.withCC, State.cm, putField, fieldMask, ccBits, bitL]
@[simp] theorem State.withCC_ipl (s : State) (n z v c : Bool) : (s.withCC n z v c).ipl = s.ipl := by
  have h : ∀ x : Long, x &&& ~~~fieldMask 0 4 = x &&& 0xFFFFFFF0 := by intro x; rfl
  simp only [State.withCC, State.ipl, putField, field, h]
  congr 1
  ext i hi
  have : i < 5 := by omega
  rcases i with _ | _ | _ | _ | _ | i
  all_goals first
    | omega
    | (cases n <;> cases z <;> cases v <;> cases c <;> simp [ccBits, bitL, fieldMask])
@[simp] theorem State.withCC_prv (s : State) (n z v c : Bool) : (s.withCC n z v c).prv = s.prv := by
  have h : ∀ x : Long, x &&& ~~~fieldMask 0 4 = x &&& 0xFFFFFFF0 := by intro x; rfl
  simp only [State.withCC, State.prv, putField, field, h]
  congr 1
  ext i hi
  have : i < 5 := by omega
  rcases i with _ | _ | _ | _ | _ | i
  all_goals first
    | omega
    | (cases n <;> cases z <;> cases v <;> cases c <;> simp [ccBits, bitL, fieldMask])
@[simp] theorem State.withCC_cur (s : State) (n z v c : Bool) : (s.withCC n z v c).cur = s.cur := by
  have h : ∀ x : Long, x &&& ~~~fieldMask 0 4 = x &&& 0xFFFFFFF0 := by intro x; rfl
  simp only [State.withCC, State.cur, putField, field, h]
  congr 1
  ext i hi
  have : i < 5 := by omega
  rcases i with _ | _ | _ | _ | _ | i
  all_goals first
    | omega
    | (cases n <;> cases z <;> cases v <;> cases c <;> simp [ccBits, bitL, fieldMask])

/-! ### answered: what an access to an array that is being initialized ends, 62_platform_780.md R1408 -/

theorem MemCtl.ready_start (c : MemCtl) : c.ready.start = c.start := by unfold MemCtl.ready; split <;> rfl
theorem MemCtl.ready_interleave (c : MemCtl) : c.ready.interleave = c.interleave := by unfold MemCtl.ready; split <;> rfl

/-- Where nothing is being initialized an access ends no initialization. -/
theorem State.answered_idle (s : State) (pa n : Nat) (h : s.initializing pa n = false) : s.answered pa n = s := by
  unfold State.answered
  rw [if_neg (by simp [h])]

theorem State.answered_length (s : State) (pa n : Nat) : (s.answered pa n).v780.mems.length = s.v780.mems.length := by
  unfold State.answered
  dsimp only
  split
  · exact List.length_mapIdx
  · rfl

/-- What a controller answers stays. -/
theorem State.answered_memCtl (s : State) (pa n k : Nat) :
    ((s.answered pa n).memCtl? k).start = (s.memCtl? k).start ∧ ((s.answered pa n).memCtl? k).interleave = (s.memCtl? k).interleave := by
  unfold State.memCtl? State.answered
  dsimp only
  split
  · rw [List.getD_eq_getElem?_getD, List.getD_eq_getElem?_getD, List.getElem?_mapIdx]
    cases s.v780.mems[k]? with
    | none => exact ⟨rfl, rfl⟩
    | some c =>
      dsimp only [Option.map_some, Option.getD_some]
      split
      · exact ⟨c.ready_start, c.ready_interleave⟩
      · exact ⟨rfl, rfl⟩
  · exact ⟨rfl, rfl⟩

theorem State.answered_ctlOf (s : State) (pa n a : Nat) : (s.answered pa n).ctlOf a = s.ctlOf a := by
  have h1 : (s.answered pa n).inCtl a = s.inCtl a := by
    funext k
    obtain ⟨h, h'⟩ := s.answered_memCtl pa n k
    unfold State.inCtl State.ctlRange
    dsimp only
    rw [h, h']
    rfl
  have h2 : (s.answered pa n).ctlTurn a = s.ctlTurn a := by
    funext k
    unfold State.ctlTurn
    rw [(s.answered_memCtl pa n k).2]
    rfl
  unfold State.ctlOf
  rw [h1, h2, s.answered_length]

@[simp] theorem State.answered_hasRam (s : State) (pa n a : Nat) : (s.answered pa n).hasRam a = s.hasRam a := by
  have h1 := s.answered_ctlOf pa n a
  have h2 := s.answered_length pa n
  unfold State.hasRam
  rw [h1]
  show (match s.cfg.cpu with | .v750 => _ | .v780 => _) = _
  cases s.cfg.cpu with
  | v750 => rfl
  | v780 =>
    dsimp only
    cases hm : s.v780.mems with
    | nil =>
      rw [hm] at h2
      rw [List.length_eq_zero_iff.mp h2]
      rfl
    | cons c rest =>
      cases hn : (s.answered pa n).v780.mems with
      | nil => rw [hm, hn] at h2; exact nomatch h2
      | cons c' rest' => rfl

@[simp] theorem State.answered_place (s : State) (pa n a : Nat) : place (s.answered pa n) a = place s a := by
  have h := s.answered_hasRam pa n a
  unfold place
  show (match s.cfg.cpu with | .v750 => _ | .v780 => _) = _
  cases s.cfg.cpu with
  | v750 =>
    unfold place750
    rw [h]
    rfl
  | v780 =>
    unfold place780
    rw [h]
    rfl

/-! ### storeRam -/

@[simp] theorem State.storeRam_r (s : State) (pa n : Nat) (v : Octa) : (s.storeRam pa n v).r = s.r := rfl
@[simp] theorem State.storeRam_psl (s : State) (pa n : Nat) (v : Octa) : (s.storeRam pa n v).psl = s.psl := rfl
@[simp] theorem State.storeRam_sp (s : State) (pa n : Nat) (v : Octa) : (s.storeRam pa n v).sp = s.sp := rfl
@[simp] theorem State.storeRam_mm (s : State) (pa n : Nat) (v : Octa) : (s.storeRam pa n v).mm = s.mm := rfl
@[simp] theorem State.storeRam_tb (s : State) (pa n : Nat) (v : Octa) : (s.storeRam pa n v).tb = s.tb := rfl
@[simp] theorem State.storeRam_pcbb (s : State) (pa n : Nat) (v : Octa) : (s.storeRam pa n v).pcbb = s.pcbb := rfl
@[simp] theorem State.storeRam_scbb (s : State) (pa n : Nat) (v : Octa) : (s.storeRam pa n v).scbb = s.scbb := rfl
@[simp] theorem State.storeRam_astlvl (s : State) (pa n : Nat) (v : Octa) : (s.storeRam pa n v).astlvl = s.astlvl := rfl
@[simp] theorem State.storeRam_sisr (s : State) (pa n : Nat) (v : Octa) : (s.storeRam pa n v).sisr = s.sisr := rfl
@[simp] theorem State.storeRam_pme (s : State) (pa n : Nat) (v : Octa) : (s.storeRam pa n v).pme = s.pme := rfl
@[simp] theorem State.storeRam_clock (s : State) (pa n : Nat) (v : Octa) : (s.storeRam pa n v).clock = s.clock := rfl
@[simp] theorem State.storeRam_term (s : State) (pa n : Nat) (v : Octa) : (s.storeRam pa n v).term = s.term := rfl
@[simp] theorem State.storeRam_v780 (s : State) (pa n : Nat) (v : Octa) : (s.storeRam pa n v).v780 = (s.answered pa n).v780 := rfl
@[simp] theorem State.storeRam_mbas (s : State) (pa n : Nat) (v : Octa) : (s.storeRam pa n v).mbas = s.mbas := rfl
@[simp] theorem State.storeRam_pend (s : State) (pa n : Nat) (v : Octa) : (s.storeRam pa n v).pend = s.pend := rfl
@[simp] theorem State.storeRam_run (s : State) (pa n : Nat) (v : Octa) : (s.storeRam pa n v).run = s.run := rfl
@[simp] theorem State.storeRam_con (s : State) (pa n : Nat) (v : Octa) : (s.storeRam pa n v).con = s.con := rfl
@[simp] theorem State.storeRam_ubWords (s : State) (pa n : Nat) (v : Octa) : (s.storeRam pa n v).ubWords = s.ubWords := rfl
@[simp] theorem State.storeRam_driveRegs (s : State) (pa n : Nat) (v : Octa) : (s.storeRam pa n v).driveRegs = s.driveRegs := rfl
@[simp] theorem State.storeRam_driveCmds (s : State) (pa n : Nat) (v : Octa) : (s.storeRam pa n v).driveCmds = s.driveCmds := rfl
@[simp] theorem State.storeRam_cfg (s : State) (pa n : Nat) (v : Octa) : (s.storeRam pa n v).cfg = s.cfg := rfl
@[simp] theorem State.storeRam_draw (s : State) (pa n : Nat) (v : Octa) : (s.storeRam pa n v).draw = s.draw := rfl
@[simp] theorem State.storeRam_events (s : State) (pa n : Nat) (v : Octa) : (s.storeRam pa n v).events = s.events := rfl
@[simp] theorem State.storeRam_sent (s : State) (pa n : Nat) (v : Octa) : (s.storeRam pa n v).sent = s.sent := rfl
@[simp] theorem State.storeRam_during (s : State) (pa n : Nat) (v : Octa) : (s.storeRam pa n v).during = s.during := rfl
@[simp] theorem State.storeRam_mem (s : State) (pa n : Nat) (v : Octa) :
    (s.storeRam pa n v).mem = if s.bad pa n then ramMerge (s.lost pa n) s.mem pa n v else ramWrite s.mem pa n v := rfl
@[simp] theorem State.storeRam_cur (s : State) (pa n : Nat) (v : Octa) : (s.storeRam pa n v).cur = s.cur := rfl
@[simp] theorem State.storeRam_is (s : State) (pa n : Nat) (v : Octa) : (s.storeRam pa n v).is = s.is := rfl
@[simp] theorem State.storeRam_reg (s : State) (pa n : Nat) (v : Octa) (k : Reg) : (s.storeRam pa n v).reg k = s.reg k := rfl
@[simp] theorem State.storeRam_hasRam (s : State) (pa n : Nat) (v : Octa) (a : Nat) : (s.storeRam pa n v).hasRam a = s.hasRam a :=
  s.answered_hasRam pa n a
@[simp] theorem State.storeRam_place (s : State) (pa n : Nat) (v : Octa) (a : Nat) : place (s.storeRam pa n v) a = place s a :=
  s.answered_place pa n a

/-! ### The console of the V780 at a halt -/

@[simp] theorem V780.atHalt_command (v : V780) : v.atHalt.command = true := rfl
@[simp] theorem V780.atHalt_program (v : V780) : v.atHalt.program = v.program.atHalt := rfl
@[simp] theorem V780.atHalt_mems (v : V780) : v.atHalt.mems = v.mems := rfl
@[simp] theorem V780.atHalt_ubas (v : V780) : v.atHalt.ubas = v.ubas := rfl
@[simp] theorem V780.atHalt_fault (v : V780) : v.atHalt.fault = v.fault := rfl
@[simp] theorem V780.atHalt_faults (v : V780) : v.atHalt.faults = v.faults := rfl
@[simp] theorem V780.atHalt_interlock (v : V780) : v.atHalt.interlock = v.interlock := rfl
@[simp] theorem V780.atHalt_rds (v : V780) : v.atHalt.rds = v.rds := rfl
@[simp] theorem V780.atHalt_nexusReqs (v : V780) : v.atHalt.nexusReqs = v.nexusReqs := rfl
@[simp] theorem V780.atHalt_files (v : V780) : v.atHalt.files = v.files := rfl
@[simp] theorem ConProgram.atHalt_waiting (p : ConProgram) : p.atHalt.waiting = false := by
  unfold ConProgram.atHalt
  split
  · rfl
  · exact Bool.eq_false_iff.mpr ‹_›

/-! ### saveSp and loadSp -/

@[simp] theorem State.saveSp_r (s : State) : s.saveSp.r = s.r := by unfold State.saveSp; split <;> rfl
@[simp] theorem State.saveSp_psl (s : State) : s.saveSp.psl = s.psl := by unfold State.saveSp; split <;> rfl
@[simp] theorem State.saveSp_mm (s : State) : s.saveSp.mm = s.mm := by unfold State.saveSp; split <;> rfl
@[simp] theorem State.saveSp_tb (s : State) : s.saveSp.tb = s.tb := by unfold State.saveSp; split <;> rfl
@[simp] theorem State.saveSp_pcbb (s : State) : s.saveSp.pcbb = s.pcbb := by unfold State.saveSp; split <;> rfl
@[simp] theorem State.saveSp_scbb (s : State) : s.saveSp.scbb = s.scbb := by unfold State.saveSp; split <;> rfl
@[simp] theorem State.saveSp_astlvl (s : State) : s.saveSp.astlvl = s.astlvl := by unfold State.saveSp; split <;> rfl
@[simp] theorem State.saveSp_sisr (s : State) : s.saveSp.sisr = s.sisr := by unfold State.saveSp; split <;> rfl
@[simp] theorem State.saveSp_pme (s : State) : s.saveSp.pme = s.pme := by unfold State.saveSp; split <;> rfl
@[simp] theorem State.saveSp_clock (s : State) : s.saveSp.clock = s.clock := by unfold State.saveSp; split <;> rfl
@[simp] theorem State.saveSp_term (s : State) : s.saveSp.term = s.term := by unfold State.saveSp; split <;> rfl
@[simp] theorem State.saveSp_v750 (s : State) : s.saveSp.v750 = s.v750 := by unfold State.saveSp; split <;> rfl
@[simp] theorem State.saveSp_v780 (s : State) : s.saveSp.v780 = s.v780 := by unfold State.saveSp; split <;> rfl
@[simp] theorem State.saveSp_mbas (s : State) : s.saveSp.mbas = s.mbas := by unfold State.saveSp; split <;> rfl
@[simp] theorem State.saveSp_mem (s : State) : s.saveSp.mem = s.mem := by unfold State.saveSp; split <;> rfl
@[simp] theorem State.saveSp_badMem (s : State) : s.saveSp.badMem = s.badMem := by unfold State.saveSp; split <;> rfl
@[simp] theorem State.saveSp_pend (s : State) : s.saveSp.pend = s.pend := by unfold State.saveSp; split <;> rfl
@[simp] theorem State.saveSp_run (s : State) : s.saveSp.run = s.run := by unfold State.saveSp; split <;> rfl
@[simp] theorem State.saveSp_con (s : State) : s.saveSp.con = s.con := by unfold State.saveSp; split <;> rfl
@[simp] theorem State.saveSp_ubWords (s : State) : s.saveSp.ubWords = s.ubWords := by unfold State.saveSp; split <;> rfl
@[simp] theorem State.saveSp_driveRegs (s : State) : s.saveSp.driveRegs = s.driveRegs := by unfold State.saveSp; split <;> rfl
@[simp] theorem State.saveSp_driveCmds (s : State) : s.saveSp.driveCmds = s.driveCmds := by unfold State.saveSp; split <;> rfl
@[simp] theorem State.saveSp_cfg (s : State) : s.saveSp.cfg = s.cfg := by unfold State.saveSp; split <;> rfl
@[simp] theorem State.saveSp_draw (s : State) : s.saveSp.draw = s.draw := by unfold State.saveSp; split <;> rfl
@[simp] theorem State.saveSp_events (s : State) : s.saveSp.events = s.events := by unfold State.saveSp; split <;> rfl
@[simp] theorem State.saveSp_sent (s : State) : s.saveSp.sent = s.sent := by unfold State.saveSp; split <;> rfl
@[simp] theorem State.saveSp_during (s : State) : s.saveSp.during = s.during := by unfold State.saveSp; split <;> rfl
@[simp] theorem State.loadSp_psl (s : State) : s.loadSp.psl = s.psl := rfl
@[simp] theorem State.loadSp_sp (s : State) : s.loadSp.sp = s.sp := rfl
@[simp] theorem State.loadSp_mm (s : State) : s.loadSp.mm = s.mm := rfl
@[simp] theorem State.loadSp_tb (s : State) : s.loadSp.tb = s.tb := rfl
@[simp] theorem State.loadSp_pcbb (s : State) : s.loadSp.pcbb = s.pcbb := rfl
@[simp] theorem State.loadSp_scbb (s : State) : s.loadSp.scbb = s.scbb := rfl
@[simp] theorem State.loadSp_astlvl (s : State) : s.loadSp.astlvl = s.astlvl := rfl
@[simp] theorem State.loadSp_sisr (s : State) : s.loadSp.sisr = s.sisr := rfl
@[simp] theorem State.loadSp_pme (s : State) : s.loadSp.pme = s.pme := rfl
@[simp] theorem State.loadSp_clock (s : State) : s.loadSp.clock = s.clock := rfl
@[simp] theorem State.loadSp_term (s : State) : s.loadSp.term = s.term := rfl
@[simp] theorem State.loadSp_v750 (s : State) : s.loadSp.v750 = s.v750 := rfl
@[simp] theorem State.loadSp_v780 (s : State) : s.loadSp.v780 = s.v780 := rfl
@[simp] theorem State.loadSp_mbas (s : State) : s.loadSp.mbas = s.mbas := rfl
@[simp] theorem State.loadSp_mem (s : State) : s.loadSp.mem = s.mem := rfl
@[simp] theorem State.loadSp_badMem (s : State) : s.loadSp.badMem = s.badMem := rfl
@[simp] theorem State.loadSp_pend (s : State) : s.loadSp.pend = s.pend := rfl
@[simp] theorem State.loadSp_run (s : State) : s.loadSp.run = s.run := rfl
@[simp] theorem State.loadSp_con (s : State) : s.loadSp.con = s.con := rfl
@[simp] theorem State.loadSp_ubWords (s : State) : s.loadSp.ubWords = s.ubWords := rfl
@[simp] theorem State.loadSp_driveRegs (s : State) : s.loadSp.driveRegs = s.driveRegs := rfl
@[simp] theorem State.loadSp_driveCmds (s : State) : s.loadSp.driveCmds = s.driveCmds := rfl
@[simp] theorem State.loadSp_cfg (s : State) : s.loadSp.cfg = s.cfg := rfl
@[simp] theorem State.loadSp_draw (s : State) : s.loadSp.draw = s.draw := rfl
@[simp] theorem State.loadSp_events (s : State) : s.loadSp.events = s.events := rfl
@[simp] theorem State.loadSp_sent (s : State) : s.loadSp.sent = s.sent := rfl
@[simp] theorem State.loadSp_during (s : State) : s.loadSp.during = s.during := rfl
@[simp] theorem State.saveSp_reg (s : State) (n : Reg) : s.saveSp.reg n = s.reg n := by unfold State.saveSp; split <;> rfl

/-! ### putRegs -/

@[simp] theorem State.putRegs_psl (s : State) (t : DT) (n : Reg) (v : BitVec t.bits) : (s.putRegs t n v).psl = s.psl := by cases t <;> rfl
@[simp] theorem State.putRegs_sp (s : State) (t : DT) (n : Reg) (v : BitVec t.bits) : (s.putRegs t n v).sp = s.sp := by cases t <;> rfl
@[simp] theorem State.putRegs_mm (s : State) (t : DT) (n : Reg) (v : BitVec t.bits) : (s.putRegs t n v).mm = s.mm := by cases t <;> rfl
@[simp] theorem State.putRegs_tb (s : State) (t : DT) (n : Reg) (v : BitVec t.bits) : (s.putRegs t n v).tb = s.tb := by cases t <;> rfl
@[simp] theorem State.putRegs_pcbb (s : State) (t : DT) (n : Reg) (v : BitVec t.bits) : (s.putRegs t n v).pcbb = s.pcbb := by cases t <;> rfl
@[simp] theorem State.putRegs_scbb (s : State) (t : DT) (n : Reg) (v : BitVec t.bits) : (s.putRegs t n v).scbb = s.scbb := by cases t <;> rfl
@[simp] theorem State.putRegs_astlvl (s : State) (t : DT) (n : Reg) (v : BitVec t.bits) : (s.putRegs t n v).astlvl = s.astlvl := by cases t <;> rfl
@[simp] theorem State.putRegs_sisr (s : State) (t : DT) (n : Reg) (v : BitVec t.bits) : (s.putRegs t n v).sisr = s.sisr := by cases t <;> rfl
@[simp] theorem State.putRegs_pme (s : State) (t : DT) (n : Reg) (v : BitVec t.bits) : (s.putRegs t n v).pme = s.pme := by cases t <;> rfl
@[simp] theorem State.putRegs_clock (s : State) (t : DT) (n : Reg) (v : BitVec t.bits) : (s.putRegs t n v).clock = s.clock := by cases t <;> rfl
@[simp] theorem State.putRegs_term (s : State) (t : DT) (n : Reg) (v : BitVec t.bits) : (s.putRegs t n v).term = s.term := by cases t <;> rfl
@[simp] theorem State.putRegs_v750 (s : State) (t : DT) (n : Reg) (v : BitVec t.bits) : (s.putRegs t n v).v750 = s.v750 := by cases t <;> rfl
@[simp] theorem State.putRegs_v780 (s : State) (t : DT) (n : Reg) (v : BitVec t.bits) : (s.putRegs t n v).v780 = s.v780 := by cases t <;> rfl
@[simp] theorem State.putRegs_mbas (s : State) (t : DT) (n : Reg) (v : BitVec t.bits) : (s.putRegs t n v).mbas = s.mbas := by cases t <;> rfl
@[simp] theorem State.putRegs_mem (s : State) (t : DT) (n : Reg) (v : BitVec t.bits) : (s.putRegs t n v).mem = s.mem := by cases t <;> rfl
@[simp] theorem State.putRegs_badMem (s : State) (t : DT) (n : Reg) (v : BitVec t.bits) : (s.putRegs t n v).badMem = s.badMem := by cases t <;> rfl
@[simp] theorem State.putRegs_pend (s : State) (t : DT) (n : Reg) (v : BitVec t.bits) : (s.putRegs t n v).pend = s.pend := by cases t <;> rfl
@[simp] theorem State.putRegs_run (s : State) (t : DT) (n : Reg) (v : BitVec t.bits) : (s.putRegs t n v).run = s.run := by cases t <;> rfl
@[simp] theorem State.putRegs_con (s : State) (t : DT) (n : Reg) (v : BitVec t.bits) : (s.putRegs t n v).con = s.con := by cases t <;> rfl
@[simp] theorem State.putRegs_ubWords (s : State) (t : DT) (n : Reg) (v : BitVec t.bits) : (s.putRegs t n v).ubWords = s.ubWords := by cases t <;> rfl
@[simp] theorem State.putRegs_driveRegs (s : State) (t : DT) (n : Reg) (v : BitVec t.bits) : (s.putRegs t n v).driveRegs = s.driveRegs := by cases t <;> rfl
@[simp] theorem State.putRegs_driveCmds (s : State) (t : DT) (n : Reg) (v : BitVec t.bits) : (s.putRegs t n v).driveCmds = s.driveCmds := by cases t <;> rfl
@[simp] theorem State.putRegs_cfg (s : State) (t : DT) (n : Reg) (v : BitVec t.bits) : (s.putRegs t n v).cfg = s.cfg := by cases t <;> rfl
@[simp] theorem State.putRegs_draw (s : State) (t : DT) (n : Reg) (v : BitVec t.bits) : (s.putRegs t n v).draw = s.draw := by cases t <;> rfl
@[simp] theorem State.putRegs_events (s : State) (t : DT) (n : Reg) (v : BitVec t.bits) : (s.putRegs t n v).events = s.events := by cases t <;> rfl
@[simp] theorem State.putRegs_sent (s : State) (t : DT) (n : Reg) (v : BitVec t.bits) : (s.putRegs t n v).sent = s.sent := by cases t <;> rfl
@[simp] theorem State.putRegs_during (s : State) (t : DT) (n : Reg) (v : BitVec t.bits) : (s.putRegs t n v).during = s.during := by cases t <;> rfl

end Sys2Proof.Machine
end

