-- ==== Sys2Proof/Laws/Closed.lean ====
section
/-! SUPPORT. What the shared operations keep: every property closed under the kinds of update they make. -/
set_option linter.unusedTactic false
set_option linter.unreachableTactic false
set_option linter.unusedVariables false

namespace Sys2Proof.Machine

variable {P : State → Prop}

/-- What a reference that only reads may change: device registers, what was sent, the count of free values. -/
structure DevClosed (P : State → Prop) : Prop where
  devices : ∀ s v7 v8 mb se dr, P s → P { s with v750 := v7, v780 := v8, mbas := mb, sent := se, draw := dr }

/-- What a write may change: also memory and pending requests. -/
structure StoreClosed (P : State → Prop) : Prop extends DevClosed P where
  memory : ∀ s m b, (Memory.wf s.mem = true → Memory.wf m = true) → P s → P { s with mem := m, badMem := b }
  bus : ∀ s pe, P s → P { s with pend := pe }

/-- What a read of the processor may change: also what other agents do between its cycles. -/
structure CycleClosed (P : State → Prop) : Prop extends DevClosed P where
  moves : ∀ held, Keeps P (meanwhile held)

/-- What a write of the processor may change. -/
structure BusClosed (P : State → Prop) : Prop extends StoreClosed P, CycleClosed P

/-- Also general registers. -/
structure RegClosed (P : State → Prop) : Prop extends BusClosed P where
  regs : ∀ s r, P s → P { s with r := r }

/-- Also the PSL, the stored stack pointers and the run state; a halt drops a step that was to end. -/
structure FullClosed (P : State → Prop) : Prop extends RegClosed P where
  status : ∀ s p k ru, P s → P { s with psl := p, sp := k, run := ru }
  steps : ∀ s, P s → P { s with events := dropSteps s.events }

theorem DevClosed.draw (h : DevClosed P) (s : State) (n : Nat) (hs : P s) : P { s with draw := n } :=
  h.devices s _ _ _ _ n hs

theorem StoreClosed.storeRam (h : StoreClosed P) (s : State) (pa n : Nat) (v : Octa) (hs : P s) : P (s.storeRam pa n v) :=
  h.devices { s with mem := (s.storeRam pa n v).mem, badMem := (s.storeRam pa n v).badMem } _ _ _ _ _
    (h.memory s _ _ (s.storeRam_wf pa n v) hs)

theorem StoreClosed.storeQuad (h : StoreClosed P) (s : State) (pa : Nat) (v : Quad) (hs : P s) : P (s.storeQuad pa v) :=
  h.devices { s with mem := (s.storeQuad pa v).mem, badMem := (s.storeQuad pa v).badMem } _ _ _ _ _
    (h.memory s _ _ (s.storeQuad_wf pa v) hs)

theorem keeps_meanwhile (held : Option Nat) (h : CycleClosed P) : Keeps P (meanwhile held) := h.moves held

/-- While no other agent's cycle is to come there is nothing to keep. -/
theorem keeps_meanwhile_idle (held : Option Nat) (h : ∀ s, P s → s.during = []) : Keeps P (meanwhile held) := by
  refine Keeps.bindGet fun s hs => ?_
  rw [if_neg (by simp [h s hs])]
  exact ⟨fun t ht => ht⟩

theorem keeps_draw (h : DevClosed P) : Keeps P draw := ⟨fun s hs => h.draw s _ hs⟩

theorem RegClosed.putRegs (h : RegClosed P) (s : State) (t : DT) (n : Reg) (v : BitVec t.bits) (hs : P s) :
    P (s.putRegs t n v) := by
  cases t <;> exact h.regs s _ hs

theorem FullClosed.all (h : FullClosed P) (s : State) (r : Vector Long 16) (p : Long) (k : Stacks) (pe : Pending) (ru : Run)
    (hs : P s) : P { s with r := r, psl := p, sp := k, pend := pe, run := ru } :=
  h.status _ p k ru (h.bus _ pe (h.regs s r hs))

theorem FullClosed.saveSp (h : FullClosed P) (s : State) (hs : P s) : P s.saveSp := by
  unfold State.saveSp
  split <;> exact h.status s _ _ _ hs

theorem keeps_longwordOnly {α : Type} (pa n : Nat) (x : M α) (hx : Keeps P x) : Keeps P (longwordOnly pa n x) := by
  unfold longwordOnly
  split
  · exact hx
  · exact Keeps.refuse _

theorem keeps_alignedOnly {α : Type} (pa n : Nat) (x : M α) (hx : Keeps P x) : Keeps P (alignedOnly pa n x) := by
  unfold alignedOnly
  split
  · exact hx
  · exact Keeps.refuse _

/-! ### Base -/

theorem keeps_drawBits (n : Nat) (h : DevClosed P) : Keeps P (drawBits n) := by
  unfold drawBits
  repeat' first
      | (with_reducible first
          | apply Keeps.pure | apply keeps_draw (h := h))
      | with_reducible apply Keeps.bind | intro _ | dsimp only | split

theorem keeps_drawBool  (h : DevClosed P) : Keeps P (drawBool) := by
  unfold drawBool
  repeat' first
      | (with_reducible first
          | apply Keeps.pure | apply keeps_draw (h := h))
      | with_reducible apply Keeps.bind | intro _ | dsimp only | split

theorem keeps_setCC (n z v c : Bool) (h : FullClosed P) : Keeps P (setCC n z v c) := by
  unfold setCC
  repeat' first
      | (with_reducible first
          | apply Keeps.pure)
      | with_reducible apply Keeps.bind
      | ((with_reducible apply Keeps.modify); intro s hs; first | exact h.regs _ _ hs | exact h.all s _ _ _ _ _ hs | exact h.regs _ _ (h.saveSp _ hs) | exact h.status _ _ _ _ hs | exact h.status _ _ _ _ (h.regs _ _ hs) | exact h.bus _ _ (h.status _ _ _ _ (h.regs _ _ hs)) | exact h.devices _ _ _ _ _ _ (h.status _ _ _ _ (h.regs _ _ hs)))
      | intro _ | dsimp only | split

theorem keeps_setNZV (n z v : Bool) (h : FullClosed P) : Keeps P (setNZV n z v) := by
  unfold setNZV
  repeat' first
      | (with_reducible first
          | apply Keeps.pure)
      | with_reducible apply Keeps.bind
      | ((with_reducible apply Keeps.modify); intro s hs; first | exact h.regs _ _ hs | exact h.all s _ _ _ _ _ hs | exact h.regs _ _ (h.saveSp _ hs) | exact h.status _ _ _ _ hs | exact h.status _ _ _ _ (h.regs _ _ hs) | exact h.bus _ _ (h.status _ _ _ _ (h.regs _ _ hs)) | exact h.devices _ _ _ _ _ _ (h.status _ _ _ _ (h.regs _ _ hs)))
      | intro _ | dsimp only | split

theorem keeps_getR (n : Reg) : Keeps P (getR n) := by
  unfold getR
  repeat' first
      | (with_reducible first
          | apply Keeps.pure)
      | ((with_reducible apply Keeps.bindGet); intro s hs) | with_reducible apply Keeps.bind | intro _ | dsimp only
      | split

theorem keeps_setR (n : Reg) (v : Long) (h : RegClosed P) : Keeps P (setR n v) := by
  unfold setR
  repeat' first
      | (with_reducible first
          | apply Keeps.pure)
      | with_reducible apply Keeps.bind
      | ((with_reducible apply Keeps.modify); intro s hs; first | exact h.regs _ _ hs | exact h.putRegs _ _ _ _ hs | exact h.devices _ _ _ _ _ _ hs)
      | intro _ | dsimp only | split

theorem keeps_getPC  : Keeps P (getPC) := by
  unfold getPC
  repeat' first
      | (with_reducible first
          | apply keeps_getR)
      | with_reducible apply Keeps.bind | intro _ | dsimp only | split

theorem keeps_setPC (v : Long) (h : RegClosed P) : Keeps P (setPC v) := by
  unfold setPC
  repeat' first
      | (with_reducible first
          | apply keeps_setR (h := h))
      | with_reducible apply Keeps.bind | intro _ | dsimp only | split

/-! ### Bus -/

theorem keeps_modV750 (f : V750 → V750) (h : DevClosed P) : Keeps P (modV750 f) := by
  unfold modV750
  repeat' first
      | (with_reducible first
          | apply Keeps.pure)
      | with_reducible apply Keeps.bind
      | ((with_reducible apply Keeps.modify); intro s hs; exact h.devices s _ _ _ _ _ hs) | intro _ | dsimp only
      | split

theorem keeps_modV780 (f : V780 → V780) (h : DevClosed P) : Keeps P (modV780 f) := by
  unfold modV780
  repeat' first
      | (with_reducible first
          | apply Keeps.pure)
      | with_reducible apply Keeps.bind
      | ((with_reducible apply Keeps.modify); intro s hs; exact h.devices s _ _ _ _ _ hs) | intro _ | dsimp only
      | split

theorem keeps_modPend (f : Pending → Pending) (h : StoreClosed P) : Keeps P (modPend f) := by
  unfold modPend
  repeat' first
      | (with_reducible first
          | apply Keeps.pure)
      | with_reducible apply Keeps.bind
      | ((with_reducible apply Keeps.modify); intro s hs; first | exact h.devices _ _ _ _ _ _ hs | exact h.memory _ _ _ (by first | exact Memory.set_wf _ _ _ | exact Memory.filter_wf _ _ | (intro _; rfl) | exact fun _ => rfl) hs | exact h.bus _ _ hs | exact h.storeRam _ _ _ _ hs | exact h.storeQuad _ _ _ hs | exact h.devices _ _ _ _ _ _ (h.bus _ _ hs) | (split <;> first | exact hs | exact h.storeRam _ _ _ _ hs | exact h.storeQuad _ _ _ hs | exact h.devices _ _ _ _ _ _ (h.bus _ _ hs)))
      | intro _ | dsimp only | split

theorem keeps_send (x : Sent) (h : DevClosed P) : Keeps P (send x) := by
  unfold send
  repeat' first
      | (with_reducible first
          | apply Keeps.pure)
      | with_reducible apply Keeps.bind
      | ((with_reducible apply Keeps.modify); intro s hs; exact h.devices s _ _ _ _ _ hs) | intro _ | dsimp only
      | split

theorem keeps_modUba (k : Nat) (f : Uba → Uba) (h : DevClosed P) : Keeps P (modUba k f) := by
  unfold modUba
  repeat' first
      | (with_reducible first
          | apply keeps_modV780 (h := h))
      | with_reducible apply Keeps.bind | intro _ | dsimp only | split

theorem keeps_modMba (k : Nat) (f : Mba → Mba) (h : DevClosed P) : Keeps P (modMba k f) := by
  unfold modMba
  repeat' first
      | (with_reducible first
          | apply Keeps.pure)
      | with_reducible apply Keeps.bind
      | ((with_reducible apply Keeps.modify); intro s hs; exact h.devices s _ _ _ _ _ hs) | intro _ | dsimp only
      | split

theorem keeps_modMemCtl (k : Nat) (f : MemCtl → MemCtl) (h : DevClosed P) : Keeps P (modMemCtl k f) := by
  unfold modMemCtl
  repeat' first
      | (with_reducible first
          | apply keeps_modV780 (h := h))
      | with_reducible apply Keeps.bind | intro _ | dsimp only | split

theorem keeps_raiseFault (tr : Nat) (bits : BitVec 6) (h : StoreClosed P) : Keeps P (raiseFault tr bits) := by
  refine Keeps.modify fun s hs => ?_
  split
  · exact hs
  · exact h.bus _ _ (h.devices s s.v750 { s.v780 with fault := true, faults := Sparse.set s.v780.faults tr bits } s.mbas s.sent s.draw hs)

theorem keeps_freeRam (pa : Nat) (x0 : Nat) (h : StoreClosed P) : Keeps P (freeRam pa x0) := by
  induction x0 generalizing pa with
  | zero => unfold freeRam; exact Keeps.pure _
  | succ y ih =>
  unfold freeRam
  repeat' first
      | (with_reducible first
          | apply Keeps.pure | apply keeps_drawBits (h := h.toDevClosed) | apply ih)
      | with_reducible apply Keeps.bind
      | ((with_reducible apply Keeps.set); first | exact h.devices _ _ _ _ _ _ hs | exact h.memory _ _ _ (by first | exact Memory.set_wf _ _ _ | exact Memory.filter_wf _ _ | (intro _; rfl) | exact fun _ => rfl) hs | exact h.bus _ _ hs | exact h.storeRam _ _ _ _ hs | exact h.storeQuad _ _ _ hs | exact h.devices _ _ _ _ _ _ (h.bus _ _ hs) | (split <;> first | exact hs | exact h.storeRam _ _ _ _ hs | exact h.storeQuad _ _ _ hs | exact h.devices _ _ _ _ _ _ (h.bus _ _ hs)))
      | ((with_reducible apply Keeps.modify); intro s hs; first | exact h.devices _ _ _ _ _ _ hs | exact h.memory _ _ _ (by first | exact Memory.set_wf _ _ _ | exact Memory.filter_wf _ _ | (intro _; rfl) | exact fun _ => rfl) hs | exact h.bus _ _ hs | exact h.storeRam _ _ _ _ hs | exact h.storeQuad _ _ _ hs | exact h.devices _ _ _ _ _ _ (h.bus _ _ hs) | (split <;> first | exact hs | exact h.storeRam _ _ _ _ hs | exact h.storeQuad _ _ _ hs | exact h.devices _ _ _ _ _ _ (h.bus _ _ hs)))
      | intro _ | dsimp only | split

theorem keeps_freeAllRam  (h : StoreClosed P) : Keeps P (freeAllRam) := by
  unfold freeAllRam
  repeat' first
      | (with_reducible first
          | apply keeps_freeRam (h := h) | apply Keeps.forM)
      | ((with_reducible apply Keeps.bindGet); intro s hs) | with_reducible apply Keeps.bind
      | ((with_reducible apply Keeps.set); first | exact h.devices _ _ _ _ _ _ hs | exact h.memory _ _ _ (by first | exact Memory.set_wf _ _ _ | exact Memory.filter_wf _ _ | (intro _; rfl) | exact fun _ => rfl) hs | exact h.bus _ _ hs | exact h.storeRam _ _ _ _ hs | exact h.storeQuad _ _ _ hs | exact h.devices _ _ _ _ _ _ (h.bus _ _ hs) | (split <;> first | exact hs | exact h.storeRam _ _ _ _ hs | exact h.storeQuad _ _ _ hs | exact h.devices _ _ _ _ _ _ (h.bus _ _ hs)))
      | intro _ | dsimp only | split

theorem keeps_logUncorrectable (pa : Nat) (h : DevClosed P) : Keeps P (logUncorrectable pa) := by
  unfold logUncorrectable
  repeat' first
      | (with_reducible first
          | apply Keeps.pure | apply keeps_drawBits (h := h) | apply keeps_modV750 (h := h)
          | apply keeps_modMemCtl (h := h))
      | ((with_reducible apply Keeps.bindGet); intro s hs) | with_reducible apply Keeps.bind | intro _ | dsimp only
      | split

theorem keeps_logCorrected (pa : Nat) (h : DevClosed P) : Keeps P (logCorrected pa) := by
  unfold logCorrected
  repeat' first
      | (with_reducible first
          | apply Keeps.pure | apply keeps_drawBits (h := h) | apply keeps_modV750 (h := h)
          | apply keeps_logUncorrectable (h := h))
      | ((with_reducible apply Keeps.bindGet); intro s hs) | with_reducible apply Keeps.bind | intro _ | dsimp only
      | split

theorem keeps_forcedCycle (pa n : Nat) (h : DevClosed P) : Keeps P (forcedCycle pa n) := by
  unfold forcedCycle
  repeat' first
      | (with_reducible first
          | apply Keeps.pure | apply keeps_drawBits (h := h) | apply keeps_logUncorrectable (h := h)
          | apply keeps_logCorrected (h := h))
      | ((with_reducible apply Keeps.bindGet); intro s hs) | with_reducible apply Keeps.bind | intro _ | dsimp only
      | split

theorem keeps_forcedData (f : Forced) (n : Nat) (v : Octa) (h : DevClosed P) : Keeps P (forcedData f n v) := by
  unfold forcedData
  repeat' first
      | (with_reducible first
          | apply Keeps.pure | apply keeps_draw (h := h))
      | with_reducible apply Keeps.bind | intro _ | dsimp only | split

theorem keeps_adapterRead (pa n : Nat) (h : DevClosed P) : Keeps P (adapterRead pa n) := by
  unfold adapterRead
  repeat' first
      | (with_reducible first
          | apply Keeps.pure | apply keeps_logUncorrectable (h := h) | apply keeps_forcedCycle (h := h)
          | apply keeps_forcedData (h := h))
      | ((with_reducible apply Keeps.bindGet); intro s hs) | with_reducible apply Keeps.bind
      | ((with_reducible apply Keeps.modify); intro s hs; exact h.devices s _ _ _ _ _ hs) | intro _ | dsimp only
      | split

theorem keeps_writeTaken (pa n : Nat) (h : DevClosed P) : Keeps P (writeTaken pa n) := by
  unfold writeTaken
  repeat' first
      | (with_reducible first
          | apply Keeps.pure | apply keeps_drawBits (h := h) | apply keeps_forcedCycle (h := h))
      | ((with_reducible apply Keeps.bindGet); intro s hs) | with_reducible apply Keeps.bind | intro _ | dsimp only
      | split

theorem keeps_storeParts  (x0 : List (Nat × Nat)) (x1 : Octa) (h : StoreClosed P) : Keeps P (storeParts x0 x1) := by
  induction x0 generalizing x1 with
  | nil => unfold storeParts; exact Keeps.pure _
  | cons y ys ih =>
  unfold storeParts
  repeat' first
      | (with_reducible first
          | apply Keeps.pure | apply ih
          | apply keeps_writeTaken (h := h.toDevClosed))
      | with_reducible apply Keeps.bind
      | ((with_reducible apply Keeps.modify); intro s hs; first | exact h.devices _ _ _ _ _ _ hs | exact h.memory _ _ _ (by first | exact Memory.set_wf _ _ _ | exact Memory.filter_wf _ _ | (intro _; rfl) | exact fun _ => rfl) hs | exact h.bus _ _ hs | exact h.storeRam _ _ _ _ hs | exact h.storeQuad _ _ _ hs | exact h.devices _ _ _ _ _ _ (h.bus _ _ hs) | (split <;> first | exact hs | exact h.storeRam _ _ _ _ hs | exact h.storeQuad _ _ _ hs | exact h.devices _ _ _ _ _ _ (h.bus _ _ hs)))
      | intro _ | dsimp only | split

theorem keeps_storeAt (pa n : Nat) (v : Octa) (h : StoreClosed P) : Keeps P (storeAt pa n v) := by
  unfold storeAt
  repeat' first
      | (with_reducible first
          | apply Keeps.pure | apply keeps_storeParts (h := h))
      | ((with_reducible apply Keeps.bindGet); intro s hs) | with_reducible apply Keeps.bind
      | ((with_reducible apply Keeps.modify); intro s hs; first | exact h.devices _ _ _ _ _ _ hs | exact h.memory _ _ _ (by first | exact Memory.set_wf _ _ _ | exact Memory.filter_wf _ _ | (intro _; rfl) | exact fun _ => rfl) hs | exact h.bus _ _ hs | exact h.storeRam _ _ _ _ hs | exact h.storeQuad _ _ _ hs | exact h.devices _ _ _ _ _ _ (h.bus _ _ hs) | (split <;> first | exact hs | exact h.storeRam _ _ _ _ hs | exact h.storeQuad _ _ _ hs | exact h.devices _ _ _ _ _ _ (h.bus _ _ hs)))
      | intro _ | dsimp only | split

theorem keeps_freeLongs  (x0 : Nat) (h : DevClosed P) : Keeps P (freeLongs x0) := by
  induction x0 with
  | zero => unfold freeLongs; exact Keeps.pure _
  | succ y ih =>
  unfold freeLongs
  repeat' first
      | (with_reducible first
          | apply Keeps.pure | apply keeps_drawBits (h := h) | apply ih)
      | with_reducible apply Keeps.bind | intro _ | dsimp only | split

theorem keeps_machineCheck {α : Type} (h : DevClosed P) : Keeps P (machineCheck : M α) := by
  unfold machineCheck
  repeat' first
      | (with_reducible first
          | apply Keeps.raise | apply keeps_freeLongs (h := h))
      | ((with_reducible apply Keeps.bindGet); intro s hs) | with_reducible apply Keeps.bind | intro _ | dsimp only
      | split

theorem keeps_latchBusError (cause : Nat) (readLock : Bool) (h : DevClosed P) : Keeps P (latchBusError cause readLock) := by
  unfold latchBusError
  repeat' first
      | (with_reducible first
          | apply Keeps.pure | apply keeps_modV750 (h := h))
      | with_reducible apply Keeps.bind | intro _ | dsimp only | split

theorem keeps_busReadError {α : Type} (cause : Nat) (h : DevClosed P) : Keeps P (busReadError cause : M α) := by
  unfold busReadError
  repeat' first
      | (with_reducible first
          | apply Keeps.pure | apply keeps_machineCheck (h := h) | apply keeps_latchBusError (h := h))
      | ((with_reducible apply Keeps.bindGet); intro s hs) | with_reducible apply Keeps.bind | intro _ | dsimp only
      | split

theorem keeps_loggedError {α : Type} (h : DevClosed P) : Keeps P (loggedError : M α) := by
  unfold loggedError
  repeat' first
      | (with_reducible first
          | apply Keeps.pure | apply keeps_modV780 (h := h) | apply keeps_busReadError (h := h))
      | ((with_reducible apply Keeps.bindGet); intro s hs) | with_reducible apply Keeps.bind | intro _ | dsimp only
      | split

theorem keeps_uncorrectable {α : Type} (pa : Nat) (h : DevClosed P) : Keeps P (uncorrectable pa : M α) := by
  unfold uncorrectable
  repeat' first
      | (with_reducible first
          | apply keeps_logUncorrectable (h := h) | apply keeps_loggedError (h := h))
      | with_reducible apply Keeps.bind | intro _ | dsimp only | split

theorem keeps_busWriteError  (h : StoreClosed P) : Keeps P (busWriteError) := by
  unfold busWriteError
  repeat' first
      | (with_reducible first
          | apply keeps_modPend (h := h))
      | ((with_reducible apply Keeps.bindGet); intro s hs) | with_reducible apply Keeps.bind | intro _ | dsimp only
      | split

theorem keeps_pick {α : Type} (l : List α) (h : DevClosed P) : Keeps P (pick l) := by
  unfold pick
  repeat' first
      | (with_reducible first
          | apply Keeps.pure | apply keeps_draw (h := h))
      | with_reducible apply Keeps.bind | intro _ | dsimp only | split

/-! ### Massbus -/

theorem keeps_mbaSet (k : Nat) (bits : Long) (h : DevClosed P) : Keeps P (mbaSet k bits) := by
  unfold mbaSet
  repeat' first
      | (with_reducible first
          | apply keeps_modMba (h := h))
      | with_reducible apply Keeps.bind | intro _ | dsimp only | split

theorem keeps_mbaProgrammingError (k : Nat) (h : DevClosed P) : Keeps P (mbaProgrammingError k) := by
  unfold mbaProgrammingError
  repeat' first
      | (with_reducible first
          | apply keeps_mbaSet (h := h))
      | with_reducible apply Keeps.bind | intro _ | dsimp only | split

theorem keeps_mbaError (k : Nat) (bits : Long) (h : DevClosed P) : Keeps P (mbaError k bits) := by
  unfold mbaError
  repeat' first
      | (with_reducible first
          | apply keeps_modMba (h := h))
      | ((with_reducible apply Keeps.bindGet); intro s hs) | with_reducible apply Keeps.bind | intro _ | dsimp only
      | split

theorem keeps_mbaInit (k : Nat) (h : DevClosed P) : Keeps P (mbaInit k) := by
  unfold mbaInit
  repeat' first
      | (with_reducible first
          | apply Keeps.pure | apply keeps_send (h := h) | apply keeps_modMba (h := h))
      | ((with_reducible apply Keeps.bindGet); intro s hs) | with_reducible apply Keeps.bind | intro _ | dsimp only
      | split

theorem keeps_mbaWriteCr (k : Nat) (w : Long) (h : DevClosed P) : Keeps P (mbaWriteCr k w) := by
  unfold mbaWriteCr
  repeat' first
      | (with_reducible first
          | apply Keeps.pure | apply keeps_modMba (h := h) | apply keeps_mbaProgrammingError (h := h)
          | apply keeps_mbaInit (h := h))
      | ((with_reducible apply Keeps.bindGet); intro s hs) | with_reducible apply Keeps.bind | intro _ | dsimp only
      | split

theorem keeps_mbaControlParity (k : Nat) (h : DevClosed P) : Keeps P (mbaControlParity k) := by
  unfold mbaControlParity
  repeat' first
      | (with_reducible first
          | apply Keeps.pure | apply keeps_drawBool (h := h) | apply keeps_mbaSet (h := h))
      | ((with_reducible apply Keeps.bindGet); intro s hs) | with_reducible apply Keeps.bind | intro _ | dsimp only
      | split

theorem keeps_mbaRead (k off n : Nat) (h : DevClosed P) : Keeps P (mbaRead k off n) := by
  unfold mbaRead
  repeat' first
      | (with_reducible first
          | apply Keeps.pure | apply keeps_drawBits (h := h) | apply keeps_send (h := h)
          | apply keeps_busReadError (h := h) | apply keeps_mbaSet (h := h) | apply keeps_mbaControlParity (h := h))
      | ((with_reducible apply Keeps.bindGet); intro s hs) | with_reducible apply Keeps.bind | intro _ | dsimp only
      | split

theorem keeps_mbaWriteDrive (k off : Nat) (w : Long) (h : DevClosed P) : Keeps P (mbaWriteDrive k off w) := by
  unfold mbaWriteDrive
  repeat' first
      | (with_reducible first
          | apply Keeps.pure | apply keeps_drawBool (h := h) | apply keeps_send (h := h) | apply keeps_modMba (h := h)
          | apply keeps_mbaSet (h := h) | apply keeps_mbaProgrammingError (h := h)
          | apply keeps_mbaControlParity (h := h))
      | ((with_reducible apply Keeps.bindGet); intro s hs) | with_reducible apply Keeps.bind | intro _ | dsimp only
      | split

theorem keeps_mbaIn (k : Nat) (data : List Byte) (h : DevClosed P) : Keeps P (mbaIn k data) := by
  unfold mbaIn
  repeat' first
      | (with_reducible first
          | apply Keeps.pure | apply keeps_modMba (h := h) | apply keeps_mbaError (h := h))
      | ((with_reducible apply Keeps.bindGet); intro s hs) | with_reducible apply Keeps.bind | intro _ | dsimp only
      | split

theorem keeps_mbaTake (k n : Nat) (h : DevClosed P) : Keeps P (mbaTake k n) := by
  unfold mbaTake
  repeat' first
      | (with_reducible first
          | apply Keeps.pure | apply keeps_send (h := h) | apply keeps_modMba (h := h) | apply keeps_mbaError (h := h))
      | ((with_reducible apply Keeps.bindGet); intro s hs) | with_reducible apply Keeps.bind | intro _ | dsimp only
      | split

theorem keeps_mbaFetch (k pa n : Nat) (h : DevClosed P) : Keeps P (mbaFetch k pa n) := by
  unfold mbaFetch
  repeat' first
      | (with_reducible first
          | apply Keeps.pure | apply keeps_modMba (h := h) | apply keeps_adapterRead (h := h)
          | apply keeps_mbaSet (h := h) | apply keeps_mbaError (h := h))
      | ((with_reducible apply Keeps.bindGet); intro s hs) | with_reducible apply Keeps.bind | intro _ | dsimp only
      | split

theorem keeps_mbaCycle (k pa n : Nat) (h : StoreClosed P) : Keeps P (mbaCycle k pa n) := by
  unfold mbaCycle
  repeat' first
      | (with_reducible first
          | apply Keeps.pure | apply keeps_modMba (h := h.toDevClosed) | apply keeps_storeAt (h := h)
          | apply keeps_mbaError (h := h.toDevClosed) | apply keeps_mbaFetch (h := h.toDevClosed))
      | ((with_reducible apply Keeps.bindGet); intro s hs) | with_reducible apply Keeps.bind
      | ((with_reducible apply Keeps.modify); intro s hs; first | exact h.devices _ _ _ _ _ _ hs | exact h.memory _ _ _ (by first | exact Memory.set_wf _ _ _ | exact Memory.filter_wf _ _ | (intro _; rfl) | exact fun _ => rfl) hs | exact h.bus _ _ hs | exact h.storeRam _ _ _ _ hs | exact h.storeQuad _ _ _ hs | exact h.devices _ _ _ _ _ _ (h.bus _ _ hs) | (split <;> first | exact hs | exact h.storeRam _ _ _ _ hs | exact h.storeQuad _ _ _ hs | exact h.devices _ _ _ _ _ _ (h.bus _ _ hs)))
      | intro _ | dsimp only | split

theorem keeps_mbaMemory (k : Nat) (rest : Bool) (h : StoreClosed P) : Keeps P (mbaMemory k rest) := by
  unfold mbaMemory
  repeat' first
      | (with_reducible first
          | apply Keeps.pure | apply keeps_mbaCycle (h := h))
      | ((with_reducible apply Keeps.bindGet); intro s hs) | with_reducible apply Keeps.bind | intro _ | dsimp only
      | split

theorem keeps_mbaEnd (k : Nat) (h : StoreClosed P) : Keeps P (mbaEnd k) := by
  unfold mbaEnd
  repeat' first
      | (with_reducible first
          | apply Keeps.pure | apply keeps_modMba (h := h.toDevClosed) | apply keeps_mbaMemory (h := h)
          | apply Keeps.forM)
      | ((with_reducible apply Keeps.bindGet); intro s hs) | with_reducible apply Keeps.bind | intro _ | dsimp only
      | split

theorem keeps_mbaClock (k : Nat) (h : DevClosed P) : Keeps P (mbaClock k) := by
  unfold mbaClock
  repeat' first
      | (with_reducible first
          | apply Keeps.pure | apply keeps_drawBits (h := h) | apply keeps_modMba (h := h)
          | apply keeps_mbaError (h := h) | apply keeps_mbaIn (h := h) | apply keeps_mbaTake (h := h))
      | ((with_reducible apply Keeps.bindGet); intro s hs) | with_reducible apply Keeps.bind | intro _ | dsimp only
      | split

theorem keeps_mbaDiagnose (k : Nat) (w : Long) (h : StoreClosed P) : Keeps P (mbaDiagnose k w) := by
  unfold mbaDiagnose
  repeat' first
      | (with_reducible first
          | apply Keeps.pure | apply keeps_modMba (h := h.toDevClosed) | apply keeps_mbaError (h := h.toDevClosed)
          | apply keeps_mbaEnd (h := h) | apply keeps_mbaClock (h := h.toDevClosed))
      | ((with_reducible apply Keeps.bindGet); intro s hs) | with_reducible apply Keeps.bind | intro _ | dsimp only
      | split

theorem keeps_mbaWrite (k off n : Nat) (w : Long) (h : StoreClosed P) : Keeps P (mbaWrite k off n w) := by
  unfold mbaWrite
  repeat' first
      | (with_reducible first
          | apply Keeps.pure | apply keeps_modMba (h := h.toDevClosed) | apply keeps_busWriteError (h := h)
          | apply keeps_mbaProgrammingError (h := h.toDevClosed) | apply keeps_mbaWriteCr (h := h.toDevClosed)
          | apply keeps_mbaWriteDrive (h := h.toDevClosed) | apply keeps_mbaDiagnose (h := h))
      | ((with_reducible apply Keeps.bindGet); intro s hs) | with_reducible apply Keeps.bind
      | ((with_reducible apply Keeps.set); first | exact h.devices _ _ _ _ _ _ hs | exact h.memory _ _ _ (by first | exact Memory.set_wf _ _ _ | exact Memory.filter_wf _ _ | (intro _; rfl) | exact fun _ => rfl) hs | exact h.bus _ _ hs | exact h.storeRam _ _ _ _ hs | exact h.storeQuad _ _ _ hs | exact h.devices _ _ _ _ _ _ (h.bus _ _ hs) | (split <;> first | exact hs | exact h.storeRam _ _ _ _ hs | exact h.storeQuad _ _ _ hs | exact h.devices _ _ _ _ _ _ (h.bus _ _ hs)))
      | intro _ | dsimp only | split

theorem keeps_mbaFinds (k : Nat) (bits : Long) (h : DevClosed P) : Keeps P (mbaFinds k bits) := by
  unfold mbaFinds
  repeat' first
      | (with_reducible first
          | apply Keeps.pure | apply keeps_mbaError (h := h))
      | ((with_reducible apply Keeps.bindGet); intro s hs) | with_reducible apply Keeps.bind | intro _ | dsimp only
      | split

/-! ### Unibus750 -/

theorem keeps_csr750Read (k : Nat) (h : DevClosed P) : Keeps P (csr750Read k) := by
  unfold csr750Read
  repeat' first
      | (with_reducible first
          | apply Keeps.pure | apply keeps_drawBits (h := h))
      | ((with_reducible apply Keeps.bindGet); intro s hs) | with_reducible apply Keeps.bind | intro _ | dsimp only
      | split

theorem keeps_csr750Write (k : Nat) (w : Long) (h : DevClosed P) : Keeps P (csr750Write k w) := by
  unfold csr750Write
  repeat' first
      | (with_reducible first
          | apply Keeps.pure | apply keeps_modV750 (h := h))
      | with_reducible apply Keeps.bind | intro _ | dsimp only | split

theorem keeps_modBdp (p : Nat) (f : Bdp750 → Bdp750) (h : DevClosed P) : Keeps P (modBdp p f) := by
  unfold modBdp
  repeat' first
      | (with_reducible first
          | apply keeps_modV750 (h := h))
      | with_reducible apply Keeps.bind | intro _ | dsimp only | split

theorem keeps_writeMarked (pa : Nat) (data : Long) (mask : BitVec 4) (h : StoreClosed P) : Keeps P (writeMarked pa data mask) := by
  unfold writeMarked
  repeat' first
      | (with_reducible first
          | apply Keeps.pure | apply Keeps.forM
          | apply keeps_writeTaken (h := h.toDevClosed))
      | ((with_reducible apply Keeps.bindGet); intro s hs) | with_reducible apply Keeps.bind
      | ((with_reducible apply Keeps.modify); intro s hs; first | exact h.devices _ _ _ _ _ _ hs | exact h.memory _ _ _ (by first | exact Memory.set_wf _ _ _ | exact Memory.filter_wf _ _ | (intro _; rfl) | exact fun _ => rfl) hs | exact h.bus _ _ hs | exact h.storeRam _ _ _ _ hs | exact h.storeQuad _ _ _ hs | exact h.devices _ _ _ _ _ _ (h.bus _ _ hs) | (split <;> first | exact hs | exact h.storeRam _ _ _ _ hs | exact h.storeQuad _ _ _ hs | exact h.devices _ _ _ _ _ _ (h.bus _ _ hs)))
      | intro _ | dsimp only | split

theorem keeps_ubiRead (pa n : Nat) (h : DevClosed P) : Keeps P (ubiRead pa n) := by
  unfold ubiRead
  repeat' first
      | (with_reducible first
          | apply Keeps.pure | apply keeps_adapterRead (h := h))
      | ((with_reducible apply Keeps.bindGet); intro s hs) | with_reducible apply Keeps.bind | intro _ | dsimp only
      | split

theorem keeps_bdpFlush (p : Nat) (h : StoreClosed P) : Keeps P (bdpFlush p) := by
  unfold bdpFlush
  repeat' first
      | (with_reducible first
          | apply Keeps.pure | apply keeps_modBdp (h := h.toDevClosed) | apply keeps_writeMarked (h := h))
      | ((with_reducible apply Keeps.bindGet); intro s hs) | with_reducible apply Keeps.bind | intro _ | dsimp only
      | split

theorem keeps_bdpRead (p : Nat) (h : DevClosed P) : Keeps P (bdpRead p) := by
  unfold bdpRead
  repeat' first
      | (with_reducible first
          | apply Keeps.pure | apply keeps_drawBits (h := h))
      | ((with_reducible apply Keeps.bindGet); intro s hs) | with_reducible apply Keeps.bind | intro _ | dsimp only
      | split

theorem keeps_bdpWrite (p : Nat) (w : Long) (h : StoreClosed P) : Keeps P (bdpWrite p w) := by
  unfold bdpWrite
  repeat' first
      | (with_reducible first
          | apply Keeps.pure | apply keeps_modBdp (h := h.toDevClosed) | apply keeps_bdpFlush (h := h))
      | with_reducible apply Keeps.bind | intro _ | dsimp only | split

theorem keeps_unibusInit750  (h : DevClosed P) : Keeps P (unibusInit750) := by
  unfold unibusInit750
  repeat' first
      | (with_reducible first
          | apply keeps_modV750 (h := h) | apply keeps_send (h := h))
      | with_reducible apply Keeps.bind | intro _ | dsimp only | split

theorem keeps_unibus750Read (ua n : Nat) (u : Use) (h : DevClosed P) : Keeps P (unibus750Read ua n u) := by
  unfold unibus750Read
  repeat' first
      | (with_reducible first
          | apply Keeps.pure | apply Keeps.refuse | apply keeps_send (h := h) | apply keeps_busReadError (h := h))
      | ((with_reducible apply Keeps.bindGet); intro s hs) | with_reducible apply Keeps.bind | intro _ | dsimp only
      | split

theorem keeps_unibus750Write (ua n : Nat) (w : Long) (h : StoreClosed P) : Keeps P (unibus750Write ua n w) := by
  unfold unibus750Write
  repeat' first
      | (with_reducible first
          | apply Keeps.pure | apply Keeps.refuse | apply keeps_send (h := h.toDevClosed)
          | apply keeps_busReadError (h := h.toDevClosed) | apply keeps_busWriteError (h := h))
      | ((with_reducible apply Keeps.bindGet); intro s hs) | with_reducible apply Keeps.bind | intro _ | dsimp only
      | split

theorem keeps_bdpReadPart (p ua n : Nat) (h : StoreClosed P) : Keeps P (bdpReadPart p ua n) := by
  unfold bdpReadPart
  repeat' first
      | (with_reducible first
          | apply Keeps.pure
          | apply keeps_modBdp (h := h.toDevClosed) | apply keeps_bdpFlush (h := h)
          | apply keeps_ubiRead (h := h.toDevClosed))
      | ((with_reducible apply Keeps.bindGet); intro s hs) | with_reducible apply Keeps.bind
      | ((with_reducible apply Keeps.modify); intro s hs; first | exact h.devices _ _ _ _ _ _ hs | exact h.memory _ _ _ (by first | exact Memory.set_wf _ _ _ | exact Memory.filter_wf _ _ | (intro _; rfl) | exact fun _ => rfl) hs | exact h.bus _ _ hs | exact h.storeRam _ _ _ _ hs | exact h.storeQuad _ _ _ hs | exact h.devices _ _ _ _ _ _ (h.bus _ _ hs) | (split <;> first | exact hs | exact h.storeRam _ _ _ _ hs | exact h.storeQuad _ _ _ hs | exact h.devices _ _ _ _ _ _ (h.bus _ _ hs)))
      | intro _ | dsimp only | split

theorem keeps_bdpWritePart (p ua : Nat) (bytes : List Byte) (apart : Bool) (h : StoreClosed P) : Keeps P (bdpWritePart p ua bytes apart) := by
  unfold bdpWritePart
  repeat' first
      | (with_reducible first
          | apply Keeps.pure | apply keeps_modBdp (h := h.toDevClosed) | apply keeps_bdpFlush (h := h))
      | ((with_reducible apply Keeps.bindGet); intro s hs) | with_reducible apply Keeps.bind | intro _ | dsimp only
      | split

theorem keeps_directReadPart (ua n : Nat) (h : DevClosed P) : Keeps P (directReadPart ua n) := by
  unfold directReadPart
  repeat' first
      | (with_reducible first
          | apply Keeps.pure
          | apply keeps_ubiRead (h := h))
      | ((with_reducible apply Keeps.bindGet); intro s hs) | with_reducible apply Keeps.bind
      | ((with_reducible apply Keeps.modify); intro s hs; exact h.devices s _ _ _ _ _ hs) | intro _ | dsimp only
      | split

theorem keeps_directWritePart (ua : Nat) (bytes : List Byte) (h : StoreClosed P) : Keeps P (directWritePart ua bytes) := by
  unfold directWritePart
  repeat' first
      | (with_reducible first
          | apply Keeps.pure
          | apply keeps_storeAt (h := h))
      | ((with_reducible apply Keeps.bindGet); intro s hs) | with_reducible apply Keeps.bind
      | ((with_reducible apply Keeps.modify); intro s hs; first | exact h.devices _ _ _ _ _ _ hs | exact h.memory _ _ _ (by first | exact Memory.set_wf _ _ _ | exact Memory.filter_wf _ _ | (intro _; rfl) | exact fun _ => rfl) hs | exact h.bus _ _ hs | exact h.storeRam _ _ _ _ hs | exact h.storeQuad _ _ _ hs | exact h.devices _ _ _ _ _ _ (h.bus _ _ hs) | (split <;> first | exact hs | exact h.storeRam _ _ _ _ hs | exact h.storeQuad _ _ _ hs | exact h.devices _ _ _ _ _ _ (h.bus _ _ hs)))
      | intro _ | dsimp only | split

theorem keeps_dmaReadParts  (x0 : List (Nat × Nat)) (h : StoreClosed P) : Keeps P (dmaReadParts x0) := by
  induction x0 with
  | nil => unfold dmaReadParts; exact Keeps.pure _
  | cons y ys ih =>
  unfold dmaReadParts
  repeat' first
      | (with_reducible first
          | apply Keeps.pure | apply keeps_bdpReadPart (h := h) | apply keeps_directReadPart (h := h.toDevClosed)
          | apply ih)
      | ((with_reducible apply Keeps.bindGet); intro s hs) | with_reducible apply Keeps.bind | intro _ | dsimp only
      | split

theorem keeps_dmaWriteParts (apart : Bool) (bytes : List Byte) (x0 : List (Nat × Nat)) (h : StoreClosed P) : Keeps P (dmaWriteParts apart bytes x0) := by
  induction x0 generalizing apart bytes with
  | nil => unfold dmaWriteParts; exact Keeps.pure _
  | cons y ys ih =>
  unfold dmaWriteParts
  repeat' first
      | (with_reducible first
          | apply Keeps.pure | apply keeps_bdpWritePart (h := h) | apply keeps_directWritePart (h := h) | apply ih)
      | ((with_reducible apply Keeps.bindGet); intro s hs) | with_reducible apply Keeps.bind | intro _ | dsimp only
      | split

theorem keeps_dma750 (c : UbCycle) (ua : Nat) (data : Word16) (h : StoreClosed P) : Keeps P (dma750 c ua data) := by
  unfold dma750
  repeat' first
      | (with_reducible first
          | apply Keeps.pure | apply Keeps.throw | apply keeps_modV750 (h := h.toDevClosed)
          | apply keeps_dmaReadParts (h := h) | apply keeps_dmaWriteParts (h := h))
      | ((with_reducible apply Keeps.bindGet); intro s hs) | with_reducible apply Keeps.bind | intro _ | dsimp only
      | split

/-! ### Unibus780 -/

theorem keeps_ubaDmaError (k bit m : Nat) (h : DevClosed P) : Keeps P (ubaDmaError k bit m) := by
  unfold ubaDmaError
  repeat' first
      | (with_reducible first
          | apply Keeps.pure | apply keeps_modUba (h := h))
      | with_reducible apply Keeps.bind | intro _ | dsimp only | split

theorem keeps_ubaPowerSequence (k : Nat) (h : DevClosed P) : Keeps P (ubaPowerSequence k) := by
  unfold ubaPowerSequence
  repeat' first
      | (with_reducible first
          | apply keeps_send (h := h) | apply keeps_modUba (h := h))
      | with_reducible apply Keeps.bind | intro _ | dsimp only | split

theorem keeps_ubaReleaseInterlock (k : Nat) (h : DevClosed P) : Keeps P (ubaReleaseInterlock k) := by
  unfold ubaReleaseInterlock
  repeat' first
      | (with_reducible first
          | apply Keeps.pure | apply keeps_modV780 (h := h) | apply keeps_modUba (h := h))
      | ((with_reducible apply Keeps.bindGet); intro s hs) | with_reducible apply Keeps.bind | intro _ | dsimp only
      | split

theorem keeps_ubaAdapterInit (k : Nat) (h : DevClosed P) : Keeps P (ubaAdapterInit k) := by
  unfold ubaAdapterInit
  repeat' first
      | (with_reducible first
          | apply keeps_modUba (h := h) | apply keeps_ubaPowerSequence (h := h)
          | apply keeps_ubaReleaseInterlock (h := h))
      | with_reducible apply Keeps.bind | intro _ | dsimp only | split

theorem keeps_modPath (k p : Nat) (f : Bdp780 → Bdp780) (h : DevClosed P) : Keeps P (modPath k p f) := by
  unfold modPath
  repeat' first
      | (with_reducible first
          | apply keeps_modUba (h := h))
      | with_reducible apply Keeps.bind | intro _ | dsimp only | split

theorem keeps_storeMasked (pa : Nat) (data : Quad) (mask : Byte) (h : StoreClosed P) : Keeps P (storeMasked pa data mask) := by
  unfold storeMasked
  repeat' first
      | (with_reducible first
          | apply Keeps.pure | apply keeps_forcedCycle (h := h.toDevClosed) | apply Keeps.forM)
      | ((with_reducible apply Keeps.bindGet); intro s hs) | with_reducible apply Keeps.bind
      | ((with_reducible apply Keeps.modify); intro s hs; first | exact h.devices _ _ _ _ _ _ hs | exact h.memory _ _ _ (by first | exact Memory.set_wf _ _ _ | exact Memory.filter_wf _ _ | (intro _; rfl) | exact fun _ => rfl) hs | exact h.bus _ _ hs | exact h.storeRam _ _ _ _ hs | exact h.storeQuad _ _ _ hs | exact h.devices _ _ _ _ _ _ (h.bus _ _ hs) | (split <;> first | exact hs | exact h.storeRam _ _ _ _ hs | exact h.storeQuad _ _ _ hs | exact h.devices _ _ _ _ _ _ (h.bus _ _ hs)))
      | intro _ | dsimp only | split

theorem keeps_pathError (k p bit ua : Nat) (h : DevClosed P) : Keeps P (pathError k p bit ua) := by
  unfold pathError
  repeat' first
      | (with_reducible first
          | apply keeps_ubaDmaError (h := h) | apply keeps_modPath (h := h))
      | with_reducible apply Keeps.bind | intro _ | dsimp only | split

/-- What writes to I/O space keeps `P`. -/
abbrev KeepsIo (P : State → Prop) (io : IoWrite) : Prop := ∀ base data mask, Keeps P (io base data mask)

theorem keeps_purgeLongwords (io : IoWrite) (hio : KeepsIo P io) (k p ua pa : Nat) (b : Bdp780) (x0 : List Nat) (h : DevClosed P) :
    Keeps P (purgeLongwords io k p ua pa b x0) := by
  induction x0 with
  | nil => unfold purgeLongwords; exact Keeps.pure _
  | cons y ys ih =>
  unfold purgeLongwords
  repeat' first
      | (with_reducible first
          | apply Keeps.pure | apply hio | apply keeps_pathError (h := h) | apply ih)
      | with_reducible apply Keeps.bind | intro _ | dsimp only | split

theorem keeps_purgeWrite (io : IoWrite) (hio : KeepsIo P io) (k p : Nat) (b : Bdp780) (h : StoreClosed P) :
    Keeps P (purgeWrite io k p b) := by
  unfold purgeWrite
  repeat' first
      | (with_reducible first
          | apply Keeps.pure | apply keeps_purgeLongwords (hio := hio) (h := h.toDevClosed) | apply keeps_storeMasked (h := h) | apply keeps_pathError (h := h.toDevClosed))
      | ((with_reducible apply Keeps.bindGet); intro s hs) | with_reducible apply Keeps.bind | intro _ | dsimp only
      | split

theorem keeps_ubaPurge (io : IoWrite) (hio : KeepsIo P io) (k p : Nat) (h : StoreClosed P) : Keeps P (ubaPurge io k p) := by
  unfold ubaPurge
  repeat' first
      | (with_reducible first
          | apply Keeps.pure | apply keeps_modPath (h := h.toDevClosed) | apply keeps_purgeWrite (hio := hio) (h := h))
      | ((with_reducible apply Keeps.bindGet); intro s hs) | with_reducible apply Keeps.bind | intro _ | dsimp only
      | split

theorem keeps_brrvrRead (k i : Nat) (h : DevClosed P) : Keeps P (brrvrRead k i) := by
  unfold brrvrRead
  repeat' first
      | (with_reducible first
          | apply Keeps.pure | apply keeps_send (h := h) | apply keeps_modUba (h := h) | apply keeps_pick (h := h))
      | ((with_reducible apply Keeps.bindGet); intro s hs) | with_reducible apply Keeps.bind
      | ((with_reducible apply Keeps.set); exact h.devices s _ _ _ _ _ hs) | intro _ | dsimp only | split

theorem keeps_ubaRegister (k off : Nat) (h : DevClosed P) : Keeps P (ubaRegister k off) := by
  unfold ubaRegister
  repeat' first
      | (with_reducible first
          | apply Keeps.pure | apply keeps_busReadError (h := h) | apply keeps_brrvrRead (h := h))
      | ((with_reducible apply Keeps.bindGet); intro s hs) | with_reducible apply Keeps.bind | intro _ | dsimp only
      | split

theorem keeps_ubaRead (k off n : Nat) (h : DevClosed P) : Keeps P (ubaRead k off n) := by
  unfold ubaRead
  repeat' first
      | (with_reducible first
          | apply Keeps.pure | apply keeps_ubaRegister (h := h))
      | with_reducible apply Keeps.bind | intro _ | dsimp only | split

theorem keeps_ubaWriteCr (k : Nat) (w : Long) (h : DevClosed P) : Keeps P (ubaWriteCr k w) := by
  unfold ubaWriteCr
  repeat' first
      | (with_reducible first
          | apply Keeps.pure | apply keeps_modUba (h := h) | apply keeps_ubaPowerSequence (h := h)
          | apply keeps_ubaAdapterInit (h := h))
      | ((with_reducible apply Keeps.bindGet); intro s hs) | with_reducible apply Keeps.bind | intro _ | dsimp only
      | split

theorem keeps_ubaWrite (io : IoWrite) (hio : KeepsIo P io) (k off n : Nat) (w : Long) (h : StoreClosed P) :
    Keeps P (ubaWrite io k off n w) := by
  unfold ubaWrite
  repeat' first
      | (with_reducible first
          | apply Keeps.pure | apply keeps_modUba (h := h.toDevClosed) | apply keeps_busWriteError (h := h)
          | apply keeps_modPath (h := h.toDevClosed) | apply keeps_ubaPurge (hio := hio) (h := h)
          | apply keeps_ubaWriteCr (h := h.toDevClosed))
      | with_reducible apply Keeps.bind
      | ((with_reducible apply Keeps.set); first | exact h.devices _ _ _ _ _ _ hs | exact h.memory _ _ _ (by first | exact Memory.set_wf _ _ _ | exact Memory.filter_wf _ _ | (intro _; rfl) | exact fun _ => rfl) hs | exact h.bus _ _ hs | exact h.storeRam _ _ _ _ hs | exact h.storeQuad _ _ _ hs | exact h.devices _ _ _ _ _ _ (h.bus _ _ hs) | (split <;> first | exact hs | exact h.storeRam _ _ _ _ hs | exact h.storeQuad _ _ _ hs | exact h.devices _ _ _ _ _ _ (h.bus _ _ hs)))
      | intro _ | dsimp only | split

theorem keeps_ubaFollow (k ua : Nat) (h : DevClosed P) : Keeps P (ubaFollow k ua) := by
  unfold ubaFollow
  repeat' first
      | (with_reducible first
          | apply Keeps.pure | apply keeps_modUba (h := h))
      | with_reducible apply Keeps.bind | intro _ | dsimp only | split

theorem keeps_ubaNoSlave (k : Nat) (h : DevClosed P) : Keeps P (ubaNoSlave k) := by
  unfold ubaNoSlave
  repeat' first
      | (with_reducible first
          | apply keeps_modUba (h := h))
      | with_reducible apply Keeps.bind | intro _ | dsimp only | split

theorem keeps_ubaReadCycle (k ua n : Nat) (u : Use) (h : DevClosed P) : Keeps P (ubaReadCycle k ua n u) := by
  unfold ubaReadCycle
  repeat' first
      | (with_reducible first
          | apply Keeps.pure | apply keeps_send (h := h) | apply keeps_modUba (h := h)
          | apply keeps_busReadError (h := h) | apply keeps_ubaFollow (h := h) | apply keeps_ubaNoSlave (h := h))
      | ((with_reducible apply Keeps.bindGet); intro s hs) | with_reducible apply Keeps.bind | intro _ | dsimp only
      | split

theorem keeps_ubaWriteCycle (k ua n : Nat) (w : Long) (u : Use) (h : StoreClosed P) : Keeps P (ubaWriteCycle k ua n w u) := by
  unfold ubaWriteCycle
  repeat' first
      | (with_reducible first
          | apply Keeps.pure | apply keeps_send (h := h.toDevClosed) | apply keeps_modUba (h := h.toDevClosed)
          | apply keeps_raiseFault (h := h) | apply keeps_ubaFollow (h := h.toDevClosed)
          | apply keeps_ubaNoSlave (h := h.toDevClosed))
      | ((with_reducible apply Keeps.bindGet); intro s hs) | with_reducible apply Keeps.bind | intro _ | dsimp only
      | split

theorem keeps_unibus780Read (k ua n : Nat) (u : Use) (h : DevClosed P) : Keeps P (unibus780Read k ua n u) := by
  unfold unibus780Read
  repeat' first
      | (with_reducible first
          | apply Keeps.pure | apply Keeps.refuse | apply keeps_busReadError (h := h)
          | apply keeps_ubaReadCycle (h := h))
      | ((with_reducible apply Keeps.bindGet); intro s hs) | with_reducible apply Keeps.bind | intro _ | dsimp only
      | split

theorem keeps_unibus780Write (k ua n : Nat) (w : Long) (u : Use) (h : StoreClosed P) : Keeps P (unibus780Write k ua n w u) := by
  unfold unibus780Write
  repeat' first
      | (with_reducible first
          | apply Keeps.pure | apply Keeps.refuse | apply keeps_busWriteError (h := h)
          | apply keeps_ubaWriteCycle (h := h))
      | ((with_reducible apply Keeps.bindGet); intro s hs) | with_reducible apply Keeps.bind | intro _ | dsimp only
      | split

theorem keeps_memCtlRead (k off n : Nat) (h : DevClosed P) : Keeps P (memCtlRead k off n) := by
  unfold memCtlRead
  repeat' first
      | (with_reducible first
          | apply Keeps.pure | apply keeps_drawBits (h := h) | apply keeps_busReadError (h := h))
      | ((with_reducible apply Keeps.bindGet); intro s hs) | with_reducible apply Keeps.bind | intro _ | dsimp only
      | split

theorem keeps_memCtlWrite (k off n : Nat) (w : Long) (h : StoreClosed P) : Keeps P (memCtlWrite k off n w) := by
  unfold memCtlWrite
  repeat' first
      | (with_reducible first
          | apply Keeps.pure | apply keeps_modMemCtl (h := h.toDevClosed) | apply keeps_freeAllRam (h := h)
          | apply keeps_busWriteError (h := h))
      | ((with_reducible apply Keeps.bindGet); intro s hs) | with_reducible apply Keeps.bind | intro _ | dsimp only
      | split

/-! ### Devices -/

theorem keeps_readDevice (d : Device) (pa n : Nat) (u : Use) (h : DevClosed P) : Keeps P (readDevice d pa n u) := by
  unfold readDevice
  repeat' first
      | (with_reducible first
          | apply Keeps.pure | apply Keeps.refuse | apply keeps_longwordOnly | apply keeps_alignedOnly
          | apply keeps_mbaRead (h := h) | apply keeps_csr750Read (h := h) | apply keeps_bdpRead (h := h)
          | apply keeps_unibus750Read (h := h) | apply keeps_ubaRead (h := h) | apply keeps_unibus780Read (h := h)
          | apply keeps_memCtlRead (h := h))
      | ((with_reducible apply Keeps.bindGet); intro s hs) | with_reducible apply Keeps.bind | intro _ | dsimp only
      | split

theorem keeps_writeDeviceBy (io : IoWrite) (hio : KeepsIo P io) (d : Device) (pa n : Nat) (w : Long) (u : Use)
    (h : StoreClosed P) : Keeps P (writeDeviceBy io d pa n w u) := by
  unfold writeDeviceBy
  repeat' first
      | (with_reducible first
          | apply Keeps.pure | apply Keeps.refuse | apply keeps_longwordOnly
          | apply keeps_modV750 (h := h.toDevClosed) | apply keeps_busWriteError (h := h)
          | apply keeps_mbaWrite (h := h) | apply keeps_csr750Write (h := h.toDevClosed)
          | apply keeps_bdpWrite (h := h) | apply keeps_unibus750Write (h := h) | apply keeps_ubaWrite (hio := hio) (h := h)
          | apply keeps_unibus780Write (h := h) | apply keeps_memCtlWrite (h := h))
      | ((with_reducible apply Keeps.bindGet); intro s hs) | with_reducible apply Keeps.bind
      | ((with_reducible apply Keeps.set); first | exact h.devices _ _ _ _ _ _ hs | exact h.memory _ _ _ (by first | exact Memory.set_wf _ _ _ | exact Memory.filter_wf _ _ | (intro _; rfl) | exact fun _ => rfl) hs | exact h.bus _ _ hs | exact h.storeRam _ _ _ _ hs | exact h.storeQuad _ _ _ hs | exact h.devices _ _ _ _ _ _ (h.bus _ _ hs) | (split <;> first | exact hs | exact h.storeRam _ _ _ _ hs | exact h.storeQuad _ _ _ hs | exact h.devices _ _ _ _ _ _ (h.bus _ _ hs)))
      | intro _ | dsimp only | split

theorem keeps_sbiDeviceWriteBy (io : IoWrite) (hio : KeepsIo P io) (d : Device) (u : Use) (pa n : Nat) (v : Long) (h : StoreClosed P) : Keeps P (sbiDeviceWriteBy io d u pa n v) := by
  unfold sbiDeviceWriteBy
  repeat' first
      | (with_reducible first
          | apply Keeps.pure | apply keeps_modPend (h := h) | apply keeps_writeDeviceBy (hio := hio) (h := h))
      | ((with_reducible apply Keeps.bindGet); intro s hs) | with_reducible apply Keeps.bind | intro _ | dsimp only
      | split

theorem keeps_sbiWriteBy (io : IoWrite) (hio : KeepsIo P io) (u : Use) (pa n : Nat) (v : Long) (h : StoreClosed P) : Keeps P (sbiWriteBy io u pa n v) := by
  unfold sbiWriteBy
  repeat' first
      | (with_reducible first
          | apply Keeps.pure | apply keeps_storeAt (h := h) | apply keeps_sbiDeviceWriteBy (hio := hio) (h := h))
      | ((with_reducible apply Keeps.bindGet); intro s hs) | with_reducible apply Keeps.bind | intro _ | dsimp only
      | split

theorem keeps_sbiWriteMaskedBy (io : IoWrite) (hio : KeepsIo P io) (base : Nat) (data : Long) (mask : BitVec 4) (h : StoreClosed P) : Keeps P (sbiWriteMaskedBy io base data mask) := by
  unfold sbiWriteMaskedBy
  repeat' first
      | (with_reducible first
          | apply Keeps.pure | apply keeps_sbiWriteBy (hio := hio) (h := h))
      | ((with_reducible apply Keeps.bindGet); intro s hs) | with_reducible apply Keeps.bind | intro _ | dsimp only
      | split

theorem keeps_purgeOut (more : Nat) (h : StoreClosed P) : KeepsIo P (purgeOut more) := by
  induction more with
  | zero => exact fun _ _ _ => Keeps.pure _
  | succ n ih => exact fun base data mask => keeps_sbiWriteMaskedBy _ ih base data mask h

theorem keeps_writeDevice (d : Device) (pa n : Nat) (w : Long) (u : Use) (h : StoreClosed P) : Keeps P (writeDevice d pa n w u) :=
  keeps_writeDeviceBy _ (keeps_purgeOut 64 h) d pa n w u h

theorem keeps_sbiWrite (u : Use) (pa n : Nat) (v : Long) (h : StoreClosed P) : Keeps P (sbiWrite u pa n v) :=
  keeps_sbiWriteBy _ (keeps_purgeOut 64 h) u pa n v h

theorem keeps_sbiWriteMasked (base : Nat) (data : Long) (mask : BitVec 4) (h : StoreClosed P) :
    Keeps P (sbiWriteMasked base data mask) :=
  keeps_sbiWriteMaskedBy _ (keeps_purgeOut 64 h) base data mask h

theorem keeps_forcedRead (pa n : Nat) (h : DevClosed P) : Keeps P (forcedRead pa n) := by
  unfold forcedRead
  repeat' first
      | (with_reducible first
          | apply Keeps.pure | apply keeps_forcedCycle (h := h) | apply keeps_forcedData (h := h)
          | apply keeps_loggedError (h := h))
      | ((with_reducible apply Keeps.bindGet); intro s hs) | with_reducible apply Keeps.bind | intro _ | dsimp only
      | split

theorem keeps_ramReadParts  (x0 : List (Nat × Nat)) (h : DevClosed P) : Keeps P (ramReadParts x0) := by
  induction x0 with
  | nil => unfold ramReadParts; exact Keeps.pure _
  | cons y ys ih =>
  unfold ramReadParts
  repeat' first
      | (with_reducible first
          | apply Keeps.pure | apply keeps_logUncorrectable (h := h) | apply keeps_uncorrectable (h := h)
          | apply keeps_forcedRead (h := h) | apply ih)
      | ((with_reducible apply Keeps.bindGet); intro s hs) | with_reducible apply Keeps.bind | intro _ | dsimp only
      | split

theorem keeps_ramRead (pa n : Nat) (h : DevClosed P) : Keeps P (ramRead pa n) := by
  unfold ramRead
  repeat' first
      | (with_reducible first
          | apply Keeps.pure | apply keeps_ramReadParts (h := h))
      | ((with_reducible apply Keeps.bindGet); intro s hs) | with_reducible apply Keeps.bind
      | ((with_reducible apply Keeps.modify); intro s hs; exact h.devices s _ _ _ _ _ hs) | intro _ | dsimp only
      | split

theorem keeps_physReadPart (u : Use) (pa n : Nat) (h : DevClosed P) : Keeps P (physReadPart u pa n) := by
  unfold physReadPart
  repeat' first
      | (with_reducible first
          | apply Keeps.pure | apply Keeps.refuse | apply keeps_busReadError (h := h)
          | apply keeps_readDevice (h := h) | apply keeps_ramRead (h := h))
      | ((with_reducible apply Keeps.bindGet); intro s hs) | with_reducible apply Keeps.bind | intro _ | dsimp only
      | split

theorem keeps_physWritePart (u : Use) (pa n : Nat) (v : Octa) (h : StoreClosed P) : Keeps P (physWritePart u pa n v) := by
  unfold physWritePart
  repeat' first
      | (with_reducible first
          | apply Keeps.pure | apply Keeps.refuse | apply keeps_storeAt (h := h) | apply keeps_busWriteError (h := h)
          | apply keeps_writeDevice (h := h))
      | ((with_reducible apply Keeps.bindGet); intro s hs) | with_reducible apply Keeps.bind | intro _ | dsimp only
      | split

theorem keeps_physReadWhole (u : Use) (pa n : Nat) (h : DevClosed P) : Keeps P (physReadWhole u pa n) := by
  unfold physReadWhole
  repeat' first
      | (with_reducible first
          | apply Keeps.pure | apply keeps_physReadPart (h := h))
      | ((with_reducible apply Keeps.bindGet); intro s hs) | with_reducible apply Keeps.bind | intro _ | dsimp only
      | split

theorem keeps_physWriteWhole (u : Use) (pa n : Nat) (v : Octa) (h : StoreClosed P) : Keeps P (physWriteWhole u pa n v) := by
  unfold physWriteWhole
  repeat' first
      | (with_reducible first
          | apply Keeps.pure | apply keeps_physWritePart (h := h))
      | ((with_reducible apply Keeps.bindGet); intro s hs) | with_reducible apply Keeps.bind | intro _ | dsimp only
      | split

theorem keeps_noteXb  (h : DevClosed P) : Keeps P (noteXb) := by
  unfold noteXb
  repeat' first
      | (with_reducible first
          | apply Keeps.pure | apply keeps_modV750 (h := h))
      | ((with_reducible apply Keeps.bindGet); intro s hs) | with_reducible apply Keeps.bind | intro _ | dsimp only
      | split

theorem keeps_unreadableByte {α : Type} (pa : Nat) (h : DevClosed P) : Keeps P (unreadableByte pa : M α) := by
  unfold unreadableByte
  repeat' first
      | (with_reducible first
          | apply Keeps.refuse | apply keeps_busReadError (h := h) | apply keeps_uncorrectable (h := h)
          | apply keeps_noteXb (h := h))
      | ((with_reducible apply Keeps.bindGet); intro s hs) | with_reducible apply Keeps.bind | intro _ | dsimp only
      | split

/-! ### UbaDma -/

theorem keeps_sbiRead (k : Nat) (u : Use) (pa n : Nat) (h : DevClosed P) : Keeps P (sbiRead k u pa n) := by
  unfold sbiRead
  repeat' first
      | (with_reducible first
          | apply Keeps.pure | apply Keeps.throw | apply keeps_modUba (h := h) | apply keeps_adapterRead (h := h)
          | apply keeps_readDevice (h := h) | apply Keeps.attempt)
      | ((with_reducible apply Keeps.bindGet); intro s hs) | with_reducible apply Keeps.bind | intro _ | dsimp only
      | split

theorem keeps_ubaDirectRead (k ua pa : Nat) (lock : Bool) (h : DevClosed P) : Keeps P (ubaDirectRead k ua pa lock) := by
  unfold ubaDirectRead
  repeat' first
      | (with_reducible first
          | apply Keeps.pure | apply Keeps.throw | apply keeps_modV780 (h := h) | apply keeps_modUba (h := h)
          | apply keeps_ubaDmaError (h := h) | apply keeps_sbiRead (h := h))
      | ((with_reducible apply Keeps.bindGet); intro s hs) | with_reducible apply Keeps.bind | intro _ | dsimp only
      | split

theorem keeps_ubaDirectWrite (k ua pa n : Nat) (v : Long) (h : StoreClosed P) : Keeps P (ubaDirectWrite k ua pa n v) := by
  unfold ubaDirectWrite
  repeat' first
      | (with_reducible first
          | apply Keeps.pure | apply keeps_modUba (h := h.toDevClosed) | apply keeps_raiseFault (h := h)
          | apply keeps_ubaDmaError (h := h.toDevClosed) | apply keeps_ubaReleaseInterlock (h := h.toDevClosed)
          | apply keeps_sbiWrite (h := h))
      | ((with_reducible apply Keeps.bindGet); intro s hs) | with_reducible apply Keeps.bind | intro _ | dsimp only
      | split

theorem keeps_ubaDirect (k ua pa : Nat) (c : UbCycle) (data : Word16) (h : StoreClosed P) : Keeps P (ubaDirect k ua pa c data) := by
  unfold ubaDirect
  repeat' first
      | (with_reducible first
          | apply keeps_ubaDirectRead (h := h.toDevClosed) | apply keeps_ubaDirectWrite (h := h))
      | with_reducible apply Keeps.bind | intro _ | dsimp only | split

theorem keeps_pathSpill (k p ua pa unit : Nat) (h : StoreClosed P) : Keeps P (pathSpill k p ua pa unit) := by
  unfold pathSpill
  repeat' first
      | (with_reducible first
          | apply Keeps.pure | apply keeps_modPath (h := h.toDevClosed) | apply keeps_storeMasked (h := h)
          | apply keeps_pathError (h := h.toDevClosed) | apply keeps_sbiWriteMasked (h := h))
      | ((with_reducible apply Keeps.bindGet); intro s hs) | with_reducible apply Keeps.bind | intro _ | dsimp only
      | split

theorem keeps_pathPut (k p ua pa unit : Nat) (x : Byte) (h : StoreClosed P) : Keeps P (pathPut k p ua pa unit x) := by
  unfold pathPut
  repeat' first
      | (with_reducible first
          | apply Keeps.pure | apply keeps_modPath (h := h.toDevClosed) | apply keeps_pathSpill (h := h))
      | with_reducible apply Keeps.bind | intro _ | dsimp only | split

theorem keeps_pathFill (k p ua pa unit : Nat) (h : DevClosed P) : Keeps P (pathFill k p ua pa unit) := by
  unfold pathFill
  repeat' first
      | (with_reducible first
          | apply Keeps.pure | apply keeps_modPath (h := h) | apply keeps_sbiRead (h := h))
      | ((with_reducible apply Keeps.bindGet); intro s hs) | with_reducible apply Keeps.bind | intro _ | dsimp only
      | split

theorem keeps_pathPrefetch (k p ua : Nat) (h : DevClosed P) : Keeps P (pathPrefetch k p ua) := by
  unfold pathPrefetch
  repeat' first
      | (with_reducible first
          | apply Keeps.pure | apply keeps_adapterRead (h := h) | apply keeps_modPath (h := h))
      | ((with_reducible apply Keeps.bindGet); intro s hs) | with_reducible apply Keeps.bind | intro _ | dsimp only
      | split

theorem keeps_pathGet (k p ua pa unit : Nat) (h : DevClosed P) : Keeps P (pathGet k p ua pa unit) := by
  unfold pathGet
  repeat' first
      | (with_reducible first
          | apply Keeps.pure | apply keeps_ubaDmaError (h := h) | apply keeps_modPath (h := h)
          | apply keeps_pathFill (h := h))
      | ((with_reducible apply Keeps.bindGet); intro s hs) | with_reducible apply Keeps.bind | intro _ | dsimp only
      | split

theorem keeps_pathBlock (k p u n pa : Nat) (write : Bool) (h : DevClosed P) : Keeps P (pathBlock k p u n pa write) := by
  unfold pathBlock
  repeat' first
      | (with_reducible first
          | apply Keeps.pure | apply keeps_modPath (h := h))
      | with_reducible apply Keeps.bind | intro _ | dsimp only | split

theorem keeps_freeQuads  (x0 : List Nat) (h : StoreClosed P) : Keeps P (freeQuads x0) := by
  induction x0 with
  | nil => unfold freeQuads; exact Keeps.pure _
  | cons y ys ih =>
  unfold freeQuads
  repeat' first
      | (with_reducible first
          | apply Keeps.pure | apply keeps_freeRam (h := h) | apply ih)
      | ((with_reducible apply Keeps.bindGet); intro s hs) | with_reducible apply Keeps.bind | intro _ | dsimp only
      | split

theorem keeps_pathScramble (k p : Nat) (h : StoreClosed P) : Keeps P (pathScramble k p) := by
  unfold pathScramble
  repeat' first
      | (with_reducible first
          | apply Keeps.pure | apply keeps_drawBits (h := h.toDevClosed) | apply keeps_modPath (h := h.toDevClosed)
          | apply keeps_freeQuads (h := h))
      | ((with_reducible apply Keeps.bindGet); intro s hs) | with_reducible apply Keeps.bind | intro _ | dsimp only
      | split

theorem keeps_pathWord (k p ua pa unit : Nat) (h : DevClosed P) : Keeps P (pathWord k p ua pa unit) := by
  unfold pathWord
  repeat' first
      | (with_reducible first
          | apply Keeps.pure | apply keeps_pathError (h := h) | apply keeps_pathGet (h := h))
      | ((with_reducible apply Keeps.bindGet); intro s hs) | with_reducible apply Keeps.bind | intro _ | dsimp only
      | split

theorem keeps_pathRead (k p ua pa unit : Nat) (h : StoreClosed P) : Keeps P (pathRead k p ua pa unit) := by
  unfold pathRead
  repeat' first
      | (with_reducible first
          | apply Keeps.pure | apply keeps_drawBits (h := h.toDevClosed) | apply keeps_modPath (h := h.toDevClosed)
          | apply keeps_pathPrefetch (h := h.toDevClosed) | apply keeps_pathBlock (h := h.toDevClosed)
          | apply keeps_pathScramble (h := h) | apply keeps_pathWord (h := h.toDevClosed))
      | ((with_reducible apply Keeps.bindGet); intro s hs) | with_reducible apply Keeps.bind | intro _ | dsimp only
      | split

theorem keeps_pathWrite (k p u pa off n unit : Nat) (v : Long) (h : StoreClosed P) : Keeps P (pathWrite k p u pa off n unit v) := by
  unfold pathWrite
  repeat' first
      | (with_reducible first
          | apply keeps_pathPut (h := h) | apply keeps_pathBlock (h := h.toDevClosed)
          | apply keeps_pathScramble (h := h) | apply Keeps.forM)
      | with_reducible apply Keeps.bind | intro _ | dsimp only | split

theorem keeps_pathLongword (k p ua pa : Nat) (c : UbCycle) (data : Word16) (h : StoreClosed P) : Keeps P (pathLongword k p ua pa c data) := by
  unfold pathLongword
  repeat' first
      | (with_reducible first
          | apply Keeps.pure | apply keeps_ubaDmaError (h := h.toDevClosed) | apply keeps_modPath (h := h.toDevClosed)
          | apply keeps_storeMasked (h := h) | apply keeps_pathError (h := h.toDevClosed)
          | apply keeps_sbiWriteMasked (h := h) | apply keeps_pathFill (h := h.toDevClosed) | apply Keeps.forM)
      | ((with_reducible apply Keeps.bindGet); intro s hs) | with_reducible apply Keeps.bind | intro _ | dsimp only
      | split

theorem keeps_ubaDma (k : Nat) (c : UbCycle) (ua : Nat) (data : Word16) (h : StoreClosed P) : Keeps P (ubaDma k c ua data) := by
  unfold ubaDma
  repeat' first
      | (with_reducible first
          | apply Keeps.pure | apply keeps_ubaDmaError (h := h.toDevClosed) | apply keeps_ubaDirect (h := h)
          | apply keeps_pathRead (h := h) | apply keeps_pathWrite (h := h) | apply keeps_pathLongword (h := h))
      | ((with_reducible apply Keeps.bindGet); intro s hs) | with_reducible apply Keeps.bind | intro _ | dsimp only
      | split

/-! ### Cycles -/

theorem keeps_readCycles (u : Use) (x0 : Nat) (x1 : List Cycle) (h : CycleClosed P) : Keeps P (readCycles u x0 x1) := by
  induction x0 generalizing x1 with
  | zero => unfold readCycles; exact Keeps.pure _
  | succ y ih =>
  unfold readCycles
  repeat' first
      | (with_reducible first
          | apply Keeps.pure | apply keeps_meanwhile (h := h) | apply keeps_pick (h := h.toDevClosed)
          | apply keeps_physReadWhole (h := h.toDevClosed) | apply ih)
      | with_reducible apply Keeps.bind | intro _ | dsimp only | split

theorem keeps_writeCycles (u : Use) (v : Octa) (x0 : Nat) (x1 : List Cycle) (h : BusClosed P) :
    Keeps P (writeCycles u v x0 x1) := by
  induction x0 generalizing x1 with
  | zero => unfold writeCycles; exact Keeps.pure _
  | succ y ih =>
  unfold writeCycles
  repeat' first
      | (with_reducible first
          | apply Keeps.pure | apply keeps_meanwhile (h := h.toCycleClosed)
          | apply keeps_pick (h := h.toStoreClosed.toDevClosed) | apply keeps_physWriteWhole (h := h.toStoreClosed)
          | apply ih)
      | ((with_reducible apply Keeps.bindGet); intro s hs) | with_reducible apply Keeps.bind | intro _ | dsimp only
      | split

theorem keeps_physRead (u : Use) (pa n : Nat) (h : CycleClosed P) : Keeps P (physRead u pa n) := by
  unfold physRead
  repeat' first
      | (with_reducible first
          | apply keeps_physReadWhole (h := h.toDevClosed) | apply keeps_readCycles (h := h))
      | ((with_reducible apply Keeps.bindGet); intro s hs) | intro _ | dsimp only | split

theorem keeps_physWrite (u : Use) (pa n : Nat) (v : Octa) (h : BusClosed P) : Keeps P (physWrite u pa n v) := by
  unfold physWrite
  repeat' first
      | (with_reducible first
          | apply keeps_physWriteWhole (h := h.toStoreClosed) | apply keeps_writeCycles (h := h))
      | ((with_reducible apply Keeps.bindGet); intro s hs) | intro _ | dsimp only | split

/-! ### Ops -/

theorem keeps_readPte (pa : Nat) (h : CycleClosed P) : Keeps P (readPte pa) := by
  unfold readPte
  repeat' first
      | (with_reducible first
          | apply Keeps.pure | apply keeps_physRead (h := h))
      | with_reducible apply Keeps.bind | intro _ | dsimp only | split

theorem keeps_sysPte (va : Long) (write ptref : Bool) (report : Long) (h : CycleClosed P) : Keeps P (sysPte va write ptref report) := by
  unfold sysPte
  repeat' first
      | (with_reducible first
          | apply Keeps.pure | apply Keeps.raise | apply keeps_readPte (h := h))
      | ((with_reducible apply Keeps.bindGet); intro s hs) | with_reducible apply Keeps.bind | intro _ | dsimp only
      | split

theorem keeps_procPte (va base : Long) (tooLong write : Bool) (h : CycleClosed P) : Keeps P (procPte va base tooLong write) := by
  unfold procPte
  repeat' first
      | (with_reducible first
          | apply Keeps.pure | apply Keeps.raise | apply Keeps.refuse | apply keeps_readPte (h := h)
          | apply keeps_sysPte (h := h))
      | ((with_reducible apply Keeps.bindGet); intro s hs) | with_reducible apply Keeps.bind | intro _ | dsimp only
      | split

theorem keeps_walk (va : Long) (write : Bool) (h : CycleClosed P) : Keeps P (walk va write) := by
  unfold walk
  repeat' first
      | (with_reducible first
          | apply Keeps.pure | apply Keeps.raise | apply keeps_sysPte (h := h) | apply keeps_procPte (h := h))
      | ((with_reducible apply Keeps.bindGet); intro s hs) | with_reducible apply Keeps.bind | intro _ | dsimp only
      | split

theorem keeps_check (va : Long) (write : Bool) (mode : Nat) (h : CycleClosed P) : Keeps P (check va write mode) := by
  unfold check
  repeat' first
      | (with_reducible first
          | apply Keeps.pure | apply Keeps.raise | apply Keeps.refuse | apply keeps_walk (h := h))
      | ((with_reducible apply Keeps.bindGet); intro s hs) | with_reducible apply Keeps.bind | intro _ | dsimp only
      | split

theorem keeps_setPteM (pa : Nat) (pte : Long) (h : BusClosed P) : Keeps P (setPteM pa pte) := by
  unfold setPteM
  repeat' first
      | (with_reducible first
          | apply keeps_physWrite (h := h))
      | with_reducible apply Keeps.bind | intro _ | dsimp only | split

theorem keeps_commit (t : Tran) (h : BusClosed P) : Keeps P (commit t) := by
  unfold commit
  repeat' first
      | (with_reducible first
          | apply Keeps.pure | apply keeps_drawBool (h := h.toStoreClosed.toDevClosed)
          | apply keeps_readPte (h := h.toCycleClosed) | apply keeps_setPteM (h := h))
      | with_reducible apply Keeps.bind | intro _ | dsimp only | split

theorem keeps_commitMaybe (t : Tran) (h : BusClosed P) : Keeps P (commitMaybe t) := by
  unfold commitMaybe
  repeat' first
      | (with_reducible first
          | apply Keeps.pure | apply keeps_drawBool (h := h.toStoreClosed.toDevClosed) | apply keeps_commit (h := h))
      | with_reducible apply Keeps.bind | intro _ | dsimp only | split

theorem keeps_translate (va : Long) (write : Bool) (mode : Nat) (h : BusClosed P) : Keeps P (translate va write mode) := by
  unfold translate
  repeat' first
      | (with_reducible first
          | apply Keeps.pure | apply keeps_check (h := h.toCycleClosed) | apply keeps_commit (h := h))
      | with_reducible apply Keeps.bind | intro _ | dsimp only | split

theorem keeps_translateSpan (va : Long) (n : Nat) (write : Bool) (mode : Nat) (h : BusClosed P) : Keeps P (translateSpan va n write mode) := by
  unfold translateSpan
  repeat' first
      | (with_reducible first
          | apply Keeps.pure | apply Keeps.throw | apply keeps_check (h := h.toCycleClosed)
          | apply keeps_commit (h := h) | apply keeps_commitMaybe (h := h) | apply keeps_translate (h := h)
          | apply Keeps.attempt)
      | ((with_reducible apply Keeps.bindGet); intro s hs) | with_reducible apply Keeps.bind
      | ((with_reducible apply Keeps.set); first | exact h.devices _ _ _ _ _ _ hs | exact h.memory _ _ _ (by first | exact Memory.set_wf _ _ _ | exact Memory.filter_wf _ _ | (intro _; rfl) | exact fun _ => rfl) hs | exact h.bus _ _ hs | exact h.storeRam _ _ _ _ hs | exact h.storeQuad _ _ _ hs | exact h.devices _ _ _ _ _ _ (h.bus _ _ hs) | (split <;> first | exact hs | exact h.storeRam _ _ _ _ hs | exact h.storeQuad _ _ _ hs | exact h.devices _ _ _ _ _ _ (h.bus _ _ hs)))
      | intro _ | dsimp only | split

theorem keeps_noSplitDevice (u : Use) (sp : Span) : Keeps P (noSplitDevice u sp) := by
  unfold noSplitDevice
  repeat' first
      | (with_reducible first
          | apply Keeps.pure | apply Keeps.refuse)
      | ((with_reducible apply Keeps.bindGet); intro s hs) | with_reducible apply Keeps.bind | intro _ | dsimp only
      | split

theorem keeps_readSpan (u : Use) (sp : Span) (n : Nat) (h : CycleClosed P) : Keeps P (readSpan u sp n) := by
  unfold readSpan
  repeat' first
      | (with_reducible first
          | apply Keeps.pure | apply keeps_physRead (h := h) | apply keeps_physReadWhole (h := h.toDevClosed)
          | apply keeps_readCycles (h := h) | apply keeps_noSplitDevice)
      | ((with_reducible apply Keeps.bindGet); intro s hs) | with_reducible apply Keeps.bind | intro _ | dsimp only
      | split

theorem keeps_writeSpan (u : Use) (sp : Span) (n : Nat) (v : Octa) (h : BusClosed P) : Keeps P (writeSpan u sp n v) := by
  unfold writeSpan
  repeat' first
      | (with_reducible first
          | apply Keeps.pure | apply keeps_physWrite (h := h) | apply keeps_physWriteWhole (h := h.toStoreClosed)
          | apply keeps_writeCycles (h := h) | apply keeps_noSplitDevice)
      | ((with_reducible apply Keeps.bindGet); intro s hs) | with_reducible apply Keeps.bind | intro _ | dsimp only
      | split

theorem keeps_memRead (u : Use) (va : Long) (n : Nat) (h : BusClosed P) : Keeps P (memRead u va n) := by
  unfold memRead
  repeat' first
      | (with_reducible first
          | apply keeps_translateSpan (h := h) | apply keeps_readSpan (h := h.toCycleClosed))
      | ((with_reducible apply Keeps.bindGet); intro s hs) | with_reducible apply Keeps.bind | intro _ | dsimp only
      | split

theorem keeps_memDest (va : Long) (n : Nat) (h : BusClosed P) : Keeps P (memDest va n) := by
  unfold memDest
  repeat' first
      | (with_reducible first
          | apply keeps_translateSpan (h := h))
      | ((with_reducible apply Keeps.bindGet); intro s hs) | with_reducible apply Keeps.bind | intro _ | dsimp only
      | split

theorem keeps_readLong (va : Long) (h : BusClosed P) : Keeps P (readLong va) := by
  unfold readLong
  repeat' first
      | (with_reducible first
          | apply Keeps.pure | apply keeps_memRead (h := h))
      | with_reducible apply Keeps.bind | intro _ | dsimp only | split

theorem keeps_writeLongsDown (sp : Span) (x0 : List Long) (h : BusClosed P) : Keeps P (writeLongsDown sp x0) := by
  induction x0 with
  | nil => unfold writeLongsDown; exact Keeps.pure _
  | cons y ys ih =>
  unfold writeLongsDown
  repeat' first
      | (with_reducible first
          | apply Keeps.pure | apply keeps_writeSpan (h := h) | apply ih)
      | with_reducible apply Keeps.bind | intro _ | dsimp only | split

theorem keeps_longDests  (x0 : List Long) (h : BusClosed P) : Keeps P (longDests x0) := by
  induction x0 with
  | nil => unfold longDests; exact Keeps.pure _
  | cons y ys ih =>
  unfold longDests
  repeat' first
      | (with_reducible first
          | apply Keeps.pure | apply keeps_memDest (h := h) | apply ih)
      | with_reducible apply Keeps.bind | intro _ | dsimp only | split

theorem keeps_putLongs  (x0 : List (Span × Long)) (h : BusClosed P) : Keeps P (putLongs x0) := by
  induction x0 with
  | nil => unfold putLongs; exact Keeps.pure _
  | cons y ys ih =>
  unfold putLongs
  repeat' first
      | (with_reducible first
          | apply Keeps.pure | apply keeps_writeSpan (h := h) | apply ih)
      | with_reducible apply Keeps.bind | intro _ | dsimp only | split

theorem keeps_pushFrame (mode : Nat) (ws : List Long) (h : RegClosed P) : Keeps P (pushFrame mode ws) := by
  unfold pushFrame
  repeat' first
      | (with_reducible first
          | apply keeps_getR | apply keeps_setR (h := h) | apply keeps_translateSpan (h := h.toBusClosed)
          | apply keeps_writeLongsDown (h := h.toBusClosed))
      | with_reducible apply Keeps.bind | intro _ | dsimp only | split

theorem keeps_push (ws : List Long) (h : RegClosed P) : Keeps P (push ws) := by
  unfold push
  repeat' first
      | (with_reducible first
          | apply keeps_pushFrame (h := h))
      | ((with_reducible apply Keeps.bindGet); intro s hs) | with_reducible apply Keeps.bind | intro _ | dsimp only
      | split

theorem keeps_readLongsUp (sp : Span) (k x0 : Nat) (h : CycleClosed P) : Keeps P (readLongsUp sp k x0) := by
  induction x0 generalizing k with
  | zero => unfold readLongsUp; exact Keeps.pure _
  | succ y ih =>
  unfold readLongsUp
  repeat' first
      | (with_reducible first
          | apply Keeps.pure | apply keeps_readSpan (h := h) | apply ih)
      | with_reducible apply Keeps.bind | intro _ | dsimp only | split

theorem keeps_stackTop (n : Nat) (h : BusClosed P) : Keeps P (stackTop n) := by
  unfold stackTop
  repeat' first
      | (with_reducible first
          | apply keeps_translateSpan (h := h) | apply keeps_readLongsUp (h := h.toCycleClosed))
      | ((with_reducible apply Keeps.bindGet); intro s hs) | with_reducible apply Keeps.bind | intro _ | dsimp only
      | split

theorem keeps_pop  (h : RegClosed P) : Keeps P (pop) := by
  unfold pop
  repeat' first
      | (with_reducible first
          | apply Keeps.pure | apply keeps_getR | apply keeps_setR (h := h)
          | apply keeps_readLong (h := h.toBusClosed))
      | with_reducible apply Keeps.bind | intro _ | dsimp only | split

theorem keeps_stopAt (why : HaltCause) (pc psl : Long) (h : FullClosed P) : Keeps P (stopAt why pc psl) := by
  refine Keeps.modify fun s hs => ?_
  exact h.steps _ (h.devices _ s.v750 (if s.is750 then s.v780 else s.v780.atHalt) s.mbas s.sent s.draw
    (h.all s (s.setReg 15 pc).r psl s.sp { s.pend with errorHalt := s.pend.errorHalt || errorCause why } (.halted why) hs))

theorem keeps_haltAt (why : HaltCause) (pc psl : Long) (h : FullClosed P) : Keeps P (haltAt why pc psl) := by
  unfold haltAt
  repeat' first
      | (with_reducible first
          | apply keeps_send (h := h.toRegClosed.toBusClosed.toStoreClosed.toDevClosed) | apply keeps_stopAt (h := h))
      | with_reducible apply Keeps.bind | intro _ | dsimp only | split

theorem keeps_freeRegs  (x0 : Nat) (h : RegClosed P) : Keeps P (freeRegs x0) := by
  induction x0 with
  | zero => unfold freeRegs; exact Keeps.pure _
  | succ y ih =>
  unfold freeRegs
  repeat' first
      | (with_reducible first
          | apply Keeps.pure | apply keeps_drawBits (h := h.toBusClosed.toStoreClosed.toDevClosed)
          | apply keeps_setR (h := h) | apply ih)
      | with_reducible apply Keeps.bind | intro _ | dsimp only | split

theorem keeps_haltInterruptStack (pc psl : Long) (h : FullClosed P) : Keeps P (haltInterruptStack pc psl) := by
  unfold haltInterruptStack
  repeat' first
      | (with_reducible first
          | apply keeps_haltAt (h := h) | apply keeps_freeRegs (h := h.toRegClosed))
      | with_reducible apply Keeps.bind | intro _ | dsimp only | split

theorem keeps_readVector (offset : Nat) (h : CycleClosed P) : Keeps P (readVector offset) := by
  unfold readVector
  repeat' first
      | (with_reducible first
          | apply Keeps.pure | apply Keeps.throw | apply keeps_physRead (h := h) | apply Keeps.attempt)
      | ((with_reducible apply Keeps.bindGet); intro s hs) | with_reducible apply Keeps.bind | intro _ | dsimp only
      | split

theorem keeps_noteEntry (offset : Nat) (h : StoreClosed P) : Keeps P (noteEntry offset) := by
  unfold noteEntry
  repeat' first
      | (with_reducible first
          | apply keeps_modPend (h := h))
      | with_reducible apply Keeps.bind | intro _ | dsimp only | split

theorem keeps_needStack (n : Nat) (h : BusClosed P) : Keeps P (needStack n) := by
  unfold needStack
  repeat' first
      | (with_reducible first
          | apply Keeps.pure | apply keeps_getR | apply keeps_busReadError (h := h.toStoreClosed.toDevClosed)
          | apply keeps_translateSpan (h := h))
      | ((with_reducible apply Keeps.bindGet); intro s hs) | with_reducible apply Keeps.bind | intro _ | dsimp only
      | split

theorem keeps_pushHandler (interruptStack : Bool) (ws : List Long) (h : RegClosed P) : Keeps P (pushHandler interruptStack ws) := by
  unfold pushHandler
  repeat' first
      | (with_reducible first
          | apply Keeps.pure | apply keeps_pushFrame (h := h) | apply keeps_needStack (h := h.toBusClosed))
      | with_reducible apply Keeps.bind | intro _ | dsimp only | split

theorem keeps_enterSerious (offset : Nat) (params : List Long) (e : Entry) (old : Long) (h : FullClosed P) : Keeps P (enterSerious offset params e old) := by
  unfold enterSerious
  repeat' first
      | (with_reducible first
          | apply Keeps.pure | apply Keeps.throw | apply Keeps.refuse
          | apply keeps_drawBits (h := h.toRegClosed.toBusClosed.toStoreClosed.toDevClosed)
          | apply keeps_haltAt (h := h) | apply keeps_haltInterruptStack (h := h)
          | apply keeps_readVector (h := h.toRegClosed.toBusClosed.toCycleClosed)
          | apply keeps_noteEntry (h := h.toRegClosed.toBusClosed.toStoreClosed)
          | apply keeps_pushHandler (h := h.toRegClosed) | apply Keeps.attempt)
      | ((with_reducible apply Keeps.bindGet); intro s hs) | with_reducible apply Keeps.bind
      | ((with_reducible apply Keeps.modify); intro s hs; first | exact h.regs _ _ hs | exact h.all s _ _ _ _ _ hs | exact h.regs _ _ (h.saveSp _ hs) | exact h.status _ _ _ _ hs | exact h.status _ _ _ _ (h.regs _ _ hs) | exact h.bus _ _ (h.status _ _ _ _ (h.regs _ _ hs)) | exact h.devices _ _ _ _ _ _ (h.status _ _ _ _ (h.regs _ _ hs)))
      | intro _ | dsimp only | split

theorem keeps_enter (e : Entry) (h : FullClosed P) : Keeps P (enter e) := by
  unfold enter
  repeat' first
      | (with_reducible first
          | apply Keeps.pure | apply Keeps.throw | apply Keeps.refuse | apply keeps_haltAt (h := h)
          | apply keeps_haltInterruptStack (h := h)
          | apply keeps_readVector (h := h.toRegClosed.toBusClosed.toCycleClosed)
          | apply keeps_noteEntry (h := h.toRegClosed.toBusClosed.toStoreClosed)
          | apply keeps_pushHandler (h := h.toRegClosed) | apply keeps_enterSerious (h := h) | apply Keeps.attempt)
      | ((with_reducible apply Keeps.bindGet); intro s hs) | with_reducible apply Keeps.bind
      | ((with_reducible apply Keeps.set); first | exact h.regs _ _ hs | exact h.all s _ _ _ _ _ hs | exact h.regs _ _ (h.saveSp _ hs) | exact h.status _ _ _ _ hs | exact h.status _ _ _ _ (h.regs _ _ hs) | exact h.bus _ _ (h.status _ _ _ _ (h.regs _ _ hs)) | exact h.devices _ _ _ _ _ _ (h.status _ _ _ _ (h.regs _ _ hs)))
      | ((with_reducible apply Keeps.modify); intro s hs; first | exact h.regs _ _ hs | exact h.all s _ _ _ _ _ hs | exact h.regs _ _ (h.saveSp _ hs) | exact h.status _ _ _ _ hs | exact h.status _ _ _ _ (h.regs _ _ hs) | exact h.bus _ _ (h.status _ _ _ _ (h.regs _ _ hs)) | exact h.devices _ _ _ _ _ _ (h.status _ _ _ _ (h.regs _ _ hs)))
      | intro _ | dsimp only | split

theorem keeps_enterException (x : Exc) (pc : Long) (h : FullClosed P) : Keeps P (enterException x pc) := by
  unfold enterException
  repeat' first
      | (with_reducible first
          | apply Keeps.pure | apply keeps_drawBits (h := h.toRegClosed.toBusClosed.toStoreClosed.toDevClosed)
          | apply keeps_haltAt (h := h) | apply keeps_enter (h := h) | apply Keeps.discard)
      | ((with_reducible apply Keeps.bindGet); intro s hs) | with_reducible apply Keeps.bind | intro _ | dsimp only
      | split

theorem keeps_enterTrap (code : Nat) (h : FullClosed P) : Keeps P (enterTrap code) := by
  unfold enterTrap
  repeat' first
      | (with_reducible first
          | apply keeps_modPend (h := h.toRegClosed.toBusClosed.toStoreClosed) | apply keeps_enter (h := h)
          | apply Keeps.discard)
      | ((with_reducible apply Keeps.bindGet); intro s hs) | with_reducible apply Keeps.bind | intro _ | dsimp only
      | split

theorem keeps_enterInterrupt (offset ipl : Nat) (h : FullClosed P) : Keeps P (enterInterrupt offset ipl) := by
  unfold enterInterrupt
  repeat' first
      | (with_reducible first
          | apply keeps_enter (h := h))
      | ((with_reducible apply Keeps.bindGet); intro s hs) | with_reducible apply Keeps.bind | intro _ | dsimp only
      | split

theorem keeps_enterTrace  (h : FullClosed P) : Keeps P (enterTrace) := by
  unfold enterTrace
  repeat' first
      | (with_reducible first
          | apply Keeps.pure | apply keeps_enter (h := h) | apply Keeps.discard)
      | ((with_reducible apply Keeps.bindGet); intro s hs) | with_reducible apply Keeps.bind
      | ((with_reducible apply Keeps.modify); intro s hs; first | exact h.regs _ _ hs | exact h.all s _ _ _ _ _ hs | exact h.regs _ _ (h.saveSp _ hs) | exact h.status _ _ _ _ hs | exact h.status _ _ _ _ (h.regs _ _ hs) | exact h.bus _ _ (h.status _ _ _ _ (h.regs _ _ hs)) | exact h.devices _ _ _ _ _ _ (h.status _ _ _ _ (h.regs _ _ hs)))
      | intro _ | dsimp only | split

theorem keeps_ignoreFpd (h : FullClosed P) : Keeps P ignoreFpd := by
  refine Keeps.modify fun s hs => ?_
  split
  · exact hs
  · exact h.status s _ _ _ hs

theorem keeps_checkOpcode (op : Nat) (h : FullClosed P) : Keeps P (checkOpcode op) := by
  unfold checkOpcode
  repeat' first
      | (with_reducible first
          | apply Keeps.pure | apply Keeps.raise | apply Keeps.refuse | apply keeps_ignoreFpd (h := h))
      | ((with_reducible apply Keeps.bindGet); intro s hs) | with_reducible apply Keeps.bind | intro _ | dsimp only
      | split

/-! ### Operands -/

theorem keeps_adv (k : Nat) (h : RegClosed P) : Keeps P (adv k) := by
  unfold adv
  repeat' first
      | (with_reducible first
          | apply keeps_getPC | apply keeps_setPC (h := h))
      | with_reducible apply Keeps.bind | intro _ | dsimp only | split

theorem keeps_notPC (n : Reg) : Keeps P (notPC n) := by
  unfold notPC
  repeat' first
      | (with_reducible first
          | apply Keeps.pure | apply Keeps.refuse)
      | with_reducible apply Keeps.bind | intro _ | dsimp only | split

theorem keeps_pointer (u : Use) (va : Long) (h : BusClosed P) : Keeps P (pointer u va) := by
  unfold pointer
  repeat' first
      | (with_reducible first
          | apply Keeps.pure | apply keeps_memRead (h := h))
      | with_reducible apply Keeps.bind | intro _ | dsimp only | split

theorem keeps_modeAddress (u : Use) (t : DT) (x0 : Mode) (h : RegClosed P) : Keeps P (modeAddress u t x0) := by
  unfold modeAddress
  repeat' first
      | (with_reducible first
          | apply Keeps.pure | apply Keeps.raise | apply keeps_getR | apply keeps_setR (h := h) | apply keeps_getPC
          | apply keeps_adv (h := h) | apply keeps_notPC | apply keeps_pointer (h := h.toBusClosed))
      | with_reducible apply Keeps.bind | intro _ | dsimp only | split

theorem keeps_checkBase (x : Reg) (m : Mode) : Keeps P (checkBase x m) := by
  unfold checkBase
  repeat' first
      | (with_reducible first
          | apply Keeps.pure | apply Keeps.raise | apply Keeps.refuse)
      | with_reducible apply Keeps.bind | intro _ | dsimp only | split

theorem keeps_address (u : Use) (t : DT) (o : Opnd) (h : RegClosed P) : Keeps P (address u t o) := by
  unfold address
  repeat' first
      | (with_reducible first
          | apply Keeps.pure | apply keeps_getR | apply keeps_adv (h := h) | apply keeps_modeAddress (h := h)
          | apply keeps_checkBase)
      | with_reducible apply Keeps.bind | intro _ | dsimp only | split

theorem keeps_checkReg (t : DT) (n : Reg) : Keeps P (checkReg t n) := by
  unfold checkReg
  repeat' first
      | (with_reducible first
          | apply Keeps.pure | apply Keeps.refuse)
      | with_reducible apply Keeps.bind | intro _ | dsimp only | split

theorem keeps_rdAs (u : Use) (t : DT) (o : Opnd) (h : RegClosed P) : Keeps P (rdAs u t o) := by
  unfold rdAs
  repeat' first
      | (with_reducible first
          | apply Keeps.pure | apply keeps_memRead (h := h.toBusClosed) | apply keeps_adv (h := h)
          | apply keeps_address (h := h) | apply keeps_checkReg)
      | ((with_reducible apply Keeps.bindGet); intro s hs) | with_reducible apply Keeps.bind | intro _ | dsimp only
      | split

theorem keeps_rd (t : DT) (o : Opnd) (h : RegClosed P) : Keeps P (rd t o) := by
  unfold rd
  repeat' first
      | (with_reducible first
          | apply keeps_rdAs (h := h))
      | with_reducible apply Keeps.bind | intro _ | dsimp only | split

theorem keeps_wrAs (u : Use) (t : DT) (o : Opnd) (h : RegClosed P) : Keeps P (wrAs u t o) := by
  unfold wrAs
  repeat' first
      | (with_reducible first
          | apply Keeps.pure | apply Keeps.refuse | apply keeps_adv (h := h) | apply keeps_address (h := h)
          | apply keeps_checkReg)
      | with_reducible apply Keeps.bind | intro _ | dsimp only | split

theorem keeps_wr (t : DT) (o : Opnd) (h : RegClosed P) : Keeps P (wr t o) := by
  unfold wr
  repeat' first
      | (with_reducible first
          | apply keeps_wrAs (h := h))
      | with_reducible apply Keeps.bind | intro _ | dsimp only | split

theorem keeps_mdAs (u : Use) (t : DT) (o : Opnd) (h : RegClosed P) : Keeps P (mdAs u t o) := by
  unfold mdAs
  repeat' first
      | (with_reducible first
          | apply Keeps.pure | apply Keeps.refuse | apply keeps_readSpan (h := h.toBusClosed.toCycleClosed)
          | apply keeps_memDest (h := h.toBusClosed) | apply keeps_adv (h := h) | apply keeps_address (h := h)
          | apply keeps_checkReg)
      | ((with_reducible apply Keeps.bindGet); intro s hs) | with_reducible apply Keeps.bind | intro _ | dsimp only
      | split

theorem keeps_md (t : DT) (o : Opnd) (h : RegClosed P) : Keeps P (md t o) := by
  unfold md
  repeat' first
      | (with_reducible first
          | apply Keeps.pure | apply keeps_mdAs (h := h))
      | with_reducible apply Keeps.bind | intro _ | dsimp only | split

theorem keeps_adr (t : DT) (o : Opnd) (h : RegClosed P) : Keeps P (adr t o) := by
  unfold adr
  repeat' first
      | (with_reducible first
          | apply keeps_address (h := h))
      | with_reducible apply Keeps.bind | intro _ | dsimp only | split

theorem keeps_adrPlain (t : DT) (o : Opnd) (h : RegClosed P) : Keeps P (adrPlain t o) := by
  unfold adrPlain
  repeat' first
      | (with_reducible first
          | apply keeps_address (h := h))
      | with_reducible apply Keeps.bind | intro _ | dsimp only | split

theorem keeps_fld (o : Opnd) (h : RegClosed P) : Keeps P (fld o) := by
  unfold fld
  repeat' first
      | (with_reducible first
          | apply Keeps.pure | apply keeps_adv (h := h) | apply keeps_notPC | apply keeps_address (h := h))
      | with_reducible apply Keeps.bind | intro _ | dsimp only | split

theorem keeps_branchTarget {w : Nat} (bytes : Nat) (d : BitVec w) (h : RegClosed P) : Keeps P (branchTarget bytes d) := by
  unfold branchTarget
  repeat' first
      | (with_reducible first
          | apply Keeps.pure | apply keeps_getPC | apply keeps_adv (h := h))
      | with_reducible apply Keeps.bind | intro _ | dsimp only | split

theorem keeps_prepare (t : DT) (d : Dest) (h : BusClosed P) : Keeps P (prepare t d) := by
  unfold prepare
  repeat' first
      | (with_reducible first
          | apply Keeps.pure | apply keeps_memDest (h := h))
      | with_reducible apply Keeps.bind | intro _ | dsimp only | split

theorem keeps_storeAs (u m : Use) (t : DT) (d : Dest) (v : BitVec t.bits) (h : RegClosed P) : Keeps P (storeAs u m t d v) := by
  unfold storeAs
  repeat' first
      | (with_reducible first
          | apply Keeps.pure | apply keeps_writeSpan (h := h.toBusClosed) | apply keeps_memDest (h := h.toBusClosed))
      | with_reducible apply Keeps.bind
      | ((with_reducible apply Keeps.modify); intro s hs; first | exact h.regs _ _ hs | exact h.putRegs _ _ _ _ hs | exact h.devices _ _ _ _ _ _ hs)
      | intro _ | dsimp only | split

theorem keeps_store (t : DT) (d : Dest) (v : BitVec t.bits) (h : RegClosed P) : Keeps P (store t d v) := by
  unfold store
  repeat' first
      | (with_reducible first
          | apply Keeps.pure | apply keeps_storeAs (h := h))
      | with_reducible apply Keeps.bind | intro _ | dsimp only | split

theorem keeps_storePlain (t : DT) (d : Dest) (v : BitVec t.bits) (h : RegClosed P) : Keeps P (storePlain t d v) := by
  unfold storePlain
  repeat' first
      | (with_reducible first
          | apply keeps_storeAs (h := h))
      | with_reducible apply Keeps.bind | intro _ | dsimp only | split

theorem keeps_rdPlain (t : DT) (o : Opnd) (h : RegClosed P) : Keeps P (rdPlain t o) := by
  unfold rdPlain
  repeat' first
      | (with_reducible first
          | apply keeps_rdAs (h := h))
      | with_reducible apply Keeps.bind | intro _ | dsimp only | split

theorem keeps_wrPlain (t : DT) (o : Opnd) (h : RegClosed P) : Keeps P (wrPlain t o) := by
  unfold wrPlain
  repeat' first
      | (with_reducible first
          | apply keeps_wrAs (h := h))
      | with_reducible apply Keeps.bind | intro _ | dsimp only | split

/-! ### Flags -/

theorem keeps_overflowTrap  : Keeps P (overflowTrap) := by
  unfold overflowTrap
  repeat' first
      | (with_reducible first
          | apply Keeps.pure)
      | ((with_reducible apply Keeps.bindGet); intro s hs) | with_reducible apply Keeps.bind | intro _ | dsimp only
      | split

theorem keeps_setRes {w : Nat} (x : Res w) (h : FullClosed P) : Keeps P (setRes x) := by
  unfold setRes
  repeat' first
      | (with_reducible first
          | apply Keeps.pure | apply keeps_overflowTrap)
      | ((with_reducible apply Keeps.bindGet); intro s hs) | with_reducible apply Keeps.bind
      | ((with_reducible apply Keeps.set); first | exact h.regs _ _ hs | exact h.all s _ _ _ _ _ hs | exact h.regs _ _ (h.saveSp _ hs) | exact h.status _ _ _ _ hs | exact h.status _ _ _ _ (h.regs _ _ hs) | exact h.bus _ _ (h.status _ _ _ _ (h.regs _ _ hs)) | exact h.devices _ _ _ _ _ _ (h.status _ _ _ _ (h.regs _ _ hs)))
      | intro _ | dsimp only | split

theorem keeps_storeRes (t : DT) (d : Dest) (x : Res t.bits) (h : FullClosed P) : Keeps P (storeRes t d x) := by
  unfold storeRes
  repeat' first
      | (with_reducible first
          | apply keeps_store (h := h.toRegClosed) | apply keeps_setRes (h := h))
      | with_reducible apply Keeps.bind | intro _ | dsimp only | split

theorem keeps_unary (ts td : DT) (f : BitVec ts.bits → Res td.bits) (src dst : Opnd) (h : FullClosed P) : Keeps P (unary ts td f src dst) := by
  unfold unary
  repeat' first
      | (with_reducible first
          | apply keeps_rd (h := h.toRegClosed) | apply keeps_wr (h := h.toRegClosed) | apply keeps_storeRes (h := h))
      | with_reducible apply Keeps.bind | intro _ | dsimp only | split

theorem keeps_binary3 (t : DT) (f : BitVec t.bits → BitVec t.bits → Res t.bits) (a b dst : Opnd) (h : FullClosed P) : Keeps P (binary3 t f a b dst) := by
  unfold binary3
  repeat' first
      | (with_reducible first
          | apply keeps_rd (h := h.toRegClosed) | apply keeps_wr (h := h.toRegClosed) | apply keeps_storeRes (h := h))
      | with_reducible apply Keeps.bind | intro _ | dsimp only | split

theorem keeps_binary2 (t : DT) (f : BitVec t.bits → BitVec t.bits → Res t.bits) (a dst : Opnd) (h : FullClosed P) : Keeps P (binary2 t f a dst) := by
  unfold binary2
  repeat' first
      | (with_reducible first
          | apply keeps_rd (h := h.toRegClosed) | apply keeps_md (h := h.toRegClosed) | apply keeps_storeRes (h := h))
      | with_reducible apply Keeps.bind | intro _ | dsimp only | split

theorem keeps_modify1 (t : DT) (f : BitVec t.bits → Res t.bits) (dst : Opnd) (h : FullClosed P) : Keeps P (modify1 t f dst) := by
  unfold modify1
  repeat' first
      | (with_reducible first
          | apply keeps_md (h := h.toRegClosed) | apply keeps_storeRes (h := h))
      | with_reducible apply Keeps.bind | intro _ | dsimp only | split

theorem keeps_clear (t : DT) (dst : Opnd) (h : FullClosed P) : Keeps P (clear t dst) := by
  unfold clear
  repeat' first
      | (with_reducible first
          | apply keeps_wr (h := h.toRegClosed) | apply keeps_storeRes (h := h))
      | with_reducible apply Keeps.bind | intro _ | dsimp only | split

theorem keeps_compareFlags {w : Nat} (a b : BitVec w) (h : FullClosed P) : Keeps P (compareFlags a b) := by
  unfold compareFlags
  repeat' first
      | (with_reducible first
          | apply keeps_setCC (h := h))
      | with_reducible apply Keeps.bind | intro _ | dsimp only | split

theorem keeps_compare (t : DT) (a b : Opnd) (h : FullClosed P) : Keeps P (compare t a b) := by
  unfold compare
  repeat' first
      | (with_reducible first
          | apply Keeps.done | apply keeps_rd (h := h.toRegClosed) | apply keeps_compareFlags (h := h))
      | with_reducible apply Keeps.bind | intro _ | dsimp only | split

theorem keeps_test (t : DT) (a : Opnd) (h : FullClosed P) : Keeps P (test t a) := by
  unfold test
  repeat' first
      | (with_reducible first
          | apply keeps_rd (h := h.toRegClosed) | apply keeps_setRes (h := h))
      | with_reducible apply Keeps.bind | intro _ | dsimp only | split

theorem keeps_bitTest (t : DT) (a b : Opnd) (h : FullClosed P) : Keeps P (bitTest t a b) := by
  unfold bitTest
  repeat' first
      | (with_reducible first
          | apply keeps_rd (h := h.toRegClosed) | apply keeps_setRes (h := h))
      | with_reducible apply Keeps.bind | intro _ | dsimp only | split

/-! ### Other agents' cycles -/

theorem keeps_needUnibus (k : Nat) {x : M Unit} (hx : Keeps P x) : Keeps P (needUnibus k x) :=
  Keeps.bindGet fun s hs => by split <;> first | exact hx | exact Keeps.refuse _

theorem keeps_needMba (k : Nat) {x : M Unit} (hx : Keeps P x) : Keeps P (needMba k x) :=
  Keeps.bindGet fun s hs => by split <;> first | exact hx | exact Keeps.refuse _

theorem keeps_only780 {x : M Unit} (hx : Keeps P x) : Keeps P (only780 x) :=
  Keeps.bindGet fun s hs => by split <;> first | exact hx | exact Keeps.refuse _

theorem keeps_unlessDetached (k : Nat) {x : M Unit} (hx : Keeps P x) : Keeps P (unlessDetached k x) :=
  Keeps.bindGet fun s hs => by split <;> first | exact hx | exact Keeps.pure _

theorem keeps_unibusDma (k : Nat) (c : UbCycle) (ua : BitVec 18) (d : Word16) (h : StoreClosed P) :
    Keeps P (unibusDma k c ua d) := by
  refine keeps_needUnibus k (Keeps.bindGet fun s hs => ?_)
  split
  · exact Keeps.bind (keeps_dma750 _ _ _ (h := h)) fun _ => keeps_send _ (h := h.toDevClosed)
  · exact Keeps.bind (keeps_ubaDma _ _ _ _ (h := h)) fun _ => keeps_send _ (h := h.toDevClosed)

theorem keeps_agentWrite (pa : Nat) (b : Byte) (h : StoreClosed P) : Keeps P (agentWrite pa b) :=
  Keeps.bindGet fun s hs => by split <;> first | exact keeps_storeAt _ _ _ (h := h) | exact Keeps.pure _

theorem keeps_agentWrites (pa : Nat) (l : List Byte) (h : StoreClosed P) : Keeps P (agentWrites pa l) := by
  induction l generalizing pa with
  | nil => exact Keeps.pure _
  | cons b rest ih => exact Keeps.bind (keeps_agentWrite pa b h) fun _ => ih _

theorem keeps_agentInterlock (pa : Nat) (w : Option (List Byte)) (h : StoreClosed P) : Keeps P (agentInterlock pa w) := by
  refine keeps_only780 (Keeps.bindGet fun s hs => ?_)
  split
  · exact Keeps.pure _
  · split
    · split
      · exact Keeps.bind (Keeps.throw _) fun _ => Keeps.bind (Keeps.discard (keeps_adapterRead _ _ (h := h.toDevClosed)))
          fun _ => keeps_modV780 _ (h := h.toDevClosed)
      · exact Keeps.bind (Keeps.discard (keeps_adapterRead _ _ (h := h.toDevClosed))) fun _ => keeps_modV780 _ (h := h.toDevClosed)
    · split
      · exact Keeps.bind (keeps_modV780 _ (h := h.toDevClosed)) fun _ => keeps_agentWrites _ _ h
      · exact keeps_raiseFault _ _ h

/-- What a cycle of another agent inside an instruction keeps. -/
theorem keeps_busMoves (h : StoreClosed P) (he : ∀ s ev, P s → P { s with events := ev }) (l : List Event) :
    Keeps P (busMoves l) := by
  have retry : ∀ e {x : M Unit}, Keeps P x → Keeps P (orRetry e x) := by
    intro e x hx
    refine Keeps.bind (Keeps.attempt hx) fun r => ?_
    split
    · exact Keeps.pure _
    · exact Keeps.modify fun s hs => he s _ hs
    · exact Keeps.throw _
  have one : ∀ e x, busMove e = some x → Keeps P x := by
    intro e x hx
    unfold busMove at hx
    split at hx <;> cases hx
    · exact retry _ (keeps_unibusDma _ _ _ _ h)
    · exact keeps_needMba _ (keeps_unlessDetached _ (keeps_mbaIn _ _ (h := h.toDevClosed)))
    · exact keeps_needMba _ (keeps_mbaMemory _ _ (h := h))
    · exact keeps_needMba _ (keeps_unlessDetached _ (keeps_mbaTake _ _ (h := h.toDevClosed)))
    · exact keeps_agentWrite _ _ h
    · exact keeps_agentInterlock _ _ h
  induction l with
  | nil => exact Keeps.pure _
  | cons e rest ih =>
    unfold busMoves
    split
    next x hx => exact Keeps.bind (one e x hx) fun _ => ih
    next => exact ih

/-- A property that the moves of other agents keep is kept whatever comes between the processor's cycles. -/
theorem keeps_meanwhile_moves (h : StoreClosed P) (he : ∀ s ev du, P s → P { s with events := ev, during := du }) :
    ∀ held, Keeps P (meanwhile held) := by
  refine fun held => Keeps.bindGet fun s hs => ?_
  split
  · exact Keeps.bind (Keeps.set (he s s.events _ hs)) fun _ => keeps_busMoves h (fun s ev hs => he s ev s.during hs) _
  · exact Keeps.pure _

/-- Such a property is closed under what the processor's references do. -/
theorem StoreClosed.toBus (h : StoreClosed P) (he : ∀ s ev du, P s → P { s with events := ev, during := du }) : BusClosed P :=
  { toStoreClosed := h, moves := keeps_meanwhile_moves h he }

/-- Memory stays canonical in every reference, whatever other agents do meanwhile. -/
theorem memOk_busClosed : BusClosed fun s => Memory.wf s.mem = true :=
  StoreClosed.toBus ⟨⟨fun _ _ _ _ _ _ h => h⟩, fun _ _ _ hm h => hm h, fun _ _ h => h⟩ fun _ _ _ h => h

end Sys2Proof.Machine
end

