-- ==== Sys2Proof/Laws/Decode.lean ====
section
/-! SUPPORT. Reading back what the encoder wrote: numbers, modes, specifiers and displacements. -/
namespace Sys2Proof

/-- The stream holds the bytes `l` from offset `pos` on. -/
def HoldsAt (f : Stream) (pos : Nat) (l : List Byte) : Prop := ∀ k (h : k < l.length), f (pos + k) = some l[k]

theorem HoldsAt.cons {f : Stream} {pos : Nat} {b : Byte} {l : List Byte} :
    HoldsAt f pos (b :: l) ↔ f pos = some b ∧ HoldsAt f (pos + 1) l := by
  constructor
  · intro h
    refine ⟨h 0 (by simp), fun k hk => ?_⟩
    have := h (k + 1) (by simpa using hk)
    rw [show pos + 1 + k = pos + (k + 1) from by omega, this]
    simp
  · rintro ⟨h0, h1⟩ k hk
    cases k with
    | zero => exact h0
    | succ k =>
      have := h1 k (by simpa using hk)
      rw [show pos + (k + 1) = pos + 1 + k from by omega, this]
      simp

theorem HoldsAt.append {f : Stream} {pos : Nat} {l m : List Byte} :
    HoldsAt f pos (l ++ m) ↔ HoldsAt f pos l ∧ HoldsAt f (pos + l.length) m := by
  induction l generalizing pos with
  | nil => simp [HoldsAt]
  | cons b l ih =>
    rw [List.cons_append, HoldsAt.cons, HoldsAt.cons, ih, List.length_cons, show pos + 1 + l.length = pos + (l.length + 1) from by omega]
    tauto

theorem holdsAt_streamOf (l m : List Byte) : HoldsAt (streamOf (l ++ m)) 0 l := by
  intro k hk
  rw [Nat.zero_add, streamOf, List.getElem?_append_left hk, List.getElem?_eq_getElem hk]

@[simp] theorem bytesLE_length (v n : Nat) : (bytesLE v n).length = n := by
  induction n generalizing v with
  | zero => rfl
  | succ n ih => simp [bytesLE, ih]

theorem getLE_bytesLE (f : Stream) (pos v n : Nat) (h : HoldsAt f pos (bytesLE v n)) :
    getLE f pos n = .ok (v % 256 ^ n) := by
  induction n generalizing pos v with
  | zero => simp [getLE, Nat.mod_one]
  | succ n ih =>
    rw [bytesLE, HoldsAt.cons] at h
    simp only [getLE, getByte, h.1, ih _ _ h.2]
    rw [BitVec.toNat_ofNat, show 256 ^ (n + 1) = 2 ^ 8 * 256 ^ n from by rw [pow_succ, Nat.mul_comm]; rfl, Nat.mod_mul]
    rfl

theorem getLE_bytesLE_ofNat {w : Nat} (f : Stream) (pos n : Nat) (d : BitVec w) (hw : w = 8 * n)
    (h : HoldsAt f pos (bytesLE d.toNat n)) : getLE f pos n = .ok d.toNat := by
  rw [getLE_bytesLE f pos _ n h]
  congr 1
  apply Nat.mod_eq_of_lt
  calc d.toNat < 2 ^ w := d.isLt
    _ = 256 ^ n := by rw [hw, pow_mul]; rfl

theorem specByte_toNat (m : Nat) (n : Reg) (h : m < 16) : (specByte m n).toNat = 16 * m + n.val := by
  unfold specByte
  rw [BitVec.toNat_ofNat]
  apply Nat.mod_eq_of_lt
  have := n.isLt
  omega

theorem specByte_div (m : Nat) (n : Reg) (h : m < 16) : (specByte m n).toNat / 16 = m := by
  rw [specByte_toNat m n h]
  omega

theorem specByte_mod (m : Nat) (n : Reg) (h : m < 16) : (specByte m n).toNat % 16 = n.val := by
  rw [specByte_toNat m n h]
  omega

/-- Modes with one encoding of their own. -/
def Mode.encodable (t : DT) : Mode → Prop
  | .autoInc n | .autoIncDef n => n ≠ 15
  | .imm v => v.toNat < 2 ^ t.bits
  | _ => True

theorem DT.bits_eq (t : DT) : t.bits = 8 * t.len := by cases t <;> rfl

theorem parseMode_encode (t : DT) (m : Mode) (f : Stream) (pos : Nat) (hm : m.encodable t)
    (h : HoldsAt f pos (m.encode t)) : parseMode t f pos = .ok (m, pos + (m.encode t).length) := by
  cases m with
  | lit v =>
    rw [Mode.encode, HoldsAt.cons] at h
    have hv : (v.setWidth 8).toNat = v.toNat := by
      have := v.isLt
      rw [BitVec.toNat_setWidth]
      omega
    have h1 : v.toNat / 16 < 4 := by
      have := v.isLt
      omega
    unfold parseMode
    simp only [getByte, h.1, hv]
    have : (BitVec.ofNat 6 v.toNat) = v := by simp
    interval_cases hq : v.toNat / 16 <;> simp [Mode.encode, this]
  | imm v =>
    rw [Mode.encode, HoldsAt.cons] at h
    unfold parseMode
    simp only [getByte, h.1]
    have h2 := getLE_bytesLE f (pos + 1) v.toNat t.len h.2
    have h3 : v.toNat % 256 ^ t.len = v.toNat := by
      apply Nat.mod_eq_of_lt
      have := hm
      simp only [Mode.encodable, DT.bits_eq, pow_mul] at this
      simpa using this
    rw [h3] at h2
    simp [h2, Mode.encode]
    omega
  | absolute a =>
    rw [Mode.encode, HoldsAt.cons] at h
    unfold parseMode
    simp only [getByte, h.1]
    simp [getLE_bytesLE_ofNat f (pos + 1) 4 a rfl h.2, Mode.encode]
  | index n | reg n | regDef n | autoDec n =>
    rw [Mode.encode, HoldsAt.cons] at h
    unfold parseMode
    simp only [getByte, h.1, specByte_div, specByte_mod, Nat.reduceLT, Mode.encode, List.length_singleton]
  | autoInc n | autoIncDef n =>
    rw [Mode.encode, HoldsAt.cons] at h
    have hn : n ≠ 15 := hm
    unfold parseMode
    simp only [getByte, h.1, specByte_div, specByte_mod, Nat.reduceLT, Mode.encode, List.length_singleton]
    simp [hn]
  | dispB n d | dispBDef n d | dispW n d | dispWDef n d | dispL n d | dispLDef n d =>
    rw [Mode.encode, HoldsAt.cons] at h
    unfold parseMode
    simp only [getByte, h.1, specByte_div, specByte_mod, Nat.reduceLT, Mode.encode, List.length_cons, bytesLE_length]
    rw [getLE_bytesLE_ofNat f (pos + 1) _ d rfl h.2]
    simp [Nat.add_assoc]

/-- A specifier read back. -/
theorem parseOpnd_encode (t : DT) (o : Opnd) (f : Stream) (pos : Nat) (hm : o.mode.encodable t)
    (hi : ∀ x, o.idx = some x → x ≠ 15) (hx : ∀ x, o.mode ≠ .index x)
    (h : HoldsAt f pos (o.encode t)) : parseOpnd t f pos = .ok (o, pos + (o.encode t).length) := by
  obtain ⟨idx, m⟩ := o
  cases idx with
  | some x =>
    have hx15 : x ≠ 15 := hi x rfl
    rw [Opnd.encode, HoldsAt.cons] at h
    unfold parseOpnd
    have h1 : (specByte 4 x).toNat / 16 = 4 := specByte_div 4 x (by omega)
    have h2 : (specByte 4 x).toNat ≠ 0x4F := by
      rw [specByte_toNat 4 x (by omega)]
      intro e
      apply hx15
      apply Fin.ext
      have : x.val = 15 := by omega
      simpa using this
    simp only [getByte, h.1, h1, h2, ne_eq, not_false_eq_true, and_self, if_true]
    rw [parseMode_encode t m f (pos + 1) hm h.2]
    simp [Opnd.encode, specByte_mod 4 x (by omega)]
    omega
  | none =>
    rw [Opnd.encode] at h
    have hp := parseMode_encode t m f pos hm h
    obtain ⟨b, hb⟩ : ∃ b, f pos = some b := by
      cases hf : f pos with
      | none => simp [parseMode, getByte, hf] at hp
      | some b => exact ⟨b, rfl⟩
    have h4 : ¬ (b.toNat / 16 = 4 ∧ b.toNat ≠ 0x4F) := by
      rintro ⟨e, -⟩
      have hq := hp
      unfold parseMode at hq
      simp only [getByte, hb, e] at hq
      injection hq with hq
      injection hq with hq1 hq2
      exact hx _ hq1.symm
    unfold parseOpnd
    simp only [getByte, hb, h4, if_false, hp]
    rfl

/-- A legal specifier reads back. -/
theorem parseOpnd_legal (acc : Access) (t : DT) (o : Opnd) (f : Stream) (pos : Nat) (hl : o.legal acc t = true)
    (h : HoldsAt f pos (o.encode t)) : parseOpnd t f pos = .ok (o, pos + (o.encode t).length) := by
  obtain ⟨idx, m⟩ := o
  apply parseOpnd_encode t _ f pos _ _ _ h
  · cases idx <;> cases m <;> simp_all [Opnd.legal, Mode.legal, Mode.legalBase, Mode.encodable]
  · intro x hx
    simp only at hx
    subst hx
    simp [Opnd.legal] at hl
    exact hl.1
  · intro x hx
    simp only at hx
    subst hx
    cases idx <;> simp [Opnd.legal, Mode.legal, Mode.legalBase] at hl

/-- Bytes the stream holds are read as they are. -/
theorem HoldsAt.constantFree {f : Stream} {pos : Nat} {l : List Byte} (h : HoldsAt f pos l) (acc : Access) (t : DT) :
    HoldsAt (constantFree acc t f pos) pos l := by
  intro k hk
  unfold Sys2Proof.constantFree
  split
  · rw [h k hk]; rfl
  · exact h k hk

/-- What an operand parser answers where a legal specifier stands. -/
theorem opd_encode (acc : Access) (t : DT) (k : Opnd → Parser) (op : Nat) (f : Stream) (pos : Nat) (seen : List Slot)
    (o : Opnd) (hl : o.legal acc t = true) (h : HoldsAt f pos (o.encode t)) :
    opd acc t k op f pos seen = k o op f (pos + (o.encode t).length) (seen ++ [.op acc t o]) := by
  unfold opd
  rw [parseOpnd_legal acc t o _ pos hl (h.constantFree acc t)]

theorem brB_encode (k : Byte → Parser) (op : Nat) (f : Stream) (pos : Nat) (seen : List Slot) (d : Byte)
    (h : HoldsAt f pos (bytesLE d.toNat 1)) : brB k op f pos seen = k d op f (pos + 1) (seen ++ [.brB d]) := by
  unfold brB
  rw [getLE_bytesLE_ofNat f pos 1 d rfl h]
  simp

theorem brW_encode (k : Word16 → Parser) (op : Nat) (f : Stream) (pos : Nat) (seen : List Slot) (d : Word16)
    (h : HoldsAt f pos (bytesLE d.toNat 2)) : brW k op f pos seen = k d op f (pos + 2) (seen ++ [.brW d]) := by
  unfold brW
  rw [getLE_bytesLE_ofNat f pos 2 d rfl h]
  simp

end Sys2Proof
end

