-- ==== Sys2Proof/Laws/Ops.lean ====
section
/-! SUPPORT. One lemma for each shared operation that says what it answers: instructions cite these instead of unfolding. -/
namespace Sys2Proof.Machine

/-! ### Running a meaning -/

/-- The opcode's own checks pass: FPD clear, G and H present where needed, kernel mode where needed. -/
theorem checkOpcode_ok (op : Nat) (s : State) (hf : s.fpd = false) (hg : op < 256 ∨ s.cfg.hasGH = true)
    (hp : op ∉ privilegedOps ∨ s.cur = 0) : checkOpcode op s = .ok ⟨⟩ s := by
  have h1 : (decide (256 ≤ op) && !s.cfg.hasGH) = false := by
    rcases hg with h | h
    · simp [h]
    · simp [h]
  have h2 : ¬ (op ∈ privilegedOps ∧ s.cur ≠ 0) := by
    rintro ⟨a, b⟩
    rcases hp with h | h
    · exact h a
    · exact b h
  unfold checkOpcode
  rw [bind_of_ok _ (run_get s)]
  simp only [h1, hf, if_neg h2]
  rfl

/-- Execution is the end of the meaning run from past the opcode. -/
theorem execute_eq (op : Nat) (m : Meaning) (s : State) (hf : s.fpd = false) (hg : op < 256 ∨ s.cfg.hasGH = true)
    (hp : op ∉ privilegedOps ∨ s.cur = 0) : execute op m s = finish s (m (s.setReg 15 (s.pc + opBytes op))) := by
  unfold execute
  rw [bind_of_ok _ (checkOpcode_ok op s hf hg hp), bind_of_ok _ (run_setPC _ s)]

/-- A meaning that completes without a trap gives the next state. -/
theorem execute_next (op : Nat) (m : Meaning) (s t : State) (hf : s.fpd = false) (hg : op < 256 ∨ s.cfg.hasGH = true)
    (hp : op ∉ privilegedOps ∨ s.cur = 0) (hm : m (s.setReg 15 (s.pc + opBytes op)) = .ok none t) :
    execute op m s = .next t := by
  rw [execute_eq op m s hf hg hp, hm]
  rfl

/-- A meaning that stops with an exception takes it with the registers and the PSL of the start. -/
theorem execute_exc (op : Nat) (m : Meaning) (s t : State) (e : Exc) (hf : s.fpd = false)
    (hg : op < 256 ∨ s.cfg.hasGH = true) (hp : op ∉ privilegedOps ∨ s.cur = 0)
    (hm : m (s.setReg 15 (s.pc + opBytes op)) = .error (.exc e) t) :
    execute op m s = outcomeOf (enterException e s.pc { t with r := s.r, psl := s.psl }) := by
  rw [execute_eq op m s hf hg hp, hm]
  simp [finish, hf]

/-! ### Integer results and shapes -/

/-- The trap after a result with these condition codes. -/
theorem setRes_eq {w : Nat} (x : Res w) (s : State) :
    setRes x s = .ok (match x.trap with
        | some k => some k
        | none => if x.v && s.iv then some 1 else none)
      (s.withCC x.r.msb (decide (x.r = 0)) x.v (x.c.getD s.ccC)) := by
  unfold setRes overflowTrap
  rw [bind_of_ok _ (run_get s), bind_of_ok _ (run_set _ s)]
  cases hx : x.trap with
  | some k => rfl
  | none =>
    show EStateM.Result.ok (if ((s.withCC x.r.msb (decide (x.r = 0)) x.v (x.c.getD s.ccC)).ccV
      && (s.withCC x.r.msb (decide (x.r = 0)) x.v (x.c.getD s.ccC)).iv) = true then some 1 else none) _ = _
    rw [State.withCC_ccV, State.withCC_iv]

/-- A result stored and its condition codes set. -/
theorem storeRes_ok (t : DT) (d : Dest) (x : Res t.bits) {s u : State} (h : store t d x.r s = .ok ⟨⟩ u) :
    storeRes t d x s = setRes x u := by
  unfold storeRes
  rw [bind_of_ok _ h]

theorem unary_ok (ts td : DT) (f : BitVec ts.bits → Res td.bits) (src dst : Opnd) {s s1 s2 s3 : State}
    {v : BitVec ts.bits} {d : Dest} (h1 : rd ts src s = .ok v s1) (h2 : wr td dst s1 = .ok d s2)
    (h3 : store td d (f v).r s2 = .ok ⟨⟩ s3) : unary ts td f src dst s = setRes (f v) s3 := by
  unfold unary
  rw [bind_of_ok _ h1, bind_of_ok _ h2, storeRes_ok td d _ h3]

theorem binary3_ok (t : DT) (f : BitVec t.bits → BitVec t.bits → Res t.bits) (a b dst : Opnd)
    {s s1 s2 s3 s4 : State} {x y : BitVec t.bits} {d : Dest} (h1 : rd t a s = .ok x s1) (h2 : rd t b s1 = .ok y s2)
    (h3 : wr t dst s2 = .ok d s3) (h4 : store t d (f x y).r s3 = .ok ⟨⟩ s4) :
    binary3 t f a b dst s = setRes (f x y) s4 := by
  unfold binary3
  rw [bind_of_ok _ h1, bind_of_ok _ h2, bind_of_ok _ h3, storeRes_ok t d _ h4]

theorem binary2_ok (t : DT) (f : BitVec t.bits → BitVec t.bits → Res t.bits) (a dst : Opnd)
    {s s1 s2 s3 : State} {x y : BitVec t.bits} {d : Dest} (h1 : rd t a s = .ok x s1)
    (h2 : md t dst s1 = .ok (d, y) s2) (h3 : store t d (f x y).r s2 = .ok ⟨⟩ s3) :
    binary2 t f a dst s = setRes (f x y) s3 := by
  unfold binary2
  rw [bind_of_ok _ h1, bind_of_ok _ h2]
  exact storeRes_ok t d _ h3

theorem modify1_ok (t : DT) (f : BitVec t.bits → Res t.bits) (dst : Opnd) {s s1 s2 : State} {y : BitVec t.bits}
    {d : Dest} (h1 : md t dst s = .ok (d, y) s1) (h2 : store t d (f y).r s1 = .ok ⟨⟩ s2) :
    modify1 t f dst s = setRes (f y) s2 := by
  unfold modify1
  rw [bind_of_ok _ h1]
  exact storeRes_ok t d _ h2

theorem clear_ok (t : DT) (dst : Opnd) {s s1 s2 : State} {d : Dest} (h1 : wr t dst s = .ok d s1)
    (h2 : store t d 0 s1 = .ok ⟨⟩ s2) : clear t dst s = setRes (.keepC (0 : BitVec t.bits)) s2 := by
  unfold clear
  rw [bind_of_ok _ h1]
  exact storeRes_ok t d _ h2

/-! ### Registers from a list -/

theorem run_loadRegs (l : List (Nat × Long)) (s : State) :
    loadRegs l s = .ok ⟨⟩ (l.foldl (fun t p => t.setReg ⟨p.1 % 16, Nat.mod_lt _ (by decide)⟩ p.2) s) := by
  induction l generalizing s with
  | nil => rfl
  | cons p rest ih =>
    obtain ⟨i, x⟩ := p
    exact ih _

/-! ### Main memory -/

theorem ramRead_good (pa n : Nat) (s : State) (hb : s.bad pa n = false) (he : s.eccDisabled pa = false) :
    ramRead pa n s = .ok (s.ramValue pa n) s := by
  unfold ramRead
  rw [bind_of_ok _ (run_get s)]
  simp [hb, he]

/-- A store to existing memory is not disturbed where FORCE ERR does not act. -/
theorem storeAt_ok (pa n : Nat) (v : Octa) (s : State) (hf : s.forced pa n = false) :
    storeAt pa n v s = .ok ⟨⟩ (s.storeRam pa n v) := by
  unfold storeAt
  rw [bind_of_ok _ (run_get s), if_neg (by simp [hf])]
  rfl

/-- Main memory takes a reference whole. -/
theorem splits_ram (s : State) (pa n : Nat) (h : place s pa = .ram) : splits s pa n = false := by
  simp [splits, h]

/-- Where no other agent's cycle is to come a reference is made whole. -/
theorem physRead_idle (u : Use) (pa n : Nat) (s : State) (hd : s.during = []) :
    physRead u pa n s = physReadWhole u pa n s := by
  unfold physRead
  rw [bind_of_ok _ (run_get s), if_pos hd]

theorem physWrite_idle (u : Use) (pa n : Nat) (v : Octa) (s : State) (hd : s.during = []) :
    physWrite u pa n v s = physWriteWhole u pa n v s := by
  unfold physWrite
  rw [bind_of_ok _ (run_get s), if_pos hd]

/-- A device is not asked between the bytes of a span. -/
theorem noSplitDevice_ok (u : Use) (sp : Span) (s t : State) (h : noSplitDevice u sp s = .ok ⟨⟩ t) : t = s := by
  have k : Keeps (· = s) (noSplitDevice u sp) := by
    unfold noSplitDevice
    refine Keeps.bindGet fun _ _ => ?_
    split
    · split <;> first | exact Keeps.pure _ | exact Keeps.refuse _
    · exact Keeps.pure _
  exact k.of_ok h rfl

theorem readSpan_idle (u : Use) (sp : Span) (n : Nat) (s : State) (hd : s.during = []) (hn : ¬ n ≤ sp.k) :
    readSpan u sp n s = (do
      noSplitDevice u sp
      let lo ← physReadWhole u sp.a0 sp.k
      let hi ← physReadWhole u sp.a1 (n - sp.k)
      return lo ||| hi <<< (8 * sp.k) : M Octa) s := by
  unfold readSpan
  rw [if_neg hn]
  cases h : noSplitDevice u sp s with
  | error e t => rw [bind_of_error _ h, bind_of_error _ h]
  | ok a t =>
    rw [bind_of_ok _ h, bind_of_ok _ h, bind_of_ok _ (run_get t), noSplitDevice_ok u sp s t h, if_pos hd]

/-- A read of main memory without an error there. -/
theorem physRead_ram (u : Use) (pa n : Nat) (s : State) (hd : s.during = []) (h : place s pa = .ram)
    (hb : s.bad pa n = false) (he : s.eccDisabled pa = false) :
    physRead u pa n s = .ok (s.ramValue pa n) s := by
  rw [physRead_idle u pa n s hd]
  unfold physReadWhole
  rw [bind_of_ok _ (run_get s), splits_ram s pa n h]
  unfold physReadPart
  simp only [Bool.false_eq_true, if_false]
  rw [bind_of_ok _ (run_get s)]
  simp only [h]
  exact ramRead_good pa n s hb he

theorem physWrite_ram (u : Use) (pa n : Nat) (v : Octa) (s : State) (hd : s.during = []) (h : place s pa = .ram)
    (hf : s.forced pa n = false) : physWrite u pa n v s = .ok ⟨⟩ (s.storeRam pa n v) := by
  rw [physWrite_idle u pa n v s hd]
  unfold physWriteWhole
  rw [bind_of_ok _ (run_get s), splits_ram s pa n h]
  unfold physWritePart
  simp only [Bool.false_eq_true, if_false]
  rw [bind_of_ok _ (run_get s)]
  simp only [h]
  exact storeAt_ok pa n v s hf

/-! ### Mapping off, 21_memory_management.md R342 -/

theorem check_off (va : Long) (write : Bool) (mode : Nat) (s : State) (h : s.mm.mapen = false) :
    check va write mode s = .ok ⟨va.toNat % 2 ^ s.cfg.paw, none⟩ s := by
  unfold check
  rw [bind_of_ok _ (run_get s)]
  simp [h]

theorem translate_off (va : Long) (write : Bool) (mode : Nat) (s : State) (h : s.mm.mapen = false) :
    translate va write mode s = .ok (va.toNat % 2 ^ s.cfg.paw) s := by
  unfold translate
  rw [bind_of_ok _ (check_off va write mode s h)]
  cases write <;> rfl

theorem translateSpan_off (va : Long) (n : Nat) (write : Bool) (mode : Nat) (s : State) (h : s.mm.mapen = false) :
    translateSpan va n write mode s = .ok (if n ≤ leftInPage va then ⟨va.toNat % 2 ^ s.cfg.paw, n, 0⟩
      else ⟨va.toNat % 2 ^ s.cfg.paw, leftInPage va,
        (va + BitVec.ofNat 32 (leftInPage va)).toNat % 2 ^ s.cfg.paw⟩) s := by
  unfold translateSpan
  dsimp only
  split
  next hn => rw [bind_of_ok _ (translate_off va write mode s h)]; rfl
  next hn =>
    have h1 : attempt (check va write mode) s = .ok (.ok ⟨va.toNat % 2 ^ s.cfg.paw, none⟩) s := by
      unfold attempt
      rw [check_off va write mode s h]
    have h2 : attempt (check (va + BitVec.ofNat 32 (leftInPage va)) write mode) s =
        .ok (.ok ⟨(va + BitVec.ofNat 32 (leftInPage va)).toNat % 2 ^ s.cfg.paw, none⟩) s := by
      unfold attempt
      rw [check_off _ write mode s h]
    rw [bind_of_ok _ h1]
    dsimp only
    rw [bind_of_ok _ h2]
    cases write <;> rfl

theorem memDest_off (va : Long) (n : Nat) (s : State) (h : s.mm.mapen = false) (hn : n ≤ leftInPage va) :
    memDest va n s = .ok ⟨va.toNat % 2 ^ s.cfg.paw, n, 0⟩ s := by
  unfold memDest
  rw [bind_of_ok _ (run_get s), translateSpan_off va n true s.cur s h, if_pos hn]

/-- A read within a page of main memory with mapping off. -/
theorem memRead_off (u : Use) (va : Long) (n : Nat) (s : State) (h : s.mm.mapen = false) (hn : n ≤ leftInPage va)
    (hd : s.during = []) (hr : place s (va.toNat % 2 ^ s.cfg.paw) = .ram) (hb : s.bad (va.toNat % 2 ^ s.cfg.paw) n = false)
    (he : s.eccDisabled (va.toNat % 2 ^ s.cfg.paw) = false) :
    memRead u va n s = .ok (s.ramValue (va.toNat % 2 ^ s.cfg.paw) n) s := by
  unfold memRead
  rw [bind_of_ok _ (run_get s), bind_of_ok _ (translateSpan_off va n false s.cur s h), if_pos hn]
  unfold readSpan
  rw [if_pos (Nat.le_refl _), physRead_ram u _ n s hd hr hb he]

/-! ### Operands -/

/-- A register operand is read without regard to the kind of reference. -/
theorem rdAs_reg (u : Use) (t : DT) (n : Reg) (s : State) (h : n.val + t.regs ≤ 15) :
    rdAs u t ⟨none, .reg n⟩ s = .ok ((s.setReg 15 (s.pc + 1)).regs4 n |>.setWidth _) (s.setReg 15 (s.pc + 1)) := by
  have hc : checkReg t n s = .ok ⟨⟩ s := by
    unfold checkReg
    rw [if_neg (by omega)]
    rfl
  show (do checkReg t n; adv 1; return ((← get).regs4 n).setWidth _ : M (BitVec t.bits)) s = _
  rw [bind_of_ok _ hc]
  rfl

theorem rd_reg (t : DT) (n : Reg) (s : State) (h : n.val + t.regs ≤ 15) :
    rd t ⟨none, .reg n⟩ s = .ok ((s.setReg 15 (s.pc + 1)).regs4 n |>.setWidth _) (s.setReg 15 (s.pc + 1)) :=
  rdAs_reg _ t n s h

theorem wr_reg (t : DT) (n : Reg) (s : State) (h : n.val + t.regs ≤ 15) :
    wr t ⟨none, .reg n⟩ s = .ok (.reg n) (s.setReg 15 (s.pc + 1)) := by
  have hc : checkReg t n s = .ok ⟨⟩ s := by
    unfold checkReg
    rw [if_neg (by omega)]
    rfl
  unfold wr wrAs
  dsimp only
  rw [bind_of_ok _ hc]
  rfl

theorem rd_lit (t : DT) (v : BitVec 6) (s : State) :
    rd t ⟨none, .lit v⟩ s = .ok ((litValue t v).setWidth _) (s.setReg 15 (s.pc + 1)) := rfl

theorem rd_imm (t : DT) (v : Octa) (s : State) :
    rd t ⟨none, .imm v⟩ s = .ok (v.setWidth _) (s.setReg 15 (s.pc + BitVec.ofNat 32 (1 + t.len))) := rfl

theorem store_reg (t : DT) (n : Reg) (v : BitVec t.bits) (s : State) : store t (.reg n) v s = .ok ⟨⟩ (s.putRegs t n v) := rfl

/-! ### Bit fields of a longword -/

theorem fieldMask_getLsbD (lo n i : Nat) (hi : i < 32) : (fieldMask lo n).getLsbD i = (decide (lo ≤ i) && decide (i < lo + n)) := by
  have ones : ∀ j, j < 32 → ((1#32 <<< n) - 1#32).getLsbD j = decide (j < n) := by
    intro j hj
    by_cases hn : n < 32
    · have : (1#32 <<< n) - 1#32 = BitVec.ofNat 32 (2 ^ n - 1) := by
        apply BitVec.eq_of_toNat_eq
        have hp : 2 ^ n < 2 ^ 32 := Nat.pow_lt_pow_right (by decide) hn
        have hpos : 0 < 2 ^ n := Nat.two_pow_pos n
        simp only [BitVec.toNat_sub, BitVec.toNat_shiftLeft, BitVec.toNat_ofNat, Nat.shiftLeft_eq]
        omega
      rw [this]
      rw [BitVec.getLsbD_ofNat, Nat.testBit_two_pow_sub_one]
      simp [hj]
    · have : (1#32 <<< n) = 0#32 := BitVec.shiftLeft_eq_zero (by omega)
      rw [this, show (0#32 - 1#32) = BitVec.allOnes 32 from rfl]
      rw [BitVec.getLsbD_allOnes, decide_eq_true hj, decide_eq_true (by omega : j < n)]
  unfold fieldMask
  rw [BitVec.getLsbD_shiftLeft]
  by_cases h : lo ≤ i
  · rw [ones (i - lo) (by omega)]
    have : (i - lo < n) = (i < lo + n) := by
      apply propext
      omega
    simp only [this, hi, h, decide_true, Bool.true_and, Nat.not_lt.mpr h, decide_false, Bool.not_false]
  · simp [hi, h]

/-- A bit of a longword after a field is replaced. -/
theorem putField_getLsbD (x v : Long) (lo n i : Nat) (hi : i < 32) :
    (putField x lo n v).getLsbD i = if lo ≤ i ∧ i < lo + n then v.getLsbD (i - lo) else x.getLsbD i := by
  unfold putField
  rw [BitVec.getLsbD_or, BitVec.getLsbD_and, BitVec.getLsbD_not, BitVec.getLsbD_and, BitVec.getLsbD_shiftLeft,
    fieldMask_getLsbD lo n i hi]
  by_cases h1 : lo ≤ i <;> by_cases h2 : i < lo + n <;> simp [h1, h2, hi]

/-- Replacing a field does not move another. -/
theorem field_putField_ne (x v : Long) (lo n a b : Nat) (h : a + b ≤ lo ∨ lo + n ≤ a) :
    field (putField x lo n v) a b = field x a b := by
  unfold field
  congr 1
  ext i hi
  rw [← BitVec.getLsbD_eq_getElem, ← BitVec.getLsbD_eq_getElem, BitVec.getLsbD_extractLsb', BitVec.getLsbD_extractLsb']
  by_cases hs : a + i < 32
  · rw [putField_getLsbD x v lo n (a + i) hs, if_neg (by omega)]
  · rw [BitVec.getLsbD_of_ge _ _ (by omega), BitVec.getLsbD_of_ge _ _ (by omega)]

/-- The replaced field. -/
theorem field_putField (x v : Long) (lo n : Nat) (h : lo + n ≤ 32) :
    field (putField x lo n v) lo n = field v 0 n := by
  unfold field
  congr 1
  ext i hi
  rw [← BitVec.getLsbD_eq_getElem, ← BitVec.getLsbD_eq_getElem, BitVec.getLsbD_extractLsb', BitVec.getLsbD_extractLsb',
    putField_getLsbD x v lo n (lo + i) (by omega), if_pos (by omega), Nat.add_sub_cancel_left, Nat.zero_add]

end Sys2Proof.Machine
end

