-- ==== Sys2Proof/Laws/Reads.lean ====
section
/-! SUPPORT. With mapping off and no memory in error, references that complete without reaching a device change nothing,
and depend neither on the general registers nor on the PSL beyond the current mode. -/
namespace Sys2Proof.Machine

/-- Mapping is off, no byte of memory is in error, under substituted check bits or in ECC Disable Mode, and no cycle of another
agent is to come inside an instruction. -/
def State.Calm (s : State) : Prop :=
  s.mm.mapen = false ∧ s.during = [] ∧ ∀ pa, s.eccDisabled pa = false ∧ ∀ n, s.bad pa n = false

/-- When `x` completes in a calm state it has changed nothing, and it completes alike with other registers and another PSL of
the same mode. -/
structure PureRead {α : Type} (x : M α) : Prop where
  same : ∀ s t a, s.Calm → x s = .ok a t → t = s
  other : ∀ s t a r psl, s.Calm → x s = .ok a t → field psl 24 2 = s.cur →
    x { s with r := r, psl := psl } = .ok a { s with r := r, psl := psl }

variable {α β : Type}

theorem State.Calm.with {s : State} (g : s.Calm) (r : Vector Long 16) (psl : Long) : State.Calm { s with r := r, psl := psl } := g

theorem PureRead.pure (a : α) : PureRead (Pure.pure a : M α) :=
  ⟨fun _ _ _ _ e => by cases e; rfl, fun _ _ _ _ _ _ e _ => by cases e; rfl⟩

theorem PureRead.bind {x : M α} {f : α → M β} (hx : PureRead x) (hf : ∀ a, PureRead (f a)) : PureRead (x >>= f) := by
  constructor
  · intro s t b g e
    obtain ⟨a, u, h1, h2⟩ := bind_ok e
    have := hx.same _ _ _ g h1
    subst this
    exact (hf a).same _ _ _ g h2
  · intro s t b r psl g e hc
    obtain ⟨a, u, h1, h2⟩ := bind_ok e
    have := hx.same _ _ _ g h1
    subst this
    rw [bind_of_ok _ (hx.other _ _ _ r psl g h1 hc)]
    exact (hf a).other _ _ _ r psl g h2 hc

/-- An action that looks at the state and uses only what registers and PSL do not change. -/
theorem PureRead.get {f : State → M α} (hf : ∀ s, PureRead (f s))
    (hs : ∀ s r psl, field psl 24 2 = s.cur → f { s with r := r, psl := psl } = f s) :
    PureRead (MonadState.get >>= f) := by
  constructor
  · intro s t a g e
    exact (hf s).same s t a g e
  · intro s t a r psl g e hc
    show f { s with r := r, psl := psl } { s with r := r, psl := psl } = _
    rw [hs s r psl hc]
    exact (hf s).other s t a r psl g e hc

theorem PureRead.of_never {x : M α} (h : ∀ s t a, x s ≠ .ok a t) : PureRead x :=
  ⟨fun s t a _ e => absurd e (h s t a), fun s t a _ _ _ e => absurd e (h s t a)⟩
theorem PureRead.refuse (e : Refusal) : PureRead (refuse e : M α) := PureRead.of_never fun _ _ _ h => by cases h

/-- An action that a calm state answers without a change, with a value that registers and PSL do not enter. -/
theorem PureRead.of_ok {x : M α} (v : State → α) (h : ∀ s, s.Calm → x s = .ok (v s) s)
    (hv : ∀ s r psl, field psl 24 2 = s.cur → v { s with r := r, psl := psl } = v s) : PureRead x := by
  constructor
  · intro s t a g e
    rw [h s g] at e
    injection e with _ h
    exact h.symm
  · intro s t a r psl g e hc
    rw [h s g] at e
    injection e with e1 _
    rw [h _ (g.with r psl), hv s r psl hc, e1]

/-- An action that in a calm state is another one. -/
theorem PureRead.congr {x y : M α} (h : ∀ s, s.Calm → x s = y s) (hy : PureRead y) : PureRead x := by
  constructor
  · intro s t a g e
    rw [h s g] at e
    exact hy.same s t a g e
  · intro s t a r psl g e hc
    rw [h s g] at e
    rw [h _ (g.with r psl)]
    exact hy.other s t a r psl g e hc

theorem machineCheck_never (s t : State) (a : α) : machineCheck s ≠ .ok a t := by
  intro e
  unfold machineCheck at e
  obtain ⟨u, s1, _, h⟩ := bind_ok e
  obtain ⟨u2, s2, _, h2⟩ := bind_ok h
  cases h2

/-- A bus error never completes. -/
theorem busReadError_never (k : Nat) (s t : State) (a : α) : busReadError k s ≠ .ok a t := by
  intro e
  unfold Machine.busReadError at e
  dsimp only at e
  obtain ⟨u, s1, _, h⟩ := bind_ok e
  split at h
  · obtain ⟨u2, s2, _, h2⟩ := bind_ok h
    exact machineCheck_never _ _ _ h2
  · exact machineCheck_never _ _ _ h

theorem PureRead.busReadError (k : Nat) : PureRead (busReadError k : M α) := PureRead.of_never (busReadError_never k)

theorem PureRead.ramRead (pa n : Nat) : PureRead (ramRead pa n) :=
  PureRead.of_ok (fun s => s.ramValue pa n) (fun s g => ramRead_good pa n s ((g.2.2 pa).2 n) (g.2.2 pa).1) fun _ _ _ _ => rfl

theorem PureRead.physReadPart (pa n : Nat) : PureRead (physReadPart .other pa n) := by
  unfold Machine.physReadPart
  refine PureRead.get (fun s => ?_) (fun s r psl _ => rfl)
  split
  · exact PureRead.ramRead _ _
  · rename_i d _
    rw [if_neg (by cases d <;> exact Bool.false_ne_true)]
    exact PureRead.refuse _
  · exact PureRead.busReadError _

theorem PureRead.physReadWhole (pa n : Nat) : PureRead (physReadWhole .other pa n) := by
  unfold Machine.physReadWhole
  refine PureRead.get (fun s => ?_) (fun s r psl _ => rfl)
  split
  · exact PureRead.bind (PureRead.physReadPart _ _) fun _ => PureRead.bind (PureRead.physReadPart _ _) fun _ => PureRead.pure _
  · exact PureRead.physReadPart _ _

theorem PureRead.physRead (pa n : Nat) : PureRead (physRead .other pa n) :=
  PureRead.congr (fun s g => physRead_idle _ _ _ s g.2.1) (PureRead.physReadWhole pa n)

theorem PureRead.translateSpan (va : Long) (n mode : Nat) : PureRead (translateSpan va n false mode) :=
  PureRead.of_ok _ (fun s g => translateSpan_off va n false mode s g.1) fun _ _ _ _ => rfl

theorem PureRead.noSplitDevice (sp : Span) : PureRead (noSplitDevice .other sp) := by
  unfold Machine.noSplitDevice
  refine PureRead.get (fun s => ?_) (fun s r psl _ => rfl)
  split
  · exact PureRead.pure _
  · exact PureRead.pure _

theorem PureRead.readSpan (sp : Span) (n : Nat) : PureRead (readSpan .other sp n) := by
  by_cases hn : n ≤ sp.k
  · have : Machine.readSpan .other sp n = Machine.physRead .other sp.a0 n := by
      unfold Machine.readSpan
      rw [if_pos hn]
    rw [this]
    exact PureRead.physRead _ _
  · refine PureRead.congr (fun s g => readSpan_idle .other sp n s g.2.1 hn) ?_
    exact PureRead.bind (PureRead.noSplitDevice _) fun _ => PureRead.bind (PureRead.physReadWhole _ _) fun _ =>
      PureRead.bind (PureRead.physReadWhole _ _) fun _ => PureRead.pure _

theorem PureRead.readLongsUp (sp : Span) (k n : Nat) : PureRead (readLongsUp sp k n) := by
  induction n generalizing k with
  | zero => exact PureRead.pure _
  | succ n ih => exact PureRead.bind (PureRead.readSpan _ _) fun _ => PureRead.bind (ih _) fun _ => PureRead.pure _

/-- A read that may not reach I/O space. -/
theorem PureRead.memRead (va : Long) (n : Nat) : PureRead (memRead .other va n) := by
  unfold Machine.memRead
  refine PureRead.get (fun s => PureRead.bind (PureRead.translateSpan _ _ _) fun _ => PureRead.readSpan _ _) (fun s r psl h => ?_)
  show (Machine.translateSpan va n false (field psl 24 2) >>= _) = _
  rw [h]

theorem PureRead.readLong (va : Long) : PureRead (readLong va) := PureRead.bind (PureRead.memRead _ _) fun _ => PureRead.pure _
theorem PureRead.readByte (va : Long) : PureRead (readByte va) := PureRead.bind (PureRead.memRead _ _) fun _ => PureRead.pure _

end Sys2Proof.Machine
end

