-- ==== Sys2Proof/Tests/Slice0.lean ====
section
/-! SUPPORT. Tests: ill-formed terms that WellFormed refuses, words that decode to their instructions, one-step runs of the worked
vectors of 95_test_vectors.md, and for every statement with hypotheses a state and operands that meet them. -/
namespace Sys2Proof.Tests

open Sys2Proof Sys2Proof.Machine

set_option Elab.async false
set_option linter.unusedVariables false

/-! ### Helpers -/

def lit (n : BitVec 6) : Opnd := ⟨none, .lit n⟩
def reg (n : Reg) : Opnd := ⟨none, .reg n⟩
def ind (n : Reg) : Opnd := ⟨none, .regDef n⟩
def mem (a : Long) : Opnd := ⟨none, .absolute a⟩
def imm (v : Octa) : Opnd := ⟨none, .imm v⟩

/-- A small state: registers and bytes of memory, the SCB at 600, a V780 with one memory controller. -/
def st (c : Cpu) (psl : Long) (r : List (Reg × Long)) (bs : List (Nat × Byte)) : State :=
  { r.foldl (fun s p => s.setReg p.1 p.2)
      (State.resetWith { Config.standard with cpu := c, memCtlUnits := [16], nexus := [(1, .memory 0)] }) with
    psl := psl, scbb := 0x600, mem := bs }

/-- The step completes and its next state satisfies `f`. -/
def after (o : Host.Outcome State Fault Refusal) (f : State → Bool) : Bool :=
  match o with
  | .next t => f t
  | _ => false

/-- Bytes from an address on. -/
def State.at (t : State) (a : Nat) (bs : List Byte) : Bool := bs.zipIdx.all fun p => t.byte (a + p.2) == p.1

/-- The condition codes as PSL<3:0>. -/
def cc (t : State) : Nat := field t.psl 0 4

/-! ### Well-formedness: one ill-formed term for each check -/

theorem test_wf_refuses_literal_as_destination : (.movl (reg 0) (lit 5) : Instr).wellFormed = false := by decide
theorem test_wf_refuses_index_specifier_alone : (.movl ⟨none, .index 2⟩ (reg 0) : Instr).wellFormed = false := by decide
theorem test_wf_refuses_register_for_an_address : (.moval (reg 1) (reg 0) : Instr).wellFormed = false := by decide
theorem test_wf_refuses_quadword_past_r14 : (.movq (reg 14) (reg 0) : Instr).wellFormed = false := by decide
theorem test_wf_refuses_register_pc : (.movl (reg 15) (reg 0) : Instr).wellFormed = false := by decide
theorem test_wf_refuses_pc_deferred : (.movl ⟨none, .regDef 15⟩ (reg 0) : Instr).wellFormed = false := by decide
theorem test_wf_refuses_pc_autodecrement : (.movl ⟨none, .autoDec 15⟩ (reg 0) : Instr).wellFormed = false := by decide
theorem test_wf_refuses_pc_autoincrement_by_register : (.movl ⟨none, .autoInc 15⟩ (reg 0) : Instr).wellFormed = false := by decide
theorem test_wf_refuses_pc_autoincrement_deferred_by_register : (.movl ⟨none, .autoIncDef 15⟩ (reg 0) : Instr).wellFormed = false := by decide
theorem test_wf_refuses_immediate_as_destination : (.movl (reg 0) (imm 5) : Instr).wellFormed = false := by decide
theorem test_wf_refuses_immediate_modified : (.addl2 (reg 0) (imm 5) : Instr).wellFormed = false := by decide
theorem test_wf_refuses_immediate_too_wide : (.movb (imm 0x100) (reg 0) : Instr).wellFormed = false := by decide
theorem test_wf_refuses_index_register_pc : (.movl ⟨some 15, .regDef 1⟩ (reg 0) : Instr).wellFormed = false := by decide
theorem test_wf_refuses_indexed_literal : (.movl ⟨some 1, .lit 5⟩ (reg 0) : Instr).wellFormed = false := by decide
theorem test_wf_refuses_indexed_index : (.movl ⟨some 1, .index 2⟩ (reg 0) : Instr).wellFormed = false := by decide
theorem test_wf_refuses_indexed_register : (.movl ⟨some 1, .reg 2⟩ (reg 0) : Instr).wellFormed = false := by decide
theorem test_wf_refuses_indexed_immediate : (.movl ⟨some 1, .imm 5⟩ (reg 0) : Instr).wellFormed = false := by decide
theorem test_wf_refuses_index_register_stepped_by_base : (.movl ⟨some 1, .autoInc 1⟩ (reg 0) : Instr).wellFormed = false := by decide
theorem test_wf_refuses_index_register_decremented_by_base : (.movl ⟨some 1, .autoDec 1⟩ (reg 0) : Instr).wellFormed = false := by decide
theorem test_wf_refuses_indexed_pc_deferred : (.movl ⟨some 1, .regDef 15⟩ (reg 0) : Instr).wellFormed = false := by decide
theorem test_wf_accepts_lit_and_autoinc : (.movl (lit 5) ⟨some 1, .autoInc 2⟩ : Instr).wellFormed = true := by decide
theorem test_wf_accepts_quad_in_r13 : (.movq (imm 5) (reg 13) : Instr).wellFormed = true := by decide

/-! ### Decoding: a word written out for every constructor, opcode first (30_encoding.md R430, R432) -/

theorem test_decode_0 :
    (decode (streamOf [0x00]) = .ok (.halt) 1)
    ∧ (decode (streamOf [0x01]) = .ok (.nop) 1)
    ∧ (decode (streamOf [0x02]) = .ok (.rei) 1)
    ∧ (decode (streamOf [0x03]) = .ok (.bpt) 1)
    ∧ (decode (streamOf [0x04]) = .ok (.ret) 1)
    ∧ (decode (streamOf [0x05]) = .ok (.rsb) 1)
    ∧ (decode (streamOf [0x06]) = .ok (.ldpctx) 1)
    ∧ (decode (streamOf [0x07]) = .ok (.svpctx) 1)
    ∧ (decode (streamOf [0x08, 0x51, 0x62, 0x53, 0x64]) = .ok (.cvtps (reg 1) (ind 2) (reg 3) (ind 4)) 5)
    ∧ (decode (streamOf [0x09, 0x51, 0x62, 0x53, 0x64]) = .ok (.cvtsp (reg 1) (ind 2) (reg 3) (ind 4)) 5)
    ∧ (decode (streamOf [0x0A, 0x51, 0x52, 0x53, 0x54, 0x55, 0x56]) = .ok (.index (reg 1) (reg 2) (reg 3) (reg 4) (reg 5) (reg 6)) 7)
    ∧ (decode (streamOf [0x0B, 0x61, 0x52, 0x53, 0x64]) = .ok (.crc (ind 1) (reg 2) (reg 3) (ind 4)) 5)
    ∧ (decode (streamOf [0x0C, 0x51, 0x52, 0x63]) = .ok (.prober (reg 1) (reg 2) (ind 3)) 4)
    ∧ (decode (streamOf [0x0D, 0x51, 0x52, 0x63]) = .ok (.probew (reg 1) (reg 2) (ind 3)) 4)
    ∧ (decode (streamOf [0x0E, 0x61, 0x62]) = .ok (.insque (ind 1) (ind 2)) 3)
    ∧ (decode (streamOf [0x0F, 0x61, 0x52]) = .ok (.remque (ind 1) (reg 2)) 3)
    ∧ (decode (streamOf [0x10, 0xFE]) = .ok (.bsbb 0xFE) 2)
    ∧ (decode (streamOf [0x11, 0xFE]) = .ok (.brb 0xFE) 2)
    ∧ (decode (streamOf [0x12, 0xFE]) = .ok (.bneq 0xFE) 2)
    ∧ (decode (streamOf [0x13, 0xFE]) = .ok (.beql 0xFE) 2) :=
  ⟨rfl, rfl, rfl, rfl, rfl, rfl, rfl, rfl, rfl, rfl, rfl, rfl, rfl, rfl, rfl, rfl, rfl, rfl, rfl, rfl⟩
theorem test_decode_1 :
    (decode (streamOf [0x14, 0xFE]) = .ok (.bgtr 0xFE) 2)
    ∧ (decode (streamOf [0x15, 0xFE]) = .ok (.bleq 0xFE) 2)
    ∧ (decode (streamOf [0x16, 0x61]) = .ok (.jsb (ind 1)) 2)
    ∧ (decode (streamOf [0x17, 0x61]) = .ok (.jmp (ind 1)) 2)
    ∧ (decode (streamOf [0x18, 0xFE]) = .ok (.bgeq 0xFE) 2)
    ∧ (decode (streamOf [0x19, 0xFE]) = .ok (.blss 0xFE) 2)
    ∧ (decode (streamOf [0x1A, 0xFE]) = .ok (.bgtru 0xFE) 2)
    ∧ (decode (streamOf [0x1B, 0xFE]) = .ok (.blequ 0xFE) 2)
    ∧ (decode (streamOf [0x1C, 0xFE]) = .ok (.bvc 0xFE) 2)
    ∧ (decode (streamOf [0x1D, 0xFE]) = .ok (.bvs 0xFE) 2)
    ∧ (decode (streamOf [0x1E, 0xFE]) = .ok (.bcc 0xFE) 2)
    ∧ (decode (streamOf [0x1F, 0xFE]) = .ok (.bcs 0xFE) 2)
    ∧ (decode (streamOf [0x20, 0x51, 0x62, 0x53, 0x64]) = .ok (.addp4 (reg 1) (ind 2) (reg 3) (ind 4)) 5)
    ∧ (decode (streamOf [0x21, 0x51, 0x62, 0x53, 0x64, 0x55, 0x66]) = .ok (.addp6 (reg 1) (ind 2) (reg 3) (ind 4) (reg 5) (ind 6)) 7)
    ∧ (decode (streamOf [0x22, 0x51, 0x62, 0x53, 0x64]) = .ok (.subp4 (reg 1) (ind 2) (reg 3) (ind 4)) 5)
    ∧ (decode (streamOf [0x23, 0x51, 0x62, 0x53, 0x64, 0x55, 0x66]) = .ok (.subp6 (reg 1) (ind 2) (reg 3) (ind 4) (reg 5) (ind 6)) 7)
    ∧ (decode (streamOf [0x24, 0x51, 0x62, 0x63, 0x54, 0x65]) = .ok (.cvtpt (reg 1) (ind 2) (ind 3) (reg 4) (ind 5)) 6)
    ∧ (decode (streamOf [0x25, 0x51, 0x62, 0x53, 0x64, 0x55, 0x66]) = .ok (.mulp (reg 1) (ind 2) (reg 3) (ind 4) (reg 5) (ind 6)) 7)
    ∧ (decode (streamOf [0x26, 0x51, 0x62, 0x63, 0x54, 0x65]) = .ok (.cvttp (reg 1) (ind 2) (ind 3) (reg 4) (ind 5)) 6)
    ∧ (decode (streamOf [0x27, 0x51, 0x62, 0x53, 0x64, 0x55, 0x66]) = .ok (.divp (reg 1) (ind 2) (reg 3) (ind 4) (reg 5) (ind 6)) 7) :=
  ⟨rfl, rfl, rfl, rfl, rfl, rfl, rfl, rfl, rfl, rfl, rfl, rfl, rfl, rfl, rfl, rfl, rfl, rfl, rfl, rfl⟩
theorem test_decode_2 :
    (decode (streamOf [0x28, 0x51, 0x62, 0x63]) = .ok (.movc3 (reg 1) (ind 2) (ind 3)) 4)
    ∧ (decode (streamOf [0x29, 0x51, 0x62, 0x63]) = .ok (.cmpc3 (reg 1) (ind 2) (ind 3)) 4)
    ∧ (decode (streamOf [0x2A, 0x51, 0x62, 0x63, 0x54]) = .ok (.scanc (reg 1) (ind 2) (ind 3) (reg 4)) 5)
    ∧ (decode (streamOf [0x2B, 0x51, 0x62, 0x63, 0x54]) = .ok (.spanc (reg 1) (ind 2) (ind 3) (reg 4)) 5)
    ∧ (decode (streamOf [0x2C, 0x51, 0x62, 0x53, 0x54, 0x65]) = .ok (.movc5 (reg 1) (ind 2) (reg 3) (reg 4) (ind 5)) 6)
    ∧ (decode (streamOf [0x2D, 0x51, 0x62, 0x53, 0x54, 0x65]) = .ok (.cmpc5 (reg 1) (ind 2) (reg 3) (reg 4) (ind 5)) 6)
    ∧ (decode (streamOf [0x2E, 0x51, 0x62, 0x53, 0x64, 0x55, 0x66]) = .ok (.movtc (reg 1) (ind 2) (reg 3) (ind 4) (reg 5) (ind 6)) 7)
    ∧ (decode (streamOf [0x2F, 0x51, 0x62, 0x53, 0x64, 0x55, 0x66]) = .ok (.movtuc (reg 1) (ind 2) (reg 3) (ind 4) (reg 5) (ind 6)) 7)
    ∧ (decode (streamOf [0x30, 0xFD, 0x7F]) = .ok (.bsbw 0x7FFD) 3)
    ∧ (decode (streamOf [0x31, 0xFD, 0x7F]) = .ok (.brw 0x7FFD) 3)
    ∧ (decode (streamOf [0x32, 0x51, 0x52]) = .ok (.cvtwl (reg 1) (reg 2)) 3)
    ∧ (decode (streamOf [0x33, 0x51, 0x52]) = .ok (.cvtwb (reg 1) (reg 2)) 3)
    ∧ (decode (streamOf [0x34, 0x51, 0x62, 0x63]) = .ok (.movp (reg 1) (ind 2) (ind 3)) 4)
    ∧ (decode (streamOf [0x35, 0x51, 0x62, 0x63]) = .ok (.cmpp3 (reg 1) (ind 2) (ind 3)) 4)
    ∧ (decode (streamOf [0x36, 0x51, 0x62, 0x53]) = .ok (.cvtpl (reg 1) (ind 2) (reg 3)) 4)
    ∧ (decode (streamOf [0x37, 0x51, 0x62, 0x53, 0x64]) = .ok (.cmpp4 (reg 1) (ind 2) (reg 3) (ind 4)) 5)
    ∧ (decode (streamOf [0x38, 0x51, 0x62, 0x63, 0x64]) = .ok (.editpc (reg 1) (ind 2) (ind 3) (ind 4)) 5)
    ∧ (decode (streamOf [0x39, 0x51, 0x62, 0x53, 0x64]) = .ok (.matchc (reg 1) (ind 2) (reg 3) (ind 4)) 5)
    ∧ (decode (streamOf [0x3A, 0x51, 0x52, 0x63]) = .ok (.locc (reg 1) (reg 2) (ind 3)) 4)
    ∧ (decode (streamOf [0x3B, 0x51, 0x52, 0x63]) = .ok (.skpc (reg 1) (reg 2) (ind 3)) 4) :=
  ⟨rfl, rfl, rfl, rfl, rfl, rfl, rfl, rfl, rfl, rfl, rfl, rfl, rfl, rfl, rfl, rfl, rfl, rfl, rfl, rfl⟩
theorem test_decode_3 :
    (decode (streamOf [0x3C, 0x51, 0x52]) = .ok (.movzwl (reg 1) (reg 2)) 3)
    ∧ (decode (streamOf [0x3D, 0x51, 0x52, 0x53, 0xFD, 0x7F]) = .ok (.acbw (reg 1) (reg 2) (reg 3) 0x7FFD) 6)
    ∧ (decode (streamOf [0x3E, 0x61, 0x52]) = .ok (.movaw (ind 1) (reg 2)) 3)
    ∧ (decode (streamOf [0x3F, 0x61]) = .ok (.pushaw (ind 1)) 2)
    ∧ (decode (streamOf [0x40, 0x51, 0x52]) = .ok (.addf2 (reg 1) (reg 2)) 3)
    ∧ (decode (streamOf [0x41, 0x51, 0x52, 0x53]) = .ok (.addf3 (reg 1) (reg 2) (reg 3)) 4)
    ∧ (decode (streamOf [0x42, 0x51, 0x52]) = .ok (.subf2 (reg 1) (reg 2)) 3)
    ∧ (decode (streamOf [0x43, 0x51, 0x52, 0x53]) = .ok (.subf3 (reg 1) (reg 2) (reg 3)) 4)
    ∧ (decode (streamOf [0x44, 0x51, 0x52]) = .ok (.mulf2 (reg 1) (reg 2)) 3)
    ∧ (decode (streamOf [0x45, 0x51, 0x52, 0x53]) = .ok (.mulf3 (reg 1) (reg 2) (reg 3)) 4)
    ∧ (decode (streamOf [0x46, 0x51, 0x52]) = .ok (.divf2 (reg 1) (reg 2)) 3)
    ∧ (decode (streamOf [0x47, 0x51, 0x52, 0x53]) = .ok (.divf3 (reg 1) (reg 2) (reg 3)) 4)
    ∧ (decode (streamOf [0x48, 0x51, 0x52]) = .ok (.cvtfb (reg 1) (reg 2)) 3)
    ∧ (decode (streamOf [0x49, 0x51, 0x52]) = .ok (.cvtfw (reg 1) (reg 2)) 3)
    ∧ (decode (streamOf [0x4A, 0x51, 0x52]) = .ok (.cvtfl (reg 1) (reg 2)) 3)
    ∧ (decode (streamOf [0x4B, 0x51, 0x52]) = .ok (.cvtrfl (reg 1) (reg 2)) 3)
    ∧ (decode (streamOf [0x4C, 0x51, 0x52]) = .ok (.cvtbf (reg 1) (reg 2)) 3)
    ∧ (decode (streamOf [0x4D, 0x51, 0x52]) = .ok (.cvtwf (reg 1) (reg 2)) 3)
    ∧ (decode (streamOf [0x4E, 0x51, 0x52]) = .ok (.cvtlf (reg 1) (reg 2)) 3)
    ∧ (decode (streamOf [0x4F, 0x51, 0x52, 0x53, 0xFD, 0x7F]) = .ok (.acbf (reg 1) (reg 2) (reg 3) 0x7FFD) 6) :=
  ⟨rfl, rfl, rfl, rfl, rfl, rfl, rfl, rfl, rfl, rfl, rfl, rfl, rfl, rfl, rfl, rfl, rfl, rfl, rfl, rfl⟩
theorem test_decode_4 :
    (decode (streamOf [0x50, 0x51, 0x52]) = .ok (.movf (reg 1) (reg 2)) 3)
    ∧ (decode (streamOf [0x51, 0x51, 0x52]) = .ok (.cmpf (reg 1) (reg 2)) 3)
    ∧ (decode (streamOf [0x52, 0x51, 0x52]) = .ok (.mnegf (reg 1) (reg 2)) 3)
    ∧ (decode (streamOf [0x53, 0x51]) = .ok (.tstf (reg 1)) 2)
    ∧ (decode (streamOf [0x54, 0x51, 0x52, 0x53, 0x54, 0x55]) = .ok (.emodf (reg 1) (reg 2) (reg 3) (reg 4) (reg 5)) 6)
    ∧ (decode (streamOf [0x55, 0x51, 0x52, 0x63]) = .ok (.polyf (reg 1) (reg 2) (ind 3)) 4)
    ∧ (decode (streamOf [0x56, 0x51, 0x52]) = .ok (.cvtfd (reg 1) (reg 2)) 3)
    ∧ (decode (streamOf [0x58, 0x51, 0x52]) = .ok (.adawi (reg 1) (reg 2)) 3)
    ∧ (decode (streamOf [0x5C, 0x61, 0x62]) = .ok (.insqhi (ind 1) (ind 2)) 3)
    ∧ (decode (streamOf [0x5D, 0x61, 0x62]) = .ok (.insqti (ind 1) (ind 2)) 3)
    ∧ (decode (streamOf [0x5E, 0x61, 0x52]) = .ok (.remqhi (ind 1) (reg 2)) 3)
    ∧ (decode (streamOf [0x5F, 0x61, 0x52]) = .ok (.remqti (ind 1) (reg 2)) 3)
    ∧ (decode (streamOf [0x60, 0x51, 0x52]) = .ok (.addd2 (reg 1) (reg 2)) 3)
    ∧ (decode (streamOf [0x61, 0x51, 0x52, 0x53]) = .ok (.addd3 (reg 1) (reg 2) (reg 3)) 4)
    ∧ (decode (streamOf [0x62, 0x51, 0x52]) = .ok (.subd2 (reg 1) (reg 2)) 3)
    ∧ (decode (streamOf [0x63, 0x51, 0x52, 0x53]) = .ok (.subd3 (reg 1) (reg 2) (reg 3)) 4)
    ∧ (decode (streamOf [0x64, 0x51, 0x52]) = .ok (.muld2 (reg 1) (reg 2)) 3)
    ∧ (decode (streamOf [0x65, 0x51, 0x52, 0x53]) = .ok (.muld3 (reg 1) (reg 2) (reg 3)) 4)
    ∧ (decode (streamOf [0x66, 0x51, 0x52]) = .ok (.divd2 (reg 1) (reg 2)) 3)
    ∧ (decode (streamOf [0x67, 0x51, 0x52, 0x53]) = .ok (.divd3 (reg 1) (reg 2) (reg 3)) 4) :=
  ⟨rfl, rfl, rfl, rfl, rfl, rfl, rfl, rfl, rfl, rfl, rfl, rfl, rfl, rfl, rfl, rfl, rfl, rfl, rfl, rfl⟩
theorem test_decode_5 :
    (decode (streamOf [0x68, 0x51, 0x52]) = .ok (.cvtdb (reg 1) (reg 2)) 3)
    ∧ (decode (streamOf [0x69, 0x51, 0x52]) = .ok (.cvtdw (reg 1) (reg 2)) 3)
    ∧ (decode (streamOf [0x6A, 0x51, 0x52]) = .ok (.cvtdl (reg 1) (reg 2)) 3)
    ∧ (decode (streamOf [0x6B, 0x51, 0x52]) = .ok (.cvtrdl (reg 1) (reg 2)) 3)
    ∧ (decode (streamOf [0x6C, 0x51, 0x52]) = .ok (.cvtbd (reg 1) (reg 2)) 3)
    ∧ (decode (streamOf [0x6D, 0x51, 0x52]) = .ok (.cvtwd (reg 1) (reg 2)) 3)
    ∧ (decode (streamOf [0x6E, 0x51, 0x52]) = .ok (.cvtld (reg 1) (reg 2)) 3)
    ∧ (decode (streamOf [0x6F, 0x51, 0x52, 0x53, 0xFD, 0x7F]) = .ok (.acbd (reg 1) (reg 2) (reg 3) 0x7FFD) 6)
    ∧ (decode (streamOf [0x70, 0x51, 0x52]) = .ok (.movd (reg 1) (reg 2)) 3)
    ∧ (decode (streamOf [0x71, 0x51, 0x52]) = .ok (.cmpd (reg 1) (reg 2)) 3)
    ∧ (decode (streamOf [0x72, 0x51, 0x52]) = .ok (.mnegd (reg 1) (reg 2)) 3)
    ∧ (decode (streamOf [0x73, 0x51]) = .ok (.tstd (reg 1)) 2)
    ∧ (decode (streamOf [0x74, 0x51, 0x52, 0x53, 0x54, 0x55]) = .ok (.emodd (reg 1) (reg 2) (reg 3) (reg 4) (reg 5)) 6)
    ∧ (decode (streamOf [0x75, 0x51, 0x52, 0x63]) = .ok (.polyd (reg 1) (reg 2) (ind 3)) 4)
    ∧ (decode (streamOf [0x76, 0x51, 0x52]) = .ok (.cvtdf (reg 1) (reg 2)) 3)
    ∧ (decode (streamOf [0x78, 0x51, 0x52, 0x53]) = .ok (.ashl (reg 1) (reg 2) (reg 3)) 4)
    ∧ (decode (streamOf [0x79, 0x51, 0x52, 0x53]) = .ok (.ashq (reg 1) (reg 2) (reg 3)) 4)
    ∧ (decode (streamOf [0x7A, 0x51, 0x52, 0x53, 0x54]) = .ok (.emul (reg 1) (reg 2) (reg 3) (reg 4)) 5)
    ∧ (decode (streamOf [0x7B, 0x51, 0x52, 0x53, 0x54]) = .ok (.ediv (reg 1) (reg 2) (reg 3) (reg 4)) 5)
    ∧ (decode (streamOf [0x7C, 0x51]) = .ok (.clrq (reg 1)) 2) :=
  ⟨rfl, rfl, rfl, rfl, rfl, rfl, rfl, rfl, rfl, rfl, rfl, rfl, rfl, rfl, rfl, rfl, rfl, rfl, rfl, rfl⟩
theorem test_decode_6 :
    (decode (streamOf [0x7D, 0x51, 0x52]) = .ok (.movq (reg 1) (reg 2)) 3)
    ∧ (decode (streamOf [0x7E, 0x61, 0x52]) = .ok (.movaq (ind 1) (reg 2)) 3)
    ∧ (decode (streamOf [0x7F, 0x61]) = .ok (.pushaq (ind 1)) 2)
    ∧ (decode (streamOf [0x80, 0x51, 0x52]) = .ok (.addb2 (reg 1) (reg 2)) 3)
    ∧ (decode (streamOf [0x81, 0x51, 0x52, 0x53]) = .ok (.addb3 (reg 1) (reg 2) (reg 3)) 4)
    ∧ (decode (streamOf [0x82, 0x51, 0x52]) = .ok (.subb2 (reg 1) (reg 2)) 3)
    ∧ (decode (streamOf [0x83, 0x51, 0x52, 0x53]) = .ok (.subb3 (reg 1) (reg 2) (reg 3)) 4)
    ∧ (decode (streamOf [0x84, 0x51, 0x52]) = .ok (.mulb2 (reg 1) (reg 2)) 3)
    ∧ (decode (streamOf [0x85, 0x51, 0x52, 0x53]) = .ok (.mulb3 (reg 1) (reg 2) (reg 3)) 4)
    ∧ (decode (streamOf [0x86, 0x51, 0x52]) = .ok (.divb2 (reg 1) (reg 2)) 3)
    ∧ (decode (streamOf [0x87, 0x51, 0x52, 0x53]) = .ok (.divb3 (reg 1) (reg 2) (reg 3)) 4)
    ∧ (decode (streamOf [0x88, 0x51, 0x52]) = .ok (.bisb2 (reg 1) (reg 2)) 3)
    ∧ (decode (streamOf [0x89, 0x51, 0x52, 0x53]) = .ok (.bisb3 (reg 1) (reg 2) (reg 3)) 4)
    ∧ (decode (streamOf [0x8A, 0x51, 0x52]) = .ok (.bicb2 (reg 1) (reg 2)) 3)
    ∧ (decode (streamOf [0x8B, 0x51, 0x52, 0x53]) = .ok (.bicb3 (reg 1) (reg 2) (reg 3)) 4)
    ∧ (decode (streamOf [0x8C, 0x51, 0x52]) = .ok (.xorb2 (reg 1) (reg 2)) 3)
    ∧ (decode (streamOf [0x8D, 0x51, 0x52, 0x53]) = .ok (.xorb3 (reg 1) (reg 2) (reg 3)) 4)
    ∧ (decode (streamOf [0x8E, 0x51, 0x52]) = .ok (.mnegb (reg 1) (reg 2)) 3)
    ∧ (decode (streamOf [0x8F, 0x51, 0x52, 0x53]) = .ok (.caseb (reg 1) (reg 2) (reg 3)) 4)
    ∧ (decode (streamOf [0x90, 0x51, 0x52]) = .ok (.movb (reg 1) (reg 2)) 3) :=
  ⟨rfl, rfl, rfl, rfl, rfl, rfl, rfl, rfl, rfl, rfl, rfl, rfl, rfl, rfl, rfl, rfl, rfl, rfl, rfl, rfl⟩
theorem test_decode_7 :
    (decode (streamOf [0x91, 0x51, 0x52]) = .ok (.cmpb (reg 1) (reg 2)) 3)
    ∧ (decode (streamOf [0x92, 0x51, 0x52]) = .ok (.mcomb (reg 1) (reg 2)) 3)
    ∧ (decode (streamOf [0x93, 0x51, 0x52]) = .ok (.bitb (reg 1) (reg 2)) 3)
    ∧ (decode (streamOf [0x94, 0x51]) = .ok (.clrb (reg 1)) 2)
    ∧ (decode (streamOf [0x95, 0x51]) = .ok (.tstb (reg 1)) 2)
    ∧ (decode (streamOf [0x96, 0x51]) = .ok (.incb (reg 1)) 2)
    ∧ (decode (streamOf [0x97, 0x51]) = .ok (.decb (reg 1)) 2)
    ∧ (decode (streamOf [0x98, 0x51, 0x52]) = .ok (.cvtbl (reg 1) (reg 2)) 3)
    ∧ (decode (streamOf [0x99, 0x51, 0x52]) = .ok (.cvtbw (reg 1) (reg 2)) 3)
    ∧ (decode (streamOf [0x9A, 0x51, 0x52]) = .ok (.movzbl (reg 1) (reg 2)) 3)
    ∧ (decode (streamOf [0x9B, 0x51, 0x52]) = .ok (.movzbw (reg 1) (reg 2)) 3)
    ∧ (decode (streamOf [0x9C, 0x51, 0x52, 0x53]) = .ok (.rotl (reg 1) (reg 2) (reg 3)) 4)
    ∧ (decode (streamOf [0x9D, 0x51, 0x52, 0x53, 0xFD, 0x7F]) = .ok (.acbb (reg 1) (reg 2) (reg 3) 0x7FFD) 6)
    ∧ (decode (streamOf [0x9E, 0x61, 0x52]) = .ok (.movab (ind 1) (reg 2)) 3)
    ∧ (decode (streamOf [0x9F, 0x61]) = .ok (.pushab (ind 1)) 2)
    ∧ (decode (streamOf [0xA0, 0x51, 0x52]) = .ok (.addw2 (reg 1) (reg 2)) 3)
    ∧ (decode (streamOf [0xA1, 0x51, 0x52, 0x53]) = .ok (.addw3 (reg 1) (reg 2) (reg 3)) 4)
    ∧ (decode (streamOf [0xA2, 0x51, 0x52]) = .ok (.subw2 (reg 1) (reg 2)) 3)
    ∧ (decode (streamOf [0xA3, 0x51, 0x52, 0x53]) = .ok (.subw3 (reg 1) (reg 2) (reg 3)) 4)
    ∧ (decode (streamOf [0xA4, 0x51, 0x52]) = .ok (.mulw2 (reg 1) (reg 2)) 3) :=
  ⟨rfl, rfl, rfl, rfl, rfl, rfl, rfl, rfl, rfl, rfl, rfl, rfl, rfl, rfl, rfl, rfl, rfl, rfl, rfl, rfl⟩
theorem test_decode_8 :
    (decode (streamOf [0xA5, 0x51, 0x52, 0x53]) = .ok (.mulw3 (reg 1) (reg 2) (reg 3)) 4)
    ∧ (decode (streamOf [0xA6, 0x51, 0x52]) = .ok (.divw2 (reg 1) (reg 2)) 3)
    ∧ (decode (streamOf [0xA7, 0x51, 0x52, 0x53]) = .ok (.divw3 (reg 1) (reg 2) (reg 3)) 4)
    ∧ (decode (streamOf [0xA8, 0x51, 0x52]) = .ok (.bisw2 (reg 1) (reg 2)) 3)
    ∧ (decode (streamOf [0xA9, 0x51, 0x52, 0x53]) = .ok (.bisw3 (reg 1) (reg 2) (reg 3)) 4)
    ∧ (decode (streamOf [0xAA, 0x51, 0x52]) = .ok (.bicw2 (reg 1) (reg 2)) 3)
    ∧ (decode (streamOf [0xAB, 0x51, 0x52, 0x53]) = .ok (.bicw3 (reg 1) (reg 2) (reg 3)) 4)
    ∧ (decode (streamOf [0xAC, 0x51, 0x52]) = .ok (.xorw2 (reg 1) (reg 2)) 3)
    ∧ (decode (streamOf [0xAD, 0x51, 0x52, 0x53]) = .ok (.xorw3 (reg 1) (reg 2) (reg 3)) 4)
    ∧ (decode (streamOf [0xAE, 0x51, 0x52]) = .ok (.mnegw (reg 1) (reg 2)) 3)
    ∧ (decode (streamOf [0xAF, 0x51, 0x52, 0x53]) = .ok (.casew (reg 1) (reg 2) (reg 3)) 4)
    ∧ (decode (streamOf [0xB0, 0x51, 0x52]) = .ok (.movw (reg 1) (reg 2)) 3)
    ∧ (decode (streamOf [0xB1, 0x51, 0x52]) = .ok (.cmpw (reg 1) (reg 2)) 3)
    ∧ (decode (streamOf [0xB2, 0x51, 0x52]) = .ok (.mcomw (reg 1) (reg 2)) 3)
    ∧ (decode (streamOf [0xB3, 0x51, 0x52]) = .ok (.bitw (reg 1) (reg 2)) 3)
    ∧ (decode (streamOf [0xB4, 0x51]) = .ok (.clrw (reg 1)) 2)
    ∧ (decode (streamOf [0xB5, 0x51]) = .ok (.tstw (reg 1)) 2)
    ∧ (decode (streamOf [0xB6, 0x51]) = .ok (.incw (reg 1)) 2)
    ∧ (decode (streamOf [0xB7, 0x51]) = .ok (.decw (reg 1)) 2)
    ∧ (decode (streamOf [0xB8, 0x51]) = .ok (.bispsw (reg 1)) 2) :=
  ⟨rfl, rfl, rfl, rfl, rfl, rfl, rfl, rfl, rfl, rfl, rfl, rfl, rfl, rfl, rfl, rfl, rfl, rfl, rfl, rfl⟩
theorem test_decode_9 :
    (decode (streamOf [0xB9, 0x51]) = .ok (.bicpsw (reg 1)) 2)
    ∧ (decode (streamOf [0xBA, 0x51]) = .ok (.popr (reg 1)) 2)
    ∧ (decode (streamOf [0xBB, 0x51]) = .ok (.pushr (reg 1)) 2)
    ∧ (decode (streamOf [0xBC, 0x51]) = .ok (.chmk (reg 1)) 2)
    ∧ (decode (streamOf [0xBD, 0x51]) = .ok (.chme (reg 1)) 2)
    ∧ (decode (streamOf [0xBE, 0x51]) = .ok (.chms (reg 1)) 2)
    ∧ (decode (streamOf [0xBF, 0x51]) = .ok (.chmu (reg 1)) 2)
    ∧ (decode (streamOf [0xC0, 0x51, 0x52]) = .ok (.addl2 (reg 1) (reg 2)) 3)
    ∧ (decode (streamOf [0xC1, 0x51, 0x52, 0x53]) = .ok (.addl3 (reg 1) (reg 2) (reg 3)) 4)
    ∧ (decode (streamOf [0xC2, 0x51, 0x52]) = .ok (.subl2 (reg 1) (reg 2)) 3)
    ∧ (decode (streamOf [0xC3, 0x51, 0x52, 0x53]) = .ok (.subl3 (reg 1) (reg 2) (reg 3)) 4)
    ∧ (decode (streamOf [0xC4, 0x51, 0x52]) = .ok (.mull2 (reg 1) (reg 2)) 3)
    ∧ (decode (streamOf [0xC5, 0x51, 0x52, 0x53]) = .ok (.mull3 (reg 1) (reg 2) (reg 3)) 4)
    ∧ (decode (streamOf [0xC6, 0x51, 0x52]) = .ok (.divl2 (reg 1) (reg 2)) 3)
    ∧ (decode (streamOf [0xC7, 0x51, 0x52, 0x53]) = .ok (.divl3 (reg 1) (reg 2) (reg 3)) 4)
    ∧ (decode (streamOf [0xC8, 0x51, 0x52]) = .ok (.bisl2 (reg 1) (reg 2)) 3)
    ∧ (decode (streamOf [0xC9, 0x51, 0x52, 0x53]) = .ok (.bisl3 (reg 1) (reg 2) (reg 3)) 4)
    ∧ (decode (streamOf [0xCA, 0x51, 0x52]) = .ok (.bicl2 (reg 1) (reg 2)) 3)
    ∧ (decode (streamOf [0xCB, 0x51, 0x52, 0x53]) = .ok (.bicl3 (reg 1) (reg 2) (reg 3)) 4)
    ∧ (decode (streamOf [0xCC, 0x51, 0x52]) = .ok (.xorl2 (reg 1) (reg 2)) 3) :=
  ⟨rfl, rfl, rfl, rfl, rfl, rfl, rfl, rfl, rfl, rfl, rfl, rfl, rfl, rfl, rfl, rfl, rfl, rfl, rfl, rfl⟩
theorem test_decode_10 :
    (decode (streamOf [0xCD, 0x51, 0x52, 0x53]) = .ok (.xorl3 (reg 1) (reg 2) (reg 3)) 4)
    ∧ (decode (streamOf [0xCE, 0x51, 0x52]) = .ok (.mnegl (reg 1) (reg 2)) 3)
    ∧ (decode (streamOf [0xCF, 0x51, 0x52, 0x53]) = .ok (.casel (reg 1) (reg 2) (reg 3)) 4)
    ∧ (decode (streamOf [0xD0, 0x51, 0x52]) = .ok (.movl (reg 1) (reg 2)) 3)
    ∧ (decode (streamOf [0xD1, 0x51, 0x52]) = .ok (.cmpl (reg 1) (reg 2)) 3)
    ∧ (decode (streamOf [0xD2, 0x51, 0x52]) = .ok (.mcoml (reg 1) (reg 2)) 3)
    ∧ (decode (streamOf [0xD3, 0x51, 0x52]) = .ok (.bitl (reg 1) (reg 2)) 3)
    ∧ (decode (streamOf [0xD4, 0x51]) = .ok (.clrl (reg 1)) 2)
    ∧ (decode (streamOf [0xD5, 0x51]) = .ok (.tstl (reg 1)) 2)
    ∧ (decode (streamOf [0xD6, 0x51]) = .ok (.incl (reg 1)) 2)
    ∧ (decode (streamOf [0xD7, 0x51]) = .ok (.decl (reg 1)) 2)
    ∧ (decode (streamOf [0xD8, 0x51, 0x52]) = .ok (.adwc (reg 1) (reg 2)) 3)
    ∧ (decode (streamOf [0xD9, 0x51, 0x52]) = .ok (.sbwc (reg 1) (reg 2)) 3)
    ∧ (decode (streamOf [0xDA, 0x51, 0x52]) = .ok (.mtpr (reg 1) (reg 2)) 3)
    ∧ (decode (streamOf [0xDB, 0x51, 0x52]) = .ok (.mfpr (reg 1) (reg 2)) 3)
    ∧ (decode (streamOf [0xDC, 0x51]) = .ok (.movpsl (reg 1)) 2)
    ∧ (decode (streamOf [0xDD, 0x51]) = .ok (.pushl (reg 1)) 2)
    ∧ (decode (streamOf [0xDE, 0x61, 0x52]) = .ok (.moval (ind 1) (reg 2)) 3)
    ∧ (decode (streamOf [0xDF, 0x61]) = .ok (.pushal (ind 1)) 2)
    ∧ (decode (streamOf [0xE0, 0x51, 0x62, 0xFE]) = .ok (.bbs (reg 1) (ind 2) 0xFE) 4) :=
  ⟨rfl, rfl, rfl, rfl, rfl, rfl, rfl, rfl, rfl, rfl, rfl, rfl, rfl, rfl, rfl, rfl, rfl, rfl, rfl, rfl⟩
theorem test_decode_11 :
    (decode (streamOf [0xE1, 0x51, 0x62, 0xFE]) = .ok (.bbc (reg 1) (ind 2) 0xFE) 4)
    ∧ (decode (streamOf [0xE2, 0x51, 0x62, 0xFE]) = .ok (.bbss (reg 1) (ind 2) 0xFE) 4)
    ∧ (decode (streamOf [0xE3, 0x51, 0x62, 0xFE]) = .ok (.bbcs (reg 1) (ind 2) 0xFE) 4)
    ∧ (decode (streamOf [0xE4, 0x51, 0x62, 0xFE]) = .ok (.bbsc (reg 1) (ind 2) 0xFE) 4)
    ∧ (decode (streamOf [0xE5, 0x51, 0x62, 0xFE]) = .ok (.bbcc (reg 1) (ind 2) 0xFE) 4)
    ∧ (decode (streamOf [0xE6, 0x51, 0x62, 0xFE]) = .ok (.bbssi (reg 1) (ind 2) 0xFE) 4)
    ∧ (decode (streamOf [0xE7, 0x51, 0x62, 0xFE]) = .ok (.bbcci (reg 1) (ind 2) 0xFE) 4)
    ∧ (decode (streamOf [0xE8, 0x51, 0xFE]) = .ok (.blbs (reg 1) 0xFE) 3)
    ∧ (decode (streamOf [0xE9, 0x51, 0xFE]) = .ok (.blbc (reg 1) 0xFE) 3)
    ∧ (decode (streamOf [0xEA, 0x51, 0x52, 0x63, 0x54]) = .ok (.ffs (reg 1) (reg 2) (ind 3) (reg 4)) 5)
    ∧ (decode (streamOf [0xEB, 0x51, 0x52, 0x63, 0x54]) = .ok (.ffc (reg 1) (reg 2) (ind 3) (reg 4)) 5)
    ∧ (decode (streamOf [0xEC, 0x51, 0x52, 0x63, 0x54]) = .ok (.cmpv (reg 1) (reg 2) (ind 3) (reg 4)) 5)
    ∧ (decode (streamOf [0xED, 0x51, 0x52, 0x63, 0x54]) = .ok (.cmpzv (reg 1) (reg 2) (ind 3) (reg 4)) 5)
    ∧ (decode (streamOf [0xEE, 0x51, 0x52, 0x63, 0x54]) = .ok (.extv (reg 1) (reg 2) (ind 3) (reg 4)) 5)
    ∧ (decode (streamOf [0xEF, 0x51, 0x52, 0x63, 0x54]) = .ok (.extzv (reg 1) (reg 2) (ind 3) (reg 4)) 5)
    ∧ (decode (streamOf [0xF0, 0x51, 0x52, 0x53, 0x64]) = .ok (.insv (reg 1) (reg 2) (reg 3) (ind 4)) 5)
    ∧ (decode (streamOf [0xF1, 0x51, 0x52, 0x53, 0xFD, 0x7F]) = .ok (.acbl (reg 1) (reg 2) (reg 3) 0x7FFD) 6)
    ∧ (decode (streamOf [0xF2, 0x51, 0x52, 0xFE]) = .ok (.aoblss (reg 1) (reg 2) 0xFE) 4)
    ∧ (decode (streamOf [0xF3, 0x51, 0x52, 0xFE]) = .ok (.aobleq (reg 1) (reg 2) 0xFE) 4)
    ∧ (decode (streamOf [0xF4, 0x51, 0xFE]) = .ok (.sobgeq (reg 1) 0xFE) 3) :=
  ⟨rfl, rfl, rfl, rfl, rfl, rfl, rfl, rfl, rfl, rfl, rfl, rfl, rfl, rfl, rfl, rfl, rfl, rfl, rfl, rfl⟩
theorem test_decode_12 :
    (decode (streamOf [0xF5, 0x51, 0xFE]) = .ok (.sobgtr (reg 1) 0xFE) 3)
    ∧ (decode (streamOf [0xF6, 0x51, 0x52]) = .ok (.cvtlb (reg 1) (reg 2)) 3)
    ∧ (decode (streamOf [0xF7, 0x51, 0x52]) = .ok (.cvtlw (reg 1) (reg 2)) 3)
    ∧ (decode (streamOf [0xF8, 0x51, 0x52, 0x63, 0x54, 0x55, 0x66]) = .ok (.ashp (reg 1) (reg 2) (ind 3) (reg 4) (reg 5) (ind 6)) 7)
    ∧ (decode (streamOf [0xF9, 0x51, 0x52, 0x63]) = .ok (.cvtlp (reg 1) (reg 2) (ind 3)) 4)
    ∧ (decode (streamOf [0xFA, 0x61, 0x62]) = .ok (.callg (ind 1) (ind 2)) 3)
    ∧ (decode (streamOf [0xFB, 0x51, 0x62]) = .ok (.calls (reg 1) (ind 2)) 3)
    ∧ (decode (streamOf [0xFC]) = .ok (.xfc) 1)
    ∧ (decode (streamOf [0xFD, 0x32, 0x51, 0x52]) = .ok (.cvtdh (reg 1) (reg 2)) 4)
    ∧ (decode (streamOf [0xFD, 0x33, 0x51, 0x52]) = .ok (.cvtgf (reg 1) (reg 2)) 4)
    ∧ (decode (streamOf [0xFD, 0x40, 0x51, 0x52]) = .ok (.addg2 (reg 1) (reg 2)) 4)
    ∧ (decode (streamOf [0xFD, 0x41, 0x51, 0x52, 0x53]) = .ok (.addg3 (reg 1) (reg 2) (reg 3)) 5)
    ∧ (decode (streamOf [0xFD, 0x42, 0x51, 0x52]) = .ok (.subg2 (reg 1) (reg 2)) 4)
    ∧ (decode (streamOf [0xFD, 0x43, 0x51, 0x52, 0x53]) = .ok (.subg3 (reg 1) (reg 2) (reg 3)) 5)
    ∧ (decode (streamOf [0xFD, 0x44, 0x51, 0x52]) = .ok (.mulg2 (reg 1) (reg 2)) 4)
    ∧ (decode (streamOf [0xFD, 0x45, 0x51, 0x52, 0x53]) = .ok (.mulg3 (reg 1) (reg 2) (reg 3)) 5)
    ∧ (decode (streamOf [0xFD, 0x46, 0x51, 0x52]) = .ok (.divg2 (reg 1) (reg 2)) 4)
    ∧ (decode (streamOf [0xFD, 0x47, 0x51, 0x52, 0x53]) = .ok (.divg3 (reg 1) (reg 2) (reg 3)) 5)
    ∧ (decode (streamOf [0xFD, 0x48, 0x51, 0x52]) = .ok (.cvtgb (reg 1) (reg 2)) 4)
    ∧ (decode (streamOf [0xFD, 0x49, 0x51, 0x52]) = .ok (.cvtgw (reg 1) (reg 2)) 4) :=
  ⟨rfl, rfl, rfl, rfl, rfl, rfl, rfl, rfl, rfl, rfl, rfl, rfl, rfl, rfl, rfl, rfl, rfl, rfl, rfl, rfl⟩
theorem test_decode_13 :
    (decode (streamOf [0xFD, 0x4A, 0x51, 0x52]) = .ok (.cvtgl (reg 1) (reg 2)) 4)
    ∧ (decode (streamOf [0xFD, 0x4B, 0x51, 0x52]) = .ok (.cvtrgl (reg 1) (reg 2)) 4)
    ∧ (decode (streamOf [0xFD, 0x4C, 0x51, 0x52]) = .ok (.cvtbg (reg 1) (reg 2)) 4)
    ∧ (decode (streamOf [0xFD, 0x4D, 0x51, 0x52]) = .ok (.cvtwg (reg 1) (reg 2)) 4)
    ∧ (decode (streamOf [0xFD, 0x4E, 0x51, 0x52]) = .ok (.cvtlg (reg 1) (reg 2)) 4)
    ∧ (decode (streamOf [0xFD, 0x4F, 0x51, 0x52, 0x53, 0xFD, 0x7F]) = .ok (.acbg (reg 1) (reg 2) (reg 3) 0x7FFD) 7)
    ∧ (decode (streamOf [0xFD, 0x50, 0x51, 0x52]) = .ok (.movg (reg 1) (reg 2)) 4)
    ∧ (decode (streamOf [0xFD, 0x51, 0x51, 0x52]) = .ok (.cmpg (reg 1) (reg 2)) 4)
    ∧ (decode (streamOf [0xFD, 0x52, 0x51, 0x52]) = .ok (.mnegg (reg 1) (reg 2)) 4)
    ∧ (decode (streamOf [0xFD, 0x53, 0x51]) = .ok (.tstg (reg 1)) 3)
    ∧ (decode (streamOf [0xFD, 0x54, 0x51, 0x52, 0x53, 0x54, 0x55]) = .ok (.emodg (reg 1) (reg 2) (reg 3) (reg 4) (reg 5)) 7)
    ∧ (decode (streamOf [0xFD, 0x55, 0x51, 0x52, 0x63]) = .ok (.polyg (reg 1) (reg 2) (ind 3)) 5)
    ∧ (decode (streamOf [0xFD, 0x56, 0x51, 0x52]) = .ok (.cvtgh (reg 1) (reg 2)) 4)
    ∧ (decode (streamOf [0xFD, 0x60, 0x51, 0x52]) = .ok (.addh2 (reg 1) (reg 2)) 4)
    ∧ (decode (streamOf [0xFD, 0x61, 0x51, 0x52, 0x53]) = .ok (.addh3 (reg 1) (reg 2) (reg 3)) 5)
    ∧ (decode (streamOf [0xFD, 0x62, 0x51, 0x52]) = .ok (.subh2 (reg 1) (reg 2)) 4)
    ∧ (decode (streamOf [0xFD, 0x63, 0x51, 0x52, 0x53]) = .ok (.subh3 (reg 1) (reg 2) (reg 3)) 5)
    ∧ (decode (streamOf [0xFD, 0x64, 0x51, 0x52]) = .ok (.mulh2 (reg 1) (reg 2)) 4)
    ∧ (decode (streamOf [0xFD, 0x65, 0x51, 0x52, 0x53]) = .ok (.mulh3 (reg 1) (reg 2) (reg 3)) 5)
    ∧ (decode (streamOf [0xFD, 0x66, 0x51, 0x52]) = .ok (.divh2 (reg 1) (reg 2)) 4) :=
  ⟨rfl, rfl, rfl, rfl, rfl, rfl, rfl, rfl, rfl, rfl, rfl, rfl, rfl, rfl, rfl, rfl, rfl, rfl, rfl, rfl⟩
theorem test_decode_14 :
    (decode (streamOf [0xFD, 0x67, 0x51, 0x52, 0x53]) = .ok (.divh3 (reg 1) (reg 2) (reg 3)) 5)
    ∧ (decode (streamOf [0xFD, 0x68, 0x51, 0x52]) = .ok (.cvthb (reg 1) (reg 2)) 4)
    ∧ (decode (streamOf [0xFD, 0x69, 0x51, 0x52]) = .ok (.cvthw (reg 1) (reg 2)) 4)
    ∧ (decode (streamOf [0xFD, 0x6A, 0x51, 0x52]) = .ok (.cvthl (reg 1) (reg 2)) 4)
    ∧ (decode (streamOf [0xFD, 0x6B, 0x51, 0x52]) = .ok (.cvtrhl (reg 1) (reg 2)) 4)
    ∧ (decode (streamOf [0xFD, 0x6C, 0x51, 0x52]) = .ok (.cvtbh (reg 1) (reg 2)) 4)
    ∧ (decode (streamOf [0xFD, 0x6D, 0x51, 0x52]) = .ok (.cvtwh (reg 1) (reg 2)) 4)
    ∧ (decode (streamOf [0xFD, 0x6E, 0x51, 0x52]) = .ok (.cvtlh (reg 1) (reg 2)) 4)
    ∧ (decode (streamOf [0xFD, 0x6F, 0x51, 0x52, 0x53, 0xFD, 0x7F]) = .ok (.acbh (reg 1) (reg 2) (reg 3) 0x7FFD) 7)
    ∧ (decode (streamOf [0xFD, 0x70, 0x51, 0x52]) = .ok (.movh (reg 1) (reg 2)) 4)
    ∧ (decode (streamOf [0xFD, 0x71, 0x51, 0x52]) = .ok (.cmph (reg 1) (reg 2)) 4)
    ∧ (decode (streamOf [0xFD, 0x72, 0x51, 0x52]) = .ok (.mnegh (reg 1) (reg 2)) 4)
    ∧ (decode (streamOf [0xFD, 0x73, 0x51]) = .ok (.tsth (reg 1)) 3)
    ∧ (decode (streamOf [0xFD, 0x74, 0x51, 0x52, 0x53, 0x54, 0x55]) = .ok (.emodh (reg 1) (reg 2) (reg 3) (reg 4) (reg 5)) 7)
    ∧ (decode (streamOf [0xFD, 0x75, 0x51, 0x52, 0x63]) = .ok (.polyh (reg 1) (reg 2) (ind 3)) 5)
    ∧ (decode (streamOf [0xFD, 0x76, 0x51, 0x52]) = .ok (.cvthg (reg 1) (reg 2)) 4)
    ∧ (decode (streamOf [0xFD, 0x7C, 0x51]) = .ok (.clro (reg 1)) 3)
    ∧ (decode (streamOf [0xFD, 0x7D, 0x51, 0x52]) = .ok (.movo (reg 1) (reg 2)) 4)
    ∧ (decode (streamOf [0xFD, 0x7E, 0x61, 0x52]) = .ok (.movao (ind 1) (reg 2)) 4)
    ∧ (decode (streamOf [0xFD, 0x7F, 0x61]) = .ok (.pushao (ind 1)) 3) :=
  ⟨rfl, rfl, rfl, rfl, rfl, rfl, rfl, rfl, rfl, rfl, rfl, rfl, rfl, rfl, rfl, rfl, rfl, rfl, rfl, rfl⟩
theorem test_decode_15 :
    (decode (streamOf [0xFD, 0x98, 0x51, 0x52]) = .ok (.cvtfh (reg 1) (reg 2)) 4)
    ∧ (decode (streamOf [0xFD, 0x99, 0x51, 0x52]) = .ok (.cvtfg (reg 1) (reg 2)) 4)
    ∧ (decode (streamOf [0xFD, 0xF6, 0x51, 0x52]) = .ok (.cvthf (reg 1) (reg 2)) 4)
    ∧ (decode (streamOf [0xFD, 0xF7, 0x51, 0x52]) = .ok (.cvthd (reg 1) (reg 2)) 4) :=
  ⟨rfl, rfl, rfl, rfl⟩

/-- Specifier modes, byte by byte: 30_encoding.md R410 to R424. -/
theorem test_decode_modes :
    (decode (streamOf [0xD0, 0x3F, 0x70]) = .ok (.movl (lit 63) ⟨none, .autoDec 0⟩) 3)
    ∧ (decode (streamOf [0xD0, 0x81, 0x92]) = .ok (.movl ⟨none, .autoInc 1⟩ ⟨none, .autoIncDef 2⟩) 3)
    ∧ (decode (streamOf [0xD0, 0xA1, 0xFC, 0xB2, 0x04]) = .ok (.movl ⟨none, .dispB 1 0xFC⟩ ⟨none, .dispBDef 2 4⟩) 5)
    ∧ (decode (streamOf [0xD0, 0xC1, 0x34, 0x12, 0xD2, 0x78, 0x56]) =
        .ok (.movl ⟨none, .dispW 1 0x1234⟩ ⟨none, .dispWDef 2 0x5678⟩) 7)
    ∧ (decode (streamOf [0xD0, 0xE1, 0x78, 0x56, 0x34, 0x12, 0xFF, 0x21, 0x43, 0x65, 0x87]) =
        .ok (.movl ⟨none, .dispL 1 0x12345678⟩ ⟨none, .dispLDef 15 0x87654321⟩) 11)
    ∧ (decode (streamOf [0xD0, 0x8F, 0x78, 0x56, 0x34, 0x12, 0x9F, 0x21, 0x43, 0x65, 0x87]) =
        .ok (.movl (imm 0x12345678) (mem 0x87654321)) 11)
    ∧ (decode (streamOf [0xB0, 0x8F, 0x34, 0x12, 0x43, 0x64]) = .ok (.movw (imm 0x1234) ⟨some 3, .regDef 4⟩) 6) :=
  ⟨rfl, rfl, rfl, rfl, rfl, rfl, rfl⟩

/-- Unassigned opcodes and truncated streams, R446 and R450. -/
theorem test_decode_refuses :
    (decode (streamOf [0x57]) = .reserved 0x57) ∧ (decode (streamOf [0xFD, 0x00]) = .reserved 0xFD)
    ∧ (decode (streamOf []) = .missing 0 [] 0) ∧ (decode (streamOf [0xFD]) = .missing 0xFD [] 1)
    ∧ (decode (streamOf [0xD0, 0x51]) = .missing 0xD0 [.op .r .l (reg 1)] 2) :=
  ⟨rfl, rfl, rfl, rfl, rfl⟩

/-- Instructions that share an opcode encode alike, R430. -/
theorem test_encode_shared : encode (.bnequ 4) = [0x12, 4] ∧ encode (.clrf (reg 1)) = [0xD4, 0x51]
    ∧ encode (.movah (ind 2) (reg 1)) = [0xFD, 0x7E, 0x62, 0x51] := ⟨rfl, rfl, rfl⟩

/-! ### One step each: the vectors of 95_test_vectors.md section 2, bytes at the PC, expected registers, memory, NZVC -/

theorem test_movl_A1 :
    after (step (st .v750 0x0 [(0, 0x2000), (14, 0x7000), (15, 0x1000)] [(0x1000, 0xD0), (0x1001, 0x80), (0x1002,
    0x80), (0x2000, 0x44), (0x2001, 0x33), (0x2002, 0x22), (0x2003, 0x11)])) (fun t => t.reg 0 == 0x2008 && t.reg 15
    == 0x1003 && State.at t 0x2004 [0x44, 0x33, 0x22, 0x11] && cc t == 0) = true := by decide +kernel
theorem test_movb_A2 :
    after (step (st .v750 0x0 [(2, 0x3001), (14, 0x7000), (15, 0x1000)] [(0x1000, 0x90), (0x1001, 0x8F), (0x1002,
    0x41), (0x1003, 0x72)])) (fun t => t.reg 2 == 0x3000 && t.reg 15 == 0x1004 && State.at t 0x3000 [0x41] && cc t ==
    0) = true := by decide +kernel
theorem test_movl_A3 :
    after (step (st .v750 0x0 [(14, 0x7000), (15, 0x1000)] [(0x1000, 0xD0), (0x1001, 0x9F), (0x1003, 0x20), (0x1006,
    0x50), (0x2000, 0xEF), (0x2001, 0xBE), (0x2002, 0xAD), (0x2003, 0xDE)])) (fun t => t.reg 0 == 0xDEADBEEF && t.reg
    15 == 0x1007 && cc t == 8) = true := by decide +kernel
theorem test_movw_A5 :
    after (step (st .v750 0x0 [(1, 0x2000), (2, 0x3), (0, 0x55555555), (14, 0x7000), (15, 0x1000)] [(0x1000, 0xB0),
    (0x1001, 0x42), (0x1002, 0xA1), (0x1003, 0x4), (0x1004, 0x50), (0x200A, 0x1), (0x200B, 0x80)])) (fun t => t.reg 0
    == 0x55558001 && cc t == 8) = true := by decide +kernel
theorem test_movab_A7 :
    after (step (st .v750 0x0 [(14, 0x7000), (15, 0x1000)] [(0x1000, 0x9E), (0x1001, 0xAF), (0x1002, 0x10), (0x1003,
    0x50)])) (fun t => t.reg 0 == 0x1013 && t.reg 15 == 0x1004) = true := by decide +kernel
theorem test_movf_A9 :
    after (step (st .v750 0x0 [(14, 0x7000), (15, 0x1000)] [(0x1000, 0x50), (0x1001, 0x3F), (0x1002, 0x50)])) (fun t
    => t.reg 0 == 0x43F0) = true := by decide +kernel
theorem test_movf_A10 :
    after (step (st .v750 0x0 [(14, 0x7000), (15, 0x1000)] [(0x1000, 0x50), (0x1002, 0x50)])) (fun t => t.reg 0 ==
    0x4000 && cc t == 0) = true := by decide +kernel
theorem test_movd_A11 :
    after (step (st .v750 0x0 [(1, 0x5), (14, 0x7000), (15, 0x1000)] [(0x1000, 0x70), (0x1001, 0x1), (0x1002,
    0x50)])) (fun t => t.reg 0 == 0x4010 && t.reg 1 == 0x0) = true := by decide +kernel
theorem test_clrl_A12 :
    after (step (st .v750 0x0 [(14, 0x7000), (15, 0x1000)] [(0x61C, 0x1C), (0x61D, 0x90), (0x1000, 0xD4), (0x1001,
    0x5)])) (fun t => t.pc == 0x901C && t.reg 14 == 0x6FF8) = true := by decide +kernel
theorem test_movab_A13 :
    after (step (st .v750 0x0 [(14, 0x7000), (15, 0x1000)] [(0x61C, 0x1C), (0x61D, 0x90), (0x1000, 0x9E), (0x1001,
    0x50), (0x1002, 0x51)])) (fun t => t.pc == 0x901C && t.reg 14 == 0x6FF8) = true := by decide +kernel
theorem test_movq_A17 :
    after (step (st .v750 0x0 [(14, 0x7000), (15, 0x1000)] [(0x1000, 0x7D), (0x1001, 0x8F), (0x1002, 0x1), (0x1006,
    0x2), (0x100A, 0x52)])) (fun t => t.reg 2 == 0x1 && t.reg 3 == 0x2 && t.reg 15 == 0x100B) = true
    := by decide +kernel
theorem test_brb_A18 :
    after (step (st .v750 0x0 [(14, 0x7000), (15, 0x1000)] [(0x1000, 0x11), (0x1001, 0xFE)])) (fun t => t.reg 15 ==
    0x1000) = true := by decide +kernel
theorem test_brw_A19 :
    after (step (st .v750 0x0 [(14, 0x7000), (15, 0x1000)] [(0x1000, 0x31), (0x1001, 0xFD), (0x1002, 0x7F)])) (fun t
    => t.reg 15 == 0x9000) = true := by decide +kernel
theorem test_reserved_A20 :
    after (step (st .v750 0x0 [(14, 0x7000), (15, 0x1000)] [(0x610, 0x10), (0x611, 0x90), (0x1000, 0xFF)])) (fun t =>
    t.pc == 0x9010 && t.reg 14 == 0x6FF8) = true := by decide +kernel
theorem test_movg_A21 :
    after (step (st .v750 0x0 [(1, 0x7), (14, 0x7000), (15, 0x1000)] [(0x1000, 0xFD), (0x1001, 0x50), (0x1002, 0x8),
    (0x1003, 0x50)])) (fun t => t.reg 0 == 0x4010 && t.reg 1 == 0x0) = true := by decide +kernel
theorem test_addl2_I1 :
    after (step (st .v750 0x0 [(0, 0x7FFFFFFF), (1, 0x1), (14, 0x7000), (15, 0x1000)] [(0x1000, 0xC0), (0x1001,
    0x51), (0x1002, 0x50)])) (fun t => t.reg 0 == 0x80000000 && cc t == 10) = true := by decide +kernel
theorem test_addl2_I1t :
    after (step (st .v750 0x20 [(0, 0x7FFFFFFF), (1, 0x1), (14, 0x7000), (15, 0x1000)] [(0x634, 0x34), (0x635, 0x90),
    (0x1000, 0xC0), (0x1001, 0x51), (0x1002, 0x50)])) (fun t => t.reg 0 == 0x80000000 && t.pend.trap == some 1 &&
    t.pc == 0x1003) = true := by decide +kernel
theorem test_addb2_I3 :
    after (step (st .v750 0x0 [(0, 0x12FF), (14, 0x7000), (15, 0x1000)] [(0x1000, 0x80), (0x1001, 0x1), (0x1002,
    0x50)])) (fun t => t.reg 0 == 0x1200 && cc t == 5) = true := by decide +kernel
theorem test_addw3_I4 :
    after (step (st .v750 0x0 [(1, 0x7FFF), (0, 0xAAAAAAAA), (14, 0x7000), (15, 0x1000)] [(0x1000, 0xA1), (0x1001,
    0x1), (0x1002, 0x51), (0x1003, 0x50)])) (fun t => t.reg 0 == 0xAAAA8000 && cc t == 10) = true := by decide +kernel
theorem test_adwc_I5 :
    after (step (st .v750 0x1 [(1, 0xFFFFFFFF), (14, 0x7000), (15, 0x1000)] [(0x1000, 0xD8), (0x1002, 0x51)])) (fun t
    => t.reg 1 == 0x0 && cc t == 5) = true := by decide +kernel
theorem test_subl2_I6 :
    after (step (st .v750 0x0 [(0, 0x0), (14, 0x7000), (15, 0x1000)] [(0x1000, 0xC2), (0x1001, 0x1), (0x1002,
    0x50)])) (fun t => t.reg 0 == 0xFFFFFFFF && cc t == 9) = true := by decide +kernel
theorem test_subl3_I7 :
    after (step (st .v750 0x0 [(1, 0x1), (2, 0x80000000), (14, 0x7000), (15, 0x1000)] [(0x1000, 0xC3), (0x1001,
    0x51), (0x1002, 0x52), (0x1003, 0x50)])) (fun t => t.reg 0 == 0x7FFFFFFF && cc t == 2) = true := by decide +kernel
theorem test_sbwc_I8 :
    after (step (st .v750 0x1 [(1, 0x0), (14, 0x7000), (15, 0x1000)] [(0x1000, 0xD9), (0x1002, 0x51)])) (fun t =>
    t.reg 1 == 0xFFFFFFFF && cc t == 9) = true := by decide +kernel
theorem test_adwc_I9b :
    after (step (st .v750 0x1 [(3, 0x1), (5, 0x0), (14, 0x7000), (15, 0x1000)] [(0x1000, 0xD8), (0x1001, 0x55),
    (0x1002, 0x53)])) (fun t => t.reg 3 == 0x2 && cc t == 0) = true := by decide +kernel
theorem test_incl_I10 :
    after (step (st .v750 0x0 [(0, 0x7FFFFFFF), (14, 0x7000), (15, 0x1000)] [(0x1000, 0xD6), (0x1001, 0x50)])) (fun t
    => t.reg 0 == 0x80000000 && cc t == 10) = true := by decide +kernel
theorem test_decl_I11 :
    after (step (st .v750 0x0 [(0, 0x80000000), (14, 0x7000), (15, 0x1000)] [(0x1000, 0xD7), (0x1001, 0x50)])) (fun t
    => t.reg 0 == 0x7FFFFFFF && cc t == 2) = true := by decide +kernel
theorem test_mnegl_I12 :
    after (step (st .v750 0x0 [(1, 0x80000000), (14, 0x7000), (15, 0x1000)] [(0x1000, 0xCE), (0x1001, 0x51), (0x1002,
    0x50)])) (fun t => t.reg 0 == 0x80000000 && cc t == 11) = true := by decide +kernel
theorem test_mcoml_I13 :
    after (step (st .v750 0x0 [(14, 0x7000), (15, 0x1000)] [(0x1000, 0xD2), (0x1002, 0x50)])) (fun t => t.reg 0 ==
    0xFFFFFFFF && cc t == 8) = true := by decide +kernel
theorem test_clrq_I14 :
    after (step (st .v750 0x0 [(2, 0x1), (3, 0x2), (14, 0x7000), (15, 0x1000)] [(0x1000, 0x7C), (0x1001, 0x52)]))
    (fun t => t.reg 2 == 0x0 && t.reg 3 == 0x0 && cc t == 4) = true := by decide +kernel
theorem test_movzbl_I15 :
    after (step (st .v750 0x0 [(0, 0xFFFFFF80), (14, 0x7000), (15, 0x1000)] [(0x1000, 0x9A), (0x1001, 0x50), (0x1002,
    0x51)])) (fun t => t.reg 1 == 0x80 && cc t == 0) = true := by decide +kernel
theorem test_cvtbl_I16 :
    after (step (st .v750 0x0 [(0, 0xFFFFFF80), (14, 0x7000), (15, 0x1000)] [(0x1000, 0x98), (0x1001, 0x50), (0x1002,
    0x51)])) (fun t => t.reg 1 == 0xFFFFFF80 && cc t == 8) = true := by decide +kernel
theorem test_cvtlb_I17 :
    after (step (st .v750 0x0 [(0, 0x80), (1, 0x11111111), (14, 0x7000), (15, 0x1000)] [(0x1000, 0xF6), (0x1001,
    0x50), (0x1002, 0x51)])) (fun t => t.reg 1 == 0x11111180 && cc t == 10) = true := by decide +kernel
theorem test_cvtlw_I18 :
    after (step (st .v750 0x0 [(0, 0xFFFF8000), (1, 0x0), (14, 0x7000), (15, 0x1000)] [(0x1000, 0xF7), (0x1001,
    0x50), (0x1002, 0x51)])) (fun t => t.reg 1 == 0x8000 && cc t == 8) = true := by decide +kernel
theorem test_cmpl_I19 :
    after (step (st .v750 0x0 [(0, 0xFFFFFFFF), (1, 0x1), (14, 0x7000), (15, 0x1000)] [(0x1000, 0xD1), (0x1001,
    0x50), (0x1002, 0x51)])) (fun t => cc t == 8) = true := by decide +kernel
theorem test_cmpl_I20 :
    after (step (st .v750 0x0 [(0, 0x1), (1, 0xFFFFFFFF), (14, 0x7000), (15, 0x1000)] [(0x1000, 0xD1), (0x1001,
    0x50), (0x1002, 0x51)])) (fun t => cc t == 1) = true := by decide +kernel
theorem test_cmpb_I21 :
    after (step (st .v750 0x0 [(0, 0x12345680), (1, 0x7F), (14, 0x7000), (15, 0x1000)] [(0x1000, 0x91), (0x1001,
    0x50), (0x1002, 0x51)])) (fun t => cc t == 8) = true := by decide +kernel
theorem test_tstl_I22 :
    after (step (st .v750 0x0 [(0, 0x0), (14, 0x7000), (15, 0x1000)] [(0x1000, 0xD5), (0x1001, 0x50)])) (fun t => cc
    t == 4) = true := by decide +kernel
theorem test_mull2_I23 :
    after (step (st .v750 0x0 [(0, 0x10000), (1, 0x10000), (14, 0x7000), (15, 0x1000)] [(0x1000, 0xC4), (0x1001,
    0x51), (0x1002, 0x50)])) (fun t => t.reg 0 == 0x0 && cc t == 6) = true := by decide +kernel
theorem test_mull3_I24 :
    after (step (st .v750 0x0 [(1, 0xFFFFFFFF), (2, 0x7), (14, 0x7000), (15, 0x1000)] [(0x1000, 0xC5), (0x1001,
    0x51), (0x1002, 0x52), (0x1003, 0x50)])) (fun t => t.reg 0 == 0xFFFFFFF9 && cc t == 8) = true := by decide +kernel
theorem test_emul_I25 :
    after (step (st .v750 0x0 [(1, 0xFFFFFFFF), (2, 0xFFFFFFFF), (3, 0xFFFFFFFF), (4, 0x1), (5, 0x1), (14, 0x7000),
    (15, 0x1000)] [(0x1000, 0x7A), (0x1001, 0x51), (0x1002, 0x52), (0x1003, 0x53), (0x1004, 0x54)])) (fun t => t.reg
    4 == 0x0 && t.reg 5 == 0x0 && cc t == 4) = true := by decide +kernel
theorem test_emul_I26 :
    after (step (st .v750 0x0 [(1, 0x7FFFFFFF), (2, 0x7FFFFFFF), (14, 0x7000), (15, 0x1000)] [(0x1000, 0x7A),
    (0x1001, 0x51), (0x1002, 0x52), (0x1004, 0x54)])) (fun t => t.reg 4 == 0x1 && t.reg 5 == 0x3FFFFFFF && cc t == 0)
    = true := by decide +kernel
theorem test_divl2_I27 :
    after (step (st .v750 0x0 [(0, 0xFFFFFFF9), (14, 0x7000), (15, 0x1000)] [(0x1000, 0xC6), (0x1001, 0x2), (0x1002,
    0x50)])) (fun t => t.reg 0 == 0xFFFFFFFD && cc t == 8) = true := by decide +kernel
theorem test_divl2_I28 :
    after (step (st .v750 0x0 [(1, 0x0), (0, 0x5), (14, 0x7000), (15, 0x1000)] [(0x634, 0x34), (0x635, 0x90),
    (0x1000, 0xC6), (0x1001, 0x51), (0x1002, 0x50)])) (fun t => t.reg 0 == 0x5 && t.pend.trap == some 2 && t.pc ==
    0x1003) = true := by decide +kernel
theorem test_divl3_I30 :
    after (step (st .v750 0x0 [(1, 0x3), (2, 0x7), (14, 0x7000), (15, 0x1000)] [(0x1000, 0xC7), (0x1001, 0x51),
    (0x1002, 0x52), (0x1003, 0x50)])) (fun t => t.reg 0 == 0x2 && cc t == 0) = true := by decide +kernel
theorem test_ediv_I31 :
    after (step (st .v750 0x0 [(2, 0xFFFFFFF9), (3, 0xFFFFFFFF), (14, 0x7000), (15, 0x1000)] [(0x1000, 0x7B),
    (0x1001, 0x3), (0x1002, 0x52), (0x1003, 0x54), (0x1004, 0x55)])) (fun t => t.reg 4 == 0xFFFFFFFE && t.reg 5 ==
    0xFFFFFFFF && cc t == 8) = true := by decide +kernel
theorem test_ediv_I32 :
    after (step (st .v750 0x0 [(2, 0x0), (3, 0x1), (5, 0x9), (14, 0x7000), (15, 0x1000)] [(0x1000, 0x7B), (0x1001,
    0x1), (0x1002, 0x52), (0x1003, 0x54), (0x1004, 0x55)])) (fun t => t.reg 4 == 0x0 && t.reg 5 == 0x0 && cc t == 6)
    = true := by decide +kernel
theorem test_bisl2_I33 :
    after (step (st .v750 0x0 [(0, 0xF000), (1, 0x80000001), (14, 0x7000), (15, 0x1000)] [(0x1000, 0xC8), (0x1001,
    0x51), (0x1002, 0x50)])) (fun t => t.reg 0 == 0x8000F001 && cc t == 8) = true := by decide +kernel
theorem test_bicl3_I34 :
    after (step (st .v750 0x0 [(1, 0xFFFF), (2, 0x12345678), (14, 0x7000), (15, 0x1000)] [(0x1000, 0xCB), (0x1001,
    0x51), (0x1002, 0x52), (0x1003, 0x50)])) (fun t => t.reg 0 == 0x12340000 && cc t == 0) = true := by decide +kernel
theorem test_xorl2_I35 :
    after (step (st .v750 0x0 [(0, 0x12345678), (14, 0x7000), (15, 0x1000)] [(0x1000, 0xCC), (0x1001, 0x50), (0x1002,
    0x50)])) (fun t => t.reg 0 == 0x0 && cc t == 4) = true := by decide +kernel
theorem test_bitl_I36 :
    after (step (st .v750 0x0 [(0, 0xFF00), (1, 0xFF), (14, 0x7000), (15, 0x1000)] [(0x1000, 0xD3), (0x1001, 0x51),
    (0x1002, 0x50)])) (fun t => t.reg 0 == 0xFF00 && cc t == 4) = true := by decide +kernel
theorem test_ashl_I37 :
    after (step (st .v750 0x0 [(14, 0x7000), (15, 0x1000)] [(0x1000, 0x78), (0x1001, 0x4), (0x1002, 0x1), (0x1003,
    0x50)])) (fun t => t.reg 0 == 0x10 && cc t == 0) = true := by decide +kernel
theorem test_ashl_I38 :
    after (step (st .v750 0x0 [(1, 0xFC), (2, 0xFFFFFF00), (14, 0x7000), (15, 0x1000)] [(0x1000, 0x78), (0x1001,
    0x51), (0x1002, 0x52), (0x1003, 0x50)])) (fun t => t.reg 0 == 0xFFFFFFF0 && cc t == 8) = true := by decide +kernel
theorem test_ashq_I42 :
    after (step (st .v750 0x0 [(2, 0x1), (3, 0x0), (14, 0x7000), (15, 0x1000)] [(0x1000, 0x79), (0x1001, 0x20),
    (0x1002, 0x52), (0x1003, 0x54)])) (fun t => t.reg 4 == 0x0 && t.reg 5 == 0x1 && cc t == 0) = true
    := by decide +kernel
theorem test_rotl_I43 :
    after (step (st .v750 0x0 [(1, 0x12345678), (14, 0x7000), (15, 0x1000)] [(0x1000, 0x9C), (0x1001, 0x8), (0x1002,
    0x51), (0x1003, 0x50)])) (fun t => t.reg 0 == 0x34567812 && cc t == 0) = true := by decide +kernel
theorem test_rotl_I44 :
    after (step (st .v750 0x0 [(2, 0xF8), (1, 0x12345678), (14, 0x7000), (15, 0x1000)] [(0x1000, 0x9C), (0x1001,
    0x52), (0x1002, 0x51), (0x1003, 0x50)])) (fun t => t.reg 0 == 0x78123456 && cc t == 0) = true := by decide +kernel
theorem test_adawi_I45 :
    after (step (st .v750 0x0 [(14, 0x7000), (15, 0x1000)] [(0x1000, 0x58), (0x1001, 0x1), (0x1002, 0x9F), (0x1004,
    0x20), (0x2000, 0xFF), (0x2001, 0xFF), (0x2002, 0x5)])) (fun t => State.at t 0x2000 [0x0, 0x0, 0x5] && cc t == 5)
    = true := by decide +kernel
theorem test_adawi_I46 :
    after (step (st .v750 0x0 [(14, 0x7000), (15, 0x1000)] [(0x618, 0x18), (0x619, 0x90), (0x1000, 0x58), (0x1001,
    0x1), (0x1002, 0x9F), (0x1003, 0x1), (0x1004, 0x20), (0x2000, 0x1), (0x2001, 0x2), (0x2002, 0x3)])) (fun t =>
    t.pc == 0x9018 && t.reg 14 == 0x6FF8) = true := by decide +kernel
theorem test_pushl_I47 :
    after (step (st .v750 0x0 [(14, 0xFFF00), (15, 0x1000)] [(0x1000, 0xDD), (0x1001, 0x5)])) (fun t => t.reg 14 ==
    0xFFEFC && State.at t 0xFFEFC [0x5, 0x0, 0x0, 0x0] && cc t == 0) = true := by decide +kernel
theorem test_pushl_I48 :
    after (step (st .v750 0x0 [(14, 0x2000), (15, 0x1000)] [(0x1000, 0xDD), (0x1001, 0x8E), (0x2000, 0x33)])) (fun t
    => t.reg 14 == 0x2000 && State.at t 0x2000 [0x33, 0x0, 0x0, 0x0]) = true := by decide +kernel
theorem test_moval_B1 :
    after (step (st .v750 0x0 [(1, 0x2000), (2, 0x3), (14, 0x7000), (15, 0x1000)] [(0x1000, 0xDE), (0x1001, 0x42),
    (0x1002, 0x61), (0x1003, 0x50)])) (fun t => t.reg 0 == 0x200C && cc t == 0) = true := by decide +kernel
theorem test_movaq_B2 :
    after (step (st .v750 0x0 [(1, 0x2000), (2, 0x3), (14, 0x7000), (15, 0x1000)] [(0x1000, 0x7E), (0x1001, 0x42),
    (0x1002, 0x61), (0x1003, 0x50)])) (fun t => t.reg 0 == 0x2018) = true := by decide +kernel
theorem test_pushab_B3 :
    after (step (st .v750 0x0 [(1, 0x2000), (14, 0x3000), (15, 0x1000)] [(0x1000, 0x9F), (0x1001, 0xA1), (0x1002,
    0x4)])) (fun t => t.reg 14 == 0x2FFC && State.at t 0x2FFC [0x4, 0x20, 0x0, 0x0]) = true := by decide +kernel
theorem test_moval_B5 :
    after (step (st .v750 0x0 [(1, 0x2000), (14, 0x7000), (15, 0x1000)] [(0x1000, 0xDE), (0x1001, 0x81), (0x1002,
    0x50)])) (fun t => t.reg 0 == 0x2000 && t.reg 1 == 0x2004) = true := by decide +kernel
theorem test_extv_B6 :
    after (step (st .v750 0x0 [(1, 0xA5), (14, 0x7000), (15, 0x1000)] [(0x1000, 0xEE), (0x1001, 0x4), (0x1002, 0x4),
    (0x1003, 0x51), (0x1004, 0x50)])) (fun t => t.reg 0 == 0xFFFFFFFA && cc t == 8) = true := by decide +kernel
theorem test_extzv_B7 :
    after (step (st .v750 0x0 [(1, 0xA5), (14, 0x7000), (15, 0x1000)] [(0x1000, 0xEF), (0x1001, 0x4), (0x1002, 0x4),
    (0x1003, 0x51), (0x1004, 0x50)])) (fun t => t.reg 0 == 0xA && cc t == 0) = true := by decide +kernel
theorem test_insv_B8 :
    after (step (st .v750 0x0 [(1, 0xA5), (14, 0x7000), (15, 0x1000)] [(0x1000, 0xF0), (0x1001, 0xF), (0x1002, 0x4),
    (0x1003, 0x4), (0x1004, 0x51)])) (fun t => t.reg 1 == 0xF5 && cc t == 0) = true := by decide +kernel
theorem test_extzv_B9 :
    after (step (st .v750 0x0 [(3, 0xA0000000), (4, 0xB), (14, 0x7000), (15, 0x1000)] [(0x1000, 0xEF), (0x1001,
    0x1C), (0x1002, 0x8), (0x1003, 0x53), (0x1004, 0x50)])) (fun t => t.reg 0 == 0xBA) = true := by decide +kernel
theorem test_ffs_B15 :
    after (step (st .v750 0x0 [(1, 0x500), (14, 0x7000), (15, 0x1000)] [(0x1000, 0xEA), (0x1002, 0x20), (0x1003,
    0x51), (0x1004, 0x50)])) (fun t => t.reg 0 == 0x8 && cc t == 0) = true := by decide +kernel
theorem test_ffs_B16 :
    after (step (st .v750 0x0 [(1, 0x0), (14, 0x7000), (15, 0x1000)] [(0x1000, 0xEA), (0x1002, 0x20), (0x1003, 0x51),
    (0x1004, 0x50)])) (fun t => t.reg 0 == 0x20 && cc t == 4) = true := by decide +kernel
theorem test_ffc_B17 :
    after (step (st .v750 0x0 [(1, 0xFF), (14, 0x7000), (15, 0x1000)] [(0x1000, 0xEB), (0x1002, 0x8), (0x1003, 0x51),
    (0x1004, 0x50)])) (fun t => t.reg 0 == 0x8 && cc t == 4) = true := by decide +kernel
theorem test_cmpv_B18 :
    after (step (st .v750 0x0 [(1, 0x80), (2, 0x7F), (14, 0x7000), (15, 0x1000)] [(0x1000, 0xEC), (0x1002, 0x8),
    (0x1003, 0x51), (0x1004, 0x52)])) (fun t => cc t == 8) = true := by decide +kernel
theorem test_cmpzv_B19 :
    after (step (st .v750 0x0 [(1, 0x80), (2, 0x7F), (14, 0x7000), (15, 0x1000)] [(0x1000, 0xED), (0x1002, 0x8),
    (0x1003, 0x51), (0x1004, 0x52)])) (fun t => cc t == 0) = true := by decide +kernel
theorem test_beql_C1 :
    after (step (st .v750 0x4 [(14, 0x7000), (15, 0x1000)] [(0x1000, 0x13), (0x1001, 0x10)])) (fun t => t.reg 15 ==
    0x1012) = true := by decide +kernel
theorem test_beql_C1b :
    after (step (st .v750 0x0 [(14, 0x7000), (15, 0x1000)] [(0x1000, 0x13), (0x1001, 0x10)])) (fun t => t.reg 15 ==
    0x1002) = true := by decide +kernel
theorem test_bgtr_C2 :
    after (step (st .v750 0x0 [(14, 0x7000), (15, 0x1000)] [(0x1000, 0x14), (0x1001, 0x10)])) (fun t => t.reg 15 ==
    0x1012) = true := by decide +kernel
theorem test_bgtr_C2b :
    after (step (st .v750 0x8 [(14, 0x7000), (15, 0x1000)] [(0x1000, 0x14), (0x1001, 0x10)])) (fun t => t.reg 15 ==
    0x1002) = true := by decide +kernel
theorem test_blequ_C3 :
    after (step (st .v750 0x1 [(14, 0x7000), (15, 0x1000)] [(0x1000, 0x1B), (0x1001, 0x10)])) (fun t => t.reg 15 ==
    0x1012) = true := by decide +kernel
theorem test_blequ_C3b :
    after (step (st .v750 0x4 [(14, 0x7000), (15, 0x1000)] [(0x1000, 0x1B), (0x1001, 0x10)])) (fun t => t.reg 15 ==
    0x1012) = true := by decide +kernel
theorem test_bgtru_C4 :
    after (step (st .v750 0x0 [(14, 0x7000), (15, 0x1000)] [(0x1000, 0x1A), (0x1001, 0x10)])) (fun t => t.reg 15 ==
    0x1012) = true := by decide +kernel
theorem test_bgtru_C4b :
    after (step (st .v750 0x1 [(14, 0x7000), (15, 0x1000)] [(0x1000, 0x1A), (0x1001, 0x10)])) (fun t => t.reg 15 ==
    0x1002) = true := by decide +kernel
theorem test_jmp_C5 :
    after (step (st .v750 0x5 [(14, 0x7000), (15, 0x1000)] [(0x1000, 0x17), (0x1001, 0x9F), (0x1003, 0x50)])) (fun t
    => t.reg 15 == 0x5000 && cc t == 5) = true := by decide +kernel
theorem test_jmp_C6 :
    after (step (st .v750 0x0 [(3, 0x5000), (14, 0x7000), (15, 0x1000)] [(0x1000, 0x17), (0x1001, 0x63)])) (fun t =>
    t.reg 15 == 0x5000) = true := by decide +kernel
theorem test_bbs_C7 :
    after (step (st .v750 0x0 [(1, 0x8), (14, 0x7000), (15, 0x1000)] [(0x1000, 0xE0), (0x1001, 0x3), (0x1002, 0x51),
    (0x1003, 0x10)])) (fun t => t.reg 15 == 0x1014) = true := by decide +kernel
theorem test_bbss_C8 :
    after (step (st .v750 0x0 [(1, 0x2000), (14, 0x7000), (15, 0x1000)] [(0x1000, 0xE2), (0x1002, 0x61), (0x1003,
    0x10)])) (fun t => t.reg 15 == 0x1004 && State.at t 0x2000 [0x1]) = true := by decide +kernel
theorem test_bbcc_C9 :
    after (step (st .v750 0x0 [(1, 0x2000), (14, 0x7000), (15, 0x1000)] [(0x1000, 0xE5), (0x1002, 0x61), (0x1003,
    0x10)])) (fun t => t.reg 15 == 0x1014 && State.at t 0x2000 [0x0]) = true := by decide +kernel
theorem test_bbssi_C10 :
    after (step (st .v750 0x0 [(1, 0x2000), (14, 0x7000), (15, 0x1000)] [(0x1000, 0xE6), (0x1002, 0x61), (0x1003,
    0x10), (0x2000, 0x1)])) (fun t => t.reg 15 == 0x1014 && State.at t 0x2000 [0x1]) = true := by decide +kernel
theorem test_blbs_C11 :
    after (step (st .v750 0x0 [(0, 0x1), (14, 0x7000), (15, 0x1000)] [(0x1000, 0xE8), (0x1001, 0x50), (0x1002,
    0x10)])) (fun t => t.reg 15 == 0x1013) = true := by decide +kernel
theorem test_blbc_C12 :
    after (step (st .v750 0x0 [(0, 0x1), (14, 0x7000), (15, 0x1000)] [(0x1000, 0xE9), (0x1001, 0x50), (0x1002,
    0x10)])) (fun t => t.reg 15 == 0x1003) = true := by decide +kernel
theorem test_acbl_C13 :
    after (step (st .v750 0x0 [(0, 0x8), (14, 0x7000), (15, 0x1000)] [(0x1000, 0xF1), (0x1001, 0xA), (0x1002, 0x2),
    (0x1003, 0x50), (0x1004, 0x10)])) (fun t => t.reg 0 == 0xA && t.reg 15 == 0x1016) = true := by decide +kernel
theorem test_acbl_C13b :
    after (step (st .v750 0x0 [(0, 0xA), (14, 0x7000), (15, 0x1000)] [(0x1000, 0xF1), (0x1001, 0xA), (0x1002, 0x2),
    (0x1003, 0x50), (0x1004, 0x10)])) (fun t => t.reg 0 == 0xC && t.reg 15 == 0x1006) = true := by decide +kernel
theorem test_aoblss_C15 :
    after (step (st .v750 0x0 [(1, 0x9), (14, 0x7000), (15, 0x1000)] [(0x1000, 0xF2), (0x1001, 0xA), (0x1002, 0x51),
    (0x1003, 0x10)])) (fun t => t.reg 1 == 0xA && t.reg 15 == 0x1004) = true := by decide +kernel
theorem test_aobleq_C16 :
    after (step (st .v750 0x0 [(1, 0xA), (14, 0x7000), (15, 0x100B)] [(0x100B, 0xF3), (0x100C, 0xA), (0x100D, 0x51),
    (0x100E, 0xF6)])) (fun t => t.reg 1 == 0xB && t.reg 15 == 0x100F && cc t == 0) = true := by decide +kernel
theorem test_aobleq_C17 :
    after (step (st .v750 0x0 [(1, 0x7FFFFFFF), (2, 0x7FFFFFFF), (14, 0x7000), (15, 0x1000)] [(0x1000, 0xF3),
    (0x1001, 0x52), (0x1002, 0x51), (0x1003, 0x10)])) (fun t => t.reg 1 == 0x80000000 && t.reg 15 == 0x1014 && cc t
    == 10) = true := by decide +kernel
theorem test_sobgeq_C18 :
    after (step (st .v750 0x0 [(0, 0x0), (14, 0x7000), (15, 0x1000)] [(0x1000, 0xF4), (0x1001, 0x50), (0x1002,
    0x10)])) (fun t => t.reg 0 == 0xFFFFFFFF && t.reg 15 == 0x1003 && cc t == 8) = true := by decide +kernel
theorem test_sobgtr_C19 :
    after (step (st .v750 0x0 [(0, 0x1), (14, 0x7000), (15, 0x1000)] [(0x1000, 0xF5), (0x1001, 0x50), (0x1002,
    0x10)])) (fun t => t.reg 0 == 0x0 && t.reg 15 == 0x1003 && cc t == 4) = true := by decide +kernel
theorem test_caseb_C20 :
    after (step (st .v750 0x0 [(0, 0x2), (14, 0x7000), (15, 0x1000)] [(0x1000, 0x8F), (0x1001, 0x50), (0x1002, 0x1),
    (0x1003, 0x2), (0x1004, 0x10), (0x1006, 0x20), (0x1008, 0x30)])) (fun t => t.reg 15 == 0x1024 && cc t == 9) =
    true := by decide +kernel
theorem test_caseb_C20b :
    after (step (st .v750 0x0 [(0, 0x3), (14, 0x7000), (15, 0x1000)] [(0x1000, 0x8F), (0x1001, 0x50), (0x1002, 0x1),
    (0x1003, 0x2), (0x1004, 0x10), (0x1006, 0x20), (0x1008, 0x30)])) (fun t => t.reg 15 == 0x1034 && cc t == 4) =
    true := by decide +kernel
theorem test_bsbb_C21 :
    after (step (st .v750 0x0 [(14, 0x2000), (15, 0x1000)] [(0x1000, 0x10), (0x1001, 0x10)])) (fun t => t.reg 14 ==
    0x1FFC && t.reg 15 == 0x1012 && State.at t 0x1FFC [0x2, 0x10, 0x0, 0x0]) = true := by decide +kernel
theorem test_bsbw_C22 :
    after (step (st .v750 0x0 [(14, 0x2000), (15, 0x1000)] [(0x1000, 0x30), (0x1001, 0xFD), (0x1002, 0xF)])) (fun t
    => t.reg 15 == 0x2000 && State.at t 0x1FFC [0x3, 0x10, 0x0, 0x0]) = true := by decide +kernel
theorem test_jsb_C23 :
    after (step (st .v750 0x0 [(3, 0x5000), (14, 0x2000), (15, 0x1000)] [(0x1000, 0x16), (0x1001, 0x63)])) (fun t =>
    t.reg 15 == 0x5000 && State.at t 0x1FFC [0x2, 0x10, 0x0, 0x0]) = true := by decide +kernel
theorem test_rsb_C24 :
    after (step (st .v750 0x0 [(14, 0x1FFC), (15, 0x1000)] [(0x1000, 0x5), (0x1FFC, 0x2), (0x1FFD, 0x10)])) (fun t =>
    t.reg 15 == 0x1002 && t.reg 14 == 0x2000) = true := by decide +kernel
theorem test_jsb_C25 :
    after (step (st .v750 0x0 [(14, 0x1FFC), (15, 0x1000)] [(0x1000, 0x16), (0x1001, 0x9E), (0x1FFD, 0x50)])) (fun t
    => t.reg 14 == 0x1FFC && t.reg 15 == 0x5000 && State.at t 0x1FFC [0x2, 0x10, 0x0, 0x0]) = true
    := by decide +kernel
theorem test_calls_P1 :
    after (step (st .v750 0xA9 [(14, 0x2FFA), (12, 0xAAAA0000), (13, 0xFFFF0000), (2, 0x22222222), (3, 0x33333333),
    (15, 0x1000)] [(0x1000, 0xFB), (0x1001, 0x1), (0x1002, 0x9F), (0x1004, 0x50), (0x5000, 0xC), (0x5001, 0x40)]))
    (fun t => t.reg 13 == 0x2FD8 && t.reg 12 == 0x2FF6 && t.reg 14 == 0x2FD8 && t.reg 15 == 0x5002 && State.at t
    0x2FF6 [0x1, 0x0, 0x0, 0x0] && State.at t 0x2FF0 [0x33, 0x33, 0x33, 0x33] && State.at t 0x2FEC [0x22, 0x22, 0x22,
    0x22] && State.at t 0x2FE8 [0x7, 0x10, 0x0, 0x0] && State.at t 0x2FE4 [0x0, 0x0, 0xFF, 0xFF] && State.at t 0x2FE0
    [0x0, 0x0, 0xAA, 0xAA] && State.at t 0x2FDC [0xA0, 0x0, 0xC, 0xA0] && State.at t 0x2FD8 [0x0, 0x0, 0x0, 0x0] &&
    t.psl == 0x20) = true := by decide +kernel
theorem test_ret_P1r :
    after (step (st .v750 0x20 [(13, 0x2FD8), (12, 0x2FF6), (14, 0x2FC0), (2, 0x1), (3, 0x2), (15, 0x1000)] [(0x1000,
    0x4), (0x2FDC, 0xA0), (0x2FDE, 0xC), (0x2FDF, 0xA0), (0x2FE2, 0xAA), (0x2FE3, 0xAA), (0x2FE6, 0xFF), (0x2FE7,
    0xFF), (0x2FE8, 0x7), (0x2FE9, 0x10), (0x2FEC, 0x22), (0x2FED, 0x22), (0x2FEE, 0x22), (0x2FEF, 0x22), (0x2FF0,
    0x33), (0x2FF1, 0x33), (0x2FF2, 0x33), (0x2FF3, 0x33), (0x2FF6, 0x1)])) (fun t => t.reg 12 == 0xAAAA0000 && t.reg
    13 == 0xFFFF0000 && t.reg 2 == 0x22222222 && t.reg 3 == 0x33333333 && t.reg 14 == 0x2FFE && t.reg 15 == 0x1007 &&
    t.psl == 0xA0) = true := by decide +kernel
theorem test_callg_P2 :
    after (step (st .v750 0xA9 [(14, 0x2FFA), (12, 0xAAAA0000), (13, 0xFFFF0000), (2, 0x22222222), (3, 0x33333333),
    (15, 0x1000)] [(0x1000, 0xFA), (0x1001, 0x9F), (0x1003, 0x60), (0x1006, 0x9F), (0x1008, 0x50), (0x5000, 0xC),
    (0x5001, 0x40)])) (fun t => t.reg 13 == 0x2FDC && t.reg 12 == 0x6000 && t.reg 14 == 0x2FDC && t.reg 15 == 0x5002
    && State.at t 0x2FE0 [0xA0, 0x0, 0xC, 0x80] && t.psl == 0x20) = true := by decide +kernel
theorem test_calls_P3 :
    after (step (st .v750 0x0 [(14, 0x3000), (12, 0x1), (13, 0x2), (15, 0x1000)] [(0x1000, 0xFB), (0x1002, 0x9F),
    (0x1004, 0x50)])) (fun t => t.reg 13 == 0x2FE8 && t.reg 14 == 0x2FE8 && t.reg 12 == 0x2FFC && State.at t 0x2FFC
    [0x0, 0x0, 0x0, 0x0] && State.at t 0x2FF8 [0x7, 0x10, 0x0, 0x0] && State.at t 0x2FF4 [0x2, 0x0, 0x0, 0x0] &&
    State.at t 0x2FF0 [0x1, 0x0, 0x0, 0x0] && State.at t 0x2FEC [0x0, 0x0, 0x0, 0x20] && State.at t 0x2FE8 [0x0, 0x0,
    0x0, 0x0]) = true := by decide +kernel
theorem test_insque_Q1 :
    after (step (st .v750 0x0 [(14, 0x7000), (15, 0x1000)] [(0x1000, 0xE), (0x1001, 0x9F), (0x1003, 0x40), (0x1006,
    0x9F), (0x1008, 0x30), (0x3001, 0x30), (0x3005, 0x30)])) (fun t => State.at t 0x4000 [0x0, 0x30, 0x0, 0x0] &&
    State.at t 0x4004 [0x0, 0x30, 0x0, 0x0] && State.at t 0x3000 [0x0, 0x40, 0x0, 0x0] && State.at t 0x3004 [0x0,
    0x40, 0x0, 0x0] && cc t == 4) = true := by decide +kernel
theorem test_insque_Q2 :
    after (step (st .v750 0x0 [(14, 0x7000), (15, 0x1000)] [(0x1000, 0xE), (0x1001, 0x9F), (0x1003, 0x50), (0x1006,
    0x9F), (0x1008, 0x40), (0x3001, 0x40), (0x3005, 0x40), (0x4001, 0x30), (0x4005, 0x30)])) (fun t => State.at t
    0x5000 [0x0, 0x30, 0x0, 0x0] && State.at t 0x5004 [0x0, 0x40, 0x0, 0x0] && State.at t 0x3004 [0x0, 0x50, 0x0,
    0x0] && State.at t 0x4000 [0x0, 0x50, 0x0, 0x0] && cc t == 9) = true := by decide +kernel
theorem test_remque_Q3 :
    after (step (st .v750 0x0 [(14, 0x7000), (15, 0x1000)] [(0x1000, 0xF), (0x1001, 0x9F), (0x1003, 0x40), (0x1006,
    0x50), (0x3001, 0x40), (0x3005, 0x50), (0x4001, 0x50), (0x4005, 0x30), (0x5001, 0x30), (0x5005, 0x40)])) (fun t
    => t.reg 0 == 0x4000 && State.at t 0x3000 [0x0, 0x50, 0x0, 0x0] && State.at t 0x5004 [0x0, 0x30, 0x0, 0x0] && cc
    t == 0) = true := by decide +kernel
theorem test_remque_Q4 :
    after (step (st .v750 0x20 [(14, 0x7000), (15, 0x1000)] [(0x1000, 0xF), (0x1001, 0x9F), (0x1003, 0x30), (0x1006,
    0x50), (0x3001, 0x30), (0x3005, 0x30)])) (fun t => t.reg 0 == 0x3000 && cc t == 6) = true := by decide +kernel
theorem test_insqhi_Q5 :
    after (step (st .v750 0x0 [(14, 0x7000), (15, 0x1000)] [(0x1000, 0x5C), (0x1001, 0x9F), (0x1003, 0x40), (0x1006,
    0x9F), (0x1008, 0x30)])) (fun t => State.at t 0x3004 [0x0, 0x10, 0x0, 0x0] && State.at t 0x4000 [0x0, 0xF0, 0xFF,
    0xFF] && State.at t 0x4004 [0x0, 0xF0, 0xFF, 0xFF] && State.at t 0x3000 [0x0, 0x10, 0x0, 0x0] && cc t == 4) =
    true := by decide +kernel
theorem test_insqti_Q6 :
    after (step (st .v750 0x0 [(14, 0x7000), (15, 0x1000)] [(0x1000, 0x5D), (0x1001, 0x9F), (0x1003, 0x50), (0x1006,
    0x9F), (0x1008, 0x30), (0x3001, 0x10), (0x3005, 0x10), (0x4001, 0xF0), (0x4002, 0xFF), (0x4003, 0xFF), (0x4005,
    0xF0), (0x4006, 0xFF), (0x4007, 0xFF)])) (fun t => State.at t 0x4000 [0x0, 0x10, 0x0, 0x0] && State.at t 0x5000
    [0x0, 0xE0, 0xFF, 0xFF] && State.at t 0x5004 [0x0, 0xF0, 0xFF, 0xFF] && State.at t 0x3004 [0x0, 0x20, 0x0, 0x0]
    && State.at t 0x3000 [0x0, 0x10, 0x0, 0x0] && cc t == 0) = true := by decide +kernel
theorem test_remqhi_Q7 :
    after (step (st .v750 0x0 [(14, 0x7000), (15, 0x1000)] [(0x1000, 0x5E), (0x1001, 0x9F), (0x1003, 0x30), (0x1006,
    0x50), (0x3001, 0x10), (0x3005, 0x20), (0x4001, 0x10), (0x4005, 0xF0), (0x4006, 0xFF), (0x4007, 0xFF), (0x5001,
    0xE0), (0x5002, 0xFF), (0x5003, 0xFF), (0x5005, 0xF0), (0x5006, 0xFF), (0x5007, 0xFF)])) (fun t => t.reg 0 ==
    0x4000 && State.at t 0x5004 [0x0, 0xE0, 0xFF, 0xFF] && State.at t 0x3000 [0x0, 0x20, 0x0, 0x0] && cc t == 0) =
    true := by decide +kernel
theorem test_remqhi_Q7b :
    after (step (st .v750 0x0 [(14, 0x7000), (15, 0x1000)] [(0x1000, 0x5E), (0x1001, 0x9F), (0x1003, 0x30), (0x1006,
    0x50), (0x3001, 0x20), (0x3005, 0x20), (0x5001, 0xE0), (0x5002, 0xFF), (0x5003, 0xFF), (0x5005, 0xE0), (0x5006,
    0xFF), (0x5007, 0xFF)])) (fun t => t.reg 0 == 0x5000 && State.at t 0x3000 [0x0, 0x0, 0x0, 0x0] && State.at t
    0x3004 [0x0, 0x0, 0x0, 0x0] && cc t == 4) = true := by decide +kernel
theorem test_remqti_Q7d :
    after (step (st .v750 0x0 [(14, 0x7000), (15, 0x1000)] [(0x1000, 0x5F), (0x1001, 0x9F), (0x1003, 0x30), (0x1006,
    0x50), (0x3001, 0x10), (0x3005, 0x20), (0x4001, 0x10), (0x4005, 0xF0), (0x4006, 0xFF), (0x4007, 0xFF), (0x5001,
    0xE0), (0x5002, 0xFF), (0x5003, 0xFF), (0x5005, 0xF0), (0x5006, 0xFF), (0x5007, 0xFF)])) (fun t => t.reg 0 ==
    0x5000 && State.at t 0x3004 [0x0, 0x10, 0x0, 0x0] && State.at t 0x4000 [0x0, 0xF0, 0xFF, 0xFF] && State.at t
    0x3000 [0x0, 0x10, 0x0, 0x0] && cc t == 0) = true := by decide +kernel
theorem test_insqhi_Q8 :
    after (step (st .v750 0x0 [(14, 0x7000), (15, 0x1000)] [(0x1000, 0x5C), (0x1001, 0x9F), (0x1003, 0x40), (0x1006,
    0x9F), (0x1008, 0x30), (0x3000, 0x1)])) (fun t => State.at t 0x3000 [0x1, 0x0, 0x0, 0x0] && State.at t 0x4000
    [0x0, 0x0, 0x0, 0x0] && cc t == 1) = true := by decide +kernel
theorem test_addf2_F1 :
    after (step (st .v750 0x0 [(0, 0x4100), (14, 0x7000), (15, 0x1000)] [(0x1000, 0x40), (0x1001, 0x8), (0x1002,
    0x50)])) (fun t => t.reg 0 == 0x4140 && cc t == 0) = true := by decide +kernel
theorem test_addf3_F2 :
    after (step (st .v750 0x0 [(1, 0xAAAB3FAA), (2, 0xAAAB3FAA), (14, 0x7000), (15, 0x1000)] [(0x1000, 0x41),
    (0x1001, 0x51), (0x1002, 0x52), (0x1003, 0x50)])) (fun t => t.reg 0 == 0xAAAB402A) = true := by decide +kernel
theorem test_addf3_F3 :
    after (step (st .v750 0x0 [(1, 0xCCCD3ECC), (2, 0xCCCD3ECC), (14, 0x7000), (15, 0x1000)] [(0x1000, 0x41),
    (0x1001, 0x51), (0x1002, 0x52), (0x1003, 0x50)])) (fun t => t.reg 0 == 0xCCCD3F4C) = true := by decide +kernel
theorem test_subf3_F6 :
    after (step (st .v750 0x0 [(1, 0xC170), (0, 0x1), (14, 0x7000), (15, 0x1000)] [(0x1000, 0x43), (0x1001, 0x51),
    (0x1002, 0x51), (0x1003, 0x50)])) (fun t => t.reg 0 == 0x0 && cc t == 4) = true := by decide +kernel
theorem test_subf2_F7 :
    after (step (st .v750 0x0 [(0, 0x4080), (14, 0x7000), (15, 0x1000)] [(0x1000, 0x42), (0x1001, 0x4), (0x1002,
    0x50)])) (fun t => t.reg 0 == 0x3F80) = true := by decide +kernel
theorem test_mulf3_F8 :
    after (step (st .v750 0x0 [(1, 0x40C0), (2, 0x40C0), (14, 0x7000), (15, 0x1000)] [(0x1000, 0x45), (0x1001, 0x51),
    (0x1002, 0x52), (0x1003, 0x50)])) (fun t => t.reg 0 == 0x4110) = true := by decide +kernel
theorem test_mulf3_F9 :
    after (step (st .v750 0x0 [(1, 0x4140), (2, 0xAAAB3FAA), (14, 0x7000), (15, 0x1000)] [(0x1000, 0x45), (0x1001,
    0x51), (0x1002, 0x52), (0x1003, 0x50)])) (fun t => t.reg 0 == 0x4080) = true := by decide +kernel
theorem test_divf2_F11 :
    after (step (st .v750 0x0 [(0, 0x4140), (14, 0x7000), (15, 0x1000)] [(0x1000, 0x46), (0x1001, 0x10), (0x1002,
    0x50)])) (fun t => t.reg 0 == 0x40C0) = true := by decide +kernel
theorem test_divf3_F12 :
    after (step (st .v750 0x0 [(1, 0x4140), (2, 0x4080), (14, 0x7000), (15, 0x1000)] [(0x1000, 0x47), (0x1001, 0x51),
    (0x1002, 0x52), (0x1003, 0x50)])) (fun t => t.reg 0 == 0xAAAB3FAA) = true := by decide +kernel
theorem test_divf3_F13 :
    after (step (st .v780 0x0 [(1, 0x0), (2, 0x4080), (14, 0x7000), (15, 0x1000)] [(0x634, 0x34), (0x635, 0x90),
    (0x1000, 0x47), (0x1001, 0x51), (0x1002, 0x52), (0x1003, 0x50)])) (fun t => t.reg 0 == 0x8000 && t.pend.trap ==
    some 4 && t.pc == 0x1004) = true := by decide +kernel
theorem test_mnegf_F17 :
    after (step (st .v750 0x0 [(1, 0x4080), (14, 0x7000), (15, 0x1000)] [(0x1000, 0x52), (0x1001, 0x51), (0x1002,
    0x50)])) (fun t => t.reg 0 == 0xC080 && cc t == 8) = true := by decide +kernel
theorem test_mnegf_F17b :
    after (step (st .v750 0x0 [(1, 0x0), (14, 0x7000), (15, 0x1000)] [(0x1000, 0x52), (0x1001, 0x51), (0x1002,
    0x50)])) (fun t => t.reg 0 == 0x0 && cc t == 4) = true := by decide +kernel
theorem test_cmpf_F18 :
    after (step (st .v750 0x0 [(1, 0xC080), (2, 0x4080), (14, 0x7000), (15, 0x1000)] [(0x1000, 0x51), (0x1001, 0x51),
    (0x1002, 0x52)])) (fun t => cc t == 8) = true := by decide +kernel
theorem test_cmpf_F19 :
    after (step (st .v750 0x0 [(1, 0x0), (2, 0x10000), (14, 0x7000), (15, 0x1000)] [(0x1000, 0x51), (0x1001, 0x51),
    (0x1002, 0x52)])) (fun t => cc t == 4) = true := by decide +kernel
theorem test_tstf_F20 :
    after (step (st .v750 0x0 [(1, 0xC170), (14, 0x7000), (15, 0x1000)] [(0x1000, 0x53), (0x1001, 0x51)])) (fun t =>
    cc t == 8) = true := by decide +kernel
theorem test_cvtlf_F21 :
    after (step (st .v750 0x0 [(14, 0x7000), (15, 0x1000)] [(0x1000, 0x4E), (0x1001, 0x8F), (0x1002, 0x64), (0x1006,
    0x50)])) (fun t => t.reg 0 == 0x43C8) = true := by decide +kernel
theorem test_cvtlf_F22 :
    after (step (st .v750 0x0 [(1, 0x1000001), (14, 0x7000), (15, 0x1000)] [(0x1000, 0x4E), (0x1001, 0x51), (0x1002,
    0x50)])) (fun t => t.reg 0 == 0x14C80) = true := by decide +kernel
theorem test_cvtld_F23 :
    after (step (st .v750 0x0 [(1, 0x1000001), (14, 0x7000), (15, 0x1000)] [(0x1000, 0x6E), (0x1001, 0x51), (0x1002,
    0x50)])) (fun t => t.reg 0 == 0x4C80 && t.reg 1 == 0x8000) = true := by decide +kernel
theorem test_cvtfl_F24 :
    after (step (st .v750 0x0 [(1, 0xC120), (14, 0x7000), (15, 0x1000)] [(0x1000, 0x4A), (0x1001, 0x51), (0x1002,
    0x50)])) (fun t => t.reg 0 == 0xFFFFFFFE && cc t == 8) = true := by decide +kernel
theorem test_cvtrfl_F25 :
    after (step (st .v750 0x0 [(1, 0xC120), (14, 0x7000), (15, 0x1000)] [(0x1000, 0x4B), (0x1001, 0x51), (0x1002,
    0x50)])) (fun t => t.reg 0 == 0xFFFFFFFD && cc t == 8) = true := by decide +kernel
theorem test_cvtfl_F26 :
    after (step (st .v750 0x0 [(1, 0x5000), (14, 0x7000), (15, 0x1000)] [(0x1000, 0x4A), (0x1001, 0x51), (0x1002,
    0x50)])) (fun t => t.reg 0 == 0x80000000 && cc t == 10) = true := by decide +kernel
theorem test_cvtfb_F28 :
    after (step (st .v750 0x0 [(1, 0x4400), (0, 0x11111111), (14, 0x7000), (15, 0x1000)] [(0x1000, 0x48), (0x1001,
    0x51), (0x1002, 0x50)])) (fun t => t.reg 0 == 0x11111180 && cc t == 10) = true := by decide +kernel
theorem test_cvtfd_F29 :
    after (step (st .v750 0x0 [(1, 0xCCCD3ECC), (14, 0x7000), (15, 0x1000)] [(0x1000, 0x56), (0x1001, 0x51), (0x1002,
    0x52)])) (fun t => t.reg 2 == 0xCCCD3ECC && t.reg 3 == 0x0) = true := by decide +kernel
theorem test_cvtdf_F30 :
    after (step (st .v750 0x0 [(0, 0x4080), (1, 0x8000), (14, 0x7000), (15, 0x1000)] [(0x1000, 0x76), (0x1001, 0x50),
    (0x1002, 0x52)])) (fun t => t.reg 2 == 0x14080) = true := by decide +kernel
theorem test_cvtdf_F30b :
    after (step (st .v750 0x0 [(0, 0x4080), (1, 0x7FFF), (14, 0x7000), (15, 0x1000)] [(0x1000, 0x76), (0x1001, 0x50),
    (0x1002, 0x52)])) (fun t => t.reg 2 == 0x4080) = true := by decide +kernel
theorem test_emodf_F31 :
    after (step (st .v750 0x0 [(1, 0x4120), (2, 0x4140), (14, 0x7000), (15, 0x1000)] [(0x1000, 0x54), (0x1001, 0x51),
    (0x1003, 0x52), (0x1004, 0x53), (0x1005, 0x54)])) (fun t => t.reg 3 == 0x7 && t.reg 4 == 0x4000 && cc t == 0) =
    true := by decide +kernel
theorem test_acbf_F33 :
    after (step (st .v750 0x0 [(0, 0x4210), (14, 0x7000), (15, 0x1000)] [(0x1000, 0x4F), (0x1001, 0x22), (0x1002,
    0x8), (0x1003, 0x50), (0x1004, 0x10)])) (fun t => t.reg 0 == 0x4220 && t.reg 15 == 0x1016) = true
    := by decide +kernel
theorem test_acbf_F33b :
    after (step (st .v750 0x0 [(0, 0x4220), (14, 0x7000), (15, 0x1000)] [(0x1000, 0x4F), (0x1001, 0x22), (0x1002,
    0x8), (0x1003, 0x50), (0x1004, 0x10)])) (fun t => t.reg 0 == 0x4230 && t.reg 15 == 0x1006) = true
    := by decide +kernel
theorem test_movd_F34 :
    after (step (st .v750 0x0 [(8, 0x1), (14, 0x7000), (15, 0x1000)] [(0x1000, 0x70), (0x1001, 0x8), (0x1002,
    0x57)])) (fun t => t.reg 7 == 0x4080 && t.reg 8 == 0x0) = true := by decide +kernel
theorem test_addd3_F35 :
    after (step (st .v750 0x0 [(0, 0x4080), (1, 0x0), (2, 0x4100), (3, 0x0), (14, 0x7000), (15, 0x1000)] [(0x1000,
    0x61), (0x1001, 0x50), (0x1002, 0x52), (0x1003, 0x54)])) (fun t => t.reg 4 == 0x4140 && t.reg 5 == 0x0) = true
    := by decide +kernel
theorem test_addg3_F36 :
    after (step (st .v750 0x0 [(0, 0x4010), (2, 0x4020), (14, 0x7000), (15, 0x1000)] [(0x1000, 0xFD), (0x1001, 0x41),
    (0x1002, 0x50), (0x1003, 0x52), (0x1004, 0x54)])) (fun t => t.reg 4 == 0x4028 && t.reg 5 == 0x0) = true
    := by decide +kernel
theorem test_cvtfg_F37 :
    after (step (st .v750 0x0 [(1, 0x4170), (14, 0x7000), (15, 0x1000)] [(0x1000, 0xFD), (0x1001, 0x99), (0x1002,
    0x51), (0x1003, 0x52)])) (fun t => t.reg 2 == 0x402E && t.reg 3 == 0x0) = true := by decide +kernel
theorem test_cvtrfl_F38 :
    after (step (st .v750 0x0 [(1, 0x4000), (14, 0x7000), (15, 0x1000)] [(0x1000, 0x4B), (0x1001, 0x51), (0x1002,
    0x50)])) (fun t => t.reg 0 == 0x1) = true := by decide +kernel
theorem test_movc3_S1 :
    after (step (st .v750 0x0 [(14, 0x7000), (15, 0x1000)] [(0x1000, 0x28), (0x1001, 0x5), (0x1002, 0x9F), (0x1003,
    0x10), (0x1004, 0x20), (0x1007, 0x9F), (0x1008, 0x12), (0x1009, 0x20), (0x2010, 0x41), (0x2011, 0x42), (0x2012,
    0x43), (0x2013, 0x44), (0x2014, 0x45)])) (fun t => t.reg 0 == 0x0 && t.reg 1 == 0x2015 && t.reg 2 == 0x0 && t.reg
    3 == 0x2017 && t.reg 4 == 0x0 && t.reg 5 == 0x0 && State.at t 0x2010 [0x41, 0x42, 0x41, 0x42, 0x43, 0x44, 0x45]
    && cc t == 4) = true := by decide +kernel
theorem test_movc3_S2 :
    after (step (st .v750 0x0 [(14, 0x7000), (15, 0x1000)] [(0x1000, 0x28), (0x1001, 0x4), (0x1002, 0x9F), (0x1003,
    0x11), (0x1004, 0x20), (0x1007, 0x9F), (0x1008, 0x10), (0x1009, 0x20), (0x2010, 0x41), (0x2011, 0x42), (0x2012,
    0x43), (0x2013, 0x44), (0x2014, 0x45)])) (fun t => State.at t 0x2010 [0x42, 0x43, 0x44, 0x45, 0x45]) = true
    := by decide +kernel
theorem test_movc5_S3 :
    after (step (st .v750 0x0 [(14, 0x7000), (15, 0x1000)] [(0x1000, 0x2C), (0x1001, 0x2), (0x1002, 0x9F), (0x1004,
    0x20), (0x1007, 0x20), (0x1008, 0x5), (0x1009, 0x9F), (0x100B, 0x30), (0x2000, 0x41), (0x2001, 0x42)])) (fun t =>
    t.reg 0 == 0x0 && t.reg 1 == 0x2002 && t.reg 3 == 0x3005 && State.at t 0x3000 [0x41, 0x42, 0x20, 0x20, 0x20] &&
    cc t == 9) = true := by decide +kernel
theorem test_movc5_S3b :
    after (step (st .v750 0x0 [(14, 0x7000), (15, 0x1000)] [(0x1000, 0x2C), (0x1001, 0x5), (0x1002, 0x9F), (0x1004,
    0x20), (0x1007, 0x20), (0x1008, 0x2), (0x1009, 0x9F), (0x100B, 0x30), (0x2000, 0x41), (0x2001, 0x42), (0x2002,
    0x43), (0x2003, 0x44), (0x2004, 0x45)])) (fun t => t.reg 0 == 0x3 && t.reg 1 == 0x2002 && t.reg 3 == 0x3002 &&
    State.at t 0x3000 [0x41, 0x42, 0x0] && cc t == 0) = true := by decide +kernel
theorem test_cmpc3_S4 :
    after (step (st .v750 0x0 [(14, 0x7000), (15, 0x1000)] [(0x1000, 0x29), (0x1001, 0x3), (0x1002, 0x9F), (0x1004,
    0x20), (0x1007, 0x9F), (0x1009, 0x30), (0x2000, 0x41), (0x2001, 0x42), (0x2002, 0x43), (0x3000, 0x41), (0x3001,
    0x42), (0x3002, 0x44)])) (fun t => t.reg 0 == 0x1 && t.reg 1 == 0x2002 && t.reg 2 == 0x1 && t.reg 3 == 0x3002 &&
    cc t == 9) = true := by decide +kernel
theorem test_cmpc3_S4b :
    after (step (st .v750 0x0 [(14, 0x7000), (15, 0x1000)] [(0x1000, 0x29), (0x1001, 0x3), (0x1002, 0x9F), (0x1004,
    0x20), (0x1007, 0x9F), (0x1009, 0x30), (0x2000, 0x41), (0x2001, 0x42), (0x2002, 0x43), (0x3000, 0x41), (0x3001,
    0x42), (0x3002, 0x43)])) (fun t => t.reg 0 == 0x0 && t.reg 1 == 0x2003 && t.reg 2 == 0x0 && t.reg 3 == 0x3003 &&
    cc t == 4) = true := by decide +kernel
theorem test_locc_S5 :
    after (step (st .v750 0x0 [(14, 0x7000), (15, 0x1000)] [(0x1000, 0x3A), (0x1001, 0x2C), (0x1002, 0x5), (0x1003,
    0x9F), (0x1005, 0x20), (0x2000, 0x61), (0x2001, 0x62), (0x2002, 0x2C), (0x2003, 0x63), (0x2004, 0x64)])) (fun t
    => t.reg 0 == 0x3 && t.reg 1 == 0x2002 && cc t == 0) = true := by decide +kernel
theorem test_locc_S5b :
    after (step (st .v750 0x0 [(14, 0x7000), (15, 0x1000)] [(0x1000, 0x3A), (0x1001, 0x2D), (0x1002, 0x5), (0x1003,
    0x9F), (0x1005, 0x20), (0x2000, 0x61), (0x2001, 0x62), (0x2002, 0x2C), (0x2003, 0x63), (0x2004, 0x64)])) (fun t
    => t.reg 0 == 0x0 && t.reg 1 == 0x2005 && cc t == 4) = true := by decide +kernel
theorem test_skpc_S5c :
    after (step (st .v750 0x0 [(14, 0x7000), (15, 0x1000)] [(0x1000, 0x3B), (0x1001, 0x20), (0x1002, 0x4), (0x1003,
    0x9F), (0x1005, 0x20), (0x2000, 0x20), (0x2001, 0x20), (0x2002, 0x41), (0x2003, 0x20)])) (fun t => t.reg 0 == 0x2
    && t.reg 1 == 0x2002 && cc t == 0) = true := by decide +kernel
theorem test_addp4_D2 :
    after (step (st .v750 0x0 [(14, 0x7000), (15, 0x1000)] [(0x1000, 0x20), (0x1001, 0x3), (0x1002, 0x9F), (0x1004,
    0x20), (0x1007, 0x3), (0x1008, 0x9F), (0x100A, 0x30), (0x2000, 0x50), (0x2001, 0xC), (0x3000, 0x50), (0x3001,
    0xD)])) (fun t => State.at t 0x3000 [0x0, 0xC] && cc t == 4) = true := by decide +kernel
theorem test_addp4_D2b :
    after (step (st .v750 0x0 [(14, 0x7000), (15, 0x1000)] [(0x1000, 0x20), (0x1001, 0x3), (0x1002, 0x9F), (0x1004,
    0x20), (0x1007, 0x3), (0x1008, 0x9F), (0x100A, 0x30), (0x2000, 0x50), (0x2001, 0xD), (0x3000, 0x50), (0x3001,
    0xD)])) (fun t => State.at t 0x3000 [0x0, 0xD] && cc t == 6) = true := by decide +kernel
theorem test_cvtlp_D3 :
    after (step (st .v750 0x0 [(14, 0x7000), (15, 0x1000)] [(0x1000, 0xF9), (0x1001, 0x8F), (0x1002, 0x2E), (0x1003,
    0xFB), (0x1004, 0xFF), (0x1005, 0xFF), (0x1006, 0x5), (0x1007, 0x9F), (0x1009, 0x20)])) (fun t => State.at t
    0x2000 [0x1, 0x23, 0x4D] && cc t == 8) = true := by decide +kernel
theorem test_cvtpl_D3b :
    after (step (st .v750 0x0 [(14, 0x7000), (15, 0x1000)] [(0x1000, 0x36), (0x1001, 0x5), (0x1002, 0x9F), (0x1004,
    0x20), (0x1007, 0x50), (0x2000, 0x1), (0x2001, 0x23), (0x2002, 0x4D)])) (fun t => t.reg 0 == 0xFFFFFB2E && cc t
    == 8) = true := by decide +kernel
theorem test_movp_D4b :
    after (step (st .v750 0x0 [(14, 0x7000), (15, 0x1000)] [(0x618, 0x18), (0x619, 0x90), (0x1000, 0x34), (0x1001,
    0x3), (0x1002, 0x9F), (0x1004, 0x20), (0x1007, 0x9F), (0x1009, 0x30), (0x2000, 0x1A), (0x2001, 0x3C)])) (fun t =>
    t.pc == 0x9018 && t.reg 14 == 0x6FF8) = true := by decide +kernel
theorem test_movp_D4c :
    after (step (st .v750 0x0 [(14, 0x7000), (15, 0x1000)] [(0x1000, 0x34), (0x1001, 0x3), (0x1002, 0x9F), (0x1004,
    0x20), (0x1007, 0x9F), (0x1009, 0x30), (0x2000, 0x12), (0x2001, 0x3F)])) (fun t => State.at t 0x3000 [0x12,
    0x3C]) = true := by decide +kernel
theorem test_editpc_D5 :
    after (step (st .v750 0x0 [(14, 0x7000), (15, 0x1000)] [(0x1000, 0x38), (0x1001, 0x5), (0x1002, 0x9F), (0x1004,
    0x20), (0x1007, 0x9F), (0x1009, 0x30), (0x100C, 0x9F), (0x100E, 0x40), (0x2000, 0x1), (0x2001, 0x23), (0x2002,
    0x4D), (0x3000, 0x43), (0x3001, 0x2D), (0x3002, 0xA4), (0x3003, 0x1), (0x3004, 0x91)])) (fun t => t.reg 0 == 0x5
    && t.reg 1 == 0x2000 && t.reg 2 == 0x0 && t.reg 3 == 0x3005 && t.reg 4 == 0x0 && t.reg 5 == 0x4006 && State.at t
    0x4000 [0x20, 0x2D, 0x31, 0x32, 0x33, 0x34] && cc t == 9) = true := by decide +kernel
theorem test_editpc_D5b :
    after (step (st .v750 0x0 [(14, 0x7000), (15, 0x1000)] [(0x1000, 0x38), (0x1001, 0x5), (0x1002, 0x9F), (0x1004,
    0x20), (0x1007, 0x9F), (0x1009, 0x30), (0x100C, 0x9F), (0x100E, 0x40), (0x2002, 0xC), (0x3000, 0x43), (0x3001,
    0x2D), (0x3002, 0xA4), (0x3003, 0x1), (0x3004, 0x91)])) (fun t => t.reg 5 == 0x4006 && State.at t 0x4000 [0x20,
    0x20, 0x20, 0x20, 0x20, 0x30] && cc t == 5) = true := by decide +kernel
theorem test_cvtpl_D6 :
    after (step (st .v750 0x0 [(14, 0x7000), (15, 0x1000)] [(0x1000, 0x36), (0x1001, 0x1F), (0x1002, 0x9F), (0x1004,
    0x20), (0x1007, 0x50), (0x2000, 0x99), (0x2001, 0x99), (0x2002, 0x99), (0x2003, 0x99), (0x2004, 0x99), (0x2005,
    0x99), (0x2006, 0x99), (0x2007, 0x99), (0x2008, 0x99), (0x2009, 0x99), (0x200A, 0x99), (0x200B, 0x99), (0x200C,
    0x99), (0x200D, 0x99), (0x200E, 0x99), (0x200F, 0x9C)])) (fun t => t.reg 0 == 0x7FFFFFFF && cc t == 2) = true
    := by decide +kernel
theorem test_pushr_X1 :
    after (step (st .v750 0x0 [(14, 0x2000), (0, 0x11111111), (2, 0x22222222), (15, 0x1000)] [(0x1000, 0xBB),
    (0x1001, 0x5)])) (fun t => t.reg 14 == 0x1FF8 && State.at t 0x1FFC [0x22, 0x22, 0x22, 0x22] && State.at t 0x1FF8
    [0x11, 0x11, 0x11, 0x11]) = true := by decide +kernel
theorem test_popr_X1b :
    after (step (st .v750 0x0 [(14, 0x1FF8), (15, 0x1000)] [(0x1000, 0xBA), (0x1001, 0x5), (0x1FF8, 0x11), (0x1FF9,
    0x11), (0x1FFA, 0x11), (0x1FFB, 0x11), (0x1FFC, 0x22), (0x1FFD, 0x22), (0x1FFE, 0x22), (0x1FFF, 0x22)])) (fun t
    => t.reg 0 == 0x11111111 && t.reg 2 == 0x22222222 && t.reg 14 == 0x2000) = true := by decide +kernel
theorem test_pushr_X2 :
    after (step (st .v750 0x0 [(14, 0x2000), (15, 0x1000)] [(0x1000, 0xBB), (0x1001, 0x8F), (0x1003, 0x40)])) (fun t
    => t.reg 14 == 0x1FFC && State.at t 0x1FFC [0x0, 0x20, 0x0, 0x0]) = true := by decide +kernel
theorem test_popr_X2c :
    after (step (st .v750 0x0 [(14, 0x1FFC), (15, 0x1000)] [(0x1000, 0xBA), (0x1001, 0x8F), (0x1003, 0x40), (0x1FFD,
    0x20)])) (fun t => t.reg 14 == 0x2000) = true := by decide +kernel
theorem test_movpsl_X3 :
    after (step (st .v750 0x41F0008 [(14, 0x7000), (15, 0x1000)] [(0x1000, 0xDC), (0x1001, 0x50)])) (fun t => t.reg 0
    == 0x41F0008) = true := by decide +kernel
theorem test_bispsw_X4 :
    after (step (st .v750 0x20 [(14, 0x7000), (15, 0x1000)] [(0x1000, 0xB8), (0x1001, 0xF)])) (fun t => cc t == 15) =
    true := by decide +kernel
theorem test_bicpsw_X4b :
    after (step (st .v750 0xF [(14, 0x7000), (15, 0x1000)] [(0x1000, 0xB9), (0x1001, 0xF)])) (fun t => cc t == 0) =
    true := by decide +kernel
theorem test_bispsw_X4c :
    after (step (st .v750 0x0 [(14, 0x7000), (15, 0x1000)] [(0x1000, 0xB8), (0x1001, 0x20)])) (fun t => t.psl ==
    0x20) = true := by decide +kernel
theorem test_index_X5 :
    after (step (st .v750 0x0 [(0, 0x3), (14, 0x7000), (15, 0x1000)] [(0x1000, 0xA), (0x1001, 0x50), (0x1002, 0x1),
    (0x1003, 0xA), (0x1004, 0x4), (0x1006, 0x51)])) (fun t => t.reg 1 == 0xC && cc t == 0) = true := by decide +kernel
theorem test_index_X5b :
    after (step (st .v750 0x0 [(0, 0xB), (14, 0x7000), (15, 0x1000)] [(0x634, 0x34), (0x635, 0x90), (0x1000, 0xA),
    (0x1001, 0x50), (0x1002, 0x1), (0x1003, 0xA), (0x1004, 0x4), (0x1006, 0x51)])) (fun t => t.reg 1 == 0x2C &&
    t.pend.trap == some 7 && t.pc == 0x1007) = true := by decide +kernel
theorem test_crc_X6 :
    after (step (st .v750 0x0 [(1, 0x1), (14, 0x7000), (15, 0x1000)] [(0x1000, 0xB), (0x1001, 0x9F), (0x1003, 0x30),
    (0x1007, 0x9), (0x1008, 0x9F), (0x100A, 0x20), (0x2000, 0x31), (0x2001, 0x32), (0x2002, 0x33), (0x2003, 0x34),
    (0x2004, 0x35), (0x2005, 0x36), (0x2006, 0x37), (0x2007, 0x38), (0x2008, 0x39), (0x3004, 0x1), (0x3005, 0xCC),
    (0x3008, 0x1), (0x3009, 0xD8), (0x300D, 0x14), (0x3010, 0x1), (0x3011, 0xF0), (0x3015, 0x3C), (0x3019, 0x28),
    (0x301C, 0x1), (0x301D, 0xE4), (0x3020, 0x1), (0x3021, 0xA0), (0x3025, 0x6C), (0x3029, 0x78), (0x302C, 0x1),
    (0x302D, 0xB4), (0x3031, 0x50), (0x3034, 0x1), (0x3035, 0x9C), (0x3038, 0x1), (0x3039, 0x88), (0x303D, 0x44)]))
    (fun t => t.reg 0 == 0xBB3D && t.reg 1 == 0x0 && t.reg 2 == 0x0 && t.reg 3 == 0x2009 && cc t == 0) = true
    := by decide +kernel
theorem test_nop_X7 :
    after (step (st .v750 0x0 [(14, 0x7000), (15, 0x1000)] [(0x1000, 0x1)])) (fun t => t.reg 15 == 0x1001) = true
    := by decide +kernel
theorem test_rei_Y1 :
    after (step { st .v750 0xC00000 [(14, 0x80FF8), (15, 0x1000)] [(0x1000, 0x2), (0x80FF8, 0x2), (0x80FF9, 0x2),
    (0x80FFE, 0xC0), (0x80FFF, 0x3)] with sp := ⟨0,0,0,0x7FE000,0⟩ }) (fun t => t.reg 14 == 0x7FE000 && t.reg 15 ==
    0x202 && t.psl == 0x3C00000 && t.sp.ksp == 0x81000) = true := by decide +kernel
theorem test_rei_Y1r0 :
    after (step { st .v750 0x3C00000 [(14, 0x4000), (15, 0x1000)] [(0x618, 0x18), (0x619, 0x90), (0x1000, 0x2),
    (0x4000, 0x2), (0x4001, 0x2)] with sp := ⟨0x5000, 0, 0, 0, 0⟩ }) (fun t => t.pc == 0x9018 && t.reg 14 == 0x4FF8)
    = true := by decide +kernel
theorem test_chmk_Y2 :
    after (step { st .v750 0x3C00000 [(14, 0x4000), (15, 0x1103)] [(0x641, 0x12), (0x1103, 0xBC), (0x1104, 0x5)] with
    sp := ⟨0x3000,0,0,0,0⟩ }) (fun t => t.reg 14 == 0x2FF4 && t.reg 15 == 0x1200 && State.at t 0x2FFC [0x0, 0x0,
    0xC0, 0x3] && State.at t 0x2FF8 [0x5, 0x11, 0x0, 0x0] && State.at t 0x2FF4 [0x5, 0x0, 0x0, 0x0] && t.psl ==
    0xC00000 && t.sp.usp == 0x4000) = true := by decide +kernel
theorem test_chmk_Y2b :
    after (step (st .v750 0x0 [(14, 0x4000), (15, 0x1000)] [(0x641, 0x12), (0x1000, 0xBC), (0x1001, 0x8F), (0x1002,
    0xFF), (0x1003, 0xFF)])) (fun t => State.at t 0x3FF4 [0xFF, 0xFF, 0xFF, 0xFF]) = true := by decide +kernel
theorem test_chmu_Y2c :
    after (step (st .v750 0x0 [(14, 0x4000), (15, 0x1000)] [(0x64D, 0x13), (0x1000, 0xBF), (0x1001, 0x1)])) (fun t =>
    t.reg 15 == 0x1300 && t.reg 14 == 0x3FF4 && t.psl == 0x0) = true := by decide +kernel
theorem test_mtpr_Y3 :
    after (step (st .v750 0x0 [(14, 0x7000), (15, 0x1000)] [(0x1000, 0xDA), (0x1001, 0x8), (0x1002, 0x12)])) (fun t
    => cc t == 0 && t.psl == 0x80000) = true := by decide +kernel
theorem test_mtpr_Y3b :
    after (step { st .v750 0x3C00000 [(14, 0x7000), (15, 0x1000)] [(0x610, 0x10), (0x611, 0x90), (0x1000, 0xDA),
    (0x1001, 0x8), (0x1002, 0x12)] with sp := ⟨0x5000, 0, 0, 0, 0⟩ }) (fun t => t.pc == 0x9010 && t.reg 14 == 0x4FF8)
    = true := by decide +kernel
theorem test_mfpr_Y4 :
    after (step (st .v750 0x0 [(14, 0x7000), (15, 0x1000)] [(0x1000, 0xDB), (0x1001, 0x3E), (0x1002, 0x50)])) (fun t
    => t.reg 0 == 0x2000000) = true := by decide +kernel
theorem test_mfpr_Y4a :
    after (step (st .v780 0x0 [(14, 0x7000), (15, 0x1000)] [(0x1000, 0xDB), (0x1001, 0x3E), (0x1002, 0x50)])) (fun t
    => t.reg 0 == 0x1000000) = true := by decide +kernel
theorem test_bpt_Y8 :
    after (step (st .v750 0x0 [(14, 0x7000), (15, 0x1000)] [(0x62C, 0x2C), (0x62D, 0x90), (0x1000, 0x3)])) (fun t =>
    t.pc == 0x902C && t.reg 14 == 0x6FF8) = true := by decide +kernel
theorem test_xfc_Y8b :
    after (step (st .v750 0x0 [(14, 0x7000), (15, 0x1000)] [(0x614, 0x14), (0x615, 0x90), (0x1000, 0xFC)])) (fun t =>
    t.pc == 0x9014 && t.reg 14 == 0x6FF8) = true := by decide +kernel
theorem test_halt_Y7 :
    after (step (st .v750 0x0 [(14, 0x7000), (15, 0x1000)] [])) (fun t => t.reg 15 == 0x1001 && t.run == .halted
    .haltInstruction) = true := by decide +kernel

/-! ### Errors of memory and halts: 20_memory.md R268, 11_processor_registers.md R210, R211, 62_platform_780.md R1302, R1320 -/

theorem test_memory_error_is_a_machine_check :
    after (step { st .v750 0 [(14, 0x7000), (15, 0x1000)]
        [(0x604, 0x05), (0x605, 0x90), (0x1000, 0xD0), (0x1001, 0x9F), (0x1003, 0x20), (0x1006, 0x50)] with
      cfg := { Config.standard with mchkLongwords := 0 }, sp := ⟨0, 0, 0, 0, 0x5000⟩, badMem := [(0x800, 1)] })
      (fun t => t.pc == 0x9004 && t.is && t.ipl == 31 && t.v750.mcesr == 8 && t.v750.mcsr == 4)
      = true := by decide +kernel
/-- The trap an instruction left is entered by the next step with its type code on the stack, 60_exceptions.md R1075. -/
theorem test_trap_is_entered_at_the_boundary :
    after (step { st .v750 0 [(14, 0x7000), (15, 0x1003)] [(0x634, 0x34), (0x635, 0x90)] with
        pend := { Pending.none with trap := some 1 } })
      (fun t => t.pc == 0x9034 && t.pend.trap == none && State.at t 0x6FF4 [1, 0, 0, 0, 3, 0x10, 0, 0]) = true := by decide +kernel
/-- A machine check before the last one is handled, 60_exceptions.md R1095 (g), 70_reset_and_hazards.md R1622. -/
theorem test_second_machine_check_halts :
    after (step { st .v750 0x001F0000 [(15, 0x1000)] [] with
        pend := { Pending.none with machineCheck := some (.tb 1), inMachineCheck := 1 } })
      (fun t => t.run == .halted .doubleError) = true := by decide +kernel
/-- MTPR #^X20,#ICCS with ICR all ones: a single step overflows, 11_processor_registers.md R170, R173. -/
theorem test_mtpr_iccs_single_step :
    after (step { st .v750 0 [(15, 0x1000)] [(0x1000, 0xDA), (0x1001, 0x20), (0x1002, 0x18)] with
        clock := { State.reset.clock with icr := 0xFFFFFFFF, nicr := 7 } })
      (fun t => t.clock.icr == 7 && t.clock.int && !t.clock.err) = true := by decide +kernel
/-- MTPR #^X21,#TXDB sends the character, 11_processor_registers.md R183. -/
theorem test_mtpr_txdb_sends :
    after (step (st .v750 0 [(15, 0x1000)] [(0x1000, 0xDA), (0x1001, 0x21), (0x1002, 0x23)]))
      (fun t => t.sent == [.char 0 0x21] && !t.term.tx.ready) = true := by decide +kernel
theorem test_halt_enters_console_mode :
    after (step (st .v780 0 [(14, 0x7000), (15, 0x1000)] [])) (fun t => t.v780.command) = true := by decide +kernel
theorem test_mtpr_pcbb_keeps_every_bit :
    after (step (st .v750 0 [(0, 0xFFFFFFFF), (15, 0x1000)] [(0x1000, 0xDA), (0x1001, 0x50), (0x1002, 0x10)]))
      (fun t => t.pcbb == 0xFFFFFFFF) = true := by decide +kernel
/-- CMPL of a longword with itself, which another agent changes between the two reads, 62_platform_780.md R1344. -/
theorem test_cmpl_sees_a_cycle_between_its_reads :
    after (step { st .v780 0 [(15, 0x1000)]
        [(0x1000, 0xD1), (0x1001, 0x9F), (0x1003, 0x20), (0x1006, 0x9F), (0x1008, 0x20)] with
        during := [(1, .agentWrite 0x2000 7)] })
      (fun t => cc t == 9 && t.pc == 0x100B && t.during == []) = true := by decide +kernel
/-- MOVW R0 to a UNIBUS word whose device asserts PB, 61_platform_750.md R1202. -/
theorem test_unibus_write_with_pb_is_a_machine_check :
    after (step { st .v750 0 [(14, 0x7000), (15, 0x1000)]
        [(0x604, 0x05), (0x605, 0x90), (0x1000, 0xB0), (0x1001, 0x50), (0x1002, 0x9F), (0x1004, 0xE0), (0x1005, 0xFF)] with
      cfg := { Config.standard with mchkLongwords := 0 }, sp := ⟨0, 0, 0, 0, 0x5000⟩, ubWords := [(0x3E000, ⟨0, true⟩)] })
      (fun t => t.pc == 0x9004 && t.v750.mcesr == 8 && t.v750.mcsr == 4) = true := by decide +kernel
/-- CSR1 reads back what was written, ECC Disable Mode included, until a page in that mode is accessed, 61_platform_750.md R1162. -/
theorem test_csr1_reads_back :
    after (step { st .v750 0 [(15, 0x1000)]
        [(0x1000, 0xD0), (0x1001, 0x9F), (0x1002, 0x04), (0x1004, 0xF2), (0x1006, 0x50)] with
        v750 := { State.reset.v750 with csr1 := 0x0A00007F } })
      (fun t => t.reg 0 == 0x0A00007F) = true := by decide +kernel
/-- A transfer ends when its drive-side counter comes to 0, whatever the other half, 61_platform_750.md R1224. -/
theorem test_massbus_ends_by_the_drive_side :
    (({ Mba.powerUp true with sr := 0x80000000, kind := .toDrive, bcrBus := 0xFFFE, bcrMem := 5 } : Mba).busMoved 2 []).sr =
      0x2000 := by decide +kernel
/-- PUSHR writes the highest register first: another agent's write after it stays, 48_misc.md R961. -/
theorem test_pushr_writes_the_highest_register_first :
    after (step { st .v780 0 [(14, 0x2000), (2, 0x22222222), (15, 0x1000)] [(0x1000, 0xBB), (0x1001, 0x5)] with
        during := [(1, .agentWrite 0x1FFC 7)] })
      (fun t => State.at t 0x1FFC [7] && t.during == []) = true := by decide +kernel
/-- A DR780 at TR 5 that asserts request line 6 interrupts at IPL 16 through vector 194, 62_platform_780.md R1354. -/
theorem test_dr780_interrupts :
    after (step { st .v780 0 [(14, 0x7000), (15, 0x1000)] [(0x794, 0x04), (0x795, 0x90)] with
        cfg := { Config.standard with cpu := .v780, memCtlUnits := [16], nexus := [(1, .memory 0), (5, .dr780)] },
        v780 := { V780.reset { Config.standard with cpu := .v780 } with nexusReqs := [(5, 6)] } })
      (fun t => t.pc == 0x9004 && t.ipl == 0x16) = true := by decide +kernel
/-- An instruction byte whose page another agent validates after the fetch is still not valid, 20_memory.md R316. -/
theorem test_missing_byte_faults_as_fetched :
    after (step { st .v750 0x041F0000 [(2, 0x1000), (14, 0x1100), (15, 0x11FE)]
        [(0x20, 0x8), (0x23, 0x94), (0x24, 0x9), (0x27, 0x10), (0x625, 0x30), (0x11FE, 0xD0), (0x11FF, 0x62), (0x4003, 0x94)] with
        mm := { State.reset.mm with mapen := true, sbr := 0x4000, slr := 1, p0br := 0x80000000, p0lr := 16 }
        during := [(0, .agentWrite 0x27 0x90)] })
      (fun t => t.pc == 0x3000 && t.reg 14 == 0x10F0) = true := by decide +kernel
/-- POPR #3 with the second longword in a page that is not valid: no register is loaded, 48_misc.md R962. -/
theorem test_popr_checks_all_first :
    after (step { st .v750 0x041F0000 [(0, 5), (14, 0x11FC), (15, 0x1000)]
        [(0x20, 0x8), (0x23, 0x94), (0x24, 0x9), (0x27, 0x10), (0x625, 0x30), (0x1000, 0xBA), (0x1001, 0x3), (0x4003, 0x94)] with
        mm := { State.reset.mm with mapen := true, sbr := 0x4000, slr := 1, p0br := 0x80000000, p0lr := 16 } })
      (fun t => t.pc == 0x3000 && t.reg 0 == 5 && t.reg 14 == 0x11EC) = true := by decide +kernel
/-- A V780 halted with its console in command mode. -/
def halted (p : ConProgram) (e : Event) : State :=
  { st .v780 0 [] [] with
    run := .halted .consoleHalt, v780 := { State.reset.v780 with command := true, program := p }, events := [(0, e)] }
/-- PERFORM executes what LINK has stored, 62_platform_780.md R1319. -/
theorem test_console_perform :
    after (step (halted { ConProgram.initial with linked := some [.showState, .waitDone] } (.console .perform)))
      (fun t => t.v780.program.todo == [⟨false, .showState⟩, ⟨false, .waitDone⟩]) = true := by decide +kernel
/-- A command of REPEAT stays to be executed again. -/
theorem test_console_repeat :
    after (step (halted { ConProgram.initial with todo := [⟨true, .deposit none (some 1) (.at 0x200) 7⟩] } .consoleLine))
      (fun t => t.byte 0x200 == 7 && t.v780.program.todo.length == 1) = true := by decide +kernel
/-- Control-C stops it, R1307. -/
theorem test_console_control_c :
    after (step (halted { ConProgram.initial with todo := [⟨true, .showState⟩, ⟨false, .help⟩], linking := true } .controlC))
      (fun t => t.v780.program.todo == [⟨false, .help⟩] && !t.v780.program.linking) = true := by decide +kernel
/-- A halt ends a WAIT DONE and its file, R1319. -/
theorem test_halt_ends_wait_done :
    after (step { st .v780 0 [(14, 0x7000), (15, 0x1000)] [] with
        v780 := { State.reset.v780 with program := { ConProgram.initial with todo := [⟨false, .help⟩], waiting := true } } })
      (fun t => t.v780.program == ConProgram.initial) = true := by decide +kernel
/-- Diagnostic Check Mode acts in the page CSR1 names, 61_platform_750.md R1162. -/
theorem test_check_mode_in_its_page :
    let s := { State.reset with v750 := { V750.reset with csr1 := 0x0C002000 } }
    (s.forced 0x21FC 4 && !s.forced 0x2200 4 && s.eccOff 0x2200 && !s.eccOff 0x2000) = true := by decide +kernel

/-! ### Witnesses: a state and operands that meet the hypotheses of each clause of each statement -/

def isOk {α : Type} (x : EStateM.Result Stop State α) : Bool :=
  match x with
  | .ok _ _ => true
  | .error _ _ => false
def stateOf {α : Type} (x : EStateM.Result Stop State α) : State :=
  match x with
  | .ok _ s => s
  | .error _ s => s
def wst : State :=
  st .v750 0 [(0, 3), (1, 7), (2, 0x2000), (13, 0x6000), (14, 0x7000), (15, 0x1000)]
    [(0x2000, 0x11), (0x2001, 0x22), (0x2100, 0x7C)]
/-- A V780 with a memory controller, a UNIBUS adapter and a MASSBUS adapter. -/
def wst780 : State :=
  State.resetWith { Config.standard with
    cpu := .v780, memCtlUnits := [16], nexus := [(1, .memory 0), (3, .uba 0), (8, .mba 0)], ubaSpace := [0], mbaCount := 1 }
theorem ready {op : Nat} {s : State} (h1 : s.fpd = false := by rfl) (h2 : s.cfg.hasGH = true := by rfl)
    (h3 : op ∉ [0x00, 0x06, 0x07, 0xDA, 0xDB] ∨ s.cur = 0 := by first | exact .inr rfl | exact .inl (by decide)) :
    Ready op s := ⟨h1, .inr h2, h3⟩
theorem row {α : Type} {l : List α} {a : α} (i : Nat) (h : l[i]? = some a := by rfl) : a ∈ l := List.mem_of_getElem? h
theorem read_cc {s : State} {va : Long} {b : Byte} (hm : s.mm.mapen = false := by rfl) (hd : s.during = [] := by rfl)
    (hr : place s (va.toNat % 2 ^ s.cfg.paw) = .ram := by rfl) (hb : s.bad (va.toNat % 2 ^ s.cfg.paw) 1 = false := by rfl)
    (he : s.eccDisabled (va.toNat % 2 ^ s.cfg.paw) = false := by rfl)
    (hv : (s.ramValue (va.toNat % 2 ^ s.cfg.paw) 1).setWidth 8 = b := by rfl) :
    ∀ n z v c, readByte va (s.withCC n z v c) = .ok b (s.withCC n z v c) := by
  intro n z v c
  have hl : 1 ≤ leftInPage va := by
    have := (va.extractLsb' 0 9).isLt
    unfold leftInPage byteInPage field
    omega
  unfold readByte
  rw [bind_of_ok _ (memRead_off .other va 1 (s.withCC n z v c) hm hl hd hr hb he), ← hv]
  rfl
theorem shows_one {s : State} {va : Long} {b : Byte}
    (h : ∀ n z v c, readByte (va + long 0) (s.withCC n z v c) = .ok b (s.withCC n z v c)) : s.shows va [b] := by
  intro k x hk
  match k with
  | 0 => cases hk; exact h
  | _ + 1 => simp at hk
theorem shows_two {s : State} {va : Long} {b c : Byte}
    (h : ∀ n z v x, readByte (va + long 0) (s.withCC n z v x) = .ok b (s.withCC n z v x))
    (g : ∀ n z v x, readByte (va + long 1) (s.withCC n z v x) = .ok c (s.withCC n z v x)) : s.shows va [b, c] := by
  intro k x hk
  match k with
  | 0 => cases hk; exact h
  | 1 => cases hk; exact g
  | _ + 2 => simp at hk
theorem nearest_zero {z : Int} (hz : z = 0) : IsNearest .f z (0 : BitVec 32) := by
  have h : (floatValue .f (0 : BitVec 32)).rat = 0 := by
    rw [show floatValue .f (0 : BitVec 32) = ⟨false, 0, 0⟩ from rfl]; simp [ExactNum.rat]
  refine ⟨rfl, fun v _ => ?_⟩
  rw [h, hz]
  simp
  exact fun g => abs_eq_zero.1 g.symm
theorem unit_ok {x : EStateM.Result Stop State PUnit} (h : isOk x = true) : x = .ok ⟨⟩ (stateOf x) := by
  cases x with
  | ok a s => rfl
  | error e s => cases h
/-- The value of a result, `a` where there is none. -/
def valOf {α : Type} (a : α) (x : EStateM.Result Stop State α) : α :=
  match x with
  | .ok b _ => b
  | .error _ _ => a
theorem any_ok {α : Type} {x : EStateM.Result Stop State α} (a : α) (h : isOk x = true) : x = .ok (valOf a x) (stateOf x) := by
  cases x with
  | ok a s => rfl
  | error e s => cases h
set_option maxRecDepth 10000

theorem witness_DecodeOfEncodeIsCanonical_0 :
    ∃ (i : Instr) (rest : List Byte), i.wellFormed = true :=
  ⟨.clrh (reg 9), [0x01], rfl⟩
theorem witness_UnassignedOpcodesFault_0 :
    ∃ s : State, ∃ b, s.fetch 0 = some b ∧ b ∈ ([0x57, 0x59, 0x5A, 0x5B, 0x77, 0xFE, 0xFF] : List Byte) :=
  ⟨{ wst with mem := [(0x1000, 0xFF)] }, _, rfl, (by decide)⟩
theorem witness_UnassignedOpcodesFault_1 :
    ∃ s : State, ∃ c, s.fetch 0 = some 0xFD ∧ s.fetch 1 = some c ∧ (∀ i : Instr, i.opcode ≠ 0xFD + 256 * c.toNat) :=
  ⟨{ wst with mem := [(0x1000, 0xFD), (0x1001, 0xFF)] }, 0xFF, rfl, rfl,
    (by intro i; cases i <;> simp [Instr.opcode])⟩
theorem witness_UnassignedOpcodesFault_2 :
    ∃ s : State, s.cfg.hasGH = false ∧ ∃ i : Instr, 256 ≤ i.opcode :=
  ⟨{ wst with cfg := { wst.cfg with hasGH := false } }, rfl, .clrh (reg 0), by decide⟩
theorem witness_StepRunsDecodedInstruction_0 :
    ∃ (s : State) (i : Instr) (n : Nat), s.events = [] ∧ s.run = .running ∧ s.pend.doubleWrite = false ∧
    s.pend.machineCheck = none ∧ s.pend.trap = none ∧ s.pend.consoleHalt = false ∧ deliverable s = [] ∧ s.tp = false
    ∧ s.cm = false ∧ pslLegal s.psl = true ∧ ∃ u : State, u =
    { s with psl := putBit s.psl 30 s.t, v780 := if s.is750 then s.v780 else { s.v780 with accErr := 0 } } ∧ decode
    u.stream = .ok i n ∧ u.fetchQuiet = true :=
  ⟨{ wst with mem := [(0x1000, 0x1)] }, .nop, 1, rfl, rfl, rfl, rfl, rfl, rfl, rfl, rfl, rfl, rfl, _, rfl, rfl, rfl⟩
theorem witness_BoundaryOrder_0 :
    ∃ s : State, s.events = [] ∧ s.run = .running ∧ s.pend.doubleWrite = true :=
  ⟨{ wst with pend := { wst.pend with doubleWrite := true } }, rfl, rfl, rfl⟩
theorem witness_BoundaryOrder_1 :
    ∃ s : State, s.events = [] ∧ s.run = .running ∧ ∃ c, s.pend.doubleWrite = false ∧ s.pend.machineCheck = some c ∧
    s.pend.inMachineCheck ≠ 0 ∧ s.ipl = 31 :=
  ⟨{ wst with psl := 0x001F0000, pend := { wst.pend with machineCheck := some (.tb 1), inMachineCheck := 1 } }, rfl,
    rfl, .tb 1, rfl, rfl, by decide, rfl⟩
theorem witness_BoundaryOrder_2 :
    ∃ s : State, s.events = [] ∧ s.run = .running ∧ s.pend.doubleWrite = false ∧ s.pend.machineCheck = none ∧ ∃ k,
    s.pend.trap = some k :=
  ⟨{ wst with pend := { wst.pend with trap := some 1 } }, rfl, rfl, rfl, rfl, 1, rfl⟩
theorem witness_BoundaryOrder_3 :
    ∃ s : State, s.events = [] ∧ s.run = .running ∧ s.pend.doubleWrite = false ∧ s.pend.machineCheck = none ∧
    s.pend.trap = none ∧ s.pend.consoleHalt = true :=
  ⟨{ wst with pend := { wst.pend with consoleHalt := true } }, rfl, rfl, rfl, rfl, rfl, rfl⟩
theorem witness_BoundaryOrder_4 :
    ∃ s : State, s.events = [] ∧ s.run = .running ∧ s.pend.doubleWrite = false ∧ s.pend.machineCheck = none ∧
    s.pend.trap = none ∧ s.pend.consoleHalt = false ∧ deliverable s ≠ [] :=
  ⟨{ wst with sisr := 2 }, rfl, rfl, rfl, rfl, rfl, rfl, (List.cons_ne_nil _ _)⟩
theorem witness_BoundaryOrder_5 :
    ∃ s : State, s.events = [] ∧ s.run = .running ∧ s.pend.doubleWrite = false ∧ s.pend.machineCheck = none ∧
    s.pend.trap = none ∧ s.pend.consoleHalt = false ∧ deliverable s = [] ∧ s.tp = true :=
  ⟨{ wst with psl := 0x40000000 }, rfl, rfl, rfl, rfl, rfl, rfl, rfl, rfl⟩
theorem witness_OnlyHigherRequestsInterrupt_0 :
    ∃ s : State, ∃ r ∈ deliverable s, ∃ q ∈ requests s, True :=
  ⟨{ wst with sisr := 2 }, _, .head _, _, .head _, trivial⟩
theorem witness_InterruptEntry_0 :
    ∃ (s s1 s2 s3 : State) (offset ipl : Nat) (v : Long), ipl < 32 ∧ readVector offset s = .ok (some v) s1 ∧ (field v
    0 2 = 1 ∨ (field v 0 2 = 0 ∧ seriousOffset offset = false)) ∧ s2 = (if s1.is then s1 else State.setReg
    { s1 with sp := s1.sp.put s1.cur (s1.reg 14) } 14 (if field v 0 2 = 1 then s1.sp.isp else (s1.sp.put s1.cur
    (s1.reg 14)).ksp)) ∧ pushHandler (s1.is || field v 0 2 == 1) [s.psl, s.pc] s2 = .ok ⟨⟩ s3 :=
  ⟨{ wst with mem := [(0x6C1, 0x90)] }, _, _, _, 0xC0, 20, _, (by decide), rfl, (.inr ⟨rfl, rfl⟩), rfl, rfl⟩
theorem witness_ExceptionEntry_0 :
    ∃ (s s1 s2 s3 : State) (e : Entry) (v : Long), e.ipl = none ∧ readVector e.offset s = .ok (some v) s1 ∧ (field v
    0 2 = 1 ∨ (field v 0 2 = 0 ∧ seriousOffset e.offset = false)) ∧ s2 = (if s1.is then s1 else State.setReg
    { s1 with sp := s1.sp.put s1.cur (s1.reg 14) } 14 (if field v 0 2 = 1 then s1.sp.isp else (s1.sp.put s1.cur
    (s1.reg 14)).ksp)) ∧ pushHandler (s1.is || field v 0 2 == 1) ([e.saved, e.pc] ++ e.params) s2 = .ok ⟨⟩ s3 :=
  ⟨{ wst with mem := [(0x634, 0x01), (0x635, 0x90)], sp := ⟨0, 0, 0, 0, 0x5000⟩ }, _, _, _, ⟨0x34, [1], 0x1000, 0,
    none⟩, _, rfl, rfl, (.inl rfl), rfl, rfl⟩
theorem witness_ExceptionEntry_1 :
    ∃ (s s1 s3 t : State) (e : Entry) (v : Long) (x : Exc), readVector e.offset s = .ok (some v) s1 ∧ field v 0 2 = 0
    ∧ seriousOffset e.offset = false ∧ s1.is = false ∧ pushHandler false ([e.saved, e.pc] ++ e.params) (State.setReg
    { s1 with sp := s1.sp.put s1.cur (s1.reg 14) } 14 (s1.sp.put s1.cur (s1.reg 14)).ksp) = .error (.exc x) s3 ∧
    x.offset ≠ 4 ∧ enterSerious 0x08 [] e s.psl s3 = .ok ⟨⟩ t :=
  ⟨{ wst with mm := { wst.mm with mapen := true, sbr := 0x4000, slr := 1 }, mem := [(0x608, 0x01), (0x609, 0x90),
    (0x4003, 0x90)], sp := ⟨0, 0, 0, 0, 0x80000200⟩ }, _, _, _, ⟨0x34, [1], 0x1000, 0, none⟩, _, _, rfl, rfl, rfl,
    rfl, rfl, (by decide), (unit_ok (by decide +kernel))⟩
theorem witness_ExceptionEntry_2 :
    ∃ (s s1 s2 : State) (offset : Nat) (params : List Long) (e : Entry) (old v : Long), readVector offset s = .ok
    (some v) s1 ∧ field v 0 2 = 1 ∧ pushHandler true ([e.saved, e.pc] ++ params) (s1.setReg 14 s1.sp.isp) = .ok ⟨⟩ s2
    :=
  ⟨{ wst with mem := [(0x608, 0x01), (0x609, 0x90)], sp := ⟨0, 0, 0, 0, 0x5000⟩ }, _, _, 8, [], ⟨0x34, [1], 0x1000,
    0, none⟩, 0, _, rfl, rfl, rfl⟩
theorem witness_ExceptionEntry_3 :
    ∃ (s : State) (x : Exc) (pc : Long), (x.offset ≠ 4 ∨ s.doubleCheck = false) :=
  ⟨wst, ⟨true, 0x18, []⟩, 0x1000, (.inl (by decide))⟩
theorem witness_ExceptionEntry_4 :
    ∃ (s t : State) (code : Nat) (b : Bool), enter ⟨0x34, [BitVec.ofNat 32 code], s.pc, s.psl, none⟩
    { s with pend := { s.pend with trap := none } } = .ok b t :=
  ⟨{ wst with mem := [(0x634, 0x01), (0x635, 0x90)], sp := ⟨0, 0, 0, 0, 0x5000⟩ }, _, 1, _, rfl⟩
theorem witness_ExceptionEntry_5 :
    ∃ (s t : State) (b : Bool), enter ⟨0x28, [], s.pc, s.psl &&& 0xBFFFFFFF, none⟩
    { s with psl := s.psl &&& 0xBFFFFFFF } = .ok b t :=
  ⟨{ wst with psl := 0x40000000, mem := [(0x628, 0x01), (0x629, 0x90)], sp := ⟨0, 0, 0, 0, 0x5000⟩ }, _, _, rfl⟩
theorem witness_FramePushedOnStack_0 :
    ∃ (s : State) (mode : Nat) (ws : List Long), s.mm.mapen = false ∧ s.MemOk ∧ 0 < ws.length ∧ 4 * ws.length ≤
    leftInPage (s.reg 14 - BitVec.ofNat 32 (4 * ws.length)) ∧ s.during = [] ∧ (∀ k < 4 * ws.length, place s ((s.reg
    14 - BitVec.ofNat 32 (4 * ws.length)).toNat % 2 ^ s.cfg.paw + k) = .ram) ∧ s.bad ((s.reg 14 - BitVec.ofNat 32 (4
    * ws.length)).toNat % 2 ^ s.cfg.paw) (4 * ws.length) = false :=
  ⟨wst, 0, [1, 2], rfl, rfl, by decide, by decide, rfl,
    (fun k hk => by rcases (show k = 0 ∨ k = 1 ∨ k = 2 ∨ k = 3 ∨ k = 4 ∨ k = 5 ∨ k = 6 ∨ k = 7 by simp at hk; omega) with rfl | rfl | rfl | rfl | rfl | rfl | rfl | rfl <;> rfl), rfl⟩
theorem witness_BreakpointAndCustomerFault_0 :
    ∃ s : State, s.fpd = false ∧ (∃ t, enterException ⟨false, 0x2C, []⟩ s.pc s = .ok ⟨⟩ t) :=
  ⟨{ wst with mem := [(0x62D, 0x90)] }, rfl, ⟨_, rfl⟩⟩
theorem witness_BreakpointAndCustomerFault_1 :
    ∃ s : State, s.fpd = false ∧ (∃ t, enterException ⟨false, 0x14, []⟩ s.pc s = .ok ⟨⟩ t) :=
  ⟨{ wst with mem := [(0x615, 0x90)] }, rfl, ⟨_, rfl⟩⟩
theorem witness_PrivilegedInstructionsTrap_0 :
    ∃ (s : State) (a b : Opnd), s.cur ≠ 0 ∧ ∃ i ∈ ([.halt, .ldpctx, .svpctx, .mtpr a b, .mfpr a b] : List Instr),
    True :=
  ⟨{ wst with psl := 0x03C00000 }, (reg 0), (reg 1), by decide, _, row 0, trivial⟩
theorem witness_StepKeepsMemoryCanonical_0 :
    ∃ s t : State, s.MemOk ∧ step s = .next t :=
  ⟨{ wst with mem := [(0x1000, 0x1)] }, _, rfl, rfl⟩
theorem witness_StepKeepsPslLegal_0 :
    ∃ s t : State, s.PslOk ∧ step s = .next t :=
  ⟨{ wst with mem := [(0x1000, 0x1)] }, _, ⟨fun _ h => absurd h List.not_mem_nil, rfl⟩, rfl⟩
theorem witness_StepKeepsConfiguration_0 :
    ∃ s t : State, step s = .next t :=
  ⟨{ wst with mem := [(0x1000, 0x1)] }, _, rfl⟩
theorem witness_MemoryReadsBackWhatWasWritten_0 :
    ∃ (s : State) (u u' : Use) (pa n : Nat) (v : Octa), s.MemOk ∧ n ≤ 16 ∧ s.goodRam pa n :=
  ⟨wst, .other, .other, 0x3000, 16, 1, rfl, by decide, ⟨rfl, rfl, rfl, rfl⟩⟩
theorem witness_MemoryReadsBackWhatWasWritten_1 :
    ∃ (s : State) (pa : Nat) (w : Long), s.during = [] ∧ place s pa = .device (.memoryCsr750 0) ∧ pa % 4 = 0 :=
  ⟨wst, 0xF20000, 0x20000000, rfl, rfl, rfl⟩
theorem witness_MemoryReadsBackWhatWasWritten_2 :
    ∃ (s : State) (pa : Nat) (w : Long), s.during = [] ∧ place s pa = .device (.memoryCsr750 1) ∧ pa % 4 = 0 ∧
    s.v750.checkCopied = false :=
  ⟨wst, 0xF20004, 0x20000000, rfl, rfl, rfl, rfl⟩
theorem witness_MemoryReadsBackWhatWasWritten_3 :
    ∃ (s : State) (pa : Nat) (w : Long), s.during = [] ∧ place s pa = .device (.memoryCsr750 2) ∧ pa % 4 = 0 :=
  ⟨wst, 0xF20008, 0x20000000, rfl, rfl, rfl⟩
theorem witness_MemoryReadsBackWhatWasWritten_4 :
    ∃ (s : State) (pa : Nat) (w : Long), s.during = [] ∧ ∃ i, place s pa = .device (.ubMap750 i) ∧ pa % 4 = 0 ∧
    Sparse.wfFrom 0 s.v750.ubMap = true :=
  ⟨wst, 0xF30FFC, 0x20000000, rfl, 511, rfl, rfl, rfl⟩
theorem witness_MemoryReadsBackWhatWasWritten_5 :
    ∃ (s : State) (pa : Nat) (w : Long), s.during = [] ∧ ∃ k, place s pa = .device (.memory780 k 8) ∧ k <
    s.v780.mems.length ∧ s.is750 = false ∧ pa % 4 = 0 ∧ ∃ x, x = (s.v780.mems.getD k (MemCtl.powerUp 0)).regC :=
  ⟨wst780, 0x20002008, 0x10000000, rfl, 0, rfl, by decide, rfl, rfl, _, rfl⟩
theorem witness_MemoryReadsBackWhatWasWritten_6 :
    ∃ (s : State) (pa : Nat) (w : Long), s.during = [] ∧ ∃ k off, place s pa = .device (.uba k off) ∧ k <
    s.v780.ubas.length ∧ s.is750 = false ∧ pa % 4 = 0 ∧ ∃ a, a = s.v780.ubas.getD k Uba.powerUp ∧ off = 4 ∧ w &&& 3 =
    0 :=
  ⟨wst780, 0x20006004, 0x7C, rfl, 0, 4, rfl, by decide, rfl, rfl, _, rfl, rfl, rfl⟩
theorem witness_MemoryReadsBackWhatWasWritten_7 :
    ∃ (s : State) (pa : Nat) (w : Long), s.during = [] ∧ ∃ k off, place s pa = .device (.uba k off) ∧ k <
    s.v780.ubas.length ∧ s.is750 = false ∧ pa % 4 = 0 ∧ ∃ a, a = s.v780.ubas.getD k Uba.powerUp ∧ off = 8 :=
  ⟨wst780, 0x20006008, 1, rfl, 0, 8, rfl, by decide, rfl, rfl, _, rfl, rfl⟩
theorem witness_MemoryReadsBackWhatWasWritten_8 :
    ∃ (s : State) (pa : Nat) (w : Long), s.during = [] ∧ ∃ k off, place s pa = .device (.uba k off) ∧ k <
    s.v780.ubas.length ∧ s.is750 = false ∧ pa % 4 = 0 ∧ ∃ a, a = s.v780.ubas.getD k Uba.powerUp ∧ ∃ i < 496, off =
    0x800 + 4 * i ∧ Sparse.wfFrom 0 a.map = true :=
  ⟨wst780, 0x20006FBC, 1, rfl, 0, 0xFBC, rfl, by decide, rfl, rfl, _, rfl, 495, by decide, rfl, rfl⟩
theorem witness_MemoryReadsBackWhatWasWritten_9 :
    ∃ (s : State) (pa : Nat) (w : Long), s.during = [] ∧ ∃ k off, place s pa = .device (.mba k off) ∧ k <
    s.mbas.length ∧ pa % 4 = 0 ∧ ∃ m, m = s.mbas.getD k (Mba.powerUp (!s.is750)) ∧ m.busy = false ∧ m.mmm = false ∧
    off = 4 ∧ w &&& 9 = 0 :=
  ⟨wst780, 0x20010004, 6, rfl, 0, 4, rfl, by decide, rfl, _, rfl, rfl, rfl, rfl, rfl⟩
theorem witness_MemoryReadsBackWhatWasWritten_10 :
    ∃ (s : State) (pa : Nat) (w : Long), s.during = [] ∧ ∃ k off, place s pa = .device (.mba k off) ∧ k <
    s.mbas.length ∧ pa % 4 = 0 ∧ ∃ m, m = s.mbas.getD k (Mba.powerUp (!s.is750)) ∧ m.busy = false ∧ m.mmm = false ∧
    off = 8 ∧ m.attn = false :=
  ⟨wst780, 0x20010008, 1, rfl, 0, 8, rfl, by decide, rfl, _, rfl, rfl, rfl, rfl, rfl⟩
theorem witness_MemoryReadsBackWhatWasWritten_11 :
    ∃ (s : State) (pa : Nat) (w : Long), s.during = [] ∧ ∃ k off, place s pa = .device (.mba k off) ∧ k <
    s.mbas.length ∧ pa % 4 = 0 ∧ ∃ m, m = s.mbas.getD k (Mba.powerUp (!s.is750)) ∧ m.busy = false ∧ m.mmm = false ∧
    off = 0xC :=
  ⟨wst780, 0x2001000C, 1, rfl, 0, 0xC, rfl, by decide, rfl, _, rfl, rfl, rfl, rfl⟩
theorem witness_MemoryReadsBackWhatWasWritten_12 :
    ∃ (s : State) (pa : Nat) (w : Long), s.during = [] ∧ ∃ k off, place s pa = .device (.mba k off) ∧ k <
    s.mbas.length ∧ pa % 4 = 0 ∧ ∃ m, m = s.mbas.getD k (Mba.powerUp (!s.is750)) ∧ m.busy = false ∧ m.mmm = false ∧
    off = 0x10 :=
  ⟨wst780, 0x20010010, 1, rfl, 0, 0x10, rfl, by decide, rfl, _, rfl, rfl, rfl, rfl⟩
theorem witness_MemoryReadsBackWhatWasWritten_13 :
    ∃ (s : State) (pa : Nat) (w : Long), s.during = [] ∧ ∃ k off, place s pa = .device (.mba k off) ∧ k <
    s.mbas.length ∧ pa % 4 = 0 ∧ ∃ m, m = s.mbas.getD k (Mba.powerUp (!s.is750)) ∧ m.busy = false ∧ m.mmm = false ∧ ∃
    i < 256, off = 0x800 + 4 * i ∧ Sparse.wfFrom 0 m.map = true :=
  ⟨wst780, 0x20010BFC, 1, rfl, 0, 0xBFC, rfl, by decide, rfl, _, rfl, rfl, rfl, 255, by decide, rfl, rfl⟩
theorem witness_SystemTranslation_0 :
    ∃ (s : State) (va : Long) (write : Bool) (mode : Nat), s.mm.mapen = false :=
  ⟨wst, 0x1000, true, 3, rfl⟩
theorem witness_SystemTranslation_1 :
    ∃ (s : State) (va : Long) (write : Bool) (mode : Nat), s.mm.mapen = true ∧ (s.is750 = true → field s.v750.tbdr 0
    2 ≠ 3) ∧ field va 30 2 = 3 :=
  ⟨{ wst with mm := { wst.mm with mapen := true, sbr := 0x4000, slr := 1, p0br := 0x80000000, p0lr := 16 }, mem := []
    }, 0xC0000000, true, 0, rfl, (fun _ => by decide), rfl⟩
theorem witness_SystemTranslation_2 :
    ∃ (s : State) (va : Long) (write : Bool) (mode : Nat), s.mm.mapen = true ∧ (s.is750 = true → field s.v750.tbdr 0
    2 ≠ 3) ∧ field va 30 2 < 2 ∧ s.beyondTable va :=
  ⟨{ wst with mm := { wst.mm with mapen := true, sbr := 0x4000, slr := 1, p0br := 0x80000000, p0lr := 8 }, mem := []
    }, 0x1010, true, 0, rfl, (fun _ => by decide), by decide, (show (8 : Nat) ≤ 8 by decide)⟩
theorem witness_SystemTranslation_3 :
    ∃ (s : State) (va : Long) (write : Bool) (mode : Nat), s.mm.mapen = true ∧ (s.is750 = true → field s.v750.tbdr 0
    2 ≠ 3) ∧ field va 30 2 < 2 ∧ (¬ s.beyondTable va) ∧ (field (s.processPteVa va) 30 2 ≠ 2 ∨ s.mm.slr.toNat ≤ field
    (s.processPteVa va) 9 21) :=
  ⟨{ wst with mm := { wst.mm with mapen := true, sbr := 0x4000, slr := 0, p0br := 0x80000000, p0lr := 16 }, mem := []
    }, 0x1010, true, 0, rfl, (fun _ => by decide), by decide, (show ¬ (16 ≤ 8) by decide), (.inr (by decide))⟩
theorem witness_SystemTranslation_4 :
    ∃ (s : State) (va : Long) (write : Bool) (mode : Nat), s.mm.mapen = true ∧ (s.is750 = true → field s.v750.tbdr 0
    2 ≠ 3) ∧ field va 30 2 < 2 ∧ ∃ x, s.tableEntry va x ∧ accessAllowed (field x 27 4) 0 false = false :=
  ⟨{ wst with mm := { wst.mm with mapen := true, sbr := 0x4000, slr := 1, p0br := 0x80000000, p0lr := 16 }, mem :=
    [(0x4003, 0x80)] }, 0x1010, true, 0, rfl, (fun _ => by decide), by decide, _,
    ⟨show ¬ (16 ≤ 8) by decide, rfl, by decide, ⟨rfl, rfl, rfl, rfl⟩, rfl, by decide⟩, rfl⟩
theorem witness_SystemTranslation_5 :
    ∃ (s : State) (va : Long) (write : Bool) (mode : Nat), s.mm.mapen = true ∧ (s.is750 = true → field s.v750.tbdr 0
    2 ≠ 3) ∧ field va 30 2 < 2 ∧ ∃ x, s.tableEntry va x ∧ accessAllowed (field x 27 4) 0 false = true ∧ x.getLsbD 31
    = false :=
  ⟨{ wst with mm := { wst.mm with mapen := true, sbr := 0x4000, slr := 1, p0br := 0x80000000, p0lr := 16 }, mem :=
    [(0x4003, 0x10)] }, 0x1010, true, 0, rfl, (fun _ => by decide), by decide, _,
    ⟨show ¬ (16 ≤ 8) by decide, rfl, by decide, ⟨rfl, rfl, rfl, rfl⟩, rfl, by decide⟩, rfl, rfl⟩
theorem witness_SystemTranslation_6 :
    ∃ (s : State) (va : Long) (write : Bool) (mode : Nat), s.mm.mapen = true ∧ (s.is750 = true → field s.v750.tbdr 0
    2 ≠ 3) ∧ field va 30 2 < 2 ∧ ∃ pa, s.entryAt va pa ∧ accessAllowed (field (s.longAt pa) 27 4) mode write = false
    :=
  ⟨{ wst with mm := { wst.mm with mapen := true, sbr := 0x4000, slr := 1, p0br := 0x80000000, p0lr := 16 }, mem :=
    [(0x23, 0x90), (0x4003, 0x90)] }, 0x1010, false, 3, rfl, (fun _ => by decide), by decide, _,
    ⟨⟨_, ⟨show ¬ (16 ≤ 8) by decide, rfl, by decide, ⟨rfl, rfl, rfl, rfl⟩, rfl, by decide⟩, rfl, rfl, rfl⟩, ⟨rfl, rfl, rfl, rfl⟩, by decide⟩, rfl⟩
theorem witness_SystemTranslation_7 :
    ∃ (s : State) (va : Long) (write : Bool) (mode : Nat), s.mm.mapen = true ∧ (s.is750 = true → field s.v750.tbdr 0
    2 ≠ 3) ∧ field va 30 2 < 2 ∧ ∃ pa, s.entryAt va pa ∧ accessAllowed (field (s.longAt pa) 27 4) mode write = true ∧
    (s.longAt pa).getLsbD 31 = false :=
  ⟨{ wst with mm := { wst.mm with mapen := true, sbr := 0x4000, slr := 1, p0br := 0x80000000, p0lr := 16 }, mem :=
    [(0x23, 0x10), (0x4003, 0x90)] }, 0x1010, true, 0, rfl, (fun _ => by decide), by decide, _,
    ⟨⟨_, ⟨show ¬ (16 ≤ 8) by decide, rfl, by decide, ⟨rfl, rfl, rfl, rfl⟩, rfl, by decide⟩, rfl, rfl, rfl⟩, ⟨rfl, rfl, rfl, rfl⟩, by decide⟩, rfl, rfl⟩
theorem witness_SystemTranslation_8 :
    ∃ (s : State) (va : Long) (write : Bool) (mode : Nat), s.mm.mapen = true ∧ (s.is750 = true → field s.v750.tbdr 0
    2 ≠ 3) ∧ field va 30 2 < 2 ∧ ∃ pa, s.entryAt va pa ∧ accessAllowed (field (s.longAt pa) 27 4) mode write = true ∧
    (s.longAt pa).getLsbD 31 = true :=
  ⟨{ wst with mm := { wst.mm with mapen := true, sbr := 0x4000, slr := 1, p0br := 0x80000000, p0lr := 16 }, mem :=
    [(0x23, 0x90), (0x4003, 0x90)] }, 0x1010, true, 0, rfl, (fun _ => by decide), by decide, _,
    ⟨⟨_, ⟨show ¬ (16 ≤ 8) by decide, rfl, by decide, ⟨rfl, rfl, rfl, rfl⟩, rfl, by decide⟩, rfl, rfl, rfl⟩, ⟨rfl, rfl, rfl, rfl⟩, by decide⟩, rfl, rfl⟩
theorem witness_SystemTranslation_9 :
    ∃ (s : State) (va : Long) (write : Bool) (mode : Nat), s.mm.mapen = true ∧ (s.is750 = true → field s.v750.tbdr 0
    2 ≠ 3) ∧ field va 30 2 = 2 ∧ s.mm.slr.toNat ≤ field va 9 21 :=
  ⟨{ wst with mm := { wst.mm with mapen := true, sbr := 0x4000, slr := 1 }, mem := [] }, 0x80000200, false, 0, rfl,
    (fun _ => by decide), rfl, (by decide)⟩
theorem witness_SystemTranslation_10 :
    ∃ (s : State) (va : Long) (write : Bool) (mode : Nat), s.mm.mapen = true ∧ (s.is750 = true → field s.v750.tbdr 0
    2 ≠ 3) ∧ field va 30 2 = 2 ∧ field va 9 21 < s.mm.slr.toNat ∧ s.goodRam (systemPte s va) 4 ∧ field (s.longAt
    (systemPte s va)) 27 4 ≠ 1 ∧ accessAllowed (field (s.longAt (systemPte s va)) 27 4) mode write = false :=
  ⟨{ wst with mm := { wst.mm with mapen := true, sbr := 0x4000, slr := 1 }, mem := [(0x4003, 0x90)] }, 0x80000010,
    false, 3, rfl, (fun _ => by decide), rfl, by decide, ⟨rfl, rfl, rfl, rfl⟩, by decide, rfl⟩
theorem witness_SystemTranslation_11 :
    ∃ (s : State) (va : Long) (write : Bool) (mode : Nat), s.mm.mapen = true ∧ (s.is750 = true → field s.v750.tbdr 0
    2 ≠ 3) ∧ field va 30 2 = 2 ∧ field va 9 21 < s.mm.slr.toNat ∧ s.goodRam (systemPte s va) 4 ∧ field (s.longAt
    (systemPte s va)) 27 4 ≠ 1 ∧ accessAllowed (field (s.longAt (systemPte s va)) 27 4) mode write = true ∧ (s.longAt
    (systemPte s va)).getLsbD 31 = false :=
  ⟨{ wst with mm := { wst.mm with mapen := true, sbr := 0x4000, slr := 1 }, mem := [(0x4003, 0x10)] }, 0x80000010,
    true, 0, rfl, (fun _ => by decide), rfl, by decide, ⟨rfl, rfl, rfl, rfl⟩, by decide, rfl, rfl⟩
theorem witness_SystemTranslation_12 :
    ∃ (s : State) (va : Long) (write : Bool) (mode : Nat), s.mm.mapen = true ∧ (s.is750 = true → field s.v750.tbdr 0
    2 ≠ 3) ∧ field va 30 2 = 2 ∧ field va 9 21 < s.mm.slr.toNat ∧ s.goodRam (systemPte s va) 4 ∧ field (s.longAt
    (systemPte s va)) 27 4 ≠ 1 ∧ accessAllowed (field (s.longAt (systemPte s va)) 27 4) mode write = true ∧ (s.longAt
    (systemPte s va)).getLsbD 31 = true :=
  ⟨{ wst with mm := { wst.mm with mapen := true, sbr := 0x4000, slr := 1 }, mem := [(0x4003, 0x90)] }, 0x80000010,
    true, 0, rfl, (fun _ => by decide), rfl, by decide, ⟨rfl, rfl, rfl, rfl⟩, by decide, rfl, rfl⟩
theorem witness_SystemTranslation_13 :
    ∃ (s : State) (va : Long) (write : Bool) (mode : Nat), s.mm.mapen = true ∧ (s.is750 = true → field s.v750.tbdr 0
    2 ≠ 3) ∧ field va 30 2 < 2 ∧ ∃ pa, s.entryAt va pa ∧ accessAllowed (field (s.longAt pa) 27 4) mode true = true ∧
    (s.longAt pa).getLsbD 31 = true ∧ s.MemOk ∧ pa % 4 = 0 ∧ (s.longAt pa).getLsbD 26 = false :=
  ⟨{ wst with mm := { wst.mm with mapen := true, sbr := 0x4000, slr := 1, p0br := 0x80000000, p0lr := 16 }, mem :=
    [(0x23, 0x90), (0x4003, 0x90)] }, 0x1010, true, 0, rfl, (fun _ => by decide), by decide, _,
    ⟨⟨_, ⟨show ¬ (16 ≤ 8) by decide, rfl, by decide, ⟨rfl, rfl, rfl, rfl⟩, rfl, by decide⟩, rfl, rfl, rfl⟩, ⟨rfl, rfl, rfl, rfl⟩, by decide⟩, rfl, rfl, rfl, rfl, rfl⟩
theorem witness_SystemTranslation_14 :
    ∃ (s : State) (va : Long) (write : Bool) (mode : Nat), s.mm.mapen = true ∧ (s.is750 = true → field s.v750.tbdr 0
    2 ≠ 3) ∧ field va 30 2 = 2 ∧ field va 9 21 < s.mm.slr.toNat ∧ s.goodRam (systemPte s va) 4 ∧ field (s.longAt
    (systemPte s va)) 27 4 ≠ 1 ∧ accessAllowed (field (s.longAt (systemPte s va)) 27 4) mode true = true ∧ (s.longAt
    (systemPte s va)).getLsbD 31 = true ∧ s.MemOk ∧ (s.longAt (systemPte s va)).getLsbD 26 = false :=
  ⟨{ wst with mm := { wst.mm with mapen := true, sbr := 0x4000, slr := 1 }, mem := [(0x4003, 0x90)] }, 0x80000010,
    true, 0, rfl, (fun _ => by decide), rfl, by decide, ⟨rfl, rfl, rfl, rfl⟩, by decide, rfl, rfl, rfl, rfl⟩
theorem witness_ProtectionCodes_0 :
    ∃ code < 16, code ≠ 1 ∧ ∃ mode < 4, accessAllowed code mode true = true :=
  ⟨4, by decide, by decide, 3, by decide, rfl⟩
theorem witness_ProtectionCodes_1 :
    ∃ code < 16, code ≠ 1 ∧ ∃ mode < 4, ∃ m < mode, ∃ w, accessAllowed code mode w = true :=
  ⟨4, by decide, by decide, 3, by decide, 0, by decide, true, rfl⟩
theorem witness_RegisterLiteralAndImmediateOperands_0 :
    ∃ (s : State) (t : DT), ∃ n : Reg, n.val + t.regs ≤ 15 :=
  ⟨wst, .o, 11, by decide⟩
theorem witness_RegisterLiteralAndImmediateOperands_1 :
    ∃ (s : State) (t : DT), ∃ v : BitVec 6, t ∈ [.b, .w, .l, .q, .o] :=
  ⟨wst, .q, 63, (by decide)⟩
theorem witness_RegisterLiteralAndImmediateOperands_2 :
    ∃ (s : State) (t : DT), ∃ (n : Reg) (v : Quad) (u : State), n.val ≤ 13 ∧ u = (s.setReg n (v.setWidth 32)).setReg
    (Reg.plus n 1) ((v >>> 32).setWidth 32) :=
  ⟨wst, .q, 13, 1, _, by decide, rfl⟩
theorem witness_RegisterLiteralAndImmediateOperands_3 :
    ∃ (s : State) (t : DT), ∃ (n : Reg) (v : Octa) (u : State), n.val ≤ 11 ∧ u = (((s.setReg n (v.setWidth
    32)).setReg (Reg.plus n 1) ((v >>> 32).setWidth 32)).setReg (Reg.plus n 2) ((v >>> 64).setWidth 32)).setReg
    (Reg.plus n 3) ((v >>> 96).setWidth 32) :=
  ⟨wst, .o, 11, 1, _, by decide, rfl⟩
theorem witness_RegisterLiteralAndImmediateOperands_4 :
    ∃ (s : State) (t : DT), ∃ v : BitVec 6, t ∈ [.f, .d, .g, .h] :=
  ⟨wst, .h, 63, (by decide)⟩
theorem witness_MemoryModeAddresses_0 :
    ∃ (s : State) (u : Use) (t : DT) (n : Reg) (b : Byte) (w : Word16) (l : Long), n ≠ 15 ∧ ∃ x s', pointer u (s.reg
    n + b.signExtend 32) (s.setReg 15 (s.pc + 2)) = .ok x s' :=
  ⟨wst, .data, .l, 2, 1, 1, 1, by decide, _, _, rfl⟩
theorem witness_MemoryModeAddresses_1 :
    ∃ (s : State) (u : Use) (t : DT) (n : Reg) (b : Byte) (w : Word16) (l : Long), n ≠ 15 ∧ ∃ x s', pointer u (s.reg
    n + w.signExtend 32) (s.setReg 15 (s.pc + 3)) = .ok x s' :=
  ⟨wst, .data, .l, 2, 1, 1, 1, by decide, _, _, rfl⟩
theorem witness_MemoryModeAddresses_2 :
    ∃ (s : State) (u : Use) (t : DT) (n : Reg) (b : Byte) (w : Word16) (l : Long), n ≠ 15 ∧ ∃ x s', pointer u (s.reg
    n + l) (s.setReg 15 (s.pc + 5)) = .ok x s' :=
  ⟨wst, .data, .l, 2, 1, 1, 1, by decide, _, _, rfl⟩
theorem witness_MemoryModeAddresses_3 :
    ∃ (s : State) (u : Use) (t : DT) (n : Reg) (b : Byte) (w : Word16) (l : Long), n ≠ 15 ∧ ∃ x s', pointer u (s.reg
    n) (s.setReg 15 (s.pc + 1)) = .ok x s' :=
  ⟨wst, .data, .l, 2, 1, 1, 1, by decide, _, _, rfl⟩
theorem witness_MemoryModeAddresses_4 :
    ∃ (s : State) (u : Use) (t : DT) (n : Reg) (b : Byte) (w : Word16) (l : Long), ∃ (x : Reg) (m : Mode) (a : Long)
    (s' : State), x ≠ 15 ∧ checkBase x m s = .ok ⟨⟩ s ∧ modeAddress u t m (s.setReg 15 (s.pc + 1)) = .ok a s' :=
  ⟨wst, .data, .q, 2, 1, 1, 1, 14, .autoInc 2, _, _, by decide, rfl, rfl⟩
theorem witness_MemoryModeAddresses_5 :
    ∃ (s : State) (u : Use) (t : DT) (n : Reg) (b : Byte) (w : Word16) (l : Long), ∃ x s', pointer u (s.pc + 2 +
    b.signExtend 32) (s.setReg 15 (s.pc + 2)) = .ok x s' :=
  ⟨wst, .data, .l, 2, 0x7F, 1, 1, _, _, rfl⟩
theorem witness_MemoryModeAddresses_6 :
    ∃ (s : State) (u : Use) (t : DT) (n : Reg) (b : Byte) (w : Word16) (l : Long), ∃ x s', pointer u (s.pc + 3 +
    w.signExtend 32) (s.setReg 15 (s.pc + 3)) = .ok x s' :=
  ⟨wst, .data, .l, 2, 0x7F, 1, 1, _, _, rfl⟩
theorem witness_MemoryModeAddresses_7 :
    ∃ (s : State) (u : Use) (t : DT) (n : Reg) (b : Byte) (w : Word16) (l : Long), ∃ x s', pointer u (s.pc + 5 + l)
    (s.setReg 15 (s.pc + 5)) = .ok x s' :=
  ⟨wst, .data, .l, 2, 0x7F, 1, 1, _, _, rfl⟩
theorem witness_RegistersHaveNoAddress_0 :
    ∃ (s : State) (n x : Reg) (v : BitVec 6) (o dst : Opnd), s.fpd = false ∧ (o = ⟨none, .reg n⟩ ∨ o = ⟨none, .lit v⟩
    ∨ o = ⟨some x, .reg n⟩ ∨ o = ⟨some x, .lit v⟩) ∧ ∃ i ∈ ([.movab o dst, .movaw o dst, .moval o dst, .movaf o dst,
    .movaq o dst, .movad o dst, .movag o dst, .pushab o, .pushaw o, .pushal o, .pushaf o, .pushaq o, .pushad o,
    .pushag o, .jmp o, .jsb o] : List Instr), True :=
  ⟨wst, 15, 15, 63, (⟨some 15, .lit 63⟩), (reg 0), rfl, (.inr (.inr (.inr rfl))), _, row 0, trivial⟩
theorem witness_RegistersHaveNoAddress_1 :
    ∃ (s : State) (n x : Reg) (v : BitVec 6) (o dst : Opnd), s.fpd = false ∧ (o = ⟨none, .reg n⟩ ∨ o = ⟨none, .lit v⟩
    ∨ o = ⟨some x, .reg n⟩ ∨ o = ⟨some x, .lit v⟩) ∧ s.cfg.hasGH = true ∧ ∃ i ∈ ([.movao o dst, .movah o dst, .pushao
    o, .pushah o] : List Instr), True :=
  ⟨wst, 15, 15, 63, (⟨some 15, .reg 15⟩), (mem 0x2000), rfl, (.inr (.inr (.inl rfl))), rfl, _, row 0, trivial⟩
theorem witness_OperandsChangeOnlySteppedRegisters_0 :
    ∃ (s s' : State) (t : DT) (o : Opnd), ∃ v, rd t o s = .ok v s' :=
  ⟨wst, _, .q, ⟨some 0, .autoInc 2⟩, _, rfl⟩
theorem witness_OperandsChangeOnlySteppedRegisters_1 :
    ∃ (s s' : State) (t : DT) (o : Opnd), ∃ d, wr t o s = .ok d s' :=
  ⟨wst, _, .l, ⟨none, .autoDec 2⟩, _, rfl⟩
theorem witness_OperandsChangeOnlySteppedRegisters_2 :
    ∃ (s s' : State) (t : DT) (o : Opnd), ∃ a, adr t o s = .ok a s' :=
  ⟨wst, _, .l, ⟨none, .autoIncDef 2⟩, _, rfl⟩
theorem witness_OperandsChangeOnlySteppedRegisters_3 :
    ∃ (s s' : State) (t : DT) (o : Opnd), ∃ b, fld o s = .ok b s' :=
  ⟨wst, _, .b, reg 14, _, rfl⟩
theorem witness_OperandsChangeOnlySteppedRegisters_4 :
    ∃ (s s' : State) (t : DT) (o : Opnd), ∃ v, md t o s = .ok v s' ∧ s.mm.mapen = false ∧ s.during = [] :=
  ⟨wst, _, .q, ⟨some 0, .autoInc 2⟩, _, rfl, rfl, rfl⟩
theorem witness_OperandsChangeOnlySteppedRegisters_5 :
    ∃ (s s' : State) (t : DT) (o : Opnd), ∃ v, md t o s = .ok v s' ∧ (o.idx = none ∧ ∃ n, o.mode = .reg n) :=
  ⟨wst, _, .q, reg 13, _, rfl, ⟨rfl, _, rfl⟩⟩
theorem witness_OperandsChangeOnlySteppedRegisters_6 :
    ∃ (s s' : State) (t : DT) (o : Opnd), ∃ v, md t o s = .ok v s' ∧ ∃ a s1, s.MemOk ∧ s.during = [] ∧ address
    (modifyUse t) t o s = .ok a s1 ∧ (∀ p ∈ s1.touched a, place s1 p = .ram) ∧ ∃ b, b ∉ s1.touched a :=
  ⟨wst, _, .q, ⟨some 0, .autoInc 2⟩, _, rfl, _, _, rfl, rfl, rfl, (fun _ hp => absurd hp List.not_mem_nil), 0,
    List.not_mem_nil⟩
theorem witness_StoresChangeOnlyTheirDestination_0 :
    ∃ (s s' : State) (t : DT) (v : BitVec t.bits), ∃ n, store t (.reg n) v s = .ok ⟨⟩ s' ∧ ∃ k : Reg, (∀ j < t.regs,
    k ≠ Reg.plus n j) :=
  ⟨wst, _, .b, 1, 14, rfl, 0, (by decide)⟩
theorem witness_StoresChangeOnlyTheirDestination_1 :
    ∃ (s s' : State) (t : DT) (v : BitVec t.bits), ∃ sp : Span, s.MemOk ∧ sp.inRam t.len s ∧ store t (.place sp) v s
    = .ok ⟨⟩ s' ∧ ∃ a, (¬ sp.has t.len a) :=
  ⟨wst, _, .l, 1, ⟨0x2000, 512, 0⟩, rfl, ⟨⟨rfl, rfl, rfl, rfl⟩, .inl (by decide)⟩, rfl, 0x2004,
    (by unfold Span.has; decide)⟩
theorem witness_StoresChangeOnlyTheirDestination_2 :
    ∃ (s s' : State) (t : DT) (v : BitVec t.bits), ∃ (va : Long) (sp : Span) (s1 : State), s.MemOk ∧ s.during = [] ∧
    memDest va t.len s = .ok sp s1 ∧ sp.inRam t.len s1 ∧ store t (.mem va) v s = .ok ⟨⟩ s' ∧ (∀ p ∈ s.touched va,
    place s p = .ram) ∧ ∃ a, a ∉ s.touched va ∧ (¬ sp.has t.len a) :=
  ⟨wst, _, .l, 1, 0x21FE, _, _, rfl, rfl, rfl, ⟨⟨rfl, rfl, rfl, rfl⟩, .inr ⟨rfl, rfl, rfl, rfl⟩⟩, rfl,
    (fun _ hp => absurd hp List.not_mem_nil), 0x2202, List.not_mem_nil, (by unfold Span.has; decide)⟩
theorem witness_UnaryIntegerResults_0 :
    ∃ e ∈ unaryRows, ∃ (src dst : Opnd) (s s1 s2 s3 : State) (x : BitVec e.ts.bits) (d : Dest), Ready e.op s ∧ rd e.ts
    src (past e.op s) = .ok x s1 ∧ wr e.td dst s1 = .ok d s2 ∧ store e.td d (e.r x) s2 = .ok ⟨⟩ s3 :=
  ⟨_, row 2, (lit 5), (reg 1), wst, _, _, _, _, _, ready, rfl, rfl, rfl⟩
theorem witness_TwoOperandIntegerResults_0 :
    ∃ e ∈ binaryRows, ∃ (src dst : Opnd) (s s1 s2 s3 : State) (a b : BitVec e.t.bits) (d : Dest), Ready e.op2 s ∧ rd
    e.t src (past e.op2 s) = .ok a s1 ∧ md e.t dst s1 = .ok (d, b) s2 ∧ store e.t d (e.r a b) s2 = .ok ⟨⟩ s3 ∧ e.trap
    a b = none ∧ (e.v a b && s3.iv) = false :=
  ⟨_, row 2, (lit 5), (mem 0x2000), wst, _, _, _, _, _, _, ready, rfl, rfl, rfl, rfl, rfl⟩
theorem witness_ThreeOperandIntegerResults_0 :
    ∃ e ∈ binaryRows, ∃ (src1 src2 dst : Opnd) (s s1 s2 s3 s4 : State) (a b : BitVec e.t.bits) (d : Dest), Ready
    e.op3 s ∧ rd e.t src1 (past e.op3 s) = .ok a s1 ∧ rd e.t src2 s1 = .ok b s2 ∧ wr e.t dst s2 = .ok d s3 ∧ store
    e.t d (e.r a b) s3 = .ok ⟨⟩ s4 ∧ e.trap a b = none ∧ (e.v a b && s4.iv) = false :=
  ⟨_, row 11, (lit 5), (reg 1), (mem 0x2000), wst, _, _, _, _, _, _, _, ready, rfl, rfl, rfl, rfl, rfl, rfl⟩
theorem witness_IncrementDecrementAndCarryResults_0 :
    ∃ e ∈ stepRows, ∃ (dst : Opnd) (s s1 s2 : State) (x : BitVec e.t.bits) (d : Dest), Ready e.op s ∧ md e.t dst
    (past e.op s) = .ok (d, x) s1 ∧ store e.t d (e.r x) s1 = .ok ⟨⟩ s2 ∧ (e.v x && s2.iv) = false :=
  ⟨_, row 2, (reg 1), wst, _, _, _, _, ready, rfl, rfl, rfl⟩
theorem witness_IncrementDecrementAndCarryResults_1 :
    ∃ (src dst : Opnd) (s s1 s2 s3 : State) (a b : Long) (d : Dest), Ready 0xD8 s ∧ rd .l src (past 0xD8 s) = .ok a
    s1 ∧ md .l dst s1 = .ok (d, b) s2 ∧ store .l d (b + a + bitL s2.ccC) s2 = .ok ⟨⟩ s3 ∧ (decide (b.toInt + a.toInt
    + s2.ccC.toInt ≠ (b + a + bitL s2.ccC).toInt) && s3.iv) = false :=
  ⟨(lit 1), (reg 1), wst, _, _, _, _, _, _, ready, rfl, rfl, rfl, rfl⟩
theorem witness_IncrementDecrementAndCarryResults_2 :
    ∃ (src dst : Opnd) (s s1 s2 s3 : State) (a b : Long) (d : Dest), Ready 0xD9 s ∧ rd .l src (past 0xD9 s) = .ok a
    s1 ∧ md .l dst s1 = .ok (d, b) s2 ∧ store .l d (b - a - bitL s2.ccC) s2 = .ok ⟨⟩ s3 ∧ (decide (b.toInt - a.toInt
    - s2.ccC.toInt ≠ (b - a - bitL s2.ccC).toInt) && s3.iv) = false :=
  ⟨(lit 1), (reg 1), wst, _, _, _, _, _, _, ready, rfl, rfl, rfl, rfl⟩
theorem witness_IntegerTraps_0 :
    ∃ e ∈ binaryRows, ∃ (src1 src2 dst : Opnd) (s s1 s2 s3 s4 : State) (a b : BitVec e.t.bits) (d : Dest), Ready
    e.op3 s ∧ rd e.t src1 (past e.op3 s) = .ok a s1 ∧ rd e.t src2 s1 = .ok b s2 ∧ wr e.t dst s2 = .ok d s3 ∧ store
    e.t d (e.r a b) s3 = .ok ⟨⟩ s4 ∧ e.trap a b = some 2 :=
  ⟨_, row 11, (lit 0), (reg 1), (reg 0), wst, _, _, _, _, _, _, _, ready, rfl, rfl, rfl, rfl, rfl⟩
theorem witness_IntegerTraps_1 :
    ∃ e ∈ binaryRows, ∃ (src1 src2 dst : Opnd) (s s1 s2 s3 s4 : State) (a b : BitVec e.t.bits) (d : Dest), Ready
    e.op3 s ∧ rd e.t src1 (past e.op3 s) = .ok a s1 ∧ rd e.t src2 s1 = .ok b s2 ∧ wr e.t dst s2 = .ok d s3 ∧ store
    e.t d (e.r a b) s3 = .ok ⟨⟩ s4 ∧ e.trap a b = none ∧ e.v a b = true ∧ s4.iv = true :=
  ⟨_, row 2, (lit 1), (reg 1), (reg 0), { wst with psl := 0x20, r := wst.r.set 1 0x7FFFFFFF }, _, _, _, _, _, _, _,
    ready, rfl, rfl, rfl, rfl, rfl, rfl, rfl⟩
theorem witness_IntegerTraps_2 :
    ∃ e ∈ binaryRows, ∃ (src dst : Opnd) (s s1 s2 s3 : State) (a b : BitVec e.t.bits) (d : Dest), Ready e.op2 s ∧ rd
    e.t src (past e.op2 s) = .ok a s1 ∧ md e.t dst s1 = .ok (d, b) s2 ∧ store e.t d (e.r a b) s2 = .ok ⟨⟩ s3 ∧ e.trap
    a b = some 2 :=
  ⟨_, row 11, (lit 0), (reg 1), wst, _, _, _, _, _, _, ready, rfl, rfl, rfl, rfl⟩
theorem witness_IntegerTraps_3 :
    ∃ e ∈ binaryRows, ∃ (src dst : Opnd) (s s1 s2 s3 : State) (a b : BitVec e.t.bits) (d : Dest), Ready e.op2 s ∧ rd
    e.t src (past e.op2 s) = .ok a s1 ∧ md e.t dst s1 = .ok (d, b) s2 ∧ store e.t d (e.r a b) s2 = .ok ⟨⟩ s3 ∧ e.trap
    a b = none ∧ e.v a b = true ∧ s3.iv = true :=
  ⟨_, row 2, (lit 1), (reg 1), { wst with psl := 0x20, r := wst.r.set 1 0x7FFFFFFF }, _, _, _, _, _, _, ready, rfl,
    rfl, rfl, rfl, rfl, rfl⟩
theorem witness_IntegerTraps_4 :
    ∃ e ∈ unaryRows, ∃ (src dst : Opnd) (s s1 s2 s3 : State) (x : BitVec e.ts.bits) (d : Dest), Ready e.op s ∧ rd
    e.ts src (past e.op s) = .ok x s1 ∧ wr e.td dst s1 = .ok d s2 ∧ store e.td d (e.r x) s2 = .ok ⟨⟩ s3 ∧ e.v x =
    true ∧ s3.iv = true :=
  ⟨_, row 18, (reg 1), (reg 0), { wst with psl := 0x20, r := wst.r.set 1 0x7FFFFFFF }, _, _, _, _, _, ready, rfl,
    rfl, rfl, rfl, rfl⟩
theorem witness_IntegerTraps_5 :
    ∃ e ∈ stepRows, ∃ (dst : Opnd) (s s1 s2 : State) (x : BitVec e.t.bits) (d : Dest), Ready e.op s ∧ md e.t dst
    (past e.op s) = .ok (d, x) s1 ∧ store e.t d (e.r x) s1 = .ok ⟨⟩ s2 ∧ e.v x = true ∧ s2.iv = true :=
  ⟨_, row 2, (reg 1), { wst with psl := 0x20, r := wst.r.set 1 0x7FFFFFFF }, _, _, _, _, ready, rfl, rfl, rfl, rfl⟩
theorem witness_IntegerTraps_6 :
    ∃ (src dst : Opnd) (s s1 s2 s3 : State) (a b : Long) (d : Dest), Ready 0xD8 s ∧ rd .l src (past 0xD8 s) = .ok a
    s1 ∧ md .l dst s1 = .ok (d, b) s2 ∧ store .l d (b + a + bitL s2.ccC) s2 = .ok ⟨⟩ s3 ∧ b.toInt + a.toInt +
    s2.ccC.toInt ≠ (b + a + bitL s2.ccC).toInt ∧ s3.iv = true :=
  ⟨(lit 1), (reg 1), { wst with psl := 0x20, r := wst.r.set 1 0x7FFFFFFF }, _, _, _, _, _, _, ready, rfl, rfl, rfl,
    (by decide), rfl⟩
theorem witness_IntegerTraps_7 :
    ∃ (src dst : Opnd) (s s1 s2 s3 : State) (a b : Long) (d : Dest), Ready 0xD9 s ∧ rd .l src (past 0xD9 s) = .ok a
    s1 ∧ md .l dst s1 = .ok (d, b) s2 ∧ store .l d (b - a - bitL s2.ccC) s2 = .ok ⟨⟩ s3 ∧ b.toInt - a.toInt -
    s2.ccC.toInt ≠ (b - a - bitL s2.ccC).toInt ∧ s3.iv = true :=
  ⟨(lit 1), (reg 1), { wst with psl := 0x20, r := wst.r.set 1 0x80000000 }, _, _, _, _, _, _, ready, rfl, rfl, rfl,
    (by decide), rfl⟩
theorem witness_IntegerTraps_8 :
    ∃ (cnt src dst : Opnd) (s s1 s2 s3 s4 : State) (n : Byte) (d : Dest), ∃ x r : Long, Ready 0x78 s ∧ rd .b cnt
    (past 0x78 s) = .ok n s1 ∧ rd .l src s1 = .ok x s2 ∧ wr .l dst s2 = .ok d s3 ∧ 0 ≤ n.toInt ∧ r = BitVec.ofInt 32
    (x.toInt * 2 ^ n.toInt.toNat) ∧ store .l d r s3 = .ok ⟨⟩ s4 ∧ r.toInt ≠ x.toInt * 2 ^ n.toInt.toNat ∧ s4.iv =
    true :=
  ⟨(lit 1), (reg 1), (reg 0), { wst with psl := 0x20, r := wst.r.set 1 0x7FFFFFFF }, _, _, _, _, _, _, _, _, ready,
    rfl, rfl, rfl, by decide, rfl, rfl, (by decide), rfl⟩
theorem witness_IntegerTraps_9 :
    ∃ (cnt src dst : Opnd) (s s1 s2 s3 s4 : State) (n : Byte) (d : Dest), ∃ x r : Quad, Ready 0x79 s ∧ rd .b cnt
    (past 0x79 s) = .ok n s1 ∧ rd .q src s1 = .ok x s2 ∧ wr .q dst s2 = .ok d s3 ∧ 0 ≤ n.toInt ∧ r = BitVec.ofInt 64
    (x.toInt * 2 ^ n.toInt.toNat) ∧ store .q d r s3 = .ok ⟨⟩ s4 ∧ r.toInt ≠ x.toInt * 2 ^ n.toInt.toNat ∧ s4.iv =
    true :=
  ⟨(lit 1), (reg 1), (reg 0), { wst with psl := 0x20, r := wst.r.set 2 0x7FFFFFFF }, _, _, _, _, _, _, _, _, ready,
    rfl, rfl, rfl, by decide, rfl, rfl, (by decide), rfl⟩
theorem witness_IntegerTraps_10 :
    ∃ (add : Opnd) (n : Reg) (s s1 : State) (la : Option Dest) (a r : Word16), Ready 0x58 s ∧ n ≠ 15 ∧ rdAt .w add
    (past 0x58 s) = .ok (la, a) s1 ∧ la ≠ some (.reg n) ∧ r = (s1.reg n).setWidth 16 + a ∧ ((s1.reg n).setWidth 16 :
    Word16).toInt + a.toInt ≠ r.toInt ∧ s1.iv = true :=
  ⟨(lit 1), 0, { wst with psl := 0x20, r := wst.r.set 0 0x7FFF }, _, _, _, _, ready, (by decide), rfl, (by decide),
    rfl, (by decide), rfl⟩
theorem witness_IntegerTraps_11 :
    ∃ (add sum : Opnd) (s s1 s2 s3 s4 s5 : State) (la : Option Dest) (a : Word16) (va : Long) (sp : Span) (w : Octa)
    (r : Word16), Ready 0x58 s ∧ rdAt .w add (past 0x58 s) = .ok (la, a) s1 ∧ wr .w sum s1 = .ok (.mem va) s2 ∧
    overlap la (.mem va) = false ∧ va.getLsbD 0 = false ∧ memDest va 2 s2 = .ok sp s3 ∧ place s3 sp.a0 = .ram ∧
    s3.v750.lock = false ∧ s3.v780.interlock = false ∧ readSpan .interlocked sp 2 s3 = .ok w s4 ∧ r = w.setWidth 16 +
    a ∧ writeSpan .interlocked sp 2 (r.setWidth 128) s4 = .ok ⟨⟩ s5 ∧ (w.setWidth 16 : Word16).toInt + a.toInt ≠
    r.toInt ∧ s5.iv = true :=
  ⟨(lit 1), (mem 0x2000), { wst with psl := 0x20, mem := [(0x2000, 0xFF), (0x2001, 0x7F)] }, _, _, _, _, _, _, _, _,
    _, _, _, ready, rfl, rfl, rfl, rfl, rfl, rfl, rfl, rfl, rfl, rfl, rfl, (by decide), rfl⟩
theorem witness_IntegerTraps_12 :
    ∃ (divr divd quo rem : Opnd) (s s1 s2 s3 s4 s5 s6 s7 s8 : State) (a : Long) (b : Quad) (d1 d2 e1 e2 : Dest),
    Ready 0x7B s ∧ rdPlain .l divr (past 0x7B s) = .ok a s1 ∧ rdPlain .q divd s1 = .ok b s2 ∧ wrPlain .l quo s2 = .ok
    d1 s3 ∧ wrPlain .l rem s3 = .ok d2 s4 ∧ prepare .l d1 s4 = .ok e1 s5 ∧ prepare .l d2 s5 = .ok e2 s6 ∧ storePlain
    .l e1 (b.setWidth 32) s6 = .ok ⟨⟩ s7 ∧ storePlain .l e2 0 s7 = .ok ⟨⟩ s8 ∧ a = 0 :=
  ⟨(lit 0), (lit 9), (reg 1), (reg 0), wst, _, _, _, _, _, _, _, _, _, _, _, _, _, _, ready, rfl, rfl, rfl, rfl, rfl,
    rfl, rfl, rfl, rfl⟩
theorem witness_IntegerTraps_13 :
    ∃ (divr divd quo rem : Opnd) (s s1 s2 s3 s4 s5 s6 s7 s8 : State) (a : Long) (b : Quad) (d1 d2 e1 e2 : Dest),
    Ready 0x7B s ∧ rdPlain .l divr (past 0x7B s) = .ok a s1 ∧ rdPlain .q divd s1 = .ok b s2 ∧ wrPlain .l quo s2 = .ok
    d1 s3 ∧ wrPlain .l rem s3 = .ok d2 s4 ∧ prepare .l d1 s4 = .ok e1 s5 ∧ prepare .l d2 s5 = .ok e2 s6 ∧ storePlain
    .l e1 (b.setWidth 32) s6 = .ok ⟨⟩ s7 ∧ storePlain .l e2 0 s7 = .ok ⟨⟩ s8 ∧ a ≠ 0 ∧ (b.toInt.tdiv a.toInt < -2 ^
    31 ∨ 2 ^ 31 ≤ b.toInt.tdiv a.toInt) ∧ s8.iv = true :=
  ⟨(lit 1), (reg 2), (reg 1), (reg 0), { wst with psl := 0x20, r := wst.r.set 3 1 }, _, _, _, _, _, _, _, _, _, _, _,
    _, _, _, ready, rfl, rfl, rfl, rfl, rfl, rfl, rfl, rfl, by decide, (.inr (by decide)), rfl⟩
theorem witness_IntegerTraps_14 :
    ∃ (divr divd quo rem : Opnd) (s s1 s2 s3 s4 s5 s6 s7 s8 : State) (a : Long) (b : Quad) (d1 d2 e1 e2 : Dest),
    Ready 0x7B s ∧ rdPlain .l divr (past 0x7B s) = .ok a s1 ∧ rdPlain .q divd s1 = .ok b s2 ∧ wrPlain .l quo s2 = .ok
    d1 s3 ∧ wrPlain .l rem s3 = .ok d2 s4 ∧ prepare .l d1 s4 = .ok e1 s5 ∧ prepare .l d2 s5 = .ok e2 s6 ∧ storePlain
    .l e1 (b.setWidth 32) s6 = .ok ⟨⟩ s7 ∧ storePlain .l e2 0 s7 = .ok ⟨⟩ s8 ∧ a ≠ 0 ∧ (b.toInt.tdiv a.toInt < -2 ^
    31 ∨ 2 ^ 31 ≤ b.toInt.tdiv a.toInt) ∧ s8.iv = false :=
  ⟨(lit 1), (reg 2), (reg 1), (reg 0), { wst with r := wst.r.set 3 1 }, _, _, _, _, _, _, _, _, _, _, _, _, _, _,
    ready, rfl, rfl, rfl, rfl, rfl, rfl, rfl, rfl, by decide, (.inr (by decide)), rfl⟩
theorem witness_CompareAndTestResults_0 :
    ∃ e ∈ compareRows, ∃ (src1 src2 : Opnd) (s s1 s2 : State) (a b : BitVec e.t.bits), Ready e.op s ∧ rd e.t src1
    (past e.op s) = .ok a s1 ∧ rd e.t src2 s1 = .ok b s2 :=
  ⟨_, row 2, (lit 1), (mem 0x2000), wst, _, _, _, _, ready, rfl, rfl⟩
theorem witness_CompareAndTestResults_1 :
    ∃ e ∈ testRows, ∃ (src : Opnd) (s s1 : State) (a : BitVec e.2.2.bits), Ready e.1 s ∧ rd e.2.2 src (past e.1 s) =
    .ok a s1 :=
  ⟨_, row 2, (mem 0x2000), wst, _, _, ready, rfl⟩
theorem witness_ShiftAndExtendedResults_0 :
    ∃ (cnt src dst : Opnd) (s s1 s2 s3 s4 : State) (n : Byte) (x : Long) (d : Dest) (r : Long) (v : Bool), Ready 0x78
    s ∧ rd .b cnt (past 0x78 s) = .ok n s1 ∧ rd .l src s1 = .ok x s2 ∧ wr .l dst s2 = .ok d s3 ∧ r = (if 0 ≤ n.toInt
    then BitVec.ofInt 32 (x.toInt * 2 ^ n.toInt.toNat) else BitVec.ofInt 32 (x.toInt / 2 ^ (-n.toInt).toNat)) ∧ store
    .l d r s3 = .ok ⟨⟩ s4 ∧ v = decide (0 ≤ n.toInt ∧ r.toInt ≠ x.toInt * 2 ^ n.toInt.toNat) :=
  ⟨(lit 4), (reg 1), (reg 0), wst, _, _, _, _, _, _, _, _, _, ready, rfl, rfl, rfl, rfl, rfl, rfl⟩
theorem witness_ShiftAndExtendedResults_1 :
    ∃ (cnt src dst : Opnd) (s s1 s2 s3 s4 : State) (n : Byte) (x : Quad) (d : Dest) (r : Quad) (v : Bool), Ready 0x79
    s ∧ rd .b cnt (past 0x79 s) = .ok n s1 ∧ rd .q src s1 = .ok x s2 ∧ wr .q dst s2 = .ok d s3 ∧ r = (if 0 ≤ n.toInt
    then BitVec.ofInt 64 (x.toInt * 2 ^ n.toInt.toNat) else BitVec.ofInt 64 (x.toInt / 2 ^ (-n.toInt).toNat)) ∧ store
    .q d r s3 = .ok ⟨⟩ s4 ∧ v = decide (0 ≤ n.toInt ∧ r.toInt ≠ x.toInt * 2 ^ n.toInt.toNat) :=
  ⟨(lit 4), (reg 1), (reg 0), wst, _, _, _, _, _, _, _, _, _, ready, rfl, rfl, rfl, rfl, rfl, rfl⟩
theorem witness_ShiftAndExtendedResults_2 :
    ∃ (cnt src dst : Opnd) (s s1 s2 s3 s4 : State) (n : Byte) (x : Long) (d : Dest), Ready 0x9C s ∧ rd .b cnt (past
    0x9C s) = .ok n s1 ∧ rd .l src s1 = .ok x s2 ∧ wr .l dst s2 = .ok d s3 ∧ store .l d ((x <<< (n.toInt % 32).toNat)
    ||| (x >>> (32 - (n.toInt % 32).toNat))) s3 = .ok ⟨⟩ s4 :=
  ⟨(lit 4), (reg 1), (reg 0), wst, _, _, _, _, _, _, _, ready, rfl, rfl, rfl, rfl⟩
theorem witness_ShiftAndExtendedResults_3 :
    ∃ (mulr muld add prod : Opnd) (s s1 s2 s3 s4 s5 : State) (a b e : Long) (d : Dest), Ready 0x7A s ∧ rd .l mulr
    (past 0x7A s) = .ok a s1 ∧ rd .l muld s1 = .ok b s2 ∧ rd .l add s2 = .ok e s3 ∧ wr .q prod s3 = .ok d s4 ∧ store
    .q d (BitVec.ofInt 64 (a.toInt * b.toInt + e.toInt)) s4 = .ok ⟨⟩ s5 :=
  ⟨(lit 4), (reg 1), (lit 2), (reg 0), wst, _, _, _, _, _, _, _, _, _, ready, rfl, rfl, rfl, rfl, rfl⟩
theorem witness_ShiftAndExtendedResults_4 :
    ∃ (divr divd quo rem : Opnd) (s s1 s2 s3 s4 s5 s6 s7 s8 : State) (a : Long) (b : Quad) (d1 d2 e1 e2 : Dest) (fits
    : Bool), Ready 0x7B s ∧ rdPlain .l divr (past 0x7B s) = .ok a s1 ∧ rdPlain .q divd s1 = .ok b s2 ∧ wrPlain .l quo
    s2 = .ok d1 s3 ∧ wrPlain .l rem s3 = .ok d2 s4 ∧ prepare .l d1 s4 = .ok e1 s5 ∧ prepare .l d2 s5 = .ok e2 s6 ∧
    fits = decide (a ≠ 0 ∧ -2 ^ 31 ≤ b.toInt.tdiv a.toInt ∧ b.toInt.tdiv a.toInt < 2 ^ 31) ∧ storePlain .l e1 (if fits
    then BitVec.ofInt 32 (b.toInt.tdiv a.toInt) else b.setWidth 32) s6 = .ok ⟨⟩ s7 ∧ storePlain .l e2 (if fits then
    BitVec.ofInt 32 (b.toInt.tmod a.toInt) else 0) s7 = .ok ⟨⟩ s8 ∧ fits = true :=
  ⟨(lit 4), (lit 9), (reg 1), (reg 0), wst, _, _, _, _, _, _, _, _, _, _, _, _, _, _, true, ready, rfl, rfl, rfl, rfl,
    rfl, rfl, (by decide), rfl, rfl, rfl⟩
theorem witness_AddAlignedInterlocked_0 :
    ∃ (add : Opnd) (n : Reg) (s s1 : State) (la : Option Dest) (a : Word16) (r : Word16), Ready 0x58 s ∧ n ≠ 15 ∧
    rdAt .w add (past 0x58 s) = .ok (la, a) s1 ∧ la ≠ some (.reg n) ∧ r = (s1.reg n).setWidth 16 + a ∧ (decide
    (((s1.reg n).setWidth 16 : Word16).toInt + a.toInt ≠ r.toInt) && s1.iv) = false :=
  ⟨(lit 5), 1, wst, _, _, _, _, ready, by decide, rfl, by decide, rfl, rfl⟩
theorem witness_AddAlignedInterlocked_1 :
    ∃ (add sum : Opnd) (s s1 s2 s3 s4 s5 : State) (la : Option Dest) (a : Word16) (va : Long) (sp : Span) (w : Octa)
    (r : Word16), Ready 0x58 s ∧ rdAt .w add (past 0x58 s) = .ok (la, a) s1 ∧ wr .w sum s1 = .ok (.mem va) s2 ∧
    overlap la (.mem va) = false ∧ va.getLsbD 0 = false ∧ memDest va 2 s2 = .ok sp s3 ∧ place s3 sp.a0 = .ram ∧
    s3.v750.lock = false ∧ s3.v780.interlock = false ∧ readSpan .interlocked sp 2 s3 = .ok w s4 ∧ r = w.setWidth 16 +
    a ∧ writeSpan .interlocked sp 2 (r.setWidth 128) s4 = .ok ⟨⟩ s5 ∧ (decide ((w.setWidth 16 : Word16).toInt +
    a.toInt ≠ r.toInt) && s5.iv) = false :=
  ⟨(lit 5), (mem 0x2000), wst, _, _, _, _, _, _, _, _, _, _, _, ready, rfl, rfl, rfl, rfl, rfl, rfl, rfl, rfl, rfl,
    rfl, rfl, rfl⟩
theorem witness_AddAlignedInterlocked_2 :
    ∃ (add sum : Opnd) (s s1 s2 : State) (la : Option Dest) (a : Word16) (va : Long), Ready 0x58 s ∧ rdAt .w add
    (past 0x58 s) = .ok (la, a) s1 ∧ wr .w sum s1 = .ok (.mem va) s2 ∧ va.getLsbD 0 = true :=
  ⟨(lit 5), (mem 0x2001), wst, _, _, _, _, _, ready, rfl, rfl, rfl⟩
theorem witness_ClearMoveAddressAndPushResults_0 :
    ∃ e ∈ clearRows, ∃ (dst : Opnd) (s s1 s2 : State) (d : Dest), Ready e.1 s ∧ wr e.2.2 dst (past e.1 s) = .ok d s1
    ∧ store e.2.2 d 0 s1 = .ok ⟨⟩ s2 :=
  ⟨_, row 7, (mem 0x2000), wst, _, _, _, ready, rfl, rfl⟩
theorem witness_ClearMoveAddressAndPushResults_1 :
    ∃ e ∈ moveAddressRows, ∃ (src dst : Opnd) (s s1 s2 s3 : State) (a : Long) (d : Dest), Ready e.1 s ∧ adr e.2.2 src
    (past e.1 s) = .ok a s1 ∧ wr .l dst s1 = .ok d s2 ∧ store .l d a s2 = .ok ⟨⟩ s3 :=
  ⟨_, row 8, (mem 0x2000), (reg 0), wst, _, _, _, _, _, ready, rfl, rfl, rfl⟩
theorem witness_ClearMoveAddressAndPushResults_2 :
    ∃ e ∈ pushAddressRows, ∃ (src : Opnd) (s s1 s2 : State) (a : Long), Ready e.1 s ∧ adr e.2.2 src (past e.1 s) =
    .ok a s1 ∧ push [a] s1 = .ok ⟨⟩ s2 :=
  ⟨_, row 8, (mem 0x2000), wst, _, _, _, ready, rfl, rfl⟩
theorem witness_ClearMoveAddressAndPushResults_3 :
    ∃ (src : Opnd) (s s1 s2 : State) (x : Long), Ready 0xDD s ∧ rd .l src (past 0xDD s) = .ok x s1 ∧ push [x] s1 =
    .ok ⟨⟩ s2 :=
  ⟨(lit 5), wst, _, _, _, ready, rfl, rfl⟩
theorem witness_BitFieldReads_6 :
    ∃ (n : Nat) (v : Long), n ≤ 32 ∧ ∃ i < 32, True :=
  ⟨0, 0xFFFFFFFF, by decide, 31, by decide, trivial⟩
theorem witness_ShiftAndExtendedResults_5 :
    ∃ (divr divd quo rem : Opnd) (s s1 s2 s3 s4 s5 s6 s7 s8 : State) (a : Long) (b : Quad) (d1 d2 e1 e2 : Dest) (fits
    : Bool), Ready 0x7B s ∧ rdPlain .l divr (past 0x7B s) = .ok a s1 ∧ rdPlain .q divd s1 = .ok b s2 ∧ wrPlain .l quo
    s2 = .ok d1 s3 ∧ wrPlain .l rem s3 = .ok d2 s4 ∧ prepare .l d1 s4 = .ok e1 s5 ∧ prepare .l d2 s5 = .ok e2 s6 ∧
    fits = decide (a ≠ 0 ∧ -2 ^ 31 ≤ b.toInt.tdiv a.toInt ∧ b.toInt.tdiv a.toInt < 2 ^ 31) ∧ storePlain .l e1 (if fits
    then BitVec.ofInt 32 (b.toInt.tdiv a.toInt) else b.setWidth 32) s6 = .ok ⟨⟩ s7 ∧ storePlain .l e2 (if fits then
    BitVec.ofInt 32 (b.toInt.tmod a.toInt) else 0) s7 = .ok ⟨⟩ s8 ∧ fits = false :=
  ⟨(lit 0), (lit 9), (reg 1), (reg 0), wst, _, _, _, _, _, _, _, _, _, _, _, _, _, _, false, ready, rfl, rfl, rfl,
    rfl, rfl, rfl, (by decide), rfl, rfl, rfl⟩
theorem witness_BitFieldReads_0 :
    ∃ (pos size base dst : Opnd) (s s1 s2 s3 s4 s5 s6 s7 : State) (p : Long) (n : Byte) (b : FieldBase) (d : Dest) (f
    : FieldPlace) (v : Long), Ready 0xEE s ∧ rdPlain .l pos (past 0xEE s) = .ok p s1 ∧ rdPlain .b size s1 = .ok n s2
    ∧ fld base s2 = .ok b s3 ∧ wr .l dst s3 = .ok d s4 ∧ fieldPlace p n.toNat b s4 = .ok f s5 ∧ fieldRead f s5 = .ok
    v s6 ∧ store .l d (signExtendField n.toNat v) s6 = .ok ⟨⟩ s7 :=
  ⟨(lit 4), (lit 32), (mem 0x2000), (reg 0), wst, _, _, _, _, _, _, _, _, _, _, _, _, _, ready, rfl, rfl, rfl, rfl,
    rfl, rfl, rfl⟩
theorem witness_BitFieldReads_1 :
    ∃ (pos size base dst : Opnd) (s s1 s2 s3 s4 s5 s6 s7 : State) (p : Long) (n : Byte) (b : FieldBase) (d : Dest) (f
    : FieldPlace) (v : Long), Ready 0xEF s ∧ rdPlain .l pos (past 0xEF s) = .ok p s1 ∧ rdPlain .b size s1 = .ok n s2
    ∧ fld base s2 = .ok b s3 ∧ wr .l dst s3 = .ok d s4 ∧ fieldPlace p n.toNat b s4 = .ok f s5 ∧ fieldRead f s5 = .ok
    v s6 ∧ store .l d v s6 = .ok ⟨⟩ s7 :=
  ⟨(lit 28), (lit 4), (reg 1), (reg 0), wst, _, _, _, _, _, _, _, _, _, _, _, _, _, ready, rfl, rfl, rfl, rfl, rfl,
    rfl, rfl⟩
theorem witness_BitFieldReads_2 :
    ∃ (pos size base src : Opnd) (s s1 s2 s3 s4 s5 s6 : State) (p : Long) (n : Byte) (b : FieldBase) (x : Long) (f :
    FieldPlace) (v : Long), Ready 0xEC s ∧ rdPlain .l pos (past 0xEC s) = .ok p s1 ∧ rdPlain .b size s1 = .ok n s2 ∧
    fld base s2 = .ok b s3 ∧ rd .l src s3 = .ok x s4 ∧ fieldPlace p n.toNat b s4 = .ok f s5 ∧ fieldRead f s5 = .ok v
    s6 :=
  ⟨(lit 4), (lit 0), (mem 0x2000), (reg 0), wst, _, _, _, _, _, _, _, _, _, _, _, _, ready, rfl, rfl, rfl, rfl, rfl,
    rfl⟩
theorem witness_BitFieldReads_3 :
    ∃ (pos size base src : Opnd) (s s1 s2 s3 s4 s5 s6 : State) (p : Long) (n : Byte) (b : FieldBase) (x : Long) (f :
    FieldPlace) (v : Long), Ready 0xED s ∧ rdPlain .l pos (past 0xED s) = .ok p s1 ∧ rdPlain .b size s1 = .ok n s2 ∧
    fld base s2 = .ok b s3 ∧ rd .l src s3 = .ok x s4 ∧ fieldPlace p n.toNat b s4 = .ok f s5 ∧ fieldRead f s5 = .ok v
    s6 :=
  ⟨(lit 4), (lit 32), (mem 0x2000), (reg 0), wst, _, _, _, _, _, _, _, _, _, _, _, _, ready, rfl, rfl, rfl, rfl, rfl,
    rfl⟩
theorem witness_BitFieldReads_4 :
    ∃ (start size base findpos : Opnd) (s s1 s2 s3 s4 s5 s6 s7 : State) (p : Long) (n : Byte) (b : FieldBase) (d :
    Dest) (f : FieldPlace) (v : Long) (i : Nat), i ≤ n.toNat ∧ Ready 0xEA s ∧ rdPlain .l start (past 0xEA s) = .ok p
    s1 ∧ rdPlain .b size s1 = .ok n s2 ∧ fld base s2 = .ok b s3 ∧ wr .l findpos s3 = .ok d s4 ∧ fieldPlace p n.toNat
    b s4 = .ok f s5 ∧ fieldRead f s5 = .ok v s6 ∧ (∀ j < i, v.getLsbD j = false) ∧ (i < n.toNat → v.getLsbD i = true)
    ∧ store .l d (p + BitVec.ofNat 32 i) s6 = .ok ⟨⟩ s7 :=
  ⟨(lit 4), (lit 8), (mem 0x2000), (reg 0), wst, _, _, _, _, _, _, _, _, _, _, _, _, _, 0, by decide, ready, rfl,
    rfl, rfl, rfl, rfl, rfl, (fun j hj => absurd hj (Nat.not_lt_zero _)), (fun _ => by decide), rfl⟩
theorem witness_BitFieldReads_5 :
    ∃ (start size base findpos : Opnd) (s s1 s2 s3 s4 s5 s6 s7 : State) (p : Long) (n : Byte) (b : FieldBase) (d :
    Dest) (f : FieldPlace) (v : Long) (i : Nat), i ≤ n.toNat ∧ Ready 0xEB s ∧ rdPlain .l start (past 0xEB s) = .ok p
    s1 ∧ rdPlain .b size s1 = .ok n s2 ∧ fld base s2 = .ok b s3 ∧ wr .l findpos s3 = .ok d s4 ∧ fieldPlace p n.toNat
    b s4 = .ok f s5 ∧ fieldRead f s5 = .ok v s6 ∧ (∀ j < i, v.getLsbD j = true) ∧ (i < n.toNat → v.getLsbD i = false)
    ∧ store .l d (p + BitVec.ofNat 32 i) s6 = .ok ⟨⟩ s7 :=
  ⟨(lit 0), (lit 2), (mem 0x2000), (reg 0), wst, _, _, _, _, _, _, _, _, _, _, _, _, _, 1, by decide, ready, rfl,
    rfl, rfl, rfl, rfl, rfl, (fun j hj => by obtain rfl : j = 0 := (by omega); rfl), (fun _ => by decide), rfl⟩
theorem witness_BitFieldPlacesAndInsertion_0 :
    ∃ (src pos size base : Opnd) (s s1 s2 s3 s4 s5 s6 : State) (x p : Long) (n : Byte) (b : FieldBase) (f :
    FieldPlace), Ready 0xF0 s ∧ rd .l src (past 0xF0 s) = .ok x s1 ∧ rdPlain .l pos s1 = .ok p s2 ∧ rdPlain .b size
    s2 = .ok n s3 ∧ fld base s3 = .ok b s4 ∧ fieldPlace p n.toNat b s4 = .ok f s5 ∧ fieldWrite f x s5 = .ok ⟨⟩ s6 :=
  ⟨(lit 5), (lit 4), (lit 32), (mem 0x2000), wst, _, _, _, _, _, _, _, _, _, _, _, ready, rfl, rfl, rfl, rfl, rfl,
    rfl⟩
theorem witness_BitFieldPlacesAndInsertion_1 :
    ∃ (src pos size base : Opnd) (s s1 s2 s3 s4 s5 : State) (x p : Long) (n : Byte) (b : FieldBase) (e : Exc), Ready
    0xF0 s ∧ rd .l src (past 0xF0 s) = .ok x s1 ∧ rdPlain .l pos s1 = .ok p s2 ∧ rdPlain .b size s2 = .ok n s3 ∧ fld
    base s3 = .ok b s4 ∧ fieldPlace p n.toNat b s4 = .error (.exc e) s5 :=
  ⟨(lit 5), (lit 4), (lit 33), (reg 1), wst, _, _, _, _, _, _, _, _, _, _, ready, rfl, rfl, rfl, rfl, rfl⟩
theorem witness_BitFieldPlacesAndInsertion_2 :
    ∃ (s : State) (p : Long) (n : Nat) (r : Reg) (x : Long), n ≤ 32 ∧ p.toNat ≤ 31 ∧ 32 < p.toNat + n ∧ r.val ≤ 13 :=
  ⟨wst, 28, 32, 0, 1, by decide, by decide, by decide, by decide⟩
theorem witness_BitFieldPlacesAndInsertion_3 :
    ∃ (s : State) (p : Long) (n : Nat) (r : Reg) (x : Long), p.toNat + n ≤ 32 ∧ 0 < n ∧ p.toNat ≤ 31 :=
  ⟨wst, 31, 1, 14, 1, by decide, by decide, by decide⟩
theorem witness_BitFieldPlacesAndInsertion_4 :
    ∃ (s : State) (p : Long) (n : Nat) (r : Reg), 0 < n ∧ 31 < p.toNat :=
  ⟨wst, 32, 1, 0, by decide, by decide⟩
theorem witness_BitFieldPlacesAndInsertion_5 :
    ∃ (s : State) (p : Long) (n : Nat) (b : FieldBase), 32 < n :=
  ⟨wst, 0, 33, .reg 0, by decide⟩
theorem witness_BitFieldPlacesAndInsertion_6 :
    ∃ (s : State) (p a : Long) (n : Nat), 0 < n ∧ n ≤ 32 :=
  ⟨wst, 0xFFFFFFFF, 0x2000, 32, by decide, by decide⟩
theorem witness_BitFieldPlacesAndInsertion_7 :
    ∃ (s s1 : State) (a : Long) (o k n i : Nat) (w : Octa), k ≤ 5 ∧ o + n ≤ 8 * k ∧ n ≤ 32 ∧ i < n ∧ memRead .other a
    k s = .ok w s1 :=
  ⟨wst, _, 0x2000, 7, 5, 32, 31, _, by decide, by decide, by decide, by decide, rfl⟩
theorem witness_BitFieldPlacesAndInsertion_8 :
    ∃ (s s1 s2 s3 : State) (a x : Long) (o k n : Nat) (sp : Span) (w y : Octa), o < 8 ∧ n ≤ 32 ∧ memDest a k s = .ok
    sp s1 ∧ readSpan .other sp k s1 = .ok w s2 ∧ (∀ j < 128, y.getLsbD j = if o ≤ j ∧ j < o + n then x.getLsbD (j -
    o) else w.getLsbD j) ∧ writeSpan .other sp k y s2 = .ok ⟨⟩ s3 :=
  ⟨wst, _, _, _, 0x2000, 5, 4, 5, 32, _, _, 0x51, by decide, by decide, rfl, rfl, (by decide),
    (unit_ok (by decide +kernel))⟩
theorem witness_BranchResults_0 :
    ∃ e ∈ branchRows, ∃ (d : Byte) (s : State), Ready e.1 s :=
  ⟨_, row 1, 0x80, wst, ready⟩
theorem witness_BranchResults_1 :
    ∃ (d : Word16) (s : State), Ready 0x31 s :=
  ⟨0x8000, wst, ready⟩
theorem witness_BranchResults_2 :
    ∃ (src : Opnd) (d : Byte) (s s1 : State) (x : Long), Ready 0xE8 s ∧ rd .l src (past 0xE8 s) = .ok x s1 :=
  ⟨(reg 0), 0x7F, wst, _, _, ready, rfl⟩
theorem witness_BranchResults_3 :
    ∃ (src : Opnd) (d : Byte) (s s1 : State) (x : Long), Ready 0xE9 s ∧ rd .l src (past 0xE9 s) = .ok x s1 :=
  ⟨(reg 0), 0x7F, wst, _, _, ready, rfl⟩
theorem witness_BitBranchResults_0 :
    ∃ (pos base : Opnd) (d : Byte) (s s1 s2 s3 s4 : State) (p : Long) (b : FieldBase) (f : FieldPlace) (v : Long),
    Ready 0xE0 s ∧ rdPlain .l pos (past 0xE0 s) = .ok p s1 ∧ fld base s1 = .ok b s2 ∧ fieldPlace p 1 b (s2.setReg 15
    (s2.pc + 1)) = .ok f s3 ∧ fieldRead f s3 = .ok v s4 :=
  ⟨(lit 31), (reg 0), 2, wst, _, _, _, _, _, _, _, _, ready, rfl, rfl, rfl, rfl⟩
theorem witness_BitBranchResults_1 :
    ∃ (pos base : Opnd) (d : Byte) (s s1 s2 s3 s4 : State) (p : Long) (b : FieldBase) (f : FieldPlace) (v : Long),
    Ready 0xE1 s ∧ rdPlain .l pos (past 0xE1 s) = .ok p s1 ∧ fld base s1 = .ok b s2 ∧ fieldPlace p 1 b (s2.setReg 15
    (s2.pc + 1)) = .ok f s3 ∧ fieldRead f s3 = .ok v s4 :=
  ⟨(lit 63), (mem 0x2000), 2, wst, _, _, _, _, _, _, _, _, ready, rfl, rfl, rfl, rfl⟩
theorem witness_BitBranchResults_2 :
    ∃ e ∈ bitBranchRows, ∃ (pos base : Opnd) (d : Byte) (s s1 s2 s3 s4 : State) (p : Long) (b : FieldBase) (f :
    FieldPlace) (old : Bool), Ready e.1 s ∧ rdPlain .l pos (past e.1 s) = .ok p s1 ∧ fld base s1 = .ok b s2 ∧
    fieldPlace p 1 b (s2.setReg 15 (s2.pc + 1)) = .ok f s3 ∧ exchangeBit e.2.2.1 f e.2.2.2.2 s3 = .ok old s4 :=
  ⟨_, row 4, (lit 8), (mem 0x2000), 2, wst, _, _, _, _, _, _, _, _, ready, rfl, rfl, rfl, rfl⟩
theorem witness_BitBranchResults_3 :
    ∃ (u : Use) (s : State) (r : Reg) (k : Nat) (new : Bool), k < 32 :=
  ⟨.other, wst, 0, 31, true, by decide⟩
theorem witness_BitBranchResults_4 :
    ∃ (u : Use) (s s1 : State) (va : Long) (o : Nat) (sp : Span) (new : Bool), o < 8 ∧ s.MemOk ∧ memDest va 1 s = .ok
    sp s1 ∧ s1.goodRam sp.a0 1 ∧ s1.v750.lock = false ∧ s1.v780.interlock = false :=
  ⟨.interlocked, wst, _, 0x2000, 7, _, true, by decide, rfl, rfl, ⟨rfl, rfl, rfl, rfl⟩, rfl, rfl⟩
theorem witness_LoopResults_0 :
    ∃ e ∈ ([(0x9D, .acbb, .b), (0x3D, .acbw, .w), (0xF1, .acbl, .l)] : List (Nat × (Opnd → Opnd → Opnd → Word16 →
    Instr) × DT)), ∃ (limit add idx : Opnd) (d : Word16) (s s1 s2 s3 s4 : State) (l a i : BitVec e.2.2.bits) (k :
    Dest), Ready e.1 s ∧ rdPlain e.2.2 limit (past e.1 s) = .ok l s1 ∧ rdPlain e.2.2 add s1 = .ok a s2 ∧ mdAs .other
    e.2.2 idx s2 = .ok (k, i) s3 ∧ storePlain e.2.2 k (i + a) (s3.setReg 15 (s3.pc + 2)) = .ok ⟨⟩ s4 ∧ (decide
    (i.toInt + a.toInt ≠ (i + a).toInt) && s4.iv) = false :=
  ⟨_, row 2, (lit 9), (lit 1), (reg 0), 5, wst, _, _, _, _, _, _, _, _, ready, rfl, rfl, rfl, rfl, rfl⟩
theorem witness_LoopResults_1 :
    ∃ e ∈ ([(0x9D, .acbb, .b), (0x3D, .acbw, .w), (0xF1, .acbl, .l)] : List (Nat × (Opnd → Opnd → Opnd → Word16 →
    Instr) × DT)), ∃ (limit add idx : Opnd) (d : Word16) (s s1 s2 s3 s4 : State) (l a i : BitVec e.2.2.bits) (k :
    Dest), Ready e.1 s ∧ rdPlain e.2.2 limit (past e.1 s) = .ok l s1 ∧ rdPlain e.2.2 add s1 = .ok a s2 ∧ mdAs .other
    e.2.2 idx s2 = .ok (k, i) s3 ∧ storePlain e.2.2 k (i + a) (s3.setReg 15 (s3.pc + 2)) = .ok ⟨⟩ s4 ∧ (decide
    (i.toInt + a.toInt ≠ (i + a).toInt) && s4.iv) = true :=
  ⟨_, row 2, (lit 9), (lit 1), (reg 0), 5, { wst with psl := 0x20, r := wst.r.set 0 0x7FFFFFFF }, _, _, _, _, _, _,
    _, _, ready, rfl, rfl, rfl, rfl, rfl⟩
theorem witness_LoopResults_2 :
    ∃ e ∈ ([(0xF2, .aoblss, fun i l => decide (i < l)), (0xF3, .aobleq, fun i l => decide (i ≤ l))] : List (Nat ×
    (Opnd → Opnd → Byte → Instr) × (Int → Int → Bool))), ∃ (limit idx : Opnd) (d : Byte) (s s1 s2 s3 : State) (l i :
    Long) (k : Dest), Ready e.1 s ∧ rdPlain .l limit (past e.1 s) = .ok l s1 ∧ mdAs .other .l idx s1 = .ok (k, i) s2
    ∧ storePlain .l k (i + 1) (s2.setReg 15 (s2.pc + 1)) = .ok ⟨⟩ s3 ∧ (decide (i = 0x7FFFFFFF) && s3.iv) = false :=
  ⟨_, row 0, (lit 9), (reg 0), 5, wst, _, _, _, _, _, _, ready, rfl, rfl, rfl, rfl⟩
theorem witness_LoopResults_3 :
    ∃ e ∈ ([(0xF2, .aoblss, fun i l => decide (i < l)), (0xF3, .aobleq, fun i l => decide (i ≤ l))] : List (Nat ×
    (Opnd → Opnd → Byte → Instr) × (Int → Int → Bool))), ∃ (limit idx : Opnd) (d : Byte) (s s1 s2 s3 : State) (l i :
    Long) (k : Dest), Ready e.1 s ∧ rdPlain .l limit (past e.1 s) = .ok l s1 ∧ mdAs .other .l idx s1 = .ok (k, i) s2
    ∧ storePlain .l k (i + 1) (s2.setReg 15 (s2.pc + 1)) = .ok ⟨⟩ s3 ∧ (decide (i = 0x7FFFFFFF) && s3.iv) = true :=
  ⟨_, row 0, (lit 9), (reg 0), 5, { wst with psl := 0x20, r := wst.r.set 0 0x7FFFFFFF }, _, _, _, _, _, _, ready,
    rfl, rfl, rfl, rfl⟩
theorem witness_LoopResults_4 :
    ∃ e ∈ ([(0xF4, .sobgeq, fun i => decide (0 ≤ i)), (0xF5, .sobgtr, fun i => decide (0 < i))] : List (Nat × (Opnd →
    Byte → Instr) × (Int → Bool))), ∃ (idx : Opnd) (d : Byte) (s s1 s2 : State) (i : Long) (k : Dest), Ready e.1 s ∧
    mdAs .other .l idx (past e.1 s) = .ok (k, i) s1 ∧ storePlain .l k (i - 1) (s1.setReg 15 (s1.pc + 1)) = .ok ⟨⟩ s2
    ∧ (decide (i = 0x80000000) && s2.iv) = false :=
  ⟨_, row 0, (reg 0), 5, wst, _, _, _, _, ready, rfl, rfl, rfl⟩
theorem witness_LoopResults_5 :
    ∃ e ∈ ([(0xF4, .sobgeq, fun i => decide (0 ≤ i)), (0xF5, .sobgtr, fun i => decide (0 < i))] : List (Nat × (Opnd →
    Byte → Instr) × (Int → Bool))), ∃ (idx : Opnd) (d : Byte) (s s1 s2 : State) (i : Long) (k : Dest), Ready e.1 s ∧
    mdAs .other .l idx (past e.1 s) = .ok (k, i) s1 ∧ storePlain .l k (i - 1) (s1.setReg 15 (s1.pc + 1)) = .ok ⟨⟩ s2
    ∧ (decide (i = 0x80000000) && s2.iv) = true :=
  ⟨_, row 0, (reg 0), 5, { wst with psl := 0x20, r := wst.r.set 0 0x80000000 }, _, _, _, _, ready, rfl, rfl, rfl⟩
theorem witness_CaseResults_0 :
    ∃ e ∈ ([(0x8F, .caseb, .b), (0xAF, .casew, .w), (0xCF, .casel, .l)] : List (Nat × (Opnd → Opnd → Opnd → Instr) ×
    DT)), ∃ (selector base limit : Opnd) (s s1 s2 s3 : State) (x b l : BitVec e.2.2.bits), Ready e.1 s ∧ rd e.2.2
    selector (past e.1 s) = .ok x s1 ∧ rd e.2.2 base s1 = .ok b s2 ∧ rd e.2.2 limit s2 = .ok l s3 ∧ (x - b).toNat ≤
    l.toNat ∧ ∃ (d : Word16) (s4 : State), streamWord (s3.pc + BitVec.ofNat 32 (2 * (x - b).toNat)) s3 = .ok d s4 :=
  ⟨_, row 2, (lit 3), (lit 1), (lit 2), wst, _, _, _, _, _, _, ready, rfl, rfl, rfl, by decide, _, _, rfl⟩
theorem witness_CaseResults_1 :
    ∃ e ∈ ([(0x8F, .caseb, .b), (0xAF, .casew, .w), (0xCF, .casel, .l)] : List (Nat × (Opnd → Opnd → Opnd → Instr) ×
    DT)), ∃ (selector base limit : Opnd) (s s1 s2 s3 : State) (x b l : BitVec e.2.2.bits), Ready e.1 s ∧ rd e.2.2
    selector (past e.1 s) = .ok x s1 ∧ rd e.2.2 base s1 = .ok b s2 ∧ rd e.2.2 limit s2 = .ok l s3 ∧ l.toNat < (x -
    b).toNat :=
  ⟨_, row 2, (lit 0), (lit 1), (lit 2), wst, _, _, _, _, _, _, ready, rfl, rfl, rfl, by decide⟩
theorem witness_JumpAndSubroutineResults_0 :
    ∃ (dst : Opnd) (s s1 : State) (a : Long), Ready 0x17 s ∧ adr .b dst (past 0x17 s) = .ok a s1 :=
  ⟨(mem 0x2000), wst, _, _, ready, rfl⟩
theorem witness_JumpAndSubroutineResults_1 :
    ∃ (dst : Opnd) (s s1 s2 : State) (a : Long), Ready 0x16 s ∧ adr .b dst (past 0x16 s) = .ok a s1 ∧ push [s1.pc] s1
    = .ok ⟨⟩ s2 :=
  ⟨(mem 0x2000), wst, _, _, _, ready, rfl, rfl⟩
theorem witness_JumpAndSubroutineResults_2 :
    ∃ (d : Byte) (s s1 : State), Ready 0x10 s ∧ push [s.pc + 2] (s.setReg 15 (s.pc + 2)) = .ok ⟨⟩ s1 :=
  ⟨0x80, wst, _, ready, rfl⟩
theorem witness_JumpAndSubroutineResults_3 :
    ∃ (d : Word16) (s s1 : State), Ready 0x30 s ∧ push [s.pc + 3] (s.setReg 15 (s.pc + 3)) = .ok ⟨⟩ s1 :=
  ⟨0x8000, wst, _, ready, rfl⟩
theorem witness_JumpAndSubroutineResults_4 :
    ∃ (s s1 : State) (x : Long), Ready 0x05 s ∧ pop (past 0x05 s) = .ok x s1 :=
  ⟨wst, _, _, ready, rfl⟩
theorem witness_JumpAndSubroutineResults_5 :
    ∃ (s t : State) (e : Exc), ∃ d : Byte, Ready 0x10 s ∧ push [s.pc + 2] (s.setReg 15 (s.pc + 2)) = .error (.exc e)
    t :=
  ⟨{ wst with mm := { wst.mm with mapen := true, sbr := 0x4000, slr := 1 }, mem := [] }, _, _, 1, ready, rfl⟩
theorem witness_JumpAndSubroutineResults_6 :
    ∃ (s t : State) (e : Exc), ∃ d : Word16, Ready 0x30 s ∧ push [s.pc + 3] (s.setReg 15 (s.pc + 3)) = .error (.exc
    e) t :=
  ⟨{ wst with mm := { wst.mm with mapen := true, sbr := 0x4000, slr := 1 }, mem := [] }, _, _, 1, ready, rfl⟩
theorem witness_CallResults_0 :
    ∃ (arglist dst : Opnd) (s s1 s2 s3 s4 s5 : State) (ap d fp : Long) (w : Octa) (mask : Word16) (xs : List Long)
    (ps : List Span), Ready 0xFA s ∧ adr .b arglist (past 0xFA s) = .ok ap s1 ∧ adr .b dst s1 = .ok d s2 ∧ memRead
    .data d 2 s2 = .ok w s3 ∧ mask = w.setWidth 16 ∧ field mask 12 2 = 0 ∧ xs = frameLongs s3 mask false (s3.reg 14
    &&& 3) ∧ longDests (slots (s3.reg 14 &&& 0xFFFFFFFC) xs.length) s3 = .ok ps s4 ∧ putLongs (ps.zip xs) s4 = .ok ⟨⟩
    s5 ∧ fp = (s3.reg 14 &&& 0xFFFFFFFC) - BitVec.ofNat 32 (4 * xs.length) :=
  ⟨(mem 0x2000), (mem 0x2100), wst, _, _, _, _, _, _, _, _, _, _, _, _, ready, rfl, rfl, rfl, rfl, rfl, rfl, rfl,
    (unit_ok (by decide +kernel)), rfl⟩
theorem witness_CallResults_1 :
    ∃ (numarg dst : Opnd) (s s1 s2 s3 s4 s5 : State) (n d sp fp : Long) (w : Octa) (mask : Word16) (xs : List Long)
    (ps : List Span), Ready 0xFB s ∧ rd .l numarg (past 0xFB s) = .ok n s1 ∧ adr .b dst s1 = .ok d s2 ∧ memRead .data
    d 2 s2 = .ok w s3 ∧ mask = w.setWidth 16 ∧ field mask 12 2 = 0 ∧ sp = s3.reg 14 - 4 ∧ xs = frameLongs s3 mask
    true (sp &&& 3) ∧ longDests (sp :: slots (sp &&& 0xFFFFFFFC) xs.length) s3 = .ok ps s4 ∧ putLongs (ps.zip (n ::
    xs)) s4 = .ok ⟨⟩ s5 ∧ fp = (sp &&& 0xFFFFFFFC) - BitVec.ofNat 32 (4 * xs.length) :=
  ⟨(lit 2), (mem 0x2100), wst, _, _, _, _, _, _, _, _, _, _, _, _, _, ready, rfl, rfl, rfl, rfl, rfl, rfl, rfl, rfl,
    (unit_ok (by decide +kernel)), rfl⟩
theorem witness_CallResults_2 :
    ∃ (arglist dst : Opnd) (s s1 s2 s3 s4 : State) (ap d : Long) (w : Octa) (mask : Word16) (e : Exc), Ready 0xFA s ∧
    adr .b arglist (past 0xFA s) = .ok ap s1 ∧ adr .b dst s1 = .ok d s2 ∧ memRead .data d 2 s2 = .ok w s3 ∧ mask =
    w.setWidth 16 ∧ field mask 12 2 = 0 ∧ longDests (slots (s3.reg 14 &&& 0xFFFFFFFC) (frameLongs s3 mask false
    (s3.reg 14 &&& 3)).length) s3 = .error (.exc e) s4 :=
  ⟨(mem 0x2000), (mem 0x80000100), { wst with mm := { wst.mm with mapen := true, sbr := 0x4000, slr := 1 }, mem :=
    [(0x4003, 0x90)] }, _, _, _, _, _, _, _, _, _, ready, rfl, rfl, rfl, rfl, rfl, rfl⟩
theorem witness_CallResults_3 :
    ∃ (arglist dst : Opnd) (s s1 s2 s3 : State) (ap d : Long) (w : Octa), Ready 0xFA s ∧ adr .b arglist (past 0xFA s)
    = .ok ap s1 ∧ adr .b dst s1 = .ok d s2 ∧ memRead .data d 2 s2 = .ok w s3 ∧ field (w.setWidth 16 : Word16) 12 2 ≠
    0 :=
  ⟨(mem 0x2100), (mem 0x2000), wst, _, _, _, _, _, _, ready, rfl, rfl, rfl, by decide⟩
theorem witness_CallResults_4 :
    ∃ (numarg dst : Opnd) (s s1 s2 s3 s4 : State) (n d : Long) (w : Octa) (mask : Word16) (e : Exc), Ready 0xFB s ∧
    rd .l numarg (past 0xFB s) = .ok n s1 ∧ adr .b dst s1 = .ok d s2 ∧ memRead .data d 2 s2 = .ok w s3 ∧ mask =
    w.setWidth 16 ∧ field mask 12 2 = 0 ∧ longDests ((s3.reg 14 - 4) :: slots ((s3.reg 14 - 4) &&& 0xFFFFFFFC)
    (frameLongs s3 mask true ((s3.reg 14 - 4) &&& 3)).length) s3 = .error (.exc e) s4 :=
  ⟨(lit 2), (mem 0x80000100), { wst with mm := { wst.mm with mapen := true, sbr := 0x4000, slr := 1 }, mem :=
    [(0x4003, 0x90)] }, _, _, _, _, _, _, _, _, _, ready, rfl, rfl, rfl, rfl, rfl, rfl⟩
theorem witness_CallResults_5 :
    ∃ (numarg dst : Opnd) (s s1 s2 s3 : State) (n d : Long) (w : Octa), Ready 0xFB s ∧ rd .l numarg (past 0xFB s) =
    .ok n s1 ∧ adr .b dst s1 = .ok d s2 ∧ memRead .data d 2 s2 = .ok w s3 ∧ field (w.setWidth 16 : Word16) 12 2 ≠ 0 :=
  ⟨(lit 2), (mem 0x2000), wst, _, _, _, _, _, _, ready, rfl, rfl, rfl, by decide⟩
theorem witness_ReturnResults_0 :
    ∃ (s s1 s2 : State) (tmp ap fp pc : Long) (xs : List Long), field tmp 8 8 ≠ 0 ∧ Ready 0x04 s ∧ pop ((past 0x04
    s).setReg 14 (s.reg 13 + 4)) = .ok tmp s1 :=
  ⟨{ wst with mem := [(0x6005, 0x1)] }, _, wst, _, 0, 0, 0, [], by decide, ready, rfl⟩
theorem witness_ReturnResults_1 :
    ∃ (s s1 s2 : State) (tmp ap fp pc : Long) (xs : List Long), Ready 0x04 s ∧ pops 4 ((past 0x04 s).setReg 14 (s.reg
    13 + 4)) = .ok [tmp, ap, fp, pc] s1 ∧ field tmp 8 8 = 0 ∧ pops ((List.range 12).filter fun i => tmp.getLsbD (16 +
    i)).length s1 = .ok xs s2 ∧ tmp.getLsbD 29 = false :=
  ⟨{ wst with mem := [(0x6006, 0xC), (0x6014, 0x5)] }, _, _, _, _, _, _, _, ready, rfl, rfl, rfl, rfl⟩
theorem witness_ReturnResults_2 :
    ∃ (s s1 s2 : State) (tmp ap fp pc : Long) (xs : List Long), Ready 0x04 s ∧ pops 4 ((past 0x04 s).setReg 14 (s.reg
    13 + 4)) = .ok [tmp, ap, fp, pc] s1 ∧ field tmp 8 8 = 0 ∧ pops ((List.range 12).filter fun i => tmp.getLsbD (16 +
    i)).length s1 = .ok xs s2 ∧ tmp.getLsbD 29 = true ∧ ∃ (n : Long) (s3 : State), readLong ((s2.reg 14 &&&
    0xFFFFFFFC) ||| tmp >>> 30)
    { ((s2.setReg 12 ap).setReg 13 fp) with psl := (s2.psl &&& 0xFFFF0000) ||| (tmp &&& 0xFFFF) } = .ok n s3 :=
  ⟨{ wst with mem := [(0x6006, 0xC), (0x6007, 0x20)] }, _, _, _, _, _, _, _, ready, rfl, rfl, rfl, rfl, _, _, rfl⟩
theorem witness_QueueResults_0 :
    ∃ (entry pred : Opnd) (s s1 s2 s3 s4 s5 s6 s7 s8 s9 sA sB : State) (e p q : Long) (dp ds de de4 : Span), Ready
    0x0E s ∧ adrPlain .b entry (past 0x0E s) = .ok e s1 ∧ adrPlain .b pred s1 = .ok p s2 ∧ readLong p s2 = .ok q s3 ∧
    memDest p 4 s3 = .ok dp s4 ∧ memDest (q + 4) 4 s4 = .ok ds s5 ∧ memDest e 4 s5 = .ok de s6 ∧ memDest (e + 4) 4 s6
    = .ok de4 s7 ∧ writeSpan .other de 4 (q.setWidth 128) s7 = .ok ⟨⟩ s8 ∧ writeSpan .other de4 4 (p.setWidth 128) s8
    = .ok ⟨⟩ s9 ∧ writeSpan .other ds 4 (e.setWidth 128) s9 = .ok ⟨⟩ sA ∧ writeSpan .other dp 4 (e.setWidth 128) sA =
    .ok ⟨⟩ sB :=
  ⟨(mem 0x2200), (mem 0x2300), wst, _, _, _, _, _, _, _, _, _, _, _, _, _, _, _, _, _, _, ready, rfl, rfl, rfl, rfl,
    rfl, rfl, rfl, rfl, rfl, rfl, rfl⟩
theorem witness_QueueResults_1 :
    ∃ (entry addr : Opnd) (s s1 s2 s3 s4 : State) (e q p : Long) (d : Dest), Ready 0x0F s ∧ adrPlain .b entry (past
    0x0F s) = .ok e s1 ∧ wr .l addr s1 = .ok d s2 ∧ readLong e s2 = .ok q s3 ∧ readLong (e + 4) s3 = .ok p s4 ∧ e = p
    ∧ ∃ s5, store .l d e s4 = .ok ⟨⟩ s5 :=
  ⟨(mem 0x2200), (reg 0), { wst with mem := [(0x2205, 0x22)] }, _, _, _, _, _, _, _, _, ready, rfl, rfl, rfl, rfl,
    rfl, _, rfl⟩
theorem witness_QueueResults_2 :
    ∃ (entry addr : Opnd) (s s1 s2 s3 s4 : State) (e q p : Long) (d : Dest), Ready 0x0F s ∧ adrPlain .b entry (past
    0x0F s) = .ok e s1 ∧ wr .l addr s1 = .ok d s2 ∧ readLong e s2 = .ok q s3 ∧ readLong (e + 4) s3 = .ok p s4 ∧ e ≠ p
    ∧ ∃ (ds dp : Span) (k : Dest) (s5 s6 s7 s8 s9 sA : State), memDest (q + 4) 4 s4 = .ok ds s5 ∧ memDest p 4 s5 =
    .ok dp s6 ∧ prepare .l d s6 = .ok k s7 ∧ writeSpan .other dp 4 (q.setWidth 128) s7 = .ok ⟨⟩ s8 ∧ writeSpan .other
    ds 4 (p.setWidth 128) s8 = .ok ⟨⟩ s9 ∧ store .l k e s9 = .ok ⟨⟩ sA :=
  ⟨(mem 0x2200), (reg 0), wst, _, _, _, _, _, _, _, _, ready, rfl, rfl, rfl, rfl, by decide, _, _, _, _, _, _, _, _,
    _, rfl, rfl, rfl, rfl, rfl, rfl⟩
theorem witness_SelfRelativeQueueResults_0 :
    ∃ e ∈ ([(0x5C, .insqhi), (0x5D, .insqti)] : List (Nat × (Opnd → Opnd → Instr))), ∃ (entry header : Opnd) (s s1 s2
    : State) (n h : Long), Ready e.1 s ∧ adrPlain .b entry (past e.1 s) = .ok n s1 ∧ adrPlain .q header s1 = .ok h s2
    ∧ (h = n ∨ field h 0 3 ≠ 0 ∨ field n 0 3 ≠ 0) :=
  ⟨_, row 0, (mem 0x2200), (mem 0x2200), wst, _, _, _, _, ready, rfl, rfl, (.inl rfl)⟩
theorem witness_SelfRelativeQueueResults_1 :
    ∃ e ∈ ([(0x5C, .insqhi), (0x5D, .insqti)] : List (Nat × (Opnd → Opnd → Instr))), ∃ (entry header : Opnd) (s s1 s2
    : State) (n h : Long), Ready e.1 s ∧ adrPlain .b entry (past e.1 s) = .ok n s1 ∧ adrPlain .q header s1 = .ok h s2
    ∧ h ≠ n ∧ field h 0 3 = 0 ∧ field n 0 3 = 0 ∧ ∃ (s3 s4 : State) (a : Long) (es hs : Span), memDest n 8 s2 = .ok es
    s3 ∧ lockedRead h s3 = .ok (hs, a) s4 ∧ field a 1 2 ≠ 0 ∧ ∃ z, writeSpan .other hs 4 (a.setWidth 128) s4 = .ok ⟨⟩
    z :=
  ⟨_, row 0, (mem 0x2280), (mem 0x2300), { wst with mem := [(0x2300, 0x2)] }, _, _, _, _, ready, rfl, rfl, by decide,
    rfl, rfl, _, _, _, _, _, rfl, rfl, by decide, _, (unit_ok (by decide +kernel))⟩
theorem witness_SelfRelativeQueueResults_2 :
    ∃ e ∈ ([(0x5C, .insqhi), (0x5D, .insqti)] : List (Nat × (Opnd → Opnd → Instr))), ∃ (entry header : Opnd) (s s1 s2
    : State) (n h : Long), Ready e.1 s ∧ adrPlain .b entry (past e.1 s) = .ok n s1 ∧ adrPlain .q header s1 = .ok h s2
    ∧ h ≠ n ∧ field h 0 3 = 0 ∧ field n 0 3 = 0 ∧ ∃ (s3 s4 : State) (a : Long) (es hs : Span), memDest n 8 s2 = .ok es
    s3 ∧ lockedRead h s3 = .ok (hs, a) s4 ∧ field a 1 2 = 0 ∧ a.getLsbD 0 = true ∧ ∃ z, writeSpan .other hs 4
    (a.setWidth 128) s4 = .ok ⟨⟩ z :=
  ⟨_, row 0, (mem 0x2280), (mem 0x2300), { wst with mem := [(0x2300, 0x1)] }, _, _, _, _, ready, rfl, rfl, by decide,
    rfl, rfl, _, _, _, _, _, rfl, rfl, rfl, rfl, _, (unit_ok (by decide +kernel))⟩
theorem witness_SelfRelativeQueueResults_3 :
    ∃ e ∈ ([(0x5C, .insqhi), (0x5D, .insqti)] : List (Nat × (Opnd → Opnd → Instr))), ∃ (entry header : Opnd) (s s1 s2
    : State) (n h : Long), Ready e.1 s ∧ adrPlain .b entry (past e.1 s) = .ok n s1 ∧ adrPlain .q header s1 = .ok h s2
    ∧ h ≠ n ∧ field h 0 3 = 0 ∧ field n 0 3 = 0 ∧ ∃ (s3 s4 : State) (a : Long) (es hs : Span), memDest n 8 s2 = .ok es
    s3 ∧ lockedRead h s3 = .ok (hs, a) s4 ∧ e.1 = 0x5C ∧ field a 0 3 = 0 ∧ ∃ (t5 t6 t7 t8 t9 tA : State) (d : Span),
    writeSpan .other hs 4 ((a ||| 1).setWidth 128) s4 = .ok ⟨⟩ t5 ∧ memDest (h + a + 4) 4 t5 = .ok d t6 ∧ writeSpan
    .other d 4 ((n - (h + a)).setWidth 128) t6 = .ok ⟨⟩ t7 ∧ writeSpan .other (es.sub 0 4) 4 ((h + a - n).setWidth
    128) t7 = .ok ⟨⟩ t8 ∧ writeSpan .other (es.sub 4 4) 4 ((h - n).setWidth 128) t8 = .ok ⟨⟩ t9 ∧ writeSpan .other hs
    4 ((n - h).setWidth 128) t9 = .ok ⟨⟩ tA :=
  ⟨_, row 0, (mem 0x2280), (mem 0x2300), { wst with mem := [(0x2205, 0x1), (0x2301, 0xFF), (0x2302, 0xFF), (0x2303,
    0xFF)] }, _, _, _, _, ready, rfl, rfl, by decide, rfl, rfl, _, _, _, _, _, rfl, rfl, rfl, rfl, _, _, _, _, _, _, _,
    (unit_ok (by decide +kernel)), (any_ok ⟨0, 0, 0⟩ (by decide +kernel)), (unit_ok (by decide +kernel)), (unit_ok
    (by decide +kernel)), (unit_ok (by decide +kernel)), (unit_ok (by decide +kernel))⟩
theorem witness_SelfRelativeQueueResults_4 :
    ∃ e ∈ ([(0x5C, .insqhi), (0x5D, .insqti)] : List (Nat × (Opnd → Opnd → Instr))), ∃ (entry header : Opnd) (s s1 s2
    : State) (n h : Long), Ready e.1 s ∧ adrPlain .b entry (past e.1 s) = .ok n s1 ∧ adrPlain .q header s1 = .ok h s2
    ∧ h ≠ n ∧ field h 0 3 = 0 ∧ field n 0 3 = 0 ∧ ∃ (s3 s4 : State) (a : Long) (es hs : Span), memDest n 8 s2 = .ok es
    s3 ∧ lockedRead h s3 = .ok (hs, a) s4 ∧ e.1 = 0x5D ∧ a = 0 ∧ ∃ (s5 s6 s7 : State) (a' : Long) (es' hs' : Span),
    writeSpan .other hs 4 0 s4 = .ok ⟨⟩ s5 ∧ memDest n 8 s5 = .ok es' s6 ∧ lockedRead h s6 = .ok (hs', a') s7 ∧ field
    a' 0 3 = 0 ∧ ∃ (t5 t6 t7 t8 t9 tA : State) (d : Span), writeSpan .other hs' 4 ((a' ||| 1).setWidth 128) s7 = .ok
    ⟨⟩ t5 ∧ memDest (h + a' + 4) 4 t5 = .ok d t6 ∧ writeSpan .other d 4 ((n - (h + a')).setWidth 128) t6 = .ok ⟨⟩ t7 ∧
    writeSpan .other (es'.sub 0 4) 4 ((h + a' - n).setWidth 128) t7 = .ok ⟨⟩ t8 ∧ writeSpan .other (es'.sub 4 4) 4 ((h
    - n).setWidth 128) t8 = .ok ⟨⟩ t9 ∧ writeSpan .other hs' 4 ((n - h).setWidth 128) t9 = .ok ⟨⟩ tA :=
  ⟨_, row 1, (mem 0x2280), (mem 0x2300), wst, _, _, _, _, ready, rfl, rfl, by decide, rfl, rfl, _, _, _, _, _, rfl,
    rfl, rfl, rfl, _, _, _, _, _, _, (unit_ok (by decide +kernel)), (any_ok ⟨0, 0, 0⟩ (by decide +kernel)), (any_ok (⟨0,
    0, 0⟩, 0) (by decide +kernel)), (by decide +kernel), _, _, _, _, _, _, _, (unit_ok (by decide +kernel)), (any_ok ⟨0,
    0, 0⟩ (by decide +kernel)), (unit_ok (by decide +kernel)), (unit_ok (by decide +kernel)), (unit_ok
    (by decide +kernel)), (unit_ok (by decide +kernel))⟩
theorem witness_SelfRelativeQueueResults_5 :
    ∃ e ∈ ([(0x5C, .insqhi), (0x5D, .insqti)] : List (Nat × (Opnd → Opnd → Instr))), ∃ (entry header : Opnd) (s s1 s2
    : State) (n h : Long), Ready e.1 s ∧ adrPlain .b entry (past e.1 s) = .ok n s1 ∧ adrPlain .q header s1 = .ok h s2
    ∧ h ≠ n ∧ field h 0 3 = 0 ∧ field n 0 3 = 0 ∧ ∃ (s3 s4 : State) (a : Long) (es hs : Span), memDest n 8 s2 = .ok es
    s3 ∧ lockedRead h s3 = .ok (hs, a) s4 ∧ e.1 = 0x5D ∧ a = 0 ∧ ∃ (s5 s6 s7 : State) (a' : Long) (es' hs' : Span),
    writeSpan .other hs 4 0 s4 = .ok ⟨⟩ s5 ∧ memDest n 8 s5 = .ok es' s6 ∧ lockedRead h s6 = .ok (hs', a') s7 ∧ field
    a' 1 2 ≠ 0 ∧ ∃ z, writeSpan .other hs' 4 (a'.setWidth 128) s7 = .ok ⟨⟩ z :=
  ⟨_, row 1, (mem 0x2280), (mem 0x2300), { wst with mem := [], during := [(2, .agentWrite 0x2300 2)] }, _, _, _, _,
    ready, rfl, rfl, by decide, rfl, rfl, _, _, _, _, _, rfl, rfl, rfl, rfl, _, _, _, _, _, _, (unit_ok
    (by decide +kernel)), (any_ok ⟨0, 0, 0⟩ (by decide +kernel)), (any_ok (⟨0, 0, 0⟩, 0) (by decide +kernel)),
    (by decide +kernel), _, (unit_ok (by decide +kernel))⟩
theorem witness_SelfRelativeQueueResults_6 :
    ∃ e ∈ ([(0x5C, .insqhi), (0x5D, .insqti)] : List (Nat × (Opnd → Opnd → Instr))), ∃ (entry header : Opnd) (s s1 s2
    : State) (n h : Long), Ready e.1 s ∧ adrPlain .b entry (past e.1 s) = .ok n s1 ∧ adrPlain .q header s1 = .ok h s2
    ∧ h ≠ n ∧ field h 0 3 = 0 ∧ field n 0 3 = 0 ∧ ∃ (s3 s4 : State) (a : Long) (es hs : Span), memDest n 8 s2 = .ok es
    s3 ∧ lockedRead h s3 = .ok (hs, a) s4 ∧ e.1 = 0x5D ∧ a = 0 ∧ ∃ (s5 s6 s7 : State) (a' : Long) (es' hs' : Span),
    writeSpan .other hs 4 0 s4 = .ok ⟨⟩ s5 ∧ memDest n 8 s5 = .ok es' s6 ∧ lockedRead h s6 = .ok (hs', a') s7 ∧ field
    a' 1 2 = 0 ∧ a'.getLsbD 0 = true ∧ ∃ z, writeSpan .other hs' 4 (a'.setWidth 128) s7 = .ok ⟨⟩ z :=
  ⟨_, row 1, (mem 0x2280), (mem 0x2300), { wst with mem := [], during := [(2, .agentWrite 0x2300 1)] }, _, _, _, _,
    ready, rfl, rfl, by decide, rfl, rfl, _, _, _, _, _, rfl, rfl, rfl, rfl, _, _, _, _, _, _, (unit_ok
    (by decide +kernel)), (any_ok ⟨0, 0, 0⟩ (by decide +kernel)), (any_ok (⟨0, 0, 0⟩, 0) (by decide +kernel)),
    (by decide +kernel), (by decide +kernel), _, (unit_ok (by decide +kernel))⟩
theorem witness_SelfRelativeQueueResults_7 :
    ∃ e ∈ ([(0x5C, .insqhi), (0x5D, .insqti)] : List (Nat × (Opnd → Opnd → Instr))), ∃ (entry header : Opnd) (s s1 s2
    : State) (n h : Long), Ready e.1 s ∧ adrPlain .b entry (past e.1 s) = .ok n s1 ∧ adrPlain .q header s1 = .ok h s2
    ∧ h ≠ n ∧ field h 0 3 = 0 ∧ field n 0 3 = 0 ∧ ∃ (s3 s4 : State) (a : Long) (es hs : Span), memDest n 8 s2 = .ok es
    s3 ∧ lockedRead h s3 = .ok (hs, a) s4 ∧ e.1 = 0x5D ∧ a ≠ 0 ∧ field a 0 3 = 0 ∧ ∃ (s5 s6 : State) (c : Long),
    writeSpan .other hs 4 ((a ||| 1).setWidth 128) s4 = .ok ⟨⟩ s5 ∧ readLong (h + 4) s5 = .ok c s6 ∧ field (h + c) 0 3
    ≠ 0 ∧ ∃ s7, writeSpan .other hs 4 (a.setWidth 128) s6 = .ok ⟨⟩ s7 :=
  ⟨_, row 1, (mem 0x2280), (mem 0x2300), { wst with mem := [(0x2301, 0xFF), (0x2302, 0xFF), (0x2303, 0xFF), (0x2304,
    0x4)] }, _, _, _, _, ready, rfl, rfl, by decide, rfl, rfl, _, _, _, _, _, rfl, rfl, rfl, by decide, rfl, _, _, _,
    (unit_ok (by decide +kernel)), (any_ok 0 (by decide +kernel)), (by decide +kernel), _, (unit_ok
    (by decide +kernel))⟩
theorem witness_SelfRelativeQueueResults_8 :
    ∃ e ∈ ([(0x5C, .insqhi), (0x5D, .insqti)] : List (Nat × (Opnd → Opnd → Instr))), ∃ (entry header : Opnd) (s s1 s2
    : State) (n h : Long), Ready e.1 s ∧ adrPlain .b entry (past e.1 s) = .ok n s1 ∧ adrPlain .q header s1 = .ok h s2
    ∧ h ≠ n ∧ field h 0 3 = 0 ∧ field n 0 3 = 0 ∧ ∃ (s3 s4 : State) (a : Long) (es hs : Span), memDest n 8 s2 = .ok es
    s3 ∧ lockedRead h s3 = .ok (hs, a) s4 ∧ e.1 = 0x5D ∧ a ≠ 0 ∧ field a 0 3 = 0 ∧ ∃ (s5 s6 : State) (c : Long),
    writeSpan .other hs 4 ((a ||| 1).setWidth 128) s4 = .ok ⟨⟩ s5 ∧ readLong (h + 4) s5 = .ok c s6 ∧ field (h + c) 0 3
    = 0 ∧ ∃ (s7 s8 s9 sA sB sC sD : State) (dl dh : Span), memDest (h + c) 4 s6 = .ok dl s7 ∧ memDest (h + 4) 4 s7 =
    .ok dh s8 ∧ writeSpan .other dl 4 ((n - (h + c)).setWidth 128) s8 = .ok ⟨⟩ s9 ∧ writeSpan .other (es.sub 0 4) 4
    ((h - n).setWidth 128) s9 = .ok ⟨⟩ sA ∧ writeSpan .other (es.sub 4 4) 4 ((h + c - n).setWidth 128) sA = .ok ⟨⟩ sB
    ∧ writeSpan .other dh 4 ((n - h).setWidth 128) sB = .ok ⟨⟩ sC ∧ writeSpan .other hs 4 (a.setWidth 128) sC = .ok ⟨⟩
    sD :=
  ⟨_, row 1, (mem 0x2280), (mem 0x2300), { wst with mem := [(0x2301, 0xFF), (0x2302, 0xFF), (0x2303, 0xFF), (0x2305,
    0xFF), (0x2306, 0xFF), (0x2307, 0xFF)] }, _, _, _, _, ready, rfl, rfl, by decide, rfl, rfl, _, _, _, _, _, rfl, rfl,
    rfl, by decide, rfl, _, _, _, (unit_ok (by decide +kernel)), (any_ok 0 (by decide +kernel)), (by decide +kernel), _,
    _, _, _, _, _, _, _, _, (any_ok ⟨0, 0, 0⟩ (by decide +kernel)), (any_ok ⟨0, 0, 0⟩ (by decide +kernel)), (unit_ok
    (by decide +kernel)), (unit_ok (by decide +kernel)), (unit_ok (by decide +kernel)), (unit_ok (by decide +kernel)),
    (unit_ok (by decide +kernel))⟩
theorem witness_SelfRelativeQueueResults_9 :
    ∃ e ∈ ([(0x5E, .remqhi), (0x5F, .remqti)] : List (Nat × (Opnd → Opnd → Instr))), ∃ (header addr : Opnd) (s s1 s2 :
    State) (h : Long) (d : Dest), Ready e.1 s ∧ adrPlain .q header (past e.1 s) = .ok h s1 ∧ wrPlain .l addr s1 = .ok
    d s2 ∧ (field h 0 3 ≠ 0 ∨ d = .mem h) :=
  ⟨_, row 0, (mem 0x2301), (reg 0), wst, _, _, _, _, ready, rfl, rfl, (.inl (by decide))⟩
theorem witness_SelfRelativeQueueResults_10 :
    ∃ e ∈ ([(0x5E, .remqhi), (0x5F, .remqti)] : List (Nat × (Opnd → Opnd → Instr))), ∃ (header addr : Opnd) (s s1 s2 :
    State) (h : Long) (d : Dest), Ready e.1 s ∧ adrPlain .q header (past e.1 s) = .ok h s1 ∧ wrPlain .l addr s1 = .ok
    d s2 ∧ field h 0 3 = 0 ∧ d ≠ .mem h ∧ ∃ (s3 s4 : State) (a : Long) (k : Dest) (hs : Span), prepare .l d s2 = .ok k
    s3 ∧ lockedRead h s3 = .ok (hs, a) s4 ∧ field a 1 2 ≠ 0 ∧ ∃ z, writeSpan .other hs 4 (a.setWidth 128) s4 = .ok ⟨⟩
    z :=
  ⟨_, row 0, (mem 0x2300), (reg 0), { wst with mem := [(0x2300, 0x2)] }, _, _, _, _, ready, rfl, rfl, rfl,
    (by decide), _, _, _, _, _, rfl, rfl, by decide, _, (unit_ok (by decide +kernel))⟩
theorem witness_SelfRelativeQueueResults_11 :
    ∃ e ∈ ([(0x5E, .remqhi), (0x5F, .remqti)] : List (Nat × (Opnd → Opnd → Instr))), ∃ (header addr : Opnd) (s s1 s2 :
    State) (h : Long) (d : Dest), Ready e.1 s ∧ adrPlain .q header (past e.1 s) = .ok h s1 ∧ wrPlain .l addr s1 = .ok
    d s2 ∧ field h 0 3 = 0 ∧ d ≠ .mem h ∧ ∃ (s3 s4 : State) (a : Long) (k : Dest) (hs : Span), prepare .l d s2 = .ok k
    s3 ∧ lockedRead h s3 = .ok (hs, a) s4 ∧ field a 1 2 = 0 ∧ a.getLsbD 0 = true ∧ ∃ z, writeSpan .other hs 4
    (a.setWidth 128) s4 = .ok ⟨⟩ z :=
  ⟨_, row 0, (mem 0x2300), (reg 0), { wst with mem := [(0x2300, 0x1)] }, _, _, _, _, ready, rfl, rfl, rfl,
    (by decide), _, _, _, _, _, rfl, rfl, rfl, rfl, _, (unit_ok (by decide +kernel))⟩
theorem witness_SelfRelativeQueueResults_12 :
    ∃ e ∈ ([(0x5E, .remqhi), (0x5F, .remqti)] : List (Nat × (Opnd → Opnd → Instr))), ∃ (header addr : Opnd) (s s1 s2 :
    State) (h : Long) (d : Dest), Ready e.1 s ∧ adrPlain .q header (past e.1 s) = .ok h s1 ∧ wrPlain .l addr s1 = .ok
    d s2 ∧ field h 0 3 = 0 ∧ d ≠ .mem h ∧ ∃ (s3 s4 : State) (a : Long) (k : Dest) (hs : Span), prepare .l d s2 = .ok k
    s3 ∧ lockedRead h s3 = .ok (hs, a) s4 ∧ a = 0 ∧ ∃ s5 s6, writeSpan .other hs 4 0 s4 = .ok ⟨⟩ s5 ∧ storePlain .l k
    h s5 = .ok ⟨⟩ s6 :=
  ⟨_, row 1, (mem 0x2300), (reg 0), wst, _, _, _, _, ready, rfl, rfl, rfl, (by decide), _, _, _, _, _, rfl, rfl, rfl,
    _, _, rfl, rfl⟩
theorem witness_SelfRelativeQueueResults_13 :
    ∃ e ∈ ([(0x5E, .remqhi), (0x5F, .remqti)] : List (Nat × (Opnd → Opnd → Instr))), ∃ (header addr : Opnd) (s s1 s2 :
    State) (h : Long) (d : Dest), Ready e.1 s ∧ adrPlain .q header (past e.1 s) = .ok h s1 ∧ wrPlain .l addr s1 = .ok
    d s2 ∧ field h 0 3 = 0 ∧ d ≠ .mem h ∧ ∃ (s3 s4 : State) (a : Long) (k : Dest) (hs : Span), prepare .l d s2 = .ok k
    s3 ∧ lockedRead h s3 = .ok (hs, a) s4 ∧ e.1 = 0x5E ∧ a ≠ 0 ∧ field a 0 3 = 0 ∧ ∃ (t5 t6 : State) (b : Long),
    writeSpan .other hs 4 ((a ||| 1).setWidth 128) s4 = .ok ⟨⟩ t5 ∧ readLong (h + a) t5 = .ok b t6 ∧ field (h + a + b)
    0 3 ≠ 0 ∧ ∃ z, writeSpan .other hs 4 (a.setWidth 128) t6 = .ok ⟨⟩ z :=
  ⟨_, row 0, (mem 0x2300), (reg 0), { wst with mem := [(0x2200, 0x4), (0x2301, 0xFF), (0x2302, 0xFF), (0x2303, 0xFF)]
    }, _, _, _, _, ready, rfl, rfl, rfl, (by decide), _, _, _, _, _, rfl, rfl, rfl, by decide, rfl, _, _, _, (unit_ok
    (by decide +kernel)), (any_ok 0 (by decide +kernel)), (by decide +kernel), _, (unit_ok (by decide +kernel))⟩
theorem witness_SelfRelativeQueueResults_14 :
    ∃ e ∈ ([(0x5E, .remqhi), (0x5F, .remqti)] : List (Nat × (Opnd → Opnd → Instr))), ∃ (header addr : Opnd) (s s1 s2 :
    State) (h : Long) (d : Dest), Ready e.1 s ∧ adrPlain .q header (past e.1 s) = .ok h s1 ∧ wrPlain .l addr s1 = .ok
    d s2 ∧ field h 0 3 = 0 ∧ d ≠ .mem h ∧ ∃ (s3 s4 : State) (a : Long) (k : Dest) (hs : Span), prepare .l d s2 = .ok k
    s3 ∧ lockedRead h s3 = .ok (hs, a) s4 ∧ e.1 = 0x5E ∧ a ≠ 0 ∧ field a 0 3 = 0 ∧ ∃ (t5 t6 : State) (b : Long),
    writeSpan .other hs 4 ((a ||| 1).setWidth 128) s4 = .ok ⟨⟩ t5 ∧ readLong (h + a) t5 = .ok b t6 ∧ field (h + a + b)
    0 3 = 0 ∧ ∃ (t7 t8 t9 tA : State) (dn : Span), memDest (h + a + b + 4) 4 t6 = .ok dn t7 ∧ writeSpan .other dn 4
    ((h - (h + a + b)).setWidth 128) t7 = .ok ⟨⟩ t8 ∧ writeSpan .other hs 4 ((h + a + b - h).setWidth 128) t8 = .ok ⟨⟩
    t9 ∧ storePlain .l k (h + a) t9 = .ok ⟨⟩ tA :=
  ⟨_, row 0, (mem 0x2300), (reg 0), { wst with mem := [(0x2201, 0x1), (0x2301, 0xFF), (0x2302, 0xFF), (0x2303, 0xFF)]
    }, _, _, _, _, ready, rfl, rfl, rfl, (by decide), _, _, _, _, _, rfl, rfl, rfl, by decide, rfl, _, _, _, (unit_ok
    (by decide +kernel)), (any_ok 0 (by decide +kernel)), (by decide +kernel), _, _, _, _, _, (any_ok ⟨0, 0, 0⟩
    (by decide +kernel)), (unit_ok (by decide +kernel)), (unit_ok (by decide +kernel)), (unit_ok (by decide +kernel))⟩
theorem witness_SelfRelativeQueueResults_15 :
    ∃ e ∈ ([(0x5E, .remqhi), (0x5F, .remqti)] : List (Nat × (Opnd → Opnd → Instr))), ∃ (header addr : Opnd) (s s1 s2 :
    State) (h : Long) (d : Dest), Ready e.1 s ∧ adrPlain .q header (past e.1 s) = .ok h s1 ∧ wrPlain .l addr s1 = .ok
    d s2 ∧ field h 0 3 = 0 ∧ d ≠ .mem h ∧ ∃ (s3 s4 : State) (a : Long) (k : Dest) (hs : Span), prepare .l d s2 = .ok k
    s3 ∧ lockedRead h s3 = .ok (hs, a) s4 ∧ e.1 = 0x5F ∧ a ≠ 0 ∧ field a 0 3 = 0 ∧ ∃ (s5 s6 : State) (c : Long),
    writeSpan .other hs 4 ((a ||| 1).setWidth 128) s4 = .ok ⟨⟩ s5 ∧ readLong (h + 4) s5 = .ok c s6 ∧ c = a ∧ ∃ (s7 s8
    s9 : State) (a' : Long) (k' : Dest) (hs' : Span), writeSpan .other hs 4 (a.setWidth 128) s6 = .ok ⟨⟩ s7 ∧ prepare
    .l d s7 = .ok k' s8 ∧ lockedRead h s8 = .ok (hs', a') s9 ∧ a' ≠ 0 ∧ field a' 0 3 = 0 ∧ ∃ (t5 t6 : State) (b :
    Long), writeSpan .other hs' 4 ((a' ||| 1).setWidth 128) s9 = .ok ⟨⟩ t5 ∧ readLong (h + a') t5 = .ok b t6 ∧ field
    (h + a' + b) 0 3 = 0 ∧ ∃ (t7 t8 t9 tA : State) (dn : Span), memDest (h + a' + b + 4) 4 t6 = .ok dn t7 ∧ writeSpan
    .other dn 4 ((h - (h + a' + b)).setWidth 128) t7 = .ok ⟨⟩ t8 ∧ writeSpan .other hs' 4 ((h + a' + b - h).setWidth
    128) t8 = .ok ⟨⟩ t9 ∧ storePlain .l k' (h + a') t9 = .ok ⟨⟩ tA :=
  ⟨_, row 1, (mem 0x2300), (reg 0), { wst with mem := [(0x2201, 0x1), (0x2205, 0x1), (0x2301, 0xFF), (0x2302, 0xFF),
    (0x2303, 0xFF), (0x2305, 0xFF), (0x2306, 0xFF), (0x2307, 0xFF)] }, _, _, _, _, ready, rfl, rfl, rfl, (by decide), _,
    _, _, _, _, rfl, rfl, rfl, by decide, rfl, _, _, _, (unit_ok (by decide +kernel)), (any_ok 0 (by decide +kernel)),
    (by decide +kernel), _, _, _, _, _, _, (unit_ok (by decide +kernel)), (any_ok (.reg 0) (by decide +kernel)), (any_ok
    (⟨0, 0, 0⟩, 0) (by decide +kernel)), (by decide +kernel), (by decide +kernel), _, _, _, (unit_ok
    (by decide +kernel)), (any_ok 0 (by decide +kernel)), (by decide +kernel), _, _, _, _, _, (any_ok ⟨0, 0, 0⟩
    (by decide +kernel)), (unit_ok (by decide +kernel)), (unit_ok (by decide +kernel)), (unit_ok (by decide +kernel))⟩
theorem witness_SelfRelativeQueueResults_16 :
    ∃ e ∈ ([(0x5E, .remqhi), (0x5F, .remqti)] : List (Nat × (Opnd → Opnd → Instr))), ∃ (header addr : Opnd) (s s1 s2 :
    State) (h : Long) (d : Dest), Ready e.1 s ∧ adrPlain .q header (past e.1 s) = .ok h s1 ∧ wrPlain .l addr s1 = .ok
    d s2 ∧ field h 0 3 = 0 ∧ d ≠ .mem h ∧ ∃ (s3 s4 : State) (a : Long) (k : Dest) (hs : Span), prepare .l d s2 = .ok k
    s3 ∧ lockedRead h s3 = .ok (hs, a) s4 ∧ e.1 = 0x5F ∧ a ≠ 0 ∧ field a 0 3 = 0 ∧ ∃ (s5 s6 : State) (c : Long),
    writeSpan .other hs 4 ((a ||| 1).setWidth 128) s4 = .ok ⟨⟩ s5 ∧ readLong (h + 4) s5 = .ok c s6 ∧ c = a ∧ ∃ (s7 s8
    s9 : State) (a' : Long) (k' : Dest) (hs' : Span), writeSpan .other hs 4 (a.setWidth 128) s6 = .ok ⟨⟩ s7 ∧ prepare
    .l d s7 = .ok k' s8 ∧ lockedRead h s8 = .ok (hs', a') s9 ∧ a' ≠ 0 ∧ field a' 0 3 = 0 ∧ ∃ (t5 t6 : State) (b :
    Long), writeSpan .other hs' 4 ((a' ||| 1).setWidth 128) s9 = .ok ⟨⟩ t5 ∧ readLong (h + a') t5 = .ok b t6 ∧ field
    (h + a' + b) 0 3 ≠ 0 ∧ ∃ z, writeSpan .other hs' 4 (a'.setWidth 128) t6 = .ok ⟨⟩ z :=
  ⟨_, row 1, (mem 0x2300), (reg 0), { wst with mem := [(0x2200, 0x4), (0x2205, 0x1), (0x2301, 0xFF), (0x2302, 0xFF),
    (0x2303, 0xFF), (0x2305, 0xFF), (0x2306, 0xFF), (0x2307, 0xFF)] }, _, _, _, _, ready, rfl, rfl, rfl, (by decide), _,
    _, _, _, _, rfl, rfl, rfl, by decide, rfl, _, _, _, (unit_ok (by decide +kernel)), (any_ok 0 (by decide +kernel)),
    (by decide +kernel), _, _, _, _, _, _, (unit_ok (by decide +kernel)), (any_ok (.reg 0) (by decide +kernel)), (any_ok
    (⟨0, 0, 0⟩, 0) (by decide +kernel)), (by decide +kernel), (by decide +kernel), _, _, _, (unit_ok
    (by decide +kernel)), (any_ok 0 (by decide +kernel)), (by decide +kernel), _, (unit_ok (by decide +kernel))⟩
theorem witness_SelfRelativeQueueResults_17 :
    ∃ e ∈ ([(0x5E, .remqhi), (0x5F, .remqti)] : List (Nat × (Opnd → Opnd → Instr))), ∃ (header addr : Opnd) (s s1 s2 :
    State) (h : Long) (d : Dest), Ready e.1 s ∧ adrPlain .q header (past e.1 s) = .ok h s1 ∧ wrPlain .l addr s1 = .ok
    d s2 ∧ field h 0 3 = 0 ∧ d ≠ .mem h ∧ ∃ (s3 s4 : State) (a : Long) (k : Dest) (hs : Span), prepare .l d s2 = .ok k
    s3 ∧ lockedRead h s3 = .ok (hs, a) s4 ∧ e.1 = 0x5F ∧ a ≠ 0 ∧ field a 0 3 = 0 ∧ ∃ (s5 s6 : State) (c : Long),
    writeSpan .other hs 4 ((a ||| 1).setWidth 128) s4 = .ok ⟨⟩ s5 ∧ readLong (h + 4) s5 = .ok c s6 ∧ c = a ∧ ∃ (s7 s8
    s9 : State) (a' : Long) (k' : Dest) (hs' : Span), writeSpan .other hs 4 (a.setWidth 128) s6 = .ok ⟨⟩ s7 ∧ prepare
    .l d s7 = .ok k' s8 ∧ lockedRead h s8 = .ok (hs', a') s9 ∧ field a' 1 2 ≠ 0 ∧ ∃ z, writeSpan .other hs' 4
    (a'.setWidth 128) s9 = .ok ⟨⟩ z :=
  ⟨_, row 1, (mem 0x2300), (reg 0), { wst with mem := [(0x2201, 0x1), (0x2205, 0x1), (0x2301, 0xFF), (0x2302, 0xFF),
    (0x2303, 0xFF), (0x2305, 0xFF), (0x2306, 0xFF), (0x2307, 0xFF)], during := [(4, .agentWrite 0x2300 2)] }, _, _, _,
    _, ready, rfl, rfl, rfl, (by decide), _, _, _, _, _, rfl, rfl, rfl, by decide, rfl, _, _, _, (unit_ok
    (by decide +kernel)), (any_ok 0 (by decide +kernel)), (by decide +kernel), _, _, _, _, _, _, (unit_ok
    (by decide +kernel)), (any_ok (.reg 0) (by decide +kernel)), (any_ok (⟨0, 0, 0⟩, 0) (by decide +kernel)),
    (by decide +kernel), _, (unit_ok (by decide +kernel))⟩
theorem witness_SelfRelativeQueueResults_18 :
    ∃ e ∈ ([(0x5E, .remqhi), (0x5F, .remqti)] : List (Nat × (Opnd → Opnd → Instr))), ∃ (header addr : Opnd) (s s1 s2 :
    State) (h : Long) (d : Dest), Ready e.1 s ∧ adrPlain .q header (past e.1 s) = .ok h s1 ∧ wrPlain .l addr s1 = .ok
    d s2 ∧ field h 0 3 = 0 ∧ d ≠ .mem h ∧ ∃ (s3 s4 : State) (a : Long) (k : Dest) (hs : Span), prepare .l d s2 = .ok k
    s3 ∧ lockedRead h s3 = .ok (hs, a) s4 ∧ e.1 = 0x5F ∧ a ≠ 0 ∧ field a 0 3 = 0 ∧ ∃ (s5 s6 : State) (c : Long),
    writeSpan .other hs 4 ((a ||| 1).setWidth 128) s4 = .ok ⟨⟩ s5 ∧ readLong (h + 4) s5 = .ok c s6 ∧ c = a ∧ ∃ (s7 s8
    s9 : State) (a' : Long) (k' : Dest) (hs' : Span), writeSpan .other hs 4 (a.setWidth 128) s6 = .ok ⟨⟩ s7 ∧ prepare
    .l d s7 = .ok k' s8 ∧ lockedRead h s8 = .ok (hs', a') s9 ∧ field a' 1 2 = 0 ∧ a'.getLsbD 0 = true ∧ ∃ z, writeSpan
    .other hs' 4 (a'.setWidth 128) s9 = .ok ⟨⟩ z :=
  ⟨_, row 1, (mem 0x2300), (reg 0), { wst with mem := [(0x2201, 0x1), (0x2205, 0x1), (0x2301, 0xFF), (0x2302, 0xFF),
    (0x2303, 0xFF), (0x2305, 0xFF), (0x2306, 0xFF), (0x2307, 0xFF)], during := [(4, .agentWrite 0x2300 1)] }, _, _, _,
    _, ready, rfl, rfl, rfl, (by decide), _, _, _, _, _, rfl, rfl, rfl, by decide, rfl, _, _, _, (unit_ok
    (by decide +kernel)), (any_ok 0 (by decide +kernel)), (by decide +kernel), _, _, _, _, _, _, (unit_ok
    (by decide +kernel)), (any_ok (.reg 0) (by decide +kernel)), (any_ok (⟨0, 0, 0⟩, 0) (by decide +kernel)),
    (by decide +kernel), (by decide +kernel), _, (unit_ok (by decide +kernel))⟩
theorem witness_SelfRelativeQueueResults_19 :
    ∃ e ∈ ([(0x5E, .remqhi), (0x5F, .remqti)] : List (Nat × (Opnd → Opnd → Instr))), ∃ (header addr : Opnd) (s s1 s2 :
    State) (h : Long) (d : Dest), Ready e.1 s ∧ adrPlain .q header (past e.1 s) = .ok h s1 ∧ wrPlain .l addr s1 = .ok
    d s2 ∧ field h 0 3 = 0 ∧ d ≠ .mem h ∧ ∃ (s3 s4 : State) (a : Long) (k : Dest) (hs : Span), prepare .l d s2 = .ok k
    s3 ∧ lockedRead h s3 = .ok (hs, a) s4 ∧ e.1 = 0x5F ∧ a ≠ 0 ∧ field a 0 3 = 0 ∧ ∃ (s5 s6 : State) (c : Long),
    writeSpan .other hs 4 ((a ||| 1).setWidth 128) s4 = .ok ⟨⟩ s5 ∧ readLong (h + 4) s5 = .ok c s6 ∧ c ≠ a ∧ field c 0
    3 ≠ 0 ∧ ∃ s7, writeSpan .other hs 4 (a.setWidth 128) s6 = .ok ⟨⟩ s7 :=
  ⟨_, row 1, (mem 0x2300), (reg 0), { wst with mem := [(0x2301, 0xFF), (0x2302, 0xFF), (0x2303, 0xFF), (0x2304, 0x4)]
    }, _, _, _, _, ready, rfl, rfl, rfl, (by decide), _, _, _, _, _, rfl, rfl, rfl, by decide, rfl, _, _, _, (unit_ok
    (by decide +kernel)), (any_ok 0 (by decide +kernel)), (by decide +kernel), (by decide +kernel), _, (unit_ok
    (by decide +kernel))⟩
theorem witness_SelfRelativeQueueResults_20 :
    ∃ e ∈ ([(0x5E, .remqhi), (0x5F, .remqti)] : List (Nat × (Opnd → Opnd → Instr))), ∃ (header addr : Opnd) (s s1 s2 :
    State) (h : Long) (d : Dest), Ready e.1 s ∧ adrPlain .q header (past e.1 s) = .ok h s1 ∧ wrPlain .l addr s1 = .ok
    d s2 ∧ field h 0 3 = 0 ∧ d ≠ .mem h ∧ ∃ (s3 s4 : State) (a : Long) (k : Dest) (hs : Span), prepare .l d s2 = .ok k
    s3 ∧ lockedRead h s3 = .ok (hs, a) s4 ∧ e.1 = 0x5F ∧ a ≠ 0 ∧ field a 0 3 = 0 ∧ ∃ (s5 s6 : State) (c : Long),
    writeSpan .other hs 4 ((a ||| 1).setWidth 128) s4 = .ok ⟨⟩ s5 ∧ readLong (h + 4) s5 = .ok c s6 ∧ c ≠ a ∧ field c 0
    3 = 0 ∧ ∃ (s7 : State) (b : Long), readLong (h + c + 4) s6 = .ok b s7 ∧ field (h + c + b) 0 3 ≠ 0 ∧ ∃ s8,
    writeSpan .other hs 4 (a.setWidth 128) s7 = .ok ⟨⟩ s8 :=
  ⟨_, row 1, (mem 0x2300), (reg 0), { wst with mem := [(0x2284, 0x84), (0x2285, 0xFF), (0x2286, 0xFF), (0x2287, 0xFF),
    (0x2301, 0xFF), (0x2302, 0xFF), (0x2303, 0xFF), (0x2304, 0x80), (0x2305, 0xFF), (0x2306, 0xFF), (0x2307, 0xFF)] },
    _, _, _, _, ready, rfl, rfl, rfl, (by decide), _, _, _, _, _, rfl, rfl, rfl, by decide, rfl, _, _, _, (unit_ok
    (by decide +kernel)), (any_ok 0 (by decide +kernel)), (by decide +kernel), (by decide +kernel), _, _, (any_ok 0
    (by decide +kernel)), (by decide +kernel), _, (unit_ok (by decide +kernel))⟩
theorem witness_SelfRelativeQueueResults_21 :
    ∃ e ∈ ([(0x5E, .remqhi), (0x5F, .remqti)] : List (Nat × (Opnd → Opnd → Instr))), ∃ (header addr : Opnd) (s s1 s2 :
    State) (h : Long) (d : Dest), Ready e.1 s ∧ adrPlain .q header (past e.1 s) = .ok h s1 ∧ wrPlain .l addr s1 = .ok
    d s2 ∧ field h 0 3 = 0 ∧ d ≠ .mem h ∧ ∃ (s3 s4 : State) (a : Long) (k : Dest) (hs : Span), prepare .l d s2 = .ok k
    s3 ∧ lockedRead h s3 = .ok (hs, a) s4 ∧ e.1 = 0x5F ∧ a ≠ 0 ∧ field a 0 3 = 0 ∧ ∃ (s5 s6 : State) (c : Long),
    writeSpan .other hs 4 ((a ||| 1).setWidth 128) s4 = .ok ⟨⟩ s5 ∧ readLong (h + 4) s5 = .ok c s6 ∧ c ≠ a ∧ field c 0
    3 = 0 ∧ ∃ (s7 : State) (b : Long), readLong (h + c + 4) s6 = .ok b s7 ∧ field (h + c + b) 0 3 = 0 ∧ ∃ (s8 s9 sA sB
    sC sD : State) (dp dh : Span), memDest (h + c + b) 4 s7 = .ok dp s8 ∧ memDest (h + 4) 4 s8 = .ok dh s9 ∧ writeSpan
    .other dp 4 ((h - (h + c + b)).setWidth 128) s9 = .ok ⟨⟩ sA ∧ writeSpan .other dh 4 ((h + c + b - h).setWidth 128)
    sA = .ok ⟨⟩ sB ∧ writeSpan .other hs 4 (a.setWidth 128) sB = .ok ⟨⟩ sC ∧ storePlain .l k (h + c) sC = .ok ⟨⟩ sD :=
  ⟨_, row 1, (mem 0x2300), (reg 0), { wst with mem := [(0x2284, 0x80), (0x2285, 0xFF), (0x2286, 0xFF), (0x2287, 0xFF),
    (0x2301, 0xFF), (0x2302, 0xFF), (0x2303, 0xFF), (0x2304, 0x80), (0x2305, 0xFF), (0x2306, 0xFF), (0x2307, 0xFF)] },
    _, _, _, _, ready, rfl, rfl, rfl, (by decide), _, _, _, _, _, rfl, rfl, rfl, by decide, rfl, _, _, _, (unit_ok
    (by decide +kernel)), (any_ok 0 (by decide +kernel)), (by decide +kernel), (by decide +kernel), _, _, (any_ok 0
    (by decide +kernel)), (by decide +kernel), _, _, _, _, _, _, _, _, (any_ok ⟨0, 0, 0⟩ (by decide +kernel)), (any_ok
    ⟨0, 0, 0⟩ (by decide +kernel)), (unit_ok (by decide +kernel)), (unit_ok (by decide +kernel)), (unit_ok
    (by decide +kernel)), (unit_ok (by decide +kernel))⟩
theorem witness_FloatMoveTestCompareResults_0 :
    ∃ e ∈ moveFloatRows, ∃ (src dst : Opnd) (s s1 s2 s3 : State) (v r : BitVec e.2.2.1.bits) (d : Dest), Ready e.1 s
    ∧ rd e.2.2.1 src (past e.1 s) = .ok v s1 ∧ wr e.2.2.1 dst s1 = .ok d s2 ∧ reservedFloat e.2.2.1 v = false ∧ r =
    (if (floatValue e.2.2.1 v).m = 0 then 0 else if e.2.2.2 then v ^^^ 0x8000 else v) ∧ store e.2.2.1 d r s2 = .ok ⟨⟩
    s3 :=
  ⟨_, row 4, (lit 8), (reg 0), wst, _, _, _, _, _, _, ready, rfl, rfl, rfl, rfl, rfl⟩
theorem witness_FloatMoveTestCompareResults_1 :
    ∃ e ∈ testFloatRows, ∃ (src : Opnd) (s s1 : State) (v : BitVec e.2.2.bits), Ready e.1 s ∧ rd e.2.2 src (past e.1
    s) = .ok v s1 ∧ reservedFloat e.2.2 v = false :=
  ⟨_, row 3, (lit 8), wst, _, _, ready, rfl, rfl⟩
theorem witness_FloatMoveTestCompareResults_2 :
    ∃ e ∈ compareFloatRows, ∃ (src1 src2 : Opnd) (s s1 s2 : State) (v w : BitVec e.2.2.bits), Ready e.1 s ∧ rd e.2.2
    src1 (past e.1 s) = .ok v s1 ∧ rd e.2.2 src2 s1 = .ok w s2 ∧ reservedFloat e.2.2 v = false ∧ reservedFloat e.2.2
    w = false :=
  ⟨_, row 1, (lit 8), (lit 9), wst, _, _, _, _, ready, rfl, rfl, rfl, rfl⟩
theorem witness_FloatArithmeticResults_0 :
    ∃ e ∈ floatRows, ∃ (src dst : Opnd) (s s1 s2 s3 : State) (v w r : BitVec e.t.bits) (d : Dest), Ready e.op2 s ∧ rd
    e.t src (past e.op2 s) = .ok v s1 ∧ md e.t dst s1 = .ok (d, w) s2 ∧ reservedFloat e.t v = false ∧ reservedFloat
    e.t w = false ∧ e.ok (floatValue e.t v) = true ∧ roundTo e.t (e.f (floatValue e.t v) (floatValue e.t w)) = .value
    r ∧ store e.t d r s2 = .ok ⟨⟩ s3 :=
  ⟨_, row 0, (lit 8), (reg 0), wst, _, _, _, _, _, _, _, ready, rfl, rfl, rfl, rfl, rfl, rfl, rfl⟩
theorem witness_FloatArithmeticResults_1 :
    ∃ e ∈ floatRows, ∃ (src1 src2 dst : Opnd) (s s1 s2 s3 s4 : State) (v w r : BitVec e.t.bits) (d : Dest), Ready
    e.op3 s ∧ rd e.t src1 (past e.op3 s) = .ok v s1 ∧ rd e.t src2 s1 = .ok w s2 ∧ wr e.t dst s2 = .ok d s3 ∧
    reservedFloat e.t v = false ∧ reservedFloat e.t w = false ∧ e.ok (floatValue e.t v) = true ∧ roundTo e.t (e.f
    (floatValue e.t v) (floatValue e.t w)) = .value r ∧ store e.t d r s3 = .ok ⟨⟩ s4 :=
  ⟨_, row 13, (lit 8), (lit 9), (reg 0), wst, _, _, _, _, _, _, _, _, ready, rfl, rfl, rfl, rfl, rfl, rfl, rfl, rfl⟩
theorem witness_FloatResultsAreNearest_0 :
    ∃ t ∈ [DT.f, DT.d, DT.g, DT.h], ∃ (a : ExactNum) (r : BitVec t.bits), roundTo t a = .value r :=
  ⟨_, row 0, ⟨false, 3, 0⟩, _, rfl⟩
theorem witness_FloatResultsAreNearest_1 :
    ∃ t ∈ [DT.f, DT.d, DT.g, DT.h], ∃ a : ExactNum, roundTo t a = .overflow ∧ ∃ v : BitVec t.bits, reservedFloat t v
    = false :=
  ⟨_, row 0, ⟨false, 1, 127⟩, rfl, 0, rfl⟩
theorem witness_FloatResultsAreNearest_2 :
    ∃ t ∈ [DT.f, DT.d, DT.g, DT.h], ∃ a : ExactNum, roundTo t a = .underflow ∧ ∃ v : BitVec t.bits, reservedFloat t v
    = false ∧ (floatValue t v).rat ≠ 0 :=
  ⟨_, row 0, ⟨false, 1, -130⟩, rfl, 0x4080, rfl,
    (by rw [show floatValue .f 0x4080 = ⟨false, 8388608, -23⟩ from rfl]; norm_num [ExactNum.rat])⟩
theorem witness_FloatResultsAreNearest_3 :
    ∃ t ∈ [DT.f, DT.d, DT.g, DT.h], True :=
  ⟨_, row 0, trivial⟩
theorem witness_FloatResultsAreNearest_4 :
    ∃ t ∈ [DT.f, DT.d, DT.g, DT.h], ∃ (v w r : BitVec t.bits), reservedFloat t v = false ∧ reservedFloat t w = false
    ∧ (floatValue t v).rat ≠ 0 ∧ roundTo t ((floatValue t w).div (fracLen t) (floatValue t v)) = .value r :=
  ⟨_, row 0, 0x4080, 0x4080, _, rfl, rfl,
    (by rw [show floatValue .f 0x4080 = ⟨false, 8388608, -23⟩ from rfl]; norm_num [ExactNum.rat]), rfl⟩
theorem witness_FloatExceptionReports_0 :
    ∃ e ∈ floatRows, ∃ (src dst : Opnd) (s s1 s2 : State) (v w : BitVec e.t.bits) (d : Dest), Ready e.op2 s ∧ rd e.t
    src (past e.op2 s) = .ok v s1 ∧ md e.t dst s1 = .ok (d, w) s2 ∧ (reservedFloat e.t v = true ∨ reservedFloat e.t w
    = true) :=
  ⟨_, row 0, (imm 0x8000), (reg 0), (wst.setReg 0 0x4000), _, _, _, _, _, ready, rfl, rfl, (.inl rfl)⟩
theorem witness_FloatExceptionReports_1 :
    ∃ e ∈ floatRows, ∃ (src dst : Opnd) (s s1 s2 : State) (v w : BitVec e.t.bits) (d : Dest), Ready e.op2 s ∧ rd e.t
    src (past e.op2 s) = .ok v s1 ∧ md e.t dst s1 = .ok (d, w) s2 ∧ reservedFloat e.t v = false ∧ reservedFloat e.t w
    = false ∧ e.ok (floatValue e.t v) = false ∧ s2.is750 = true :=
  ⟨_, row 12, (imm 0), (reg 0), (wst.setReg 0 0x4000), _, _, _, _, _, ready, rfl, rfl, rfl, rfl, rfl, rfl⟩
theorem witness_FloatExceptionReports_2 :
    ∃ e ∈ floatRows, ∃ (src dst : Opnd) (s s1 s2 : State) (v w : BitVec e.t.bits) (d : Dest), Ready e.op2 s ∧ rd e.t
    src (past e.op2 s) = .ok v s1 ∧ md e.t dst s1 = .ok (d, w) s2 ∧ reservedFloat e.t v = false ∧ reservedFloat e.t w
    = false ∧ e.ok (floatValue e.t v) = false ∧ s2.is750 = false ∧ ∃ z, store e.t d (floatReserved e.t) s2 = .ok ⟨⟩ z :=
  ⟨_, row 12, (imm 0), (reg 0), (State.setReg { wst with cfg := { wst.cfg with cpu := .v780 } } 0 0x4000), _, _, _, _,
    _, ready, rfl, rfl, rfl, rfl, rfl, rfl, _, rfl⟩
theorem witness_FloatExceptionReports_3 :
    ∃ e ∈ floatRows, ∃ (src dst : Opnd) (s s1 s2 : State) (v w : BitVec e.t.bits) (d : Dest), Ready e.op2 s ∧ rd e.t
    src (past e.op2 s) = .ok v s1 ∧ md e.t dst s1 = .ok (d, w) s2 ∧ reservedFloat e.t v = false ∧ reservedFloat e.t w
    = false ∧ e.ok (floatValue e.t v) = true ∧ roundTo e.t (e.f (floatValue e.t v) (floatValue e.t w)) = .overflow ∧
    s2.is750 = true :=
  ⟨_, row 8, (imm 0x7FFF), (reg 0), (wst.setReg 0 0x7FFF), _, _, _, _, _, ready, rfl, rfl, rfl, rfl, rfl, rfl, rfl⟩
theorem witness_FloatExceptionReports_4 :
    ∃ e ∈ floatRows, ∃ (src dst : Opnd) (s s1 s2 : State) (v w : BitVec e.t.bits) (d : Dest), Ready e.op2 s ∧ rd e.t
    src (past e.op2 s) = .ok v s1 ∧ md e.t dst s1 = .ok (d, w) s2 ∧ reservedFloat e.t v = false ∧ reservedFloat e.t w
    = false ∧ e.ok (floatValue e.t v) = true ∧ roundTo e.t (e.f (floatValue e.t v) (floatValue e.t w)) = .overflow ∧
    s2.is750 = false ∧ ∃ z, store e.t d (floatReserved e.t) (if true then s2.accNoted e.t 2 else s2) = .ok ⟨⟩ z :=
  ⟨_, row 8, (imm 0x7FFF), (reg 0), (State.setReg { wst with cfg := { wst.cfg with cpu := .v780 } } 0 0x7FFF), _, _,
    _, _, _, ready, rfl, rfl, rfl, rfl, rfl, rfl, rfl, _, rfl⟩
theorem witness_FloatExceptionReports_5 :
    ∃ e ∈ floatRows, ∃ (src dst : Opnd) (s s1 s2 : State) (v w : BitVec e.t.bits) (d : Dest), Ready e.op2 s ∧ rd e.t
    src (past e.op2 s) = .ok v s1 ∧ md e.t dst s1 = .ok (d, w) s2 ∧ reservedFloat e.t v = false ∧ reservedFloat e.t w
    = false ∧ e.ok (floatValue e.t v) = true ∧ roundTo e.t (e.f (floatValue e.t v) (floatValue e.t w)) = .underflow ∧
    s2.fu = true ∧ s2.is750 = true :=
  ⟨_, row 8, (imm 0x0080), (reg 0), (State.setReg { wst with psl := 0x40 } 0 0x0080), _, _, _, _, _, ready, rfl, rfl,
    rfl, rfl, rfl, rfl, rfl, rfl⟩
theorem witness_FloatExceptionReports_6 :
    ∃ e ∈ floatRows, ∃ (src dst : Opnd) (s s1 s2 : State) (v w : BitVec e.t.bits) (d : Dest), Ready e.op2 s ∧ rd e.t
    src (past e.op2 s) = .ok v s1 ∧ md e.t dst s1 = .ok (d, w) s2 ∧ reservedFloat e.t v = false ∧ reservedFloat e.t w
    = false ∧ e.ok (floatValue e.t v) = true ∧ roundTo e.t (e.f (floatValue e.t v) (floatValue e.t w)) = .underflow ∧
    (s2.fu = false ∨ s2.is750 = false) ∧ s2.is750 = true ∧ ∃ z, store e.t d 0 (if true then s2.accNoted e.t 4 else s2)
    = .ok ⟨⟩ z :=
  ⟨_, row 8, (imm 0x0080), (reg 0), (wst.setReg 0 0x0080), _, _, _, _, _, ready, rfl, rfl, rfl, rfl, rfl, rfl, (.inl
    rfl), rfl, _, rfl⟩
theorem witness_FloatExceptionReports_7 :
    ∃ e ∈ floatRows, ∃ (src dst : Opnd) (s s1 s2 : State) (v w : BitVec e.t.bits) (d : Dest), Ready e.op2 s ∧ rd e.t
    src (past e.op2 s) = .ok v s1 ∧ md e.t dst s1 = .ok (d, w) s2 ∧ reservedFloat e.t v = false ∧ reservedFloat e.t w
    = false ∧ e.ok (floatValue e.t v) = true ∧ roundTo e.t (e.f (floatValue e.t v) (floatValue e.t w)) = .underflow ∧
    (s2.fu = false ∨ s2.is750 = false) ∧ s2.fu = true ∧ ∃ z, store e.t d 0 (if true then s2.accNoted e.t 4 else s2) =
    .ok ⟨⟩ z :=
  ⟨_, row 8, (imm 0x0080), (reg 0), (State.setReg { wst with psl := 0x40, cfg := { wst.cfg with cpu := .v780 } } 0
    0x0080), _, _, _, _, _, ready, rfl, rfl, rfl, rfl, rfl, rfl, (.inr rfl), rfl, _, rfl⟩
theorem witness_FloatExceptionReports_8 :
    ∃ e ∈ floatRows, ∃ (src1 src2 dst : Opnd) (s s1 s2 s3 : State) (v w : BitVec e.t.bits) (d : Dest), Ready e.op3 s ∧
    rd e.t src1 (past e.op3 s) = .ok v s1 ∧ rd e.t src2 s1 = .ok w s2 ∧ wr e.t dst s2 = .ok d s3 ∧ (reservedFloat e.t
    v = true ∨ reservedFloat e.t w = true) :=
  ⟨_, row 0, (imm 0x8000), (lit 8), (reg 0), wst, _, _, _, _, _, _, ready, rfl, rfl, rfl, (.inl rfl)⟩
theorem witness_FloatExceptionReports_9 :
    ∃ e ∈ floatRows, ∃ (src1 src2 dst : Opnd) (s s1 s2 s3 : State) (v w : BitVec e.t.bits) (d : Dest), Ready e.op3 s ∧
    rd e.t src1 (past e.op3 s) = .ok v s1 ∧ rd e.t src2 s1 = .ok w s2 ∧ wr e.t dst s2 = .ok d s3 ∧ reservedFloat e.t v
    = false ∧ reservedFloat e.t w = false ∧ e.ok (floatValue e.t v) = false ∧ s3.is750 = true :=
  ⟨_, row 12, (imm 0), (lit 8), (reg 0), wst, _, _, _, _, _, _, ready, rfl, rfl, rfl, rfl, rfl, rfl, rfl⟩
theorem witness_FloatExceptionReports_10 :
    ∃ e ∈ floatRows, ∃ (src1 src2 dst : Opnd) (s s1 s2 s3 : State) (v w : BitVec e.t.bits) (d : Dest), Ready e.op3 s ∧
    rd e.t src1 (past e.op3 s) = .ok v s1 ∧ rd e.t src2 s1 = .ok w s2 ∧ wr e.t dst s2 = .ok d s3 ∧ reservedFloat e.t v
    = false ∧ reservedFloat e.t w = false ∧ e.ok (floatValue e.t v) = false ∧ s3.is750 = false ∧ ∃ z, store e.t d
    (floatReserved e.t) s3 = .ok ⟨⟩ z :=
  ⟨_, row 12, (imm 0), (lit 8), (reg 0), { wst with cfg := { wst.cfg with cpu := .v780 } }, _, _, _, _, _, _, ready,
    rfl, rfl, rfl, rfl, rfl, rfl, rfl, _, rfl⟩
theorem witness_FloatExceptionReports_11 :
    ∃ e ∈ floatRows, ∃ (src1 src2 dst : Opnd) (s s1 s2 s3 : State) (v w : BitVec e.t.bits) (d : Dest), Ready e.op3 s ∧
    rd e.t src1 (past e.op3 s) = .ok v s1 ∧ rd e.t src2 s1 = .ok w s2 ∧ wr e.t dst s2 = .ok d s3 ∧ reservedFloat e.t v
    = false ∧ reservedFloat e.t w = false ∧ e.ok (floatValue e.t v) = true ∧ roundTo e.t (e.f (floatValue e.t v)
    (floatValue e.t w)) = .overflow ∧ s3.is750 = true :=
  ⟨_, row 8, (imm 0x7FFF), (imm 0x7FFF), (reg 0), wst, _, _, _, _, _, _, ready, rfl, rfl, rfl, rfl, rfl, rfl, rfl,
    rfl⟩
theorem witness_FloatExceptionReports_12 :
    ∃ e ∈ floatRows, ∃ (src1 src2 dst : Opnd) (s s1 s2 s3 : State) (v w : BitVec e.t.bits) (d : Dest), Ready e.op3 s ∧
    rd e.t src1 (past e.op3 s) = .ok v s1 ∧ rd e.t src2 s1 = .ok w s2 ∧ wr e.t dst s2 = .ok d s3 ∧ reservedFloat e.t v
    = false ∧ reservedFloat e.t w = false ∧ e.ok (floatValue e.t v) = true ∧ roundTo e.t (e.f (floatValue e.t v)
    (floatValue e.t w)) = .overflow ∧ s3.is750 = false ∧ ∃ z, store e.t d (floatReserved e.t) (if true then
    s3.accNoted e.t 2 else s3) = .ok ⟨⟩ z :=
  ⟨_, row 8, (imm 0x7FFF), (imm 0x7FFF), (reg 0), { wst with cfg := { wst.cfg with cpu := .v780 } }, _, _, _, _, _, _,
    ready, rfl, rfl, rfl, rfl, rfl, rfl, rfl, rfl, _, rfl⟩
theorem witness_FloatExceptionReports_13 :
    ∃ e ∈ floatRows, ∃ (src1 src2 dst : Opnd) (s s1 s2 s3 : State) (v w : BitVec e.t.bits) (d : Dest), Ready e.op3 s ∧
    rd e.t src1 (past e.op3 s) = .ok v s1 ∧ rd e.t src2 s1 = .ok w s2 ∧ wr e.t dst s2 = .ok d s3 ∧ reservedFloat e.t v
    = false ∧ reservedFloat e.t w = false ∧ e.ok (floatValue e.t v) = true ∧ roundTo e.t (e.f (floatValue e.t v)
    (floatValue e.t w)) = .underflow ∧ s3.fu = true ∧ s3.is750 = true :=
  ⟨_, row 8, (imm 0x0080), (imm 0x0080), (reg 0), { wst with psl := 0x40 }, _, _, _, _, _, _, ready, rfl, rfl, rfl,
    rfl, rfl, rfl, rfl, rfl, rfl⟩
theorem witness_FloatExceptionReports_14 :
    ∃ e ∈ floatRows, ∃ (src1 src2 dst : Opnd) (s s1 s2 s3 : State) (v w : BitVec e.t.bits) (d : Dest), Ready e.op3 s ∧
    rd e.t src1 (past e.op3 s) = .ok v s1 ∧ rd e.t src2 s1 = .ok w s2 ∧ wr e.t dst s2 = .ok d s3 ∧ reservedFloat e.t v
    = false ∧ reservedFloat e.t w = false ∧ e.ok (floatValue e.t v) = true ∧ roundTo e.t (e.f (floatValue e.t v)
    (floatValue e.t w)) = .underflow ∧ (s3.fu = false ∨ s3.is750 = false) ∧ s3.is750 = true ∧ ∃ z, store e.t d 0 (if
    true then s3.accNoted e.t 4 else s3) = .ok ⟨⟩ z :=
  ⟨_, row 8, (imm 0x0080), (imm 0x0080), (reg 0), wst, _, _, _, _, _, _, ready, rfl, rfl, rfl, rfl, rfl, rfl, rfl,
    (.inl rfl), rfl, _, rfl⟩
theorem witness_FloatExceptionReports_15 :
    ∃ e ∈ floatRows, ∃ (src1 src2 dst : Opnd) (s s1 s2 s3 : State) (v w : BitVec e.t.bits) (d : Dest), Ready e.op3 s ∧
    rd e.t src1 (past e.op3 s) = .ok v s1 ∧ rd e.t src2 s1 = .ok w s2 ∧ wr e.t dst s2 = .ok d s3 ∧ reservedFloat e.t v
    = false ∧ reservedFloat e.t w = false ∧ e.ok (floatValue e.t v) = true ∧ roundTo e.t (e.f (floatValue e.t v)
    (floatValue e.t w)) = .underflow ∧ (s3.fu = false ∨ s3.is750 = false) ∧ s3.fu = true ∧ ∃ z, store e.t d 0 (if true
    then s3.accNoted e.t 4 else s3) = .ok ⟨⟩ z :=
  ⟨_, row 8, (imm 0x0080), (imm 0x0080), (reg 0), { wst with psl := 0x40, cfg := { wst.cfg with cpu := .v780 } }, _,
    _, _, _, _, _, ready, rfl, rfl, rfl, rfl, rfl, rfl, rfl, (.inr rfl), rfl, _, rfl⟩
theorem witness_FloatExceptionReports_16 :
    ∃ e ∈ moveFloatRows, ∃ (src dst : Opnd) (s s1 s2 : State) (v : BitVec e.2.2.1.bits) (d : Dest), Ready e.1 s ∧ rd
    e.2.2.1 src (past e.1 s) = .ok v s1 ∧ wr e.2.2.1 dst s1 = .ok d s2 ∧ reservedFloat e.2.2.1 v = true :=
  ⟨_, row 4, (imm 0x8000), (reg 0), wst, _, _, _, _, ready, rfl, rfl, rfl⟩
theorem witness_FloatExceptionReports_17 :
    ∃ e ∈ testFloatRows, ∃ (src : Opnd) (s s1 : State) (v : BitVec e.2.2.bits), Ready e.1 s ∧ rd e.2.2 src (past e.1
    s) = .ok v s1 ∧ reservedFloat e.2.2 v = true :=
  ⟨_, row 1, (imm 0x8000), wst, _, _, ready, rfl, rfl⟩
theorem witness_FloatExceptionReports_18 :
    ∃ e ∈ compareFloatRows, ∃ (src1 src2 : Opnd) (s s1 s2 : State) (v w : BitVec e.2.2.bits), Ready e.1 s ∧ rd e.2.2
    src1 (past e.1 s) = .ok v s1 ∧ rd e.2.2 src2 s1 = .ok w s2 ∧ (reservedFloat e.2.2 v = true ∨ reservedFloat e.2.2 w
    = true) :=
  ⟨_, row 1, (lit 8), (imm 0x8000), wst, _, _, _, _, ready, rfl, rfl, (.inr rfl)⟩
theorem witness_FloatExceptionReports_19 :
    ∃ e ∈ floatToIntRows, ∃ (src dst : Opnd) (s s1 s2 : State) (v : BitVec e.2.2.1.bits) (d : Dest), Ready e.1 s ∧ rd
    e.2.2.1 src (past e.1 s) = .ok v s1 ∧ wr e.2.2.2.1 dst s1 = .ok d s2 ∧ reservedFloat e.2.2.1 v = true :=
  ⟨_, row 0, (imm 0x8000), (reg 0), wst, _, _, _, _, ready, rfl, rfl, rfl⟩
theorem witness_FloatExceptionReports_20 :
    ∃ e ∈ floatToFloatRows, ∃ (src dst : Opnd) (s s1 s2 : State) (v : BitVec e.2.2.1.bits) (d : Dest), Ready e.1 s ∧
    rd e.2.2.1 src (past e.1 s) = .ok v s1 ∧ wr e.2.2.2 dst s1 = .ok d s2 ∧ reservedFloat e.2.2.1 v = true :=
  ⟨_, row 3, (imm 0x8000), (reg 0), wst, _, _, _, _, ready, rfl, rfl, rfl⟩
theorem witness_FloatExceptionReports_21 :
    ∃ e ∈ floatToFloatRows, ∃ (src dst : Opnd) (s s1 s2 : State) (v : BitVec e.2.2.1.bits) (d : Dest), Ready e.1 s ∧
    rd e.2.2.1 src (past e.1 s) = .ok v s1 ∧ wr e.2.2.2 dst s1 = .ok d s2 ∧ reservedFloat e.2.2.1 v = false ∧ roundTo
    e.2.2.2 (floatValue e.2.2.1 v) = .overflow ∧ s2.is750 = true :=
  ⟨_, row 3, (imm 0x7FFF), (reg 0), wst, _, _, _, _, ready, rfl, rfl, rfl, rfl, rfl⟩
theorem witness_FloatExceptionReports_22 :
    ∃ e ∈ floatToFloatRows, ∃ (src dst : Opnd) (s s1 s2 : State) (v : BitVec e.2.2.1.bits) (d : Dest), Ready e.1 s ∧
    rd e.2.2.1 src (past e.1 s) = .ok v s1 ∧ wr e.2.2.2 dst s1 = .ok d s2 ∧ reservedFloat e.2.2.1 v = false ∧ roundTo
    e.2.2.2 (floatValue e.2.2.1 v) = .overflow ∧ s2.is750 = false ∧ ∃ z, store e.2.2.2 d (floatReserved e.2.2.2) s2 =
    .ok ⟨⟩ z :=
  ⟨_, row 3, (imm 0x7FFF), (reg 0), { wst with cfg := { wst.cfg with cpu := .v780 } }, _, _, _, _, ready, rfl, rfl,
    rfl, rfl, rfl, _, rfl⟩
theorem witness_FloatExceptionReports_23 :
    ∃ e ∈ floatToFloatRows, ∃ (src dst : Opnd) (s s1 s2 : State) (v : BitVec e.2.2.1.bits) (d : Dest), Ready e.1 s ∧
    rd e.2.2.1 src (past e.1 s) = .ok v s1 ∧ wr e.2.2.2 dst s1 = .ok d s2 ∧ reservedFloat e.2.2.1 v = false ∧ roundTo
    e.2.2.2 (floatValue e.2.2.1 v) = .underflow ∧ s2.fu = true ∧ s2.is750 = true :=
  ⟨_, row 3, (imm 0x0010), (reg 0), { wst with psl := 0x40 }, _, _, _, _, ready, rfl, rfl, rfl, rfl, rfl, rfl⟩
theorem witness_FloatExceptionReports_24 :
    ∃ e ∈ floatToFloatRows, ∃ (src dst : Opnd) (s s1 s2 : State) (v : BitVec e.2.2.1.bits) (d : Dest), Ready e.1 s ∧
    rd e.2.2.1 src (past e.1 s) = .ok v s1 ∧ wr e.2.2.2 dst s1 = .ok d s2 ∧ reservedFloat e.2.2.1 v = false ∧ roundTo
    e.2.2.2 (floatValue e.2.2.1 v) = .underflow ∧ (s2.fu = false ∨ s2.is750 = false) ∧ ∃ z, store e.2.2.2 d 0 s2 = .ok
    ⟨⟩ z :=
  ⟨_, row 3, (imm 0x0010), (reg 0), { wst with psl := 0x40, cfg := { wst.cfg with cpu := .v780 } }, _, _, _, _, ready,
    rfl, rfl, rfl, rfl, (.inr rfl), _, rfl⟩
theorem witness_FloatExceptionReports_25 :
    ∃ e ∈ acbFloatRows, ∃ (limit add idx : Opnd) (d : Word16) (s s1 s2 s3 : State) (l a i : BitVec e.2.2.bits) (k :
    Dest), Ready e.1 s ∧ rd e.2.2 limit (past e.1 s) = .ok l s1 ∧ rd e.2.2 add s1 = .ok a s2 ∧ md e.2.2 idx s2 = .ok
    (k, i) s3 ∧ (reservedFloat e.2.2 l = true ∨ reservedFloat e.2.2 a = true ∨ reservedFloat e.2.2 i = true) :=
  ⟨_, row 0, (lit 9), (imm 0x8000), (reg 0), 4, wst, _, _, _, _, _, _, _, ready, rfl, rfl, rfl, (.inr (.inl rfl))⟩
theorem witness_FloatExceptionReports_26 :
    ∃ e ∈ acbFloatRows, ∃ (limit add idx : Opnd) (d : Word16) (s s1 s2 s3 : State) (l a i : BitVec e.2.2.bits) (k :
    Dest), Ready e.1 s ∧ rd e.2.2 limit (past e.1 s) = .ok l s1 ∧ rd e.2.2 add s1 = .ok a s2 ∧ md e.2.2 idx s2 = .ok
    (k, i) s3 ∧ reservedFloat e.2.2 l = false ∧ reservedFloat e.2.2 a = false ∧ reservedFloat e.2.2 i = false ∧ (∃ go
    : Bool, go = true ↔ loopGoesOn (floatValue e.2.2 a).rat 0 (floatValue e.2.2 l).rat) ∧ roundTo e.2.2 ((floatValue
    e.2.2 i).add (floatValue e.2.2 a)) = .overflow ∧ (s3.setReg 15 (s3.pc + 2)).is750 = true :=
  ⟨_, row 0, (lit 9), (imm 0x7FFF), (reg 0), 4, (wst.setReg 0 0x7FFF), _, _, _, _, _, _, _, ready, rfl, rfl, rfl, rfl,
    rfl, rfl, ⟨_, by classical exact decide_eq_true_iff⟩, rfl, rfl⟩
theorem witness_FloatExceptionReports_27 :
    ∃ e ∈ acbFloatRows, ∃ (limit add idx : Opnd) (d : Word16) (s s1 s2 s3 : State) (l a i : BitVec e.2.2.bits) (k :
    Dest), Ready e.1 s ∧ rd e.2.2 limit (past e.1 s) = .ok l s1 ∧ rd e.2.2 add s1 = .ok a s2 ∧ md e.2.2 idx s2 = .ok
    (k, i) s3 ∧ reservedFloat e.2.2 l = false ∧ reservedFloat e.2.2 a = false ∧ reservedFloat e.2.2 i = false ∧ (∃ go
    : Bool, go = true ↔ loopGoesOn (floatValue e.2.2 a).rat 0 (floatValue e.2.2 l).rat) ∧ roundTo e.2.2 ((floatValue
    e.2.2 i).add (floatValue e.2.2 a)) = .overflow ∧ (s3.setReg 15 (s3.pc + 2)).is750 = false ∧ ∃ z, store e.2.2 k
    (floatReserved e.2.2) (s3.setReg 15 (s3.pc + 2)) = .ok ⟨⟩ z :=
  ⟨_, row 0, (lit 9), (imm 0x7FFF), (reg 0), 4, (State.setReg { wst with cfg := { wst.cfg with cpu := .v780 } } 0
    0x7FFF), _, _, _, _, _, _, _, ready, rfl, rfl, rfl, rfl, rfl, rfl, ⟨_, by classical exact decide_eq_true_iff⟩, rfl,
    rfl, _, rfl⟩
theorem witness_FloatExceptionReports_28 :
    ∃ e ∈ acbFloatRows, ∃ (limit add idx : Opnd) (d : Word16) (s s1 s2 s3 : State) (l a i : BitVec e.2.2.bits) (k :
    Dest), Ready e.1 s ∧ rd e.2.2 limit (past e.1 s) = .ok l s1 ∧ rd e.2.2 add s1 = .ok a s2 ∧ md e.2.2 idx s2 = .ok
    (k, i) s3 ∧ reservedFloat e.2.2 l = false ∧ reservedFloat e.2.2 a = false ∧ reservedFloat e.2.2 i = false ∧ (∃ go
    : Bool, go = true ↔ loopGoesOn (floatValue e.2.2 a).rat 0 (floatValue e.2.2 l).rat) ∧ roundTo e.2.2 ((floatValue
    e.2.2 i).add (floatValue e.2.2 a)) = .underflow ∧ (s3.setReg 15 (s3.pc + 2)).fu = true ∧ (s3.setReg 15 (s3.pc +
    2)).is750 = true :=
  ⟨_, row 0, (lit 9), (imm 0x8081), (reg 0), 4, (State.setReg { wst with psl := 0x40 } 0 0x0080), _, _, _, _, _, _, _,
    ready, rfl, rfl, rfl, rfl, rfl, rfl, ⟨_, by classical exact decide_eq_true_iff⟩, rfl, rfl, rfl⟩
theorem witness_FloatExceptionReports_29 :
    ∃ e ∈ acbFloatRows, ∃ (limit add idx : Opnd) (d : Word16) (s s1 s2 s3 : State) (l a i : BitVec e.2.2.bits) (k :
    Dest), Ready e.1 s ∧ rd e.2.2 limit (past e.1 s) = .ok l s1 ∧ rd e.2.2 add s1 = .ok a s2 ∧ md e.2.2 idx s2 = .ok
    (k, i) s3 ∧ reservedFloat e.2.2 l = false ∧ reservedFloat e.2.2 a = false ∧ reservedFloat e.2.2 i = false ∧ (∃ go
    : Bool, go = true ↔ loopGoesOn (floatValue e.2.2 a).rat 0 (floatValue e.2.2 l).rat) ∧ roundTo e.2.2 ((floatValue
    e.2.2 i).add (floatValue e.2.2 a)) = .underflow ∧ ((s3.setReg 15 (s3.pc + 2)).fu = false ∨ (s3.setReg 15 (s3.pc +
    2)).is750 = false) ∧ ∃ z, store e.2.2 k 0 (s3.setReg 15 (s3.pc + 2)) = .ok ⟨⟩ z :=
  ⟨_, row 0, (lit 9), (imm 0x8081), (reg 0), 4, (State.setReg { wst with psl := 0x40, cfg := { wst.cfg with cpu :=
    .v780 } } 0 0x0080), _, _, _, _, _, _, _, ready, rfl, rfl, rfl, rfl, rfl, rfl, ⟨_, by classical exact
    decide_eq_true_iff⟩, rfl, (.inr rfl), _, rfl⟩
theorem witness_FloatExceptionReports_30 :
    ∃ e ∈ emodRows, ∃ (mulr mulrx muld intg fract : Opnd) (s s1 s2 s3 s4 s5 : State) (v w : BitVec e.2.2.1.bits) (x :
    BitVec e.2.2.2.1.bits) (di df : Dest), Ready e.1 s ∧ rd e.2.2.1 mulr (past e.1 s) = .ok v s1 ∧ rdPlain e.2.2.2.1
    mulrx s1 = .ok x s2 ∧ rd e.2.2.1 muld s2 = .ok w s3 ∧ wrPlain .l intg s3 = .ok di s4 ∧ wr e.2.2.1 fract s4 = .ok
    df s5 ∧ (reservedFloat e.2.2.1 v = true ∨ reservedFloat e.2.2.1 w = true) :=
  ⟨_, row 0, (imm 0x8000), (lit 0), (imm 0x0080), (reg 0), (reg 1), wst, _, _, _, _, _, _, _, _, _, _, ready, rfl,
    rfl, rfl, rfl, rfl, (.inl rfl)⟩
theorem witness_FloatExceptionReports_31 :
    ∃ e ∈ emodRows, ∃ (mulr mulrx muld intg fract : Opnd) (s s1 s2 s3 s4 s5 : State) (v w : BitVec e.2.2.1.bits) (x :
    BitVec e.2.2.2.1.bits) (di df : Dest), Ready e.1 s ∧ rd e.2.2.1 mulr (past e.1 s) = .ok v s1 ∧ rdPlain e.2.2.2.1
    mulrx s1 = .ok x s2 ∧ rd e.2.2.1 muld s2 = .ok w s3 ∧ wrPlain .l intg s3 = .ok di s4 ∧ wr e.2.2.1 fract s4 = .ok
    df s5 ∧ reservedFloat e.2.2.1 v = false ∧ reservedFloat e.2.2.1 w = false ∧ ∃ p, p = emodProduct e.2.2.1 e.2.2.2.1
    e.2.2.2.2 v x w ∧ roundTo e.2.2.1 p.fract = .underflow ∧ s5.fu = true ∧ s5.is750 = true :=
  ⟨_, row 0, (imm 0x0080), (lit 0), (imm 0x0080), (reg 0), (reg 1), { wst with psl := 0x40 }, _, _, _, _, _, _, _, _,
    _, _, ready, rfl, rfl, rfl, rfl, rfl, rfl, rfl, _, rfl, rfl, rfl, rfl⟩
theorem witness_FloatExceptionReports_32 :
    ∃ e ∈ emodRows, ∃ (mulr mulrx muld intg fract : Opnd) (s s1 s2 s3 s4 s5 : State) (v w : BitVec e.2.2.1.bits) (x :
    BitVec e.2.2.2.1.bits) (di df : Dest), Ready e.1 s ∧ rd e.2.2.1 mulr (past e.1 s) = .ok v s1 ∧ rdPlain e.2.2.2.1
    mulrx s1 = .ok x s2 ∧ rd e.2.2.1 muld s2 = .ok w s3 ∧ wrPlain .l intg s3 = .ok di s4 ∧ wr e.2.2.1 fract s4 = .ok
    df s5 ∧ reservedFloat e.2.2.1 v = false ∧ reservedFloat e.2.2.1 w = false ∧ ∃ p, p = emodProduct e.2.2.1 e.2.2.2.1
    e.2.2.2.2 v x w ∧ roundTo e.2.2.1 p.fract = .underflow ∧ (s5.fu = false ∨ s5.is750 = false) ∧ ∃ (ki kf : Dest) (s6
    s7 s8 s9 : State) (z : Bool), prepare .l di (s5.accNoted e.2.2.1 4) = .ok ki s6 ∧ prepare e.2.2.1 df s6 = .ok kf
    s7 ∧ destsOverlap .l ki e.2.2.1 kf = false ∧ storePlain .l ki (BitVec.ofInt 32 p.trunc) s7 = .ok ⟨⟩ s8 ∧ store
    e.2.2.1 kf 0 s8 = .ok ⟨⟩ s9 ∧ z = decide ((BitVec.ofInt 32 p.trunc).toInt ≠ p.trunc) :=
  ⟨_, row 0, (imm 0x0080), (lit 0), (imm 0x0080), (reg 0), (reg 1), { wst with psl := 0x40, cfg := { wst.cfg with cpu
    := .v780 } }, _, _, _, _, _, _, _, _, _, _, ready, rfl, rfl, rfl, rfl, rfl, rfl, rfl, _, rfl, rfl, (.inr rfl), _, _,
    _, _, _, _, _, rfl, rfl, rfl, rfl, rfl, rfl⟩
theorem witness_FloatExceptionReports_33 :
    ∃ e ∈ polyRows, ∃ (arg degree tbladdr : Opnd) (s s1 s2 s3 : State) (v : BitVec e.2.2.bits) (n : Word16) (tbl :
    Long), Ready e.1 s ∧ rd e.2.2 arg (past e.1 s) = .ok v s1 ∧ rdPlain .w degree s1 = .ok n s2 ∧ adrPlain .b tbladdr
    s2 = .ok tbl s3 ∧ reservedFloat e.2.2 v = true :=
  ⟨_, row 0, (imm 0x8000), (lit 1), (mem 0x2300), { wst with mem := [] }, _, _, _, _, _, _, ready, rfl, rfl, rfl, rfl⟩
theorem witness_FloatExceptionReports_34 :
    ∃ e ∈ polyRows, ∃ (arg degree tbladdr : Opnd) (s s1 s2 s3 : State) (v : BitVec e.2.2.bits) (n : Word16) (tbl :
    Long), Ready e.1 s ∧ rd e.2.2 arg (past e.1 s) = .ok v s1 ∧ rdPlain .w degree s1 = .ok n s2 ∧ adrPlain .b tbladdr
    s2 = .ok tbl s3 ∧ reservedFloat e.2.2 v = false ∧ 31 < n.toNat :=
  ⟨_, row 0, (lit 8), (lit 32), (mem 0x2300), { wst with mem := [] }, _, _, _, _, _, _, ready, rfl, rfl, rfl, rfl,
    by decide⟩
theorem witness_FloatExceptionReports_35 :
    ∃ e ∈ polyRows, ∃ (arg degree tbladdr : Opnd) (s s1 s2 s3 : State) (v : BitVec e.2.2.bits) (n : Word16) (tbl :
    Long), Ready e.1 s ∧ rd e.2.2 arg (past e.1 s) = .ok v s1 ∧ rdPlain .w degree s1 = .ok n s2 ∧ adrPlain .b tbladdr
    s2 = .ok tbl s3 ∧ reservedFloat e.2.2 v = false ∧ n.toNat ≤ 31 ∧ ∃ (w : Octa) (s4 : State), memRead .other tbl
    e.2.2.len s3 = .ok w s4 ∧ reservedFloat e.2.2 (w.setWidth _) = true :=
  ⟨_, row 0, (lit 8), (lit 1), (mem 0x2300), { wst with mem := [(0x2301, 0x80)] }, _, _, _, _, _, _, ready, rfl, rfl,
    rfl, rfl, by decide, _, _, rfl, rfl⟩
theorem witness_FloatExceptionReports_36 :
    ∃ e ∈ polyRows, ∃ (arg degree tbladdr : Opnd) (s s1 s2 s3 : State) (v : BitVec e.2.2.bits) (n : Word16) (tbl :
    Long), Ready e.1 s ∧ rd e.2.2 arg (past e.1 s) = .ok v s1 ∧ rdPlain .w degree s1 = .ok n s2 ∧ adrPlain .b tbladdr
    s2 = .ok tbl s3 ∧ reservedFloat e.2.2 v = false ∧ n.toNat ≤ 31 ∧ ∃ (j : Nat) (s4 s5 : State) (c0 : ExactNum) (cs :
    List ExactNum) (r0 r : BitVec e.2.2.bits), j < n.toNat ∧ coefficients e.2.2 tbl 0 (j + 1) s3 = .ok (c0 :: cs) s4 ∧
    roundTo e.2.2 c0 = .value r0 ∧ cs.foldlM (hornerStep e.2.2 (floatValue e.2.2 v)) r0 = some r ∧ ∃ w : Octa, memRead
    .other (tbl + BitVec.ofNat 32 ((j + 1) * e.2.2.len)) e.2.2.len s4 = .ok w s5 ∧ reservedFloat e.2.2 (w.setWidth _)
    = true :=
  ⟨_, row 0, (lit 8), (lit 1), (mem 0x2300), { wst with mem := [(0x2305, 0x80)] }, _, _, _, _, _, _, ready, rfl, rfl,
    rfl, rfl, by decide, 0, _, _, _, _, _, _, by decide, rfl, rfl, rfl, _, rfl, rfl⟩
theorem witness_FloatExceptionReports_37 :
    ∃ e ∈ polyRows, ∃ (arg degree tbladdr : Opnd) (s s1 s2 s3 : State) (v : BitVec e.2.2.bits) (n : Word16) (tbl :
    Long), Ready e.1 s ∧ rd e.2.2 arg (past e.1 s) = .ok v s1 ∧ rdPlain .w degree s1 = .ok n s2 ∧ adrPlain .b tbladdr
    s2 = .ok tbl s3 ∧ reservedFloat e.2.2 v = false ∧ n.toNat ≤ 31 ∧ ∃ (j : Nat) (s4 s5 : State) (c0 : ExactNum) (cs :
    List ExactNum) (r0 r : BitVec e.2.2.bits), j < n.toNat ∧ coefficients e.2.2 tbl 0 (j + 1) s3 = .ok (c0 :: cs) s4 ∧
    roundTo e.2.2 c0 = .value r0 ∧ cs.foldlM (hornerStep e.2.2 (floatValue e.2.2 v)) r0 = some r ∧ ∃ c : ExactNum,
    coefficient e.2.2 tbl (j + 1) s4 = .ok c s5 ∧ hornerRound e.2.2 (floatValue e.2.2 v) r c = .overflow ∧ s5.is750 =
    true :=
  ⟨_, row 0, (imm 0x7FFF), (lit 1), (mem 0x2300), { wst with mem := [(0x2300, 0xFF), (0x2301, 0x7F)] }, _, _, _, _, _,
    _, ready, rfl, rfl, rfl, rfl, by decide, 0, _, _, _, _, _, _, by decide, rfl, rfl, rfl, _, rfl, rfl, rfl⟩
theorem witness_FloatExceptionReports_38 :
    ∃ e ∈ polyRows, ∃ (arg degree tbladdr : Opnd) (s s1 s2 s3 : State) (v : BitVec e.2.2.bits) (n : Word16) (tbl :
    Long), Ready e.1 s ∧ rd e.2.2 arg (past e.1 s) = .ok v s1 ∧ rdPlain .w degree s1 = .ok n s2 ∧ adrPlain .b tbladdr
    s2 = .ok tbl s3 ∧ reservedFloat e.2.2 v = false ∧ n.toNat ≤ 31 ∧ ∃ (j : Nat) (s4 s5 : State) (c0 : ExactNum) (cs :
    List ExactNum) (r0 r : BitVec e.2.2.bits), j < n.toNat ∧ coefficients e.2.2 tbl 0 (j + 1) s3 = .ok (c0 :: cs) s4 ∧
    roundTo e.2.2 c0 = .value r0 ∧ cs.foldlM (hornerStep e.2.2 (floatValue e.2.2 v)) r0 = some r ∧ ∃ c : ExactNum,
    coefficient e.2.2 tbl (j + 1) s4 = .ok c s5 ∧ hornerRound e.2.2 (floatValue e.2.2 v) r c = .overflow ∧ s5.is750 =
    false :=
  ⟨_, row 0, (imm 0x7FFF), (lit 1), (mem 0x2300), { wst with cfg := { wst.cfg with cpu := .v780 }, mem := [(0x2300,
    0xFF), (0x2301, 0x7F)] }, _, _, _, _, _, _, ready, rfl, rfl, rfl, rfl, by decide, 0, _, _, _, _, _, _, by decide,
    rfl, rfl, rfl, _, rfl, rfl, rfl⟩
theorem witness_FloatExceptionReports_39 :
    ∃ e ∈ polyRows, ∃ (arg degree tbladdr : Opnd) (s s1 s2 s3 : State) (v : BitVec e.2.2.bits) (n : Word16) (tbl :
    Long), Ready e.1 s ∧ rd e.2.2 arg (past e.1 s) = .ok v s1 ∧ rdPlain .w degree s1 = .ok n s2 ∧ adrPlain .b tbladdr
    s2 = .ok tbl s3 ∧ reservedFloat e.2.2 v = false ∧ n.toNat ≤ 31 ∧ ∃ (j : Nat) (s4 s5 : State) (c0 : ExactNum) (cs :
    List ExactNum) (r0 r : BitVec e.2.2.bits), j < n.toNat ∧ coefficients e.2.2 tbl 0 (j + 1) s3 = .ok (c0 :: cs) s4 ∧
    roundTo e.2.2 c0 = .value r0 ∧ cs.foldlM (hornerStep e.2.2 (floatValue e.2.2 v)) r0 = some r ∧ ∃ c : ExactNum,
    coefficient e.2.2 tbl (j + 1) s4 = .ok c s5 ∧ hornerRound e.2.2 (floatValue e.2.2 v) r c = .underflow ∧ s5.fu =
    true ∧ s5.is750 = true :=
  ⟨_, row 0, (imm 0x0080), (lit 1), (mem 0x2300), { wst with psl := 0x40, mem := [(0x2300, 0x80)] }, _, _, _, _, _, _,
    ready, rfl, rfl, rfl, rfl, by decide, 0, _, _, _, _, _, _, by decide, rfl, rfl, rfl, _, rfl, rfl, rfl, rfl⟩
theorem witness_FloatExceptionReports_40 :
    ∃ e ∈ polyRows, ∃ (arg degree tbladdr : Opnd) (s s1 s2 s3 : State) (v : BitVec e.2.2.bits) (n : Word16) (tbl :
    Long), Ready e.1 s ∧ rd e.2.2 arg (past e.1 s) = .ok v s1 ∧ rdPlain .w degree s1 = .ok n s2 ∧ adrPlain .b tbladdr
    s2 = .ok tbl s3 ∧ reservedFloat e.2.2 v = false ∧ n.toNat ≤ 31 ∧ ∃ (j : Nat) (s4 s5 : State) (c0 : ExactNum) (cs :
    List ExactNum) (r0 r : BitVec e.2.2.bits), j < n.toNat ∧ coefficients e.2.2 tbl 0 (j + 1) s3 = .ok (c0 :: cs) s4 ∧
    roundTo e.2.2 c0 = .value r0 ∧ cs.foldlM (hornerStep e.2.2 (floatValue e.2.2 v)) r0 = some r ∧ ∃ c : ExactNum,
    coefficient e.2.2 tbl (j + 1) s4 = .ok c s5 ∧ hornerRound e.2.2 (floatValue e.2.2 v) r c = .underflow ∧ (s5.fu =
    false ∨ s5.is750 = false) ∧ ∃ (s6 : State) (ds : List ExactNum) (q : BitVec e.2.2.bits), coefficients e.2.2 tbl (j
    + 2) (n.toNat - j - 1) (s5.accNoted e.2.2 4) = .ok ds s6 ∧ ds.foldlM (hornerStep e.2.2 (floatValue e.2.2 v)) 0 =
    some q :=
  ⟨_, row 0, (imm 0x0080), (lit 2), (mem 0x2300), { wst with psl := 0x40, cfg := { wst.cfg with cpu := .v780 }, mem :=
    [(0x2300, 0x80)] }, _, _, _, _, _, _, ready, rfl, rfl, rfl, rfl, by decide, 0, _, _, _, _, _, _, by decide, rfl,
    rfl, rfl, _, rfl, rfl, (.inr rfl), _, _, _, rfl, rfl⟩
theorem witness_FloatConversionResults_0 :
    ∃ e ∈ intToFloatRows, ∃ (src dst : Opnd) (s s1 s2 s3 : State) (x : BitVec e.2.2.1.bits) (r : BitVec e.2.2.2.bits)
    (d : Dest), Ready e.1 s ∧ rd e.2.2.1 src (past e.1 s) = .ok x s1 ∧ wr e.2.2.2 dst s1 = .ok d s2 ∧ IsNearest
    e.2.2.2 x.toInt r ∧ ((floatValue e.2.2.2 r).rat = 0 → r = 0) ∧ store e.2.2.2 d r s2 = .ok ⟨⟩ s3 :=
  ⟨(0x4C, .cvtbf, .b, .f), row 0, (lit 0), (reg 0), wst, _, _, _, (0 : BitVec 8), (0 : BitVec 32), _, ready, rfl,
    rfl, (nearest_zero (by decide)), (fun _ => rfl), rfl⟩
theorem witness_FloatConversionResults_1 :
    ∃ e ∈ floatToIntRows, ∃ (src dst : Opnd) (s s1 s2 s3 : State) (v : BitVec e.2.2.1.bits) (z : Int) (d : Dest) (o :
    Bool), Ready e.1 s ∧ rd e.2.2.1 src (past e.1 s) = .ok v s1 ∧ wr e.2.2.2.1 dst s1 = .ok d s2 ∧ reservedFloat
    e.2.2.1 v = false ∧ z = (if (floatValue e.2.2.1 v).rat < 0 then -⌊|(floatValue e.2.2.1 v).rat| + (if e.2.2.2.2
    then 1 / 2 else 0)⌋ else ⌊|(floatValue e.2.2.1 v).rat| + (if e.2.2.2.2 then 1 / 2 else 0)⌋) ∧ store e.2.2.2.1 d
    (BitVec.ofInt _ z) s2 = .ok ⟨⟩ s3 ∧ o = decide ((BitVec.ofInt e.2.2.2.1.bits z).toInt ≠ z) :=
  ⟨_, row 0, (lit 8), (reg 0), wst, _, _, _, _, 1, _, _, ready, rfl, rfl, rfl,
    (by rw [show floatValue .f _ = ⟨false, 8388608, -23⟩ from rfl]; norm_num [ExactNum.rat]), rfl, rfl⟩
theorem witness_FloatConversionResults_2 :
    ∃ e ∈ floatToFloatRows, ∃ (src dst : Opnd) (s s1 s2 s3 : State) (v : BitVec e.2.2.1.bits) (r : BitVec
    e.2.2.2.bits) (d : Dest), Ready e.1 s ∧ rd e.2.2.1 src (past e.1 s) = .ok v s1 ∧ wr e.2.2.2 dst s1 = .ok d s2 ∧
    reservedFloat e.2.2.1 v = false ∧ roundTo e.2.2.2 (floatValue e.2.2.1 v) = .value r ∧ store e.2.2.2 d r s2 = .ok
    ⟨⟩ s3 :=
  ⟨_, row 9, (lit 8), (reg 0), wst, _, _, _, _, _, _, ready, rfl, rfl, rfl, rfl, rfl⟩
theorem witness_FloatLoopEmodAndPolyResults_0 :
    ∃ e ∈ acbFloatRows, ∃ (limit add idx : Opnd) (d : Word16) (s s1 s2 s3 s4 : State) (l a i r : BitVec e.2.2.bits) (k
    : Dest) (go : Bool), Ready e.1 s ∧ rd e.2.2 limit (past e.1 s) = .ok l s1 ∧ rd e.2.2 add s1 = .ok a s2 ∧ md e.2.2
    idx s2 = .ok (k, i) s3 ∧ reservedFloat e.2.2 l = false ∧ reservedFloat e.2.2 a = false ∧ reservedFloat e.2.2 i =
    false ∧ roundTo e.2.2 ((floatValue e.2.2 i).add (floatValue e.2.2 a)) = .value r ∧ store e.2.2 k r (s3.setReg 15
    (s3.pc + 2)) = .ok ⟨⟩ s4 ∧ (go = true ↔ loopGoesOn (floatValue e.2.2 a).rat (floatValue e.2.2 r).rat (floatValue
    e.2.2 l).rat) :=
  ⟨_, row 0, (lit 9), (lit 8), (reg 0), 4, wst, _, _, _, _, _, _, _, _, _, _, ready, rfl, rfl, rfl, rfl, rfl, rfl,
    rfl, rfl, by classical exact decide_eq_true_iff⟩
theorem witness_FloatLoopEmodAndPolyResults_1 :
    ∃ e ∈ emodRows, ∃ (mulr mulrx muld intg fract : Opnd) (s s1 s2 s3 s4 s5 s6 s7 s8 s9 : State) (v w f : BitVec
    e.2.2.1.bits) (x : BitVec e.2.2.2.1.bits) (di df ki kf : Dest) (p : ExactNum) (z : Bool), Ready e.1 s ∧ rd e.2.2.1
    mulr (past e.1 s) = .ok v s1 ∧ rdPlain e.2.2.2.1 mulrx s1 = .ok x s2 ∧ rd e.2.2.1 muld s2 = .ok w s3 ∧ wrPlain .l
    intg s3 = .ok di s4 ∧ wr e.2.2.1 fract s4 = .ok df s5 ∧ reservedFloat e.2.2.1 v = false ∧ reservedFloat e.2.2.1 w
    = false ∧ p = emodProduct e.2.2.1 e.2.2.2.1 e.2.2.2.2 v x w ∧ roundTo e.2.2.1 p.fract = .value f ∧ prepare .l di
    s5 = .ok ki s6 ∧ prepare e.2.2.1 df s6 = .ok kf s7 ∧ destsOverlap .l ki e.2.2.1 kf = false ∧ storePlain .l ki
    (BitVec.ofInt 32 p.trunc) s7 = .ok ⟨⟩ s8 ∧ store e.2.2.1 kf f s8 = .ok ⟨⟩ s9 ∧ z = decide ((BitVec.ofInt 32
    p.trunc).toInt ≠ p.trunc) :=
  ⟨_, row 0, (lit 12), (lit 1), (lit 9), (reg 0), (reg 1), wst, _, _, _, _, _, _, _, _, _, _, _, _, _, _, _, _, _, _,
    _, ready, rfl, rfl, rfl, rfl, rfl, rfl, rfl, rfl, rfl, rfl, rfl, rfl, rfl, rfl, rfl⟩
theorem witness_FloatLoopEmodAndPolyResults_2 :
    ∃ e ∈ polyRows, ∃ (arg degree tbladdr : Opnd) (s s1 s2 s3 s4 : State) (v r0 r : BitVec e.2.2.bits)
    (n : Word16) (tbl : Long) (c0 : ExactNum) (cs : List ExactNum), Ready e.1 s ∧ rd e.2.2 arg (past e.1 s) = .ok v
    s1 ∧ rdPlain .w degree s1 = .ok n s2 ∧ adrPlain .b tbladdr s2 = .ok tbl s3 ∧ reservedFloat e.2.2 v = false ∧
    n.toNat ≤ 31 ∧ coefficients e.2.2 tbl 0 (n.toNat + 1) s3 = .ok (c0 :: cs) s4 ∧ roundTo e.2.2 c0 = .value r0 ∧
    cs.foldlM (hornerStep e.2.2 (floatValue e.2.2 v)) r0 = some r :=
  ⟨_, row 0, (lit 8), (lit 1), (mem 0x2300), wst, _, _, _, _, _, _, _, _, _, _, _, ready, rfl, rfl, rfl, rfl, by
    decide, rfl, rfl, rfl⟩
theorem witness_StringMoveResults_0 :
    ∃ (len srcaddr dstaddr : Opnd) (s s1 s2 s3 s4 s5 : State) (n : Word16) (a b : Long) (bs : List Byte) (dest : List
    Nat), Ready 0x28 s ∧ rdPlain .w len (past 0x28 s) = .ok n s1 ∧ adrPlain .b srcaddr s1 = .ok a s2 ∧ adrPlain .b
    dstaddr s2 = .ok b s3 ∧ bs.length = n.toNat ∧ s3.shows a bs ∧ destBytes b n.toNat s3 = .ok dest s4 ∧ putBytes
    (dest.zip bs) s4 = .ok ⟨⟩ s5 :=
  ⟨(lit 1), (mem 0x2000), (mem 0x2200), wst, _, _, _, _, _, _, _, _, [0x11], _, ready, rfl, rfl, rfl, rfl,
    (shows_one read_cc), rfl, rfl⟩
theorem witness_StringMoveResults_1 :
    ∃ (srclen srcaddr fill dstlen dstaddr : Opnd) (s s1 s2 s3 s4 s5 s6 s7 : State) (n m : Word16) (f : Byte) (a b :
    Long) (bs : List Byte) (dest : List Nat), Ready 0x2C s ∧ rdPlain .w srclen (past 0x2C s) = .ok n s1 ∧ adrPlain .b
    srcaddr s1 = .ok a s2 ∧ rdPlain .b fill s2 = .ok f s3 ∧ rdPlain .w dstlen s3 = .ok m s4 ∧ adrPlain .b dstaddr s4
    = .ok b s5 ∧ bs.length = min n.toNat m.toNat ∧ s5.shows a bs ∧ destBytes b m.toNat s5 = .ok dest s6 ∧ putBytes
    (dest.zip (bs ++ List.replicate (m.toNat - n.toNat) f)) s6 = .ok ⟨⟩ s7 :=
  ⟨(lit 1), (mem 0x2000), (lit 1), (lit 2), (mem 0x2200), wst, _, _, _, _, _, _, _, _, _, _, _, _, [0x11], _, ready,
    rfl, rfl, rfl, rfl, rfl, rfl, (shows_one read_cc), rfl, rfl⟩
theorem witness_StringMoveResults_2 :
    ∃ (srclen srcaddr fill tbladdr dstlen dstaddr : Opnd) (s s1 s2 s3 s4 s5 s6 s7 s8 : State) (n m : Word16) (f :
    Byte) (a b t : Long) (bs : List Byte) (tr : Byte → Byte) (dest : List Nat), Ready 0x2E s ∧ rdPlain .w srclen
    (past 0x2E s) = .ok n s1 ∧ adrPlain .b srcaddr s1 = .ok a s2 ∧ rdPlain .b fill s2 = .ok f s3 ∧ adrPlain .b
    tbladdr s3 = .ok t s4 ∧ rdPlain .w dstlen s4 = .ok m s5 ∧ adrPlain .b dstaddr s5 = .ok b s6 ∧ bs.length = min
    n.toNat m.toNat ∧ s6.shows a bs ∧ (∀ x ∈ bs, s6.shows (t + x.setWidth 32) [tr x]) ∧ rangesOverlap b m.toNat t 256
    = false ∧ destBytes b m.toNat s6 = .ok dest s7 ∧ putBytes (dest.zip (bs.map tr ++ List.replicate (m.toNat -
    n.toNat) f)) s7 = .ok ⟨⟩ s8 :=
  ⟨(lit 1), (mem 0x2000), (lit 1), (mem 0x2300), (lit 2), (mem 0x2200), wst, _, _, _, _, _, _, _, _, _, _, _, _, _,
    _, [0x11], fun _ => 0, _, ready, rfl, rfl, rfl, rfl, rfl, rfl, rfl, (shows_one read_cc),
    (fun x hx => by cases List.mem_singleton.1 hx; exact shows_one read_cc), rfl, rfl, rfl⟩
theorem witness_StringMoveResults_3 :
    ∃ (srclen srcaddr esc tbladdr dstlen dstaddr : Opnd) (s s1 s2 s3 s4 s5 s6 s7 s8 : State) (n m : Word16) (x :
    Byte) (a b t : Long) (out : List (Nat × Byte)) (met : Bool), Ready 0x2F s ∧ rdPlain .w srclen (past 0x2F s) = .ok
    n s1 ∧ adrPlain .b srcaddr s1 = .ok a s2 ∧ rdPlain .b esc s2 = .ok x s3 ∧ adrPlain .b tbladdr s3 = .ok t s4 ∧
    rdPlain .w dstlen s4 = .ok m s5 ∧ adrPlain .b dstaddr s5 = .ok b s6 ∧ rangesOverlap b m.toNat a n.toNat = false ∧
    rangesOverlap b m.toNat t 256 = false ∧ translateUntil t x a b (min n.toNat m.toNat) s6 = .ok (out, met) s7 ∧
    putBytes out s7 = .ok ⟨⟩ s8 :=
  ⟨(lit 1), (mem 0x2000), (lit 1), (mem 0x2300), (lit 2), (mem 0x2200), wst, _, _, _, _, _, _, _, _, _, _, _, _, _,
    _, _, _, ready, rfl, rfl, rfl, rfl, rfl, rfl, rfl, rfl, rfl, rfl⟩
theorem witness_StringMoveResults_4 :
    ∃ (s : State) (t a b : Long) (x : Byte) (bs : List Byte) (tr : Byte → Byte) (i n : Nat), s.mm.mapen = false ∧ i ≤
    n ∧ bs.length = min n (i + 1) ∧ s.shows a bs ∧ (∀ y ∈ bs, s.shows (t + y.setWidth 32) [tr y]) ∧ (∀ j < i, ∀ y,
    bs[j]? = some y → tr y ≠ x) ∧ (∀ y, bs[i]? = some y → tr y = x) :=
  ⟨wst, 0x2300, 0x2000, 0x2200, 1, [0x11], fun _ => 0, 1, 1, rfl, by decide, rfl, (shows_one read_cc),
    (fun x hx => by cases List.mem_singleton.1 hx; exact shows_one read_cc),
    (fun _ _ _ _ h => absurd h (by decide : (0 : Byte) ≠ 1)), (fun y h => by cases h)⟩
theorem witness_StringSearchResults_0 :
    ∃ e ∈ ([(0x3A, .locc, fun x k => x == k), (0x3B, .skpc, fun x k => x != k)] : List (Nat × (Opnd → Opnd → Opnd →
    Instr) × (Byte → Byte → Bool))), ∃ (char len addr : Opnd) (s s1 s2 s3 : State) (k : Byte) (n : Word16) (a : Long)
    (bs : List Byte) (i : Nat), Ready e.1 s ∧ rdPlain .b char (past e.1 s) = .ok k s1 ∧ rdPlain .w len s1 = .ok n s2
    ∧ adrPlain .b addr s2 = .ok a s3 ∧ i ≤ n.toNat ∧ bs.length = min n.toNat (i + 1) ∧ s3.shows a bs ∧ (∀ j < i, ∀ x,
    bs[j]? = some x → e.2.2 x k = false) ∧ (∀ x, bs[i]? = some x → e.2.2 x k = true) :=
  ⟨_, row 0, (lit 17), (lit 1), (mem 0x2000), wst, _, _, _, _, _, _, [0x11], 0, ready, rfl, rfl, rfl, by decide, rfl,
    (shows_one read_cc), (fun j hj => absurd hj (Nat.not_lt_zero _)), (fun x hx => by cases hx; rfl)⟩
theorem witness_StringSearchResults_1 :
    ∃ e ∈ ([(0x2A, .scanc, fun x m => x &&& m != 0), (0x2B, .spanc, fun x m => x &&& m == 0)] : List (Nat × (Opnd →
    Opnd → Opnd → Opnd → Instr) × (Byte → Byte → Bool))), ∃ (len addr tbladdr mask : Opnd) (s s1 s2 s3 s4 : State) (m
    : Byte) (n : Word16) (a t : Long) (bs : List Byte) (tr : Byte → Byte) (i : Nat), Ready e.1 s ∧ rdPlain .w len
    (past e.1 s) = .ok n s1 ∧ adrPlain .b addr s1 = .ok a s2 ∧ adrPlain .b tbladdr s2 = .ok t s3 ∧ rdPlain .b mask s3
    = .ok m s4 ∧ i ≤ n.toNat ∧ bs.length = min n.toNat (i + 1) ∧ s4.shows a bs ∧ (∀ x ∈ bs, s4.shows (t + x.setWidth
    32) [tr x]) ∧ (∀ j < i, ∀ x, bs[j]? = some x → e.2.2 (tr x) m = false) ∧ (∀ x, bs[i]? = some x → e.2.2 (tr x) m =
    true) :=
  ⟨_, row 1, (lit 1), (mem 0x2000), (mem 0x2300), (lit 1), wst, _, _, _, _, _, _, _, _, [0x11], fun _ => 0, 0, ready,
    rfl, rfl, rfl, rfl, by decide, rfl, (shows_one read_cc),
    (fun x hx => by cases List.mem_singleton.1 hx; exact shows_one read_cc),
    (fun j hj => absurd hj (Nat.not_lt_zero _)), (fun x hx => by cases hx; rfl)⟩
theorem witness_StringSearchResults_2 :
    ∃ (s : State) (a b : Long) (n m i : Nat) (f : Byte) (xs ys : List Byte), i ≤ max n m ∧ n < 65536 ∧ m < 65536 ∧
    xs.length = min n (i + 1) ∧ ys.length = min m (i + 1) ∧ s.shows a xs ∧ s.shows b ys ∧ (∀ j < i, xs.getD j f =
    ys.getD j f) ∧ (i < max n m → xs.getD i f ≠ ys.getD i f) :=
  ⟨wst, 0x2000, 0x2001, 1, 1, 0, 0, [0x11], [0x22], by decide, by decide, by decide, rfl, rfl, (shows_one read_cc),
    (shows_one read_cc), (fun j hj => absurd hj (Nat.not_lt_zero _)), (fun _ => by decide)⟩
theorem witness_StringSearchResults_3 :
    ∃ (len src1addr src2addr : Opnd) (s s1 s2 s3 s4 : State) (n : Word16) (a b : Long), Ready 0x29 s ∧ rdPlain .w len
    (past 0x29 s) = .ok n s1 ∧ adrPlain .b src1addr s1 = .ok a s2 ∧ adrPlain .b src2addr s2 = .ok b s3 ∧
    compareStrings a b n.toNat n.toNat 0 s3 = .ok none s4 :=
  ⟨(lit 2), (mem 0x2000), (mem 0x2001), wst, _, _, _, _, _, _, _, ready, rfl, rfl, rfl, rfl⟩
theorem witness_StringSearchResults_4 :
    ∃ (src1len src1addr fill src2len src2addr : Opnd) (s s1 s2 s3 s4 s5 s6 : State) (n m : Word16) (f : Byte) (a b :
    Long), Ready 0x2D s ∧ rdPlain .w src1len (past 0x2D s) = .ok n s1 ∧ adrPlain .b src1addr s1 = .ok a s2 ∧ rdPlain
    .b fill s2 = .ok f s3 ∧ rdPlain .w src2len s3 = .ok m s4 ∧ adrPlain .b src2addr s4 = .ok b s5 ∧ compareStrings a
    b n.toNat m.toNat f s5 = .ok none s6 :=
  ⟨(lit 2), (mem 0x2000), (lit 0), (lit 1), (mem 0x2000), wst, _, _, _, _, _, _, _, _, _, _, _, ready, rfl, rfl, rfl,
    rfl, rfl, rfl⟩
theorem witness_StringSearchResults_5 :
    ∃ (objlen objaddr srclen srcaddr : Opnd) (s s1 s2 s3 s4 : State) (n m : Word16) (o a : Long) (os bs : List Byte)
    (j : Nat), Ready 0x39 s ∧ rdPlain .w objlen (past 0x39 s) = .ok n s1 ∧ adrPlain .b objaddr s1 = .ok o s2 ∧
    rdPlain .w srclen s2 = .ok m s3 ∧ adrPlain .b srcaddr s3 = .ok a s4 ∧ os.length = n.toNat ∧ s4.shows o os ∧
    s4.shows a bs ∧ (∀ k < j, k + n.toNat ≤ m.toNat → (bs.drop k).take n.toNat ≠ os) ∧ j + n.toNat ≤ m.toNat ∧
    bs.length = j + n.toNat ∧ bs.drop j = os :=
  ⟨(lit 1), (mem 0x2001), (lit 2), (mem 0x2000), wst, _, _, _, _, _, _, _, _, [0x22], [0x11, 0x22], 1, ready, rfl,
    rfl, rfl, rfl, rfl, (shows_one read_cc), (shows_two read_cc read_cc),
    (fun k hk _ => by obtain rfl : k = 0 := (by omega); exact (by decide)), (by decide), (by decide), rfl⟩
theorem witness_StringSearchResults_6 :
    ∃ (objlen objaddr srclen srcaddr : Opnd) (s s1 s2 s3 s4 : State) (n m : Word16) (o a : Long) (os bs : List Byte)
    (j : Nat), Ready 0x39 s ∧ rdPlain .w objlen (past 0x39 s) = .ok n s1 ∧ adrPlain .b objaddr s1 = .ok o s2 ∧
    rdPlain .w srclen s2 = .ok m s3 ∧ adrPlain .b srcaddr s3 = .ok a s4 ∧ os.length = n.toNat ∧ s4.shows o os ∧
    s4.shows a bs ∧ (∀ k < j, k + n.toNat ≤ m.toNat → (bs.drop k).take n.toNat ≠ os) ∧ j = m.toNat + 1 ∧ bs.length =
    m.toNat :=
  ⟨(lit 1), (mem 0x2100), (lit 1), (mem 0x2000), wst, _, _, _, _, _, _, _, _, [0x7C], [0x11], 2, ready, rfl, rfl,
    rfl, rfl, rfl, (shows_one read_cc), (shows_one read_cc),
    (fun k hk h => by obtain rfl : k = 0 := Nat.le_zero.1 (Nat.le_of_succ_le_succ h); exact (by decide)), rfl, rfl⟩
theorem witness_StringBytesAreStoredInOrder_0 :
    ∃ (va : Long) (n : Nat) (s s' : State) (dest : List Nat), destBytes va n s = .ok dest s' ∧ s.mm.mapen = false :=
  ⟨0x2200, 2, wst, _, _, rfl, rfl⟩
theorem witness_StringBytesAreStoredInOrder_1 :
    ∃ (out : List (Nat × Byte)) (s s' : State), s.MemOk ∧ (∀ p ∈ out, s.goodRam p.1 1) ∧ putBytes out s = .ok ⟨⟩ s' :=
  ⟨[(0x2200, 5)], wst, _, rfl, (fun p hp => by cases List.mem_singleton.1 hp; exact ⟨rfl, rfl, rfl, rfl⟩), rfl⟩
theorem witness_StringBytesAreStoredInOrder_2 :
    ∃ (out : List (Nat × Byte)) (s : State), s.during = [] ∧ (∀ p ∈ out, place s p.1 = .ram) :=
  ⟨[(0x2200, 5)], wst, rfl, (fun p hp => by cases List.mem_singleton.1 hp; rfl)⟩
theorem witness_DecimalArithmeticResults_0 :
    ∃ (len srcaddr dstaddr : Opnd) (s s1 s2 s3 : State) (n : Word16) (a d : Long), Ready 0x34 s ∧ rdPlain .w len (past
    0x34 s) = .ok n s1 ∧ adrPlain .b srcaddr s1 = .ok a s2 ∧ adrPlain .b dstaddr s2 = .ok d s3 ∧ 31 < n.toNat :=
  ⟨(lit 32), (mem 0x2100), (mem 0x2200), wst, _, _, _, _, _, _, ready, rfl, rfl, rfl, by decide⟩
theorem witness_DecimalArithmeticResults_1 :
    ∃ (len srcaddr dstaddr : Opnd) (s s1 s2 s3 : State) (n : Word16) (a d : Long), Ready 0x34 s ∧ rdPlain .w len (past
    0x34 s) = .ok n s1 ∧ adrPlain .b srcaddr s1 = .ok a s2 ∧ adrPlain .b dstaddr s2 = .ok d s3 ∧ n.toNat ≤ 31 ∧
    s3.notPacked a n.toNat :=
  ⟨(lit 1), (mem 0x2200), (mem 0x2200), wst, _, _, _, _, _, _, ready, rfl, rfl, rfl, by decide, ⟨[0x00], rfl,
    shows_one read_cc, rfl⟩⟩
theorem witness_DecimalArithmeticResults_2 :
    ∃ (len srcaddr dstaddr : Opnd) (s s1 s2 s3 : State) (n : Word16) (a d : Long), Ready 0x34 s ∧ rdPlain .w len (past
    0x34 s) = .ok n s1 ∧ adrPlain .b srcaddr s1 = .ok a s2 ∧ adrPlain .b dstaddr s2 = .ok d s3 ∧ ∃ (v : Int) (s4 :
    State), n.toNat ≤ 31 ∧ s3.packed a n.toNat v ∧ (packedString d n.toNat).clash (packedString a n.toNat) = false ∧
    s3.stores d (packedImage n.toNat v) s4 :=
  ⟨(lit 1), (mem 0x2100), (mem 0x2200), wst, _, _, _, _, _, _, ready, rfl, rfl, rfl, _, _, by decide, ⟨[0x7C], rfl,
    shows_one read_cc, rfl⟩, rfl, ⟨_, _, rfl, rfl⟩⟩
theorem witness_DecimalArithmeticResults_3 :
    ∃ (len src1addr src2addr : Opnd) (s s1 s2 s3 : State) (n : Word16) (a b : Long), Ready 0x35 s ∧ rdPlain .w len
    (past 0x35 s) = .ok n s1 ∧ adrPlain .b src1addr s1 = .ok a s2 ∧ adrPlain .b src2addr s2 = .ok b s3 ∧ 31 < n.toNat :=
  ⟨(lit 32), (mem 0x2100), (mem 0x2100), wst, _, _, _, _, _, _, ready, rfl, rfl, rfl, by decide⟩
theorem witness_DecimalArithmeticResults_4 :
    ∃ (len src1addr src2addr : Opnd) (s s1 s2 s3 : State) (n : Word16) (a b : Long), Ready 0x35 s ∧ rdPlain .w len
    (past 0x35 s) = .ok n s1 ∧ adrPlain .b src1addr s1 = .ok a s2 ∧ adrPlain .b src2addr s2 = .ok b s3 ∧ n.toNat ≤ 31
    ∧ s3.notPacked a n.toNat :=
  ⟨(lit 1), (mem 0x2200), (mem 0x2100), wst, _, _, _, _, _, _, ready, rfl, rfl, rfl, by decide, ⟨[0x00], rfl,
    shows_one read_cc, rfl⟩⟩
theorem witness_DecimalArithmeticResults_5 :
    ∃ (len src1addr src2addr : Opnd) (s s1 s2 s3 : State) (n : Word16) (a b : Long), Ready 0x35 s ∧ rdPlain .w len
    (past 0x35 s) = .ok n s1 ∧ adrPlain .b src1addr s1 = .ok a s2 ∧ adrPlain .b src2addr s2 = .ok b s3 ∧ n.toNat ≤ 31
    ∧ ∃ x, s3.packed a n.toNat x ∧ s3.notPacked b n.toNat :=
  ⟨(lit 1), (mem 0x2100), (mem 0x2200), wst, _, _, _, _, _, _, ready, rfl, rfl, rfl, by decide, _, ⟨[0x7C], rfl,
    shows_one read_cc, rfl⟩, ⟨[0x00], rfl, shows_one read_cc, rfl⟩⟩
theorem witness_DecimalArithmeticResults_6 :
    ∃ (len src1addr src2addr : Opnd) (s s1 s2 s3 : State) (n : Word16) (a b : Long), Ready 0x35 s ∧ rdPlain .w len
    (past 0x35 s) = .ok n s1 ∧ adrPlain .b src1addr s1 = .ok a s2 ∧ adrPlain .b src2addr s2 = .ok b s3 ∧ ∃ x y : Int,
    n.toNat ≤ 31 ∧ s3.packed a n.toNat x ∧ s3.packed b n.toNat y :=
  ⟨(lit 1), (mem 0x2100), (mem 0x2100), wst, _, _, _, _, _, _, ready, rfl, rfl, rfl, _, _, by decide, ⟨[0x7C], rfl,
    shows_one read_cc, rfl⟩, ⟨[0x7C], rfl, shows_one read_cc, rfl⟩⟩
theorem witness_DecimalArithmeticResults_7 :
    ∃ (src1len src1addr src2len src2addr : Opnd) (s s1 s2 s3 s4 : State) (n m : Word16) (a b : Long), Ready 0x37 s ∧
    rdPlain .w src1len (past 0x37 s) = .ok n s1 ∧ adrPlain .b src1addr s1 = .ok a s2 ∧ rdPlain .w src2len s2 = .ok m
    s3 ∧ adrPlain .b src2addr s3 = .ok b s4 ∧ 31 < n.toNat ∧ s4.badPair a n.toNat b m.toNat :=
  ⟨(lit 32), (mem 0x2100), (lit 1), (mem 0x2100), wst, _, _, _, _, _, _, _, _, ready, rfl, rfl, rfl, rfl, by decide,
    .inl (by decide)⟩
theorem witness_DecimalArithmeticResults_8 :
    ∃ (src1len src1addr src2len src2addr : Opnd) (s s1 s2 s3 s4 : State) (n m : Word16) (a b : Long), Ready 0x37 s ∧
    rdPlain .w src1len (past 0x37 s) = .ok n s1 ∧ adrPlain .b src1addr s1 = .ok a s2 ∧ rdPlain .w src2len s2 = .ok m
    s3 ∧ adrPlain .b src2addr s3 = .ok b s4 ∧ 31 < m.toNat ∧ s4.badPair a n.toNat b m.toNat :=
  ⟨(lit 1), (mem 0x2100), (lit 32), (mem 0x2100), wst, _, _, _, _, _, _, _, _, ready, rfl, rfl, rfl, rfl, by decide,
    .inr (.inl (by decide))⟩
theorem witness_DecimalArithmeticResults_9 :
    ∃ (src1len src1addr src2len src2addr : Opnd) (s s1 s2 s3 s4 : State) (n m : Word16) (a b : Long), Ready 0x37 s ∧
    rdPlain .w src1len (past 0x37 s) = .ok n s1 ∧ adrPlain .b src1addr s1 = .ok a s2 ∧ rdPlain .w src2len s2 = .ok m
    s3 ∧ adrPlain .b src2addr s3 = .ok b s4 ∧ s4.badPair a n.toNat b m.toNat ∧ s4.notPacked a n.toNat :=
  ⟨(lit 1), (mem 0x2200), (lit 1), (mem 0x2100), wst, _, _, _, _, _, _, _, _, ready, rfl, rfl, rfl, rfl, .inr (.inr
    ⟨by decide, by decide, .inl ⟨[0x00], rfl, shows_one read_cc, rfl⟩⟩), ⟨[0x00], rfl, shows_one read_cc, rfl⟩⟩
theorem witness_DecimalArithmeticResults_10 :
    ∃ (src1len src1addr src2len src2addr : Opnd) (s s1 s2 s3 s4 : State) (n m : Word16) (a b : Long), Ready 0x37 s ∧
    rdPlain .w src1len (past 0x37 s) = .ok n s1 ∧ adrPlain .b src1addr s1 = .ok a s2 ∧ rdPlain .w src2len s2 = .ok m
    s3 ∧ adrPlain .b src2addr s3 = .ok b s4 ∧ s4.badPair a n.toNat b m.toNat ∧ s4.notPacked b m.toNat :=
  ⟨(lit 1), (mem 0x2100), (lit 1), (mem 0x2200), wst, _, _, _, _, _, _, _, _, ready, rfl, rfl, rfl, rfl, .inr (.inr
    ⟨by decide, by decide, .inr ⟨_, ⟨[0x7C], rfl, shows_one read_cc, rfl⟩, ⟨[0x00], rfl, shows_one read_cc, rfl⟩⟩⟩),
    ⟨[0x00], rfl, shows_one read_cc, rfl⟩⟩
theorem witness_DecimalArithmeticResults_11 :
    ∃ (src1len src1addr src2len src2addr : Opnd) (s s1 s2 s3 s4 : State) (n m : Word16) (a b : Long), Ready 0x37 s ∧
    rdPlain .w src1len (past 0x37 s) = .ok n s1 ∧ adrPlain .b src1addr s1 = .ok a s2 ∧ rdPlain .w src2len s2 = .ok m
    s3 ∧ adrPlain .b src2addr s3 = .ok b s4 ∧ ∃ x y : Int, n.toNat ≤ 31 ∧ m.toNat ≤ 31 ∧ s4.packed a n.toNat x ∧
    s4.packed b m.toNat y :=
  ⟨(lit 1), (mem 0x2100), (lit 1), (mem 0x2100), wst, _, _, _, _, _, _, _, _, ready, rfl, rfl, rfl, rfl, _, _,
    by decide, by decide, ⟨[0x7C], rfl, shows_one read_cc, rfl⟩, ⟨[0x7C], rfl, shows_one read_cc, rfl⟩⟩
theorem witness_DecimalArithmeticResults_12 :
    ∃ e ∈ ([(0x20, .addp4, fun x y => y + x), (0x22, .subp4, fun x y => y - x)] : List (Nat × (Opnd → Opnd → Opnd →
    Opnd → Instr) × (Int → Int → Int))), ∃ (len1 addr1 len2 addr2 : Opnd) (s s1 s2 s3 s4 : State) (n m : Word16) (a b
    : Long), Ready e.1 s ∧ rdPlain .w len1 (past e.1 s) = .ok n s1 ∧ adrPlain .b addr1 s1 = .ok a s2 ∧ rdPlain .w len2
    s2 = .ok m s3 ∧ adrPlain .b addr2 s3 = .ok b s4 ∧ 31 < n.toNat ∧ s4.badPair a n.toNat b m.toNat :=
  ⟨_, row 1, (lit 32), (mem 0x2100), (lit 1), (mem 0x2100), wst, _, _, _, _, _, _, _, _, ready, rfl, rfl, rfl, rfl,
    by decide, .inl (by decide)⟩
theorem witness_DecimalArithmeticResults_13 :
    ∃ e ∈ ([(0x20, .addp4, fun x y => y + x), (0x22, .subp4, fun x y => y - x)] : List (Nat × (Opnd → Opnd → Opnd →
    Opnd → Instr) × (Int → Int → Int))), ∃ (len1 addr1 len2 addr2 : Opnd) (s s1 s2 s3 s4 : State) (n m : Word16) (a b
    : Long), Ready e.1 s ∧ rdPlain .w len1 (past e.1 s) = .ok n s1 ∧ adrPlain .b addr1 s1 = .ok a s2 ∧ rdPlain .w len2
    s2 = .ok m s3 ∧ adrPlain .b addr2 s3 = .ok b s4 ∧ 31 < m.toNat ∧ s4.badPair a n.toNat b m.toNat :=
  ⟨_, row 1, (lit 1), (mem 0x2100), (lit 32), (mem 0x2100), wst, _, _, _, _, _, _, _, _, ready, rfl, rfl, rfl, rfl,
    by decide, .inr (.inl (by decide))⟩
theorem witness_DecimalArithmeticResults_14 :
    ∃ e ∈ ([(0x20, .addp4, fun x y => y + x), (0x22, .subp4, fun x y => y - x)] : List (Nat × (Opnd → Opnd → Opnd →
    Opnd → Instr) × (Int → Int → Int))), ∃ (len1 addr1 len2 addr2 : Opnd) (s s1 s2 s3 s4 : State) (n m : Word16) (a b
    : Long), Ready e.1 s ∧ rdPlain .w len1 (past e.1 s) = .ok n s1 ∧ adrPlain .b addr1 s1 = .ok a s2 ∧ rdPlain .w len2
    s2 = .ok m s3 ∧ adrPlain .b addr2 s3 = .ok b s4 ∧ s4.badPair a n.toNat b m.toNat ∧ s4.notPacked a n.toNat :=
  ⟨_, row 1, (lit 1), (mem 0x2200), (lit 1), (mem 0x2100), wst, _, _, _, _, _, _, _, _, ready, rfl, rfl, rfl, rfl,
    .inr (.inr ⟨by decide, by decide, .inl ⟨[0x00], rfl, shows_one read_cc, rfl⟩⟩), ⟨[0x00], rfl, shows_one read_cc,
    rfl⟩⟩
theorem witness_DecimalArithmeticResults_15 :
    ∃ e ∈ ([(0x20, .addp4, fun x y => y + x), (0x22, .subp4, fun x y => y - x)] : List (Nat × (Opnd → Opnd → Opnd →
    Opnd → Instr) × (Int → Int → Int))), ∃ (len1 addr1 len2 addr2 : Opnd) (s s1 s2 s3 s4 : State) (n m : Word16) (a b
    : Long), Ready e.1 s ∧ rdPlain .w len1 (past e.1 s) = .ok n s1 ∧ adrPlain .b addr1 s1 = .ok a s2 ∧ rdPlain .w len2
    s2 = .ok m s3 ∧ adrPlain .b addr2 s3 = .ok b s4 ∧ s4.badPair a n.toNat b m.toNat ∧ s4.notPacked b m.toNat :=
  ⟨_, row 1, (lit 1), (mem 0x2100), (lit 1), (mem 0x2200), wst, _, _, _, _, _, _, _, _, ready, rfl, rfl, rfl, rfl,
    .inr (.inr ⟨by decide, by decide, .inr ⟨_, ⟨[0x7C], rfl, shows_one read_cc, rfl⟩, ⟨[0x00], rfl, shows_one read_cc,
    rfl⟩⟩⟩), ⟨[0x00], rfl, shows_one read_cc, rfl⟩⟩
theorem witness_DecimalArithmeticResults_16 :
    ∃ e ∈ ([(0x20, .addp4, fun x y => y + x), (0x22, .subp4, fun x y => y - x)] : List (Nat × (Opnd → Opnd → Opnd →
    Opnd → Instr) × (Int → Int → Int))), ∃ (len1 addr1 len2 addr2 : Opnd) (s s1 s2 s3 s4 : State) (n m : Word16) (a b
    : Long), Ready e.1 s ∧ rdPlain .w len1 (past e.1 s) = .ok n s1 ∧ adrPlain .b addr1 s1 = .ok a s2 ∧ rdPlain .w len2
    s2 = .ok m s3 ∧ adrPlain .b addr2 s3 = .ok b s4 ∧ ∃ (x y : Int) (s5 : State), n.toNat ≤ 31 ∧ m.toNat ≤ 31 ∧
    s4.packed a n.toNat x ∧ s4.packed b m.toNat y ∧ (packedString b m.toNat).clash (packedString a n.toNat) = false ∧
    s4.stores b (packedImage m.toNat (e.2.2 x y)) s5 :=
  ⟨_, row 1, (lit 1), (mem 0x2100), (lit 1), (mem 0x2200), { wst with mem := [(0x2100, 0x7C), (0x2200, 0x2C)] }, _, _,
    _, _, _, _, _, _, ready, rfl, rfl, rfl, rfl, _, _, _, by decide, by decide, ⟨[0x7C], rfl, shows_one read_cc, rfl⟩,
    ⟨[0x2C], rfl, shows_one read_cc, rfl⟩, rfl, ⟨_, _, rfl, rfl⟩⟩
theorem witness_DecimalArithmeticResults_17 :
    ∃ e ∈ ([(0x21, .addp6, fun x y => y + x), (0x23, .subp6, fun x y => y - x), (0x25, .mulp, fun x y => y * x),
    (0x27, .divp, fun x y => y.tdiv x)] : List (Nat × (Opnd → Opnd → Opnd → Opnd → Opnd → Opnd → Instr) × (Int → Int →
    Int))), ∃ (len1 addr1 len2 addr2 len3 addr3 : Opnd) (s s1 s2 s3 s4 s5 s6 : State) (n m k : Word16) (a b d : Long),
    Ready e.1 s ∧ rdPlain .w len1 (past e.1 s) = .ok n s1 ∧ adrPlain .b addr1 s1 = .ok a s2 ∧ rdPlain .w len2 s2 = .ok
    m s3 ∧ adrPlain .b addr2 s3 = .ok b s4 ∧ rdPlain .w len3 s4 = .ok k s5 ∧ adrPlain .b addr3 s5 = .ok d s6 ∧ 31 <
    k.toNat :=
  ⟨_, row 3, (lit 1), (mem 0x2100), (lit 1), (mem 0x2100), (lit 32), (mem 0x2400), wst, _, _, _, _, _, _, _, _, _, _,
    _, _, ready, rfl, rfl, rfl, rfl, rfl, rfl, by decide⟩
theorem witness_DecimalArithmeticResults_18 :
    ∃ e ∈ ([(0x21, .addp6, fun x y => y + x), (0x23, .subp6, fun x y => y - x), (0x25, .mulp, fun x y => y * x),
    (0x27, .divp, fun x y => y.tdiv x)] : List (Nat × (Opnd → Opnd → Opnd → Opnd → Opnd → Opnd → Instr) × (Int → Int →
    Int))), ∃ (len1 addr1 len2 addr2 len3 addr3 : Opnd) (s s1 s2 s3 s4 s5 s6 : State) (n m k : Word16) (a b d : Long),
    Ready e.1 s ∧ rdPlain .w len1 (past e.1 s) = .ok n s1 ∧ adrPlain .b addr1 s1 = .ok a s2 ∧ rdPlain .w len2 s2 = .ok
    m s3 ∧ adrPlain .b addr2 s3 = .ok b s4 ∧ rdPlain .w len3 s4 = .ok k s5 ∧ adrPlain .b addr3 s5 = .ok d s6 ∧ 31 <
    n.toNat :=
  ⟨_, row 0, (lit 32), (mem 0x2100), (lit 1), (mem 0x2100), (lit 1), (mem 0x2400), wst, _, _, _, _, _, _, _, _, _, _,
    _, _, ready, rfl, rfl, rfl, rfl, rfl, rfl, by decide⟩
theorem witness_DecimalArithmeticResults_19 :
    ∃ e ∈ ([(0x21, .addp6, fun x y => y + x), (0x23, .subp6, fun x y => y - x), (0x25, .mulp, fun x y => y * x),
    (0x27, .divp, fun x y => y.tdiv x)] : List (Nat × (Opnd → Opnd → Opnd → Opnd → Opnd → Opnd → Instr) × (Int → Int →
    Int))), ∃ (len1 addr1 len2 addr2 len3 addr3 : Opnd) (s s1 s2 s3 s4 s5 s6 : State) (n m k : Word16) (a b d : Long),
    Ready e.1 s ∧ rdPlain .w len1 (past e.1 s) = .ok n s1 ∧ adrPlain .b addr1 s1 = .ok a s2 ∧ rdPlain .w len2 s2 = .ok
    m s3 ∧ adrPlain .b addr2 s3 = .ok b s4 ∧ rdPlain .w len3 s4 = .ok k s5 ∧ adrPlain .b addr3 s5 = .ok d s6 ∧ 31 <
    m.toNat :=
  ⟨_, row 2, (lit 1), (mem 0x2100), (lit 32), (mem 0x2100), (lit 1), (mem 0x2400), wst, _, _, _, _, _, _, _, _, _, _,
    _, _, ready, rfl, rfl, rfl, rfl, rfl, rfl, by decide⟩
theorem witness_DecimalArithmeticResults_20 :
    ∃ e ∈ ([(0x21, .addp6, fun x y => y + x), (0x23, .subp6, fun x y => y - x), (0x25, .mulp, fun x y => y * x),
    (0x27, .divp, fun x y => y.tdiv x)] : List (Nat × (Opnd → Opnd → Opnd → Opnd → Opnd → Opnd → Instr) × (Int → Int →
    Int))), ∃ (len1 addr1 len2 addr2 len3 addr3 : Opnd) (s s1 s2 s3 s4 s5 s6 : State) (n m k : Word16) (a b d : Long),
    Ready e.1 s ∧ rdPlain .w len1 (past e.1 s) = .ok n s1 ∧ adrPlain .b addr1 s1 = .ok a s2 ∧ rdPlain .w len2 s2 = .ok
    m s3 ∧ adrPlain .b addr2 s3 = .ok b s4 ∧ rdPlain .w len3 s4 = .ok k s5 ∧ adrPlain .b addr3 s5 = .ok d s6 ∧ n.toNat
    ≤ 31 ∧ m.toNat ≤ 31 ∧ k.toNat ≤ 31 ∧ s6.notPacked a n.toNat :=
  ⟨_, row 3, (lit 1), (mem 0x2200), (lit 1), (mem 0x2100), (lit 1), (mem 0x2400), wst, _, _, _, _, _, _, _, _, _, _,
    _, _, ready, rfl, rfl, rfl, rfl, rfl, rfl, by decide, by decide, by decide, ⟨[0x00], rfl, shows_one read_cc, rfl⟩⟩
theorem witness_DecimalArithmeticResults_21 :
    ∃ e ∈ ([(0x21, .addp6, fun x y => y + x), (0x23, .subp6, fun x y => y - x), (0x25, .mulp, fun x y => y * x),
    (0x27, .divp, fun x y => y.tdiv x)] : List (Nat × (Opnd → Opnd → Opnd → Opnd → Opnd → Opnd → Instr) × (Int → Int →
    Int))), ∃ (len1 addr1 len2 addr2 len3 addr3 : Opnd) (s s1 s2 s3 s4 s5 s6 : State) (n m k : Word16) (a b d : Long),
    Ready e.1 s ∧ rdPlain .w len1 (past e.1 s) = .ok n s1 ∧ adrPlain .b addr1 s1 = .ok a s2 ∧ rdPlain .w len2 s2 = .ok
    m s3 ∧ adrPlain .b addr2 s3 = .ok b s4 ∧ rdPlain .w len3 s4 = .ok k s5 ∧ adrPlain .b addr3 s5 = .ok d s6 ∧ n.toNat
    ≤ 31 ∧ m.toNat ≤ 31 ∧ k.toNat ≤ 31 ∧ ∃ x : Int, s6.packed a n.toNat x ∧ (e.1 = 0x27 → x ≠ 0) ∧ s6.notPacked b
    m.toNat :=
  ⟨_, row 3, (lit 1), (mem 0x2100), (lit 1), (mem 0x2200), (lit 1), (mem 0x2400), wst, _, _, _, _, _, _, _, _, _, _,
    _, _, ready, rfl, rfl, rfl, rfl, rfl, rfl, by decide, by decide, by decide, _, ⟨[0x7C], rfl, shows_one read_cc,
    rfl⟩, (fun _ => by decide), ⟨[0x00], rfl, shows_one read_cc, rfl⟩⟩
theorem witness_DecimalArithmeticResults_22 :
    ∃ e ∈ ([(0x21, .addp6, fun x y => y + x), (0x23, .subp6, fun x y => y - x), (0x25, .mulp, fun x y => y * x),
    (0x27, .divp, fun x y => y.tdiv x)] : List (Nat × (Opnd → Opnd → Opnd → Opnd → Opnd → Opnd → Instr) × (Int → Int →
    Int))), ∃ (len1 addr1 len2 addr2 len3 addr3 : Opnd) (s s1 s2 s3 s4 s5 s6 : State) (n m k : Word16) (a b d : Long),
    Ready e.1 s ∧ rdPlain .w len1 (past e.1 s) = .ok n s1 ∧ adrPlain .b addr1 s1 = .ok a s2 ∧ rdPlain .w len2 s2 = .ok
    m s3 ∧ adrPlain .b addr2 s3 = .ok b s4 ∧ rdPlain .w len3 s4 = .ok k s5 ∧ adrPlain .b addr3 s5 = .ok d s6 ∧ n.toNat
    ≤ 31 ∧ m.toNat ≤ 31 ∧ k.toNat ≤ 31 ∧ ∃ (x y : Int) (s7 : State), s6.packed a n.toNat x ∧ (e.1 = 0x27 → x ≠ 0) ∧
    s6.packed b m.toNat y ∧ (packedString d k.toNat).clash (packedString a n.toNat) = false ∧ (packedString d
    k.toNat).clash (packedString b m.toNat) = false ∧ s6.stores d (packedImage k.toNat (e.2.2 x y)) s7 :=
  ⟨_, row 3, (lit 1), (mem 0x2100), (lit 1), (mem 0x2100), (lit 1), (mem 0x2400), wst, _, _, _, _, _, _, _, _, _, _,
    _, _, ready, rfl, rfl, rfl, rfl, rfl, rfl, by decide, by decide, by decide, _, _, _, ⟨[0x7C], rfl, shows_one
    read_cc, rfl⟩, (fun _ => by decide), ⟨[0x7C], rfl, shows_one read_cc, rfl⟩, rfl, rfl, ⟨_, _, rfl, rfl⟩⟩
theorem witness_DecimalArithmeticResults_23 :
    ∃ e ∈ ([(0x21, .addp6, fun x y => y + x), (0x23, .subp6, fun x y => y - x), (0x25, .mulp, fun x y => y * x),
    (0x27, .divp, fun x y => y.tdiv x)] : List (Nat × (Opnd → Opnd → Opnd → Opnd → Opnd → Opnd → Instr) × (Int → Int →
    Int))), ∃ (len1 addr1 len2 addr2 len3 addr3 : Opnd) (s s1 s2 s3 s4 s5 s6 : State) (n m k : Word16) (a b d : Long),
    Ready e.1 s ∧ rdPlain .w len1 (past e.1 s) = .ok n s1 ∧ adrPlain .b addr1 s1 = .ok a s2 ∧ rdPlain .w len2 s2 = .ok
    m s3 ∧ adrPlain .b addr2 s3 = .ok b s4 ∧ rdPlain .w len3 s4 = .ok k s5 ∧ adrPlain .b addr3 s5 = .ok d s6 ∧ n.toNat
    ≤ 31 ∧ m.toNat ≤ 31 ∧ k.toNat ≤ 31 ∧ e.1 = 0x27 ∧ s6.packed a n.toNat 0 ∧ ∃ (dest : List Nat) (s7 : State),
    destBytes d (packedLen k.toNat) s6 = .ok dest s7 ∧ s7.during = [] ∧ (∀ p ∈ dest, place s7 p = .ram) :=
  ⟨_, row 3, (lit 1), (mem 0x2500), (lit 1), (mem 0x2100), (lit 1), (mem 0x2400), { wst with mem := [(0x2100, 0x7C),
    (0x2500, 0x0C)] }, _, _, _, _, _, _, _, _, _, _, _, _, ready, rfl, rfl, rfl, rfl, rfl, rfl, by decide, by decide,
    by decide, rfl, ⟨[0x0C], rfl, shows_one read_cc, rfl⟩, _, _, rfl, rfl,
    (fun p hp => by cases List.mem_singleton.1 hp; rfl)⟩
theorem witness_DecimalArithmeticResults_24 :
    ∃ (cnt srclen srcaddr round dstlen dstaddr : Opnd) (s s1 s2 s3 s4 s5 s6 : State) (k r : Byte) (n m : Word16) (a d
    : Long), Ready 0xF8 s ∧ rdPlain .b cnt (past 0xF8 s) = .ok k s1 ∧ rdPlain .w srclen s1 = .ok n s2 ∧ adrPlain .b
    srcaddr s2 = .ok a s3 ∧ rdPlain .b round s3 = .ok r s4 ∧ rdPlain .w dstlen s4 = .ok m s5 ∧ adrPlain .b dstaddr s5
    = .ok d s6 ∧ 31 < n.toNat :=
  ⟨(imm 0xFF), (lit 32), (mem 0x2100), (lit 5), (lit 1), (mem 0x2200), wst, _, _, _, _, _, _, _, _, _, _, _, _, ready,
    rfl, rfl, rfl, rfl, rfl, rfl, by decide⟩
theorem witness_DecimalArithmeticResults_25 :
    ∃ (cnt srclen srcaddr round dstlen dstaddr : Opnd) (s s1 s2 s3 s4 s5 s6 : State) (k r : Byte) (n m : Word16) (a d
    : Long), Ready 0xF8 s ∧ rdPlain .b cnt (past 0xF8 s) = .ok k s1 ∧ rdPlain .w srclen s1 = .ok n s2 ∧ adrPlain .b
    srcaddr s2 = .ok a s3 ∧ rdPlain .b round s3 = .ok r s4 ∧ rdPlain .w dstlen s4 = .ok m s5 ∧ adrPlain .b dstaddr s5
    = .ok d s6 ∧ 31 < m.toNat :=
  ⟨(imm 0xFF), (lit 1), (mem 0x2100), (lit 5), (lit 32), (mem 0x2200), wst, _, _, _, _, _, _, _, _, _, _, _, _, ready,
    rfl, rfl, rfl, rfl, rfl, rfl, by decide⟩
theorem witness_DecimalArithmeticResults_26 :
    ∃ (cnt srclen srcaddr round dstlen dstaddr : Opnd) (s s1 s2 s3 s4 s5 s6 : State) (k r : Byte) (n m : Word16) (a d
    : Long), Ready 0xF8 s ∧ rdPlain .b cnt (past 0xF8 s) = .ok k s1 ∧ rdPlain .w srclen s1 = .ok n s2 ∧ adrPlain .b
    srcaddr s2 = .ok a s3 ∧ rdPlain .b round s3 = .ok r s4 ∧ rdPlain .w dstlen s4 = .ok m s5 ∧ adrPlain .b dstaddr s5
    = .ok d s6 ∧ n.toNat ≤ 31 ∧ m.toNat ≤ 31 ∧ s6.notPacked a n.toNat :=
  ⟨(imm 0xFF), (lit 1), (mem 0x2300), (lit 5), (lit 1), (mem 0x2200), wst, _, _, _, _, _, _, _, _, _, _, _, _, ready,
    rfl, rfl, rfl, rfl, rfl, rfl, by decide, by decide, ⟨[0x00], rfl, shows_one read_cc, rfl⟩⟩
theorem witness_DecimalArithmeticResults_27 :
    ∃ (cnt srclen srcaddr round dstlen dstaddr : Opnd) (s s1 s2 s3 s4 s5 s6 : State) (k r : Byte) (n m : Word16) (a d
    : Long), Ready 0xF8 s ∧ rdPlain .b cnt (past 0xF8 s) = .ok k s1 ∧ rdPlain .w srclen s1 = .ok n s2 ∧ adrPlain .b
    srcaddr s2 = .ok a s3 ∧ rdPlain .b round s3 = .ok r s4 ∧ rdPlain .w dstlen s4 = .ok m s5 ∧ adrPlain .b dstaddr s5
    = .ok d s6 ∧ ∃ (v w : Int) (s7 : State), n.toNat ≤ 31 ∧ m.toNat ≤ 31 ∧ s6.packed a n.toNat v ∧ w = (if 0 ≤ k.toInt
    then v * 10 ^ k.toInt.toNat else if v < 0 then -(((v.natAbs + r.toNat % 16 * 10 ^ ((-k.toInt).toNat - 1)) / 10 ^
    (-k.toInt).toNat : Nat) : Int) else ((v.natAbs + r.toNat % 16 * 10 ^ ((-k.toInt).toNat - 1)) / 10 ^
    (-k.toInt).toNat : Nat)) ∧ (packedString d m.toNat).clash (packedString a n.toNat) = false ∧ s6.stores d
    (packedImage m.toNat w) s7 ∧ k.toInt < 0 :=
  ⟨(imm 0xFF), (lit 1), (mem 0x2100), (lit 5), (lit 1), (mem 0x2200), wst, _, _, _, _, _, _, _, _, _, _, _, _, ready,
    rfl, rfl, rfl, rfl, rfl, rfl, _, _, _, by decide, by decide, ⟨[0x7C], rfl, shows_one read_cc, rfl⟩, rfl, rfl, ⟨_, _,
    rfl, rfl⟩, by decide⟩
theorem witness_DecimalArithmeticResults_28 :
    ∃ (cnt srclen srcaddr round dstlen dstaddr : Opnd) (s s1 s2 s3 s4 s5 s6 : State) (k r : Byte) (n m : Word16) (a d
    : Long), Ready 0xF8 s ∧ rdPlain .b cnt (past 0xF8 s) = .ok k s1 ∧ rdPlain .w srclen s1 = .ok n s2 ∧ adrPlain .b
    srcaddr s2 = .ok a s3 ∧ rdPlain .b round s3 = .ok r s4 ∧ rdPlain .w dstlen s4 = .ok m s5 ∧ adrPlain .b dstaddr s5
    = .ok d s6 ∧ ∃ (v w : Int) (s7 : State), n.toNat ≤ 31 ∧ m.toNat ≤ 31 ∧ s6.packed a n.toNat v ∧ w = (if 0 ≤ k.toInt
    then v * 10 ^ k.toInt.toNat else if v < 0 then -(((v.natAbs + r.toNat % 16 * 10 ^ ((-k.toInt).toNat - 1)) / 10 ^
    (-k.toInt).toNat : Nat) : Int) else ((v.natAbs + r.toNat % 16 * 10 ^ ((-k.toInt).toNat - 1)) / 10 ^
    (-k.toInt).toNat : Nat)) ∧ (packedString d m.toNat).clash (packedString a n.toNat) = false ∧ s6.stores d
    (packedImage m.toNat w) s7 ∧ 0 ≤ k.toInt ∧ 10 ^ m.toNat ≤ w.natAbs :=
  ⟨(imm 1), (lit 1), (mem 0x2100), (lit 5), (lit 1), (mem 0x2200), wst, _, _, _, _, _, _, _, _, _, _, _, _, ready,
    rfl, rfl, rfl, rfl, rfl, rfl, _, _, _, by decide, by decide, ⟨[0x7C], rfl, shows_one read_cc, rfl⟩, rfl, rfl, ⟨_, _,
    rfl, rfl⟩, by decide, by decide⟩
theorem witness_DecimalConversionResults_0 :
    ∃ (src dstlen dstaddr : Opnd) (s s1 s2 s3 : State) (x : Long) (m : Word16) (d : Long), Ready 0xF9 s ∧ rdPlain .l
    src (past 0xF9 s) = .ok x s1 ∧ rdPlain .w dstlen s1 = .ok m s2 ∧ adrPlain .b dstaddr s2 = .ok d s3 ∧ 31 < m.toNat :=
  ⟨(lit 5), (lit 32), (mem 0x2200), wst, _, _, _, _, _, _, ready, rfl, rfl, rfl, by decide⟩
theorem witness_DecimalConversionResults_1 :
    ∃ (src dstlen dstaddr : Opnd) (s s1 s2 s3 : State) (x : Long) (m : Word16) (d : Long), Ready 0xF9 s ∧ rdPlain .l
    src (past 0xF9 s) = .ok x s1 ∧ rdPlain .w dstlen s1 = .ok m s2 ∧ adrPlain .b dstaddr s2 = .ok d s3 ∧ ∃ s4, m.toNat
    ≤ 31 ∧ s3.stores d (packedImage m.toNat x.toInt) s4 :=
  ⟨(lit 5), (lit 1), (mem 0x2200), wst, _, _, _, _, _, _, ready, rfl, rfl, rfl, _, by decide, ⟨_, _, rfl, rfl⟩⟩
theorem witness_DecimalConversionResults_2 :
    ∃ (srclen srcaddr dst : Opnd) (s s1 s2 : State) (n : Word16) (a : Long), Ready 0x36 s ∧ rdPlain .w srclen (past
    0x36 s) = .ok n s1 ∧ adrPlain .b srcaddr s1 = .ok a s2 ∧ 31 < n.toNat :=
  ⟨(lit 32), (mem 0x2100), (reg 0), wst, _, _, _, _, ready, rfl, rfl, by decide⟩
theorem witness_DecimalConversionResults_3 :
    ∃ (srclen srcaddr dst : Opnd) (s s1 s2 : State) (n : Word16) (a : Long), Ready 0x36 s ∧ rdPlain .w srclen (past
    0x36 s) = .ok n s1 ∧ adrPlain .b srcaddr s1 = .ok a s2 ∧ n.toNat ≤ 31 ∧ s2.notPacked a n.toNat :=
  ⟨(lit 1), (mem 0x2200), (reg 0), wst, _, _, _, _, ready, rfl, rfl, by decide, ⟨[0x00], rfl, shows_one read_cc, rfl⟩⟩
theorem witness_DecimalConversionResults_4 :
    ∃ (srclen srcaddr dst : Opnd) (s s1 s2 : State) (n : Word16) (a : Long), Ready 0x36 s ∧ rdPlain .w srclen (past
    0x36 s) = .ok n s1 ∧ adrPlain .b srcaddr s1 = .ok a s2 ∧ ∃ (v : Int) (d : Dest) (o : Bool) (s3 s4 : State),
    n.toNat ≤ 31 ∧ s2.packed a n.toNat v ∧ wrPlain .l dst (s2.withRegs [0, a, 0, 0]) = .ok d s3 ∧ storePlain .l d
    (BitVec.ofInt 32 v) s3 = .ok ⟨⟩ s4 ∧ o = decide ((BitVec.ofInt 32 v).toInt ≠ v) :=
  ⟨(lit 1), (mem 0x2100), (reg 0), wst, _, _, _, _, ready, rfl, rfl, _, _, _, _, _, by decide, ⟨[0x7C], rfl, shows_one
    read_cc, rfl⟩, rfl, rfl, rfl⟩
theorem witness_DecimalConversionResults_5 :
    ∃ (srclen srcaddr dstlen dstaddr : Opnd) (s s1 s2 s3 s4 : State) (n m : Word16) (a d : Long), Ready 0x08 s ∧
    rdPlain .w srclen (past 0x08 s) = .ok n s1 ∧ adrPlain .b srcaddr s1 = .ok a s2 ∧ rdPlain .w dstlen s2 = .ok m s3 ∧
    adrPlain .b dstaddr s3 = .ok d s4 ∧ 31 < n.toNat :=
  ⟨(lit 32), (mem 0x2100), (lit 1), (mem 0x2400), wst, _, _, _, _, _, _, _, _, ready, rfl, rfl, rfl, rfl, by decide⟩
theorem witness_DecimalConversionResults_6 :
    ∃ (srclen srcaddr dstlen dstaddr : Opnd) (s s1 s2 s3 s4 : State) (n m : Word16) (a d : Long), Ready 0x08 s ∧
    rdPlain .w srclen (past 0x08 s) = .ok n s1 ∧ adrPlain .b srcaddr s1 = .ok a s2 ∧ rdPlain .w dstlen s2 = .ok m s3 ∧
    adrPlain .b dstaddr s3 = .ok d s4 ∧ 31 < m.toNat :=
  ⟨(lit 1), (mem 0x2100), (lit 32), (mem 0x2400), wst, _, _, _, _, _, _, _, _, ready, rfl, rfl, rfl, rfl, by decide⟩
theorem witness_DecimalConversionResults_7 :
    ∃ (srclen srcaddr dstlen dstaddr : Opnd) (s s1 s2 s3 s4 : State) (n m : Word16) (a d : Long), Ready 0x08 s ∧
    rdPlain .w srclen (past 0x08 s) = .ok n s1 ∧ adrPlain .b srcaddr s1 = .ok a s2 ∧ rdPlain .w dstlen s2 = .ok m s3 ∧
    adrPlain .b dstaddr s3 = .ok d s4 ∧ n.toNat ≤ 31 ∧ m.toNat ≤ 31 ∧ s4.notPacked a n.toNat :=
  ⟨(lit 1), (mem 0x2200), (lit 1), (mem 0x2400), wst, _, _, _, _, _, _, _, _, ready, rfl, rfl, rfl, rfl, by decide,
    by decide, ⟨[0x00], rfl, shows_one read_cc, rfl⟩⟩
theorem witness_DecimalConversionResults_8 :
    ∃ (srclen srcaddr dstlen dstaddr : Opnd) (s s1 s2 s3 s4 : State) (n m : Word16) (a d : Long), Ready 0x08 s ∧
    rdPlain .w srclen (past 0x08 s) = .ok n s1 ∧ adrPlain .b srcaddr s1 = .ok a s2 ∧ rdPlain .w dstlen s2 = .ok m s3 ∧
    adrPlain .b dstaddr s3 = .ok d s4 ∧ ∃ (v : Int) (s5 : State), n.toNat ≤ 31 ∧ m.toNat ≤ 31 ∧ s4.packed a n.toNat v
    ∧ DecString.clash ⟨d, m.toNat, m.toNat + 1⟩ (packedString a n.toNat) = false ∧ s4.stores d ((if v < 0 then 0x2D
    else 0x2B) :: (digitsOf m.toNat v.natAbs).map fun k => BitVec.ofNat 8 (0x30 + k)) s5 :=
  ⟨(lit 1), (mem 0x2100), (lit 1), (mem 0x2400), wst, _, _, _, _, _, _, _, _, ready, rfl, rfl, rfl, rfl, _, _,
    by decide, by decide, ⟨[0x7C], rfl, shows_one read_cc, rfl⟩, rfl, ⟨_, _, rfl, rfl⟩⟩
theorem witness_DecimalConversionResults_9 :
    ∃ (srclen srcaddr dstlen dstaddr : Opnd) (s s1 s2 s3 s4 : State) (n m : Word16) (a d : Long), Ready 0x09 s ∧
    rdPlain .w srclen (past 0x09 s) = .ok n s1 ∧ adrPlain .b srcaddr s1 = .ok a s2 ∧ rdPlain .w dstlen s2 = .ok m s3 ∧
    adrPlain .b dstaddr s3 = .ok d s4 ∧ 31 < n.toNat :=
  ⟨(lit 32), (mem 0x2100), (lit 1), (mem 0x2400), wst, _, _, _, _, _, _, _, _, ready, rfl, rfl, rfl, rfl, by decide⟩
theorem witness_DecimalConversionResults_10 :
    ∃ (srclen srcaddr dstlen dstaddr : Opnd) (s s1 s2 s3 s4 : State) (n m : Word16) (a d : Long), Ready 0x09 s ∧
    rdPlain .w srclen (past 0x09 s) = .ok n s1 ∧ adrPlain .b srcaddr s1 = .ok a s2 ∧ rdPlain .w dstlen s2 = .ok m s3 ∧
    adrPlain .b dstaddr s3 = .ok d s4 ∧ 31 < m.toNat :=
  ⟨(lit 1), (mem 0x2100), (lit 32), (mem 0x2400), wst, _, _, _, _, _, _, _, _, ready, rfl, rfl, rfl, rfl, by decide⟩
theorem witness_DecimalConversionResults_11 :
    ∃ (srclen srcaddr dstlen dstaddr : Opnd) (s s1 s2 s3 s4 : State) (n m : Word16) (a d : Long), Ready 0x09 s ∧
    rdPlain .w srclen (past 0x09 s) = .ok n s1 ∧ adrPlain .b srcaddr s1 = .ok a s2 ∧ rdPlain .w dstlen s2 = .ok m s3 ∧
    adrPlain .b dstaddr s3 = .ok d s4 ∧ ∃ bs : List Byte, n.toNat ≤ 31 ∧ m.toNat ≤ 31 ∧ bs.length = n.toNat + 1 ∧
    s4.shows a bs ∧ separateValue bs = none :=
  ⟨(lit 1), (mem 0x2000), (lit 1), (mem 0x2400), wst, _, _, _, _, _, _, _, _, ready, rfl, rfl, rfl, rfl, [0x11, 0x22],
    by decide, by decide, rfl, (shows_two read_cc read_cc), rfl⟩
theorem witness_DecimalConversionResults_12 :
    ∃ (srclen srcaddr dstlen dstaddr : Opnd) (s s1 s2 s3 s4 : State) (n m : Word16) (a d : Long), Ready 0x09 s ∧
    rdPlain .w srclen (past 0x09 s) = .ok n s1 ∧ adrPlain .b srcaddr s1 = .ok a s2 ∧ rdPlain .w dstlen s2 = .ok m s3 ∧
    adrPlain .b dstaddr s3 = .ok d s4 ∧ ∃ (bs : List Byte) (v : Int) (s5 : State), n.toNat ≤ 31 ∧ m.toNat ≤ 31 ∧
    bs.length = n.toNat + 1 ∧ s4.shows a bs ∧ separateValue bs = some v ∧ DecString.clash (packedString d m.toNat) ⟨a,
    n.toNat, n.toNat + 1⟩ = false ∧ s4.stores d (packedImage m.toNat v) s5 :=
  ⟨(lit 1), (mem 0x2100), (lit 1), (mem 0x2400), { wst with mem := [(0x2100, 0x2D), (0x2101, 0x35)] }, _, _, _, _, _,
    _, _, _, ready, rfl, rfl, rfl, rfl, [0x2D, 0x35], _, _, by decide, by decide, rfl, (shows_two read_cc read_cc), rfl,
    rfl, ⟨_, _, rfl, rfl⟩⟩
theorem witness_DecimalConversionResults_13 :
    ∃ (srclen srcaddr tbladdr dstlen dstaddr : Opnd) (s s1 s2 s3 s4 s5 : State) (n m : Word16) (a t d : Long), Ready
    0x24 s ∧ rdPlain .w srclen (past 0x24 s) = .ok n s1 ∧ adrPlain .b srcaddr s1 = .ok a s2 ∧ adrPlain .b tbladdr s2 =
    .ok t s3 ∧ rdPlain .w dstlen s3 = .ok m s4 ∧ adrPlain .b dstaddr s4 = .ok d s5 ∧ 31 < n.toNat :=
  ⟨(lit 32), (mem 0x2100), (mem 0x2300), (lit 1), (mem 0x2400), wst, _, _, _, _, _, _, _, _, _, _, ready, rfl, rfl,
    rfl, rfl, rfl, by decide⟩
theorem witness_DecimalConversionResults_14 :
    ∃ (srclen srcaddr tbladdr dstlen dstaddr : Opnd) (s s1 s2 s3 s4 s5 : State) (n m : Word16) (a t d : Long), Ready
    0x24 s ∧ rdPlain .w srclen (past 0x24 s) = .ok n s1 ∧ adrPlain .b srcaddr s1 = .ok a s2 ∧ adrPlain .b tbladdr s2 =
    .ok t s3 ∧ rdPlain .w dstlen s3 = .ok m s4 ∧ adrPlain .b dstaddr s4 = .ok d s5 ∧ 31 < m.toNat :=
  ⟨(lit 1), (mem 0x2100), (mem 0x2300), (lit 32), (mem 0x2400), wst, _, _, _, _, _, _, _, _, _, _, ready, rfl, rfl,
    rfl, rfl, rfl, by decide⟩
theorem witness_DecimalConversionResults_15 :
    ∃ (srclen srcaddr tbladdr dstlen dstaddr : Opnd) (s s1 s2 s3 s4 s5 : State) (n m : Word16) (a t d : Long), Ready
    0x24 s ∧ rdPlain .w srclen (past 0x24 s) = .ok n s1 ∧ adrPlain .b srcaddr s1 = .ok a s2 ∧ adrPlain .b tbladdr s2 =
    .ok t s3 ∧ rdPlain .w dstlen s3 = .ok m s4 ∧ adrPlain .b dstaddr s4 = .ok d s5 ∧ n.toNat ≤ 31 ∧ m.toNat ≤ 31 ∧
    s5.notPacked a n.toNat :=
  ⟨(lit 1), (mem 0x2200), (mem 0x2300), (lit 1), (mem 0x2400), wst, _, _, _, _, _, _, _, _, _, _, ready, rfl, rfl,
    rfl, rfl, rfl, by decide, by decide, ⟨[0x00], rfl, shows_one read_cc, rfl⟩⟩
theorem witness_DecimalConversionResults_16 :
    ∃ (srclen srcaddr tbladdr dstlen dstaddr : Opnd) (s s1 s2 s3 s4 s5 : State) (n m : Word16) (a t d : Long), Ready
    0x24 s ∧ rdPlain .w srclen (past 0x24 s) = .ok n s1 ∧ adrPlain .b srcaddr s1 = .ok a s2 ∧ adrPlain .b tbladdr s2 =
    .ok t s3 ∧ rdPlain .w dstlen s3 = .ok m s4 ∧ adrPlain .b dstaddr s4 = .ok d s5 ∧ ∃ v : Int, n.toNat ≤ 31 ∧ m.toNat
    ≤ 31 ∧ s5.packed a n.toNat v ∧ m.toNat = 0 :=
  ⟨(lit 1), (mem 0x2100), (mem 0x2300), (lit 0), (mem 0x2400), wst, _, _, _, _, _, _, _, _, _, _, ready, rfl, rfl,
    rfl, rfl, rfl, _, by decide, by decide, ⟨[0x7C], rfl, shows_one read_cc, rfl⟩, rfl⟩
theorem witness_DecimalConversionResults_17 :
    ∃ (srclen srcaddr tbladdr dstlen dstaddr : Opnd) (s s1 s2 s3 s4 s5 : State) (n m : Word16) (a t d : Long), Ready
    0x24 s ∧ rdPlain .w srclen (past 0x24 s) = .ok n s1 ∧ adrPlain .b srcaddr s1 = .ok a s2 ∧ adrPlain .b tbladdr s2 =
    .ok t s3 ∧ rdPlain .w dstlen s3 = .ok m s4 ∧ adrPlain .b dstaddr s4 = .ok d s5 ∧ ∃ (v : Int) (x : Byte) (s6 :
    State), n.toNat ≤ 31 ∧ m.toNat ≤ 31 ∧ s5.packed a n.toNat v ∧ 0 < m.toNat ∧ s5.shows (t + long (v.natAbs % 10 * 16
    + if v < 0 then 13 else 12)) [x] ∧ DecString.clash ⟨d, m.toNat, m.toNat⟩ (packedString a n.toNat) = false ∧
    s5.stores d (((digitsOf (m.toNat - 1) (v.natAbs / 10)).map fun k => BitVec.ofNat 8 (0x30 + k)) ++ [x]) s6 :=
  ⟨(lit 1), (mem 0x2100), (mem 0x2300), (lit 1), (mem 0x2400), wst, _, _, _, _, _, _, _, _, _, _, ready, rfl, rfl,
    rfl, rfl, rfl, _, 0, _, by decide, by decide, ⟨[0x7C], rfl, shows_one read_cc, rfl⟩, by decide, (shows_one read_cc),
    rfl, ⟨_, _, rfl, rfl⟩⟩
theorem witness_DecimalConversionResults_18 :
    ∃ (srclen srcaddr tbladdr dstlen dstaddr : Opnd) (s s1 s2 s3 s4 s5 : State) (n m : Word16) (a t d : Long), Ready
    0x26 s ∧ rdPlain .w srclen (past 0x26 s) = .ok n s1 ∧ adrPlain .b srcaddr s1 = .ok a s2 ∧ adrPlain .b tbladdr s2 =
    .ok t s3 ∧ rdPlain .w dstlen s3 = .ok m s4 ∧ adrPlain .b dstaddr s4 = .ok d s5 ∧ 31 < n.toNat :=
  ⟨(lit 32), (mem 0x2100), (mem 0x2300), (lit 1), (mem 0x2400), wst, _, _, _, _, _, _, _, _, _, _, ready, rfl, rfl,
    rfl, rfl, rfl, by decide⟩
theorem witness_DecimalConversionResults_19 :
    ∃ (srclen srcaddr tbladdr dstlen dstaddr : Opnd) (s s1 s2 s3 s4 s5 : State) (n m : Word16) (a t d : Long), Ready
    0x26 s ∧ rdPlain .w srclen (past 0x26 s) = .ok n s1 ∧ adrPlain .b srcaddr s1 = .ok a s2 ∧ adrPlain .b tbladdr s2 =
    .ok t s3 ∧ rdPlain .w dstlen s3 = .ok m s4 ∧ adrPlain .b dstaddr s4 = .ok d s5 ∧ 31 < m.toNat :=
  ⟨(lit 1), (mem 0x2100), (mem 0x2300), (lit 32), (mem 0x2400), wst, _, _, _, _, _, _, _, _, _, _, ready, rfl, rfl,
    rfl, rfl, rfl, by decide⟩
theorem witness_DecimalConversionResults_20 :
    ∃ (srclen srcaddr tbladdr dstlen dstaddr : Opnd) (s s1 s2 s3 s4 s5 : State) (n m : Word16) (a t d : Long), Ready
    0x26 s ∧ rdPlain .w srclen (past 0x26 s) = .ok n s1 ∧ adrPlain .b srcaddr s1 = .ok a s2 ∧ adrPlain .b tbladdr s2 =
    .ok t s3 ∧ rdPlain .w dstlen s3 = .ok m s4 ∧ adrPlain .b dstaddr s4 = .ok d s5 ∧ n.toNat = 0 ∧ m.toNat ≤ 31 ∧ ∃
    s6, s5.stores d (packedImage m.toNat 0) s6 :=
  ⟨(lit 0), (mem 0x2100), (mem 0x2300), (lit 1), (mem 0x2400), wst, _, _, _, _, _, _, _, _, _, _, ready, rfl, rfl,
    rfl, rfl, rfl, rfl, by decide, _, ⟨_, _, rfl, rfl⟩⟩
theorem witness_DecimalConversionResults_21 :
    ∃ (srclen srcaddr tbladdr dstlen dstaddr : Opnd) (s s1 s2 s3 s4 s5 : State) (n m : Word16) (a t d : Long), Ready
    0x26 s ∧ rdPlain .w srclen (past 0x26 s) = .ok n s1 ∧ adrPlain .b srcaddr s1 = .ok a s2 ∧ adrPlain .b tbladdr s2 =
    .ok t s3 ∧ rdPlain .w dstlen s3 = .ok m s4 ∧ adrPlain .b dstaddr s4 = .ok d s5 ∧ ∃ (lead : List Byte) (k y :
    Byte), n.toNat ≤ 31 ∧ m.toNat ≤ 31 ∧ lead.length + 1 = n.toNat ∧ s5.shows a (lead ++ [k]) ∧ s5.shows (t +
    k.setWidth 32) [y] ∧ trailingValue lead y = none :=
  ⟨(lit 1), (mem 0x2000), (mem 0x2300), (lit 1), (mem 0x2400), wst, _, _, _, _, _, _, _, _, _, _, ready, rfl, rfl,
    rfl, rfl, rfl, [], 0x11, 0, by decide, by decide, rfl, (shows_one read_cc), (shows_one read_cc), rfl⟩
theorem witness_DecimalConversionResults_22 :
    ∃ (srclen srcaddr tbladdr dstlen dstaddr : Opnd) (s s1 s2 s3 s4 s5 : State) (n m : Word16) (a t d : Long), Ready
    0x26 s ∧ rdPlain .w srclen (past 0x26 s) = .ok n s1 ∧ adrPlain .b srcaddr s1 = .ok a s2 ∧ adrPlain .b tbladdr s2 =
    .ok t s3 ∧ rdPlain .w dstlen s3 = .ok m s4 ∧ adrPlain .b dstaddr s4 = .ok d s5 ∧ ∃ (lead : List Byte) (k y :
    Byte), n.toNat ≤ 31 ∧ m.toNat ≤ 31 ∧ lead.length + 1 = n.toNat ∧ s5.shows a (lead ++ [k]) ∧ s5.shows (t +
    k.setWidth 32) [y] ∧ trailingValue lead y = none :=
  ⟨(lit 2), (mem 0x2000), (mem 0x2300), (lit 1), (mem 0x2400), { wst with mem := [(0x2000, 0x11), (0x2001, 0x22),
    (0x2322, 0x5C)] }, _, _, _, _, _, _, _, _, _, _, ready, rfl, rfl, rfl, rfl, rfl, [0x11], 0x22, 0x5C, by decide,
    by decide, rfl, (shows_two read_cc read_cc), (shows_one read_cc), rfl⟩
theorem witness_DecimalConversionResults_23 :
    ∃ (srclen srcaddr tbladdr dstlen dstaddr : Opnd) (s s1 s2 s3 s4 s5 : State) (n m : Word16) (a t d : Long), Ready
    0x26 s ∧ rdPlain .w srclen (past 0x26 s) = .ok n s1 ∧ adrPlain .b srcaddr s1 = .ok a s2 ∧ adrPlain .b tbladdr s2 =
    .ok t s3 ∧ rdPlain .w dstlen s3 = .ok m s4 ∧ adrPlain .b dstaddr s4 = .ok d s5 ∧ ∃ (lead : List Byte) (k y : Byte)
    (v : Int) (s6 : State), n.toNat ≤ 31 ∧ m.toNat ≤ 31 ∧ lead.length + 1 = n.toNat ∧ s5.shows a (lead ++ [k]) ∧
    s5.shows (t + k.setWidth 32) [y] ∧ trailingValue lead y = some v ∧ DecString.clash (packedString d m.toNat) ⟨a,
    n.toNat, n.toNat⟩ = false ∧ s5.stores d (packedImage m.toNat v) s6 :=
  ⟨(lit 1), (mem 0x2000), (mem 0x2300), (lit 1), (mem 0x2400), { wst with mem := [(0x2000, 0x11), (0x2311, 0x5C)] },
    _, _, _, _, _, _, _, _, _, _, ready, rfl, rfl, rfl, rfl, rfl, [], 0x11, 0x5C, _, _, by decide, by decide, rfl,
    (shows_one read_cc), (shows_one read_cc), rfl, rfl, ⟨_, _, rfl, rfl⟩⟩
theorem witness_DecimalConversionResults_24 :
    ∃ (srclen srcaddr pattern dstaddr : Opnd) (s s1 s2 s3 s4 : State) (n : Word16) (a p d : Long), Ready 0x38 s ∧
    rdPlain .w srclen (past 0x38 s) = .ok n s1 ∧ adrPlain .b srcaddr s1 = .ok a s2 ∧ adrPlain .b pattern s2 = .ok p s3
    ∧ adrPlain .b dstaddr s3 = .ok d s4 ∧ 31 < n.toNat :=
  ⟨(lit 32), (mem 0x2100), (mem 0x2300), (mem 0x2200), wst, _, _, _, _, _, _, _, _, ready, rfl, rfl, rfl, rfl,
    by decide⟩
theorem witness_DecimalConversionResults_25 :
    ∃ (srclen srcaddr pattern dstaddr : Opnd) (s s1 s2 s3 s4 : State) (n : Word16) (a p d : Long), Ready 0x38 s ∧
    rdPlain .w srclen (past 0x38 s) = .ok n s1 ∧ adrPlain .b srcaddr s1 = .ok a s2 ∧ adrPlain .b pattern s2 = .ok p s3
    ∧ adrPlain .b dstaddr s3 = .ok d s4 ∧ ∃ bs : List Byte, n.toNat ≤ 31 ∧ bs.length = packedLen n.toNat ∧ s4.shows a
    bs ∧ beNat bs % 16 < 10 :=
  ⟨(lit 1), (mem 0x2400), (mem 0x2300), (mem 0x2200), wst, _, _, _, _, _, _, _, _, ready, rfl, rfl, rfl, rfl, [0],
    by decide, rfl, (shows_one read_cc), by decide⟩
theorem witness_DecimalConversionResults_26 :
    ∃ (srclen srcaddr pattern dstaddr : Opnd) (s s1 s2 s3 s4 : State) (n : Word16) (a p d : Long), Ready 0x38 s ∧
    rdPlain .w srclen (past 0x38 s) = .ok n s1 ∧ adrPlain .b srcaddr s1 = .ok a s2 ∧ adrPlain .b pattern s2 = .ok p s3
    ∧ adrPlain .b dstaddr s3 = .ok d s4 ∧ ∃ bs : List Byte, n.toNat ≤ 31 ∧ bs.length = packedLen n.toNat ∧ s4.shows a
    bs ∧ n.toNat % 2 = 0 ∧ (packedDigits n.toNat bs).headD 0 ≠ 0 :=
  ⟨(lit 2), (mem 0x2100), (mem 0x2300), (mem 0x2200), { wst with mem := [(0x2100, 0x11), (0x2101, 0x1C)] }, _, _, _,
    _, _, _, _, _, ready, rfl, rfl, rfl, rfl, [0x11, 0x1C], by decide, rfl, (shows_two read_cc read_cc), by decide,
    by decide⟩
theorem witness_DecimalConversionResults_27 :
    ∃ (srclen srcaddr pattern dstaddr : Opnd) (s s1 s2 s3 s4 : State) (n : Word16) (a p d : Long), Ready 0x38 s ∧
    rdPlain .w srclen (past 0x38 s) = .ok n s1 ∧ adrPlain .b srcaddr s1 = .ok a s2 ∧ adrPlain .b pattern s2 = .ok p s3
    ∧ adrPlain .b dstaddr s3 = .ok d s4 ∧ ∃ bs : List Byte, n.toNat ≤ 31 ∧ bs.length = packedLen n.toNat ∧ s4.shows a
    bs ∧ 10 ≤ beNat bs % 16 ∧ (n.toNat % 2 = 0 → (packedDigits n.toNat bs).headD 0 = 0) ∧ ∃ (minus : Bool) (start :
    Edit), minus = decide (beNat bs % 16 = 11 ∨ beNat bs % 16 = 13) ∧ start = ⟨(packedDigits n.toNat bs).drop
    ((packedDigits n.toNat bs).length - n.toNat), 0, 0x20, if minus then 0x2D else 0x20, d, p, [], minus, true, false,
    false⟩ ∧ ∃ s5, editRun start (2 ^ 32) s4 = .error (.exc reservedOperand) s5 :=
  ⟨(lit 1), (mem 0x2100), (mem 0x2300), (mem 0x2200), wst, _, _, _, _, _, _, _, _, ready, rfl, rfl, rfl, rfl, [0x7C],
    by decide, rfl, (shows_one read_cc), (by decide), (fun h => absurd h (by decide)), _, _, rfl, rfl, _, rfl⟩
theorem witness_DecimalConversionResults_28 :
    ∃ (srclen srcaddr pattern dstaddr : Opnd) (s s1 s2 s3 s4 : State) (n : Word16) (a p d : Long), Ready 0x38 s ∧
    rdPlain .w srclen (past 0x38 s) = .ok n s1 ∧ adrPlain .b srcaddr s1 = .ok a s2 ∧ adrPlain .b pattern s2 = .ok p s3
    ∧ adrPlain .b dstaddr s3 = .ok d s4 ∧ ∃ bs : List Byte, n.toNat ≤ 31 ∧ bs.length = packedLen n.toNat ∧ s4.shows a
    bs ∧ 10 ≤ beNat bs % 16 ∧ (n.toNat % 2 = 0 → (packedDigits n.toNat bs).headD 0 = 0) ∧ ∃ (minus : Bool) (start :
    Edit), minus = decide (beNat bs % 16 = 11 ∨ beNat bs % 16 = 13) ∧ start = ⟨(packedDigits n.toNat bs).drop
    ((packedDigits n.toNat bs).length - n.toNat), 0, 0x20, if minus then 0x2D else 0x20, d, p, [], minus, true, false,
    false⟩ ∧ ∃ (e : Edit) (s5 s6 : State), editRun start (2 ^ 32) s4 = .ok e s5 ∧ rangesOverlap d e.out.length a
    (packedLen n.toNat) = false ∧ rangesOverlap d e.out.length p ((e.pp - p).toNat + 1) = false ∧ putBytes
    e.out.reverse s5 = .ok ⟨⟩ s6 :=
  ⟨(lit 1), (mem 0x2100), (mem 0x2300), (mem 0x2200), { wst with mem := [(0x2100, 0x7C), (0x2300, 0x91)] }, _, _, _,
    _, _, _, _, _, ready, rfl, rfl, rfl, rfl, [0x7C], by decide, rfl, (shows_one read_cc), (by decide), (fun h => absurd
    h (by decide)), _, _, rfl, rfl, _, _, _, rfl, rfl, rfl, rfl⟩
theorem witness_DecimalConversionResults_29 :
    ∃ (digits : List Nat) (minus : Bool) (p d : Long) (s : State) (pattern : List Byte) (x : EditText) (k : Nat),
    s.mm.mapen = false ∧ pattern.length < 2 ^ 32 ∧ s.shows p pattern ∧ EditText.run pattern (.start digits minus) =
    some (x, k) :=
  ⟨[5], false, 0x2300, 0x2200, { wst with mem := [(0x2300, 0x91)] }, [0x91, 0x00], _, _, rfl, (by decide), (shows_two
    read_cc read_cc), rfl⟩
theorem witness_DecimalConversionResults_30 :
    ∃ (e : Edit) (s : State) (b : Byte) (fuel : Nat), readByte e.pp s = .ok b s ∧ 0x05 ≤ b.toNat ∧ b.toNat ≤ 0x3F :=
  ⟨⟨[], 0, 0x20, 0x20, 0x2200, 0x2300, [], false, true, false, false⟩, { wst with mem := [(0x2300, 0x05)] }, _, 0,
    rfl, by decide, by decide⟩
theorem witness_DecimalConversionResults_31 :
    ∃ (e : Edit) (s : State) (b : Byte) (fuel : Nat), readByte e.pp s = .ok b s ∧ 0x48 ≤ b.toNat ∧ b.toNat ≤ 0x80 :=
  ⟨⟨[], 0, 0x20, 0x20, 0x2200, 0x2300, [], false, true, false, false⟩, { wst with mem := [(0x2300, 0x80)] }, _, 0,
    rfl, by decide, by decide⟩
theorem witness_DecimalConversionResults_32 :
    ∃ (e : Edit) (s : State) (b : Byte) (fuel : Nat), readByte e.pp s = .ok b s ∧ (b = 0x90 ∨ b = 0xA0) :=
  ⟨⟨[], 0, 0x20, 0x20, 0x2200, 0x2300, [], false, true, false, false⟩, { wst with mem := [(0x2300, 0xA0)] }, _, 0,
    rfl, .inr rfl⟩
theorem witness_DecimalConversionResults_33 :
    ∃ (e : Edit) (s : State) (b : Byte) (fuel : Nat), readByte e.pp s = .ok b s ∧ 0xB0 ≤ b.toNat :=
  ⟨⟨[], 0, 0x20, 0x20, 0x2200, 0x2300, [], false, true, false, false⟩, { wst with mem := [(0x2300, 0xB0)] }, _, 0,
    rfl, by decide⟩
theorem witness_DecimalConversionResults_34 :
    ∃ (e : Edit) (s : State) (b : Byte) (fuel : Nat), readByte e.pp s = .ok b s ∧ 0x91 ≤ b.toNat ∧ b.toNat ≤ 0x9F ∧
    e.zeros = 0 ∧ (∀ d ∈ e.digits.head?, 9 < d) ∧ e.digits = [] :=
  ⟨⟨[], 0, 0x20, 0x20, 0x2200, 0x2300, [], false, true, false, false⟩, { wst with mem := [(0x2300, 0x91)] }, _, 0,
    rfl, by decide, by decide, rfl, (fun d hd => by cases hd), rfl⟩
theorem witness_DecimalConversionResults_35 :
    ∃ (e : Edit) (s : State) (b : Byte) (fuel : Nat), readByte e.pp s = .ok b s ∧ 0xA1 ≤ b.toNat ∧ b.toNat ≤ 0xAF ∧
    e.zeros = 0 ∧ (∀ d ∈ e.digits.head?, 9 < d) ∧ e.digits = [12] :=
  ⟨⟨[12], 0, 0x20, 0x20, 0x2200, 0x2300, [], false, true, false, false⟩, { wst with mem := [(0x2300, 0xAF)] }, _, 0,
    rfl, by decide, by decide, rfl, (fun d hd => by cases hd; decide), rfl⟩
theorem witness_DecimalConversionResults_36 :
    ∃ (e : Edit) (s : State) (b : Byte) (fuel : Nat), readByte e.pp s = .ok b s ∧ b = 0 ∧ e.digits ≠ [] :=
  ⟨⟨[5], 0, 0x20, 0x20, 0x2200, 0x2300, [], false, true, false, false⟩, { wst with mem := [] }, _, 0, rfl, rfl,
    by decide⟩
theorem witness_DecimalConversionResults_37 :
    ∃ (e : Edit) (s : State) (b : Byte) (fuel : Nat), readByte e.pp s = .ok b s ∧ b = 0 ∧ e.zeros ≠ 0 :=
  ⟨⟨[], 1, 0x20, 0x20, 0x2200, 0x2300, [], false, true, false, false⟩, { wst with mem := [] }, _, 0, rfl, rfl,
    by decide⟩
theorem witness_PackedStringsKeepTheirValue_0 :
    ∃ (len : Nat) (bs : List Byte) (v : Int), bs.length = len / 2 + 1 ∧ packedValue len bs = some v :=
  ⟨1, [0x7C], _, rfl, rfl⟩
theorem witness_MiscellaneousResults_0 :
    ∃ (mask : Opnd) (s s1 s2 : State) (m : Word16), Ready 0xBB s ∧ rd .w mask (past 0xBB s) = .ok m s1 ∧ field m 0 15
    = 0 :=
  ⟨(imm 0x8000), wst, _, wst, _, ready, rfl, rfl⟩
theorem witness_MiscellaneousResults_1 :
    ∃ (mask : Opnd) (s s1 s2 : State) (m : Word16), Ready 0xBB s ∧ rd .w mask (past 0xBB s) = .ok m s1 ∧ field m 0 15
    ≠ 0 ∧ push (((List.range 15).reverse.filter fun i => m.getLsbD i).map fun i => s1.reg (Fin.ofNat 16 i)) s1 = .ok
    ⟨⟩ s2 :=
  ⟨(imm 0x4003), wst, _, _, _, ready, rfl, by decide, rfl⟩
theorem witness_MiscellaneousResults_2 :
    ∃ (mask : Opnd) (s s1 s2 : State) (m : Word16) (rs : List Nat) (xs : List Long), Ready 0xBA s ∧ rd .w mask (past
    0xBA s) = .ok m s1 ∧ rs = (List.range 15).filter (fun i => m.getLsbD i) ∧ rs ≠ [] ∧ stackTop rs.length s1 = .ok xs
    s2 ∧ s1.during = [] ∧ 14 ∉ rs :=
  ⟨(imm 0x3), wst, _, _, _, _, _, ready, rfl, rfl, by decide, rfl, rfl, by decide⟩
theorem witness_MiscellaneousResults_3 :
    ∃ (dst : Opnd) (s s1 s2 : State) (d : Dest), Ready 0xDC s ∧ wr .l dst (past 0xDC s) = .ok d s1 ∧ store .l d
    (s1.psl &&& 0xB7FFFFFF) s1 = .ok ⟨⟩ s2 :=
  ⟨(reg 0), wst, _, _, _, ready, rfl, rfl⟩
theorem witness_MiscellaneousResults_4 :
    ∃ (mask : Opnd) (s s1 : State) (m : Word16), Ready 0xB8 s ∧ rd .w mask (past 0xB8 s) = .ok m s1 ∧ m.toNat < 256 :=
  ⟨(imm 0xFF), wst, _, _, ready, rfl, by decide⟩
theorem witness_MiscellaneousResults_5 :
    ∃ (mask : Opnd) (s s1 : State) (m : Word16), Ready 0xB8 s ∧ rd .w mask (past 0xB8 s) = .ok m s1 ∧ 256 ≤ m.toNat :=
  ⟨(imm 0x100), wst, _, _, ready, rfl, by decide⟩
theorem witness_MiscellaneousResults_6 :
    ∃ (mask : Opnd) (s s1 : State) (m : Word16), Ready 0xB9 s ∧ rd .w mask (past 0xB9 s) = .ok m s1 ∧ m.toNat < 256 :=
  ⟨(imm 0xFF), wst, _, _, ready, rfl, by decide⟩
theorem witness_MiscellaneousResults_7 :
    ∃ (mask : Opnd) (s s1 : State) (m : Word16), Ready 0xB9 s ∧ rd .w mask (past 0xB9 s) = .ok m s1 ∧ 256 ≤ m.toNat :=
  ⟨(imm 0x100), wst, _, _, ready, rfl, by decide⟩
theorem witness_MiscellaneousResults_8 :
    ∃ (subscript low high size indexin indexout : Opnd) (s s1 s2 s3 s4 s5 s6 s7 : State) (i lo hi n x : Long) (d :
    Dest), Ready 0x0A s ∧ rd .l subscript (past 0x0A s) = .ok i s1 ∧ rd .l low s1 = .ok lo s2 ∧ rd .l high s2 = .ok
    hi s3 ∧ rd .l size s3 = .ok n s4 ∧ rd .l indexin s4 = .ok x s5 ∧ wr .l indexout s5 = .ok d s6 ∧ store .l d ((x +
    i) * n) s6 = .ok ⟨⟩ s7 ∧ (lo.toInt ≤ i.toInt ∧ i.toInt ≤ hi.toInt) :=
  ⟨(lit 2), (lit 1), (lit 2), (lit 4), (lit 0), (reg 0), wst, _, _, _, _, _, _, _, _, _, _, _, _, _, ready, rfl, rfl,
    rfl, rfl, rfl, rfl, rfl, (by decide)⟩
theorem witness_MiscellaneousResults_9 :
    ∃ (subscript low high size indexin indexout : Opnd) (s s1 s2 s3 s4 s5 s6 s7 : State) (i lo hi n x : Long) (d :
    Dest), Ready 0x0A s ∧ rd .l subscript (past 0x0A s) = .ok i s1 ∧ rd .l low s1 = .ok lo s2 ∧ rd .l high s2 = .ok
    hi s3 ∧ rd .l size s3 = .ok n s4 ∧ rd .l indexin s4 = .ok x s5 ∧ wr .l indexout s5 = .ok d s6 ∧ store .l d ((x +
    i) * n) s6 = .ok ⟨⟩ s7 ∧ (¬ (lo.toInt ≤ i.toInt ∧ i.toInt ≤ hi.toInt)) :=
  ⟨(lit 3), (lit 1), (lit 2), (lit 4), (lit 0), (reg 0), wst, _, _, _, _, _, _, _, _, _, _, _, _, _, ready, rfl, rfl,
    rfl, rfl, rfl, rfl, rfl, (by decide)⟩
theorem witness_MiscellaneousResults_10 :
    ∃ s : State, Ready 0x01 s :=
  ⟨wst, ready⟩
theorem witness_MiscellaneousResults_11 :
    ∃ (tbl inicrc strlen stream : Opnd) (s s1 s2 s3 s4 : State) (t x a : Long) (n : Word16) (table : Nat → Long) (bs
    : List Byte), Ready 0x0B s ∧ adrPlain .b tbl (past 0x0B s) = .ok t s1 ∧ rdPlain .l inicrc s1 = .ok x s2 ∧ rdPlain
    .w strlen s2 = .ok n s3 ∧ adrPlain .b stream s3 = .ok a s4 ∧ (∀ k < 16, readLong (t + BitVec.ofNat 32 (4 * k)) s4
    = .ok (table k) s4) ∧ bs.length = n.toNat ∧ s4.shows a bs :=
  ⟨(mem 0x2300), (lit 1), (lit 1), (mem 0x2000), wst, _, _, _, _, _, _, _, _, fun _ => 0, [0x11], ready, rfl, rfl,
    rfl, rfl, (fun k hk => by interval_cases k <;> rfl), rfl, (shows_one read_cc)⟩
theorem witness_MiscellaneousResults_12 :
    ∃ (mask : Opnd) (s s1 s2 : State) (m : Word16) (e : Exc), Ready 0xBB s ∧ rd .w mask (past 0xBB s) = .ok m s1 ∧
    field m 0 15 ≠ 0 ∧ push (((List.range 15).reverse.filter fun i => m.getLsbD i).map fun i => s1.reg (Fin.ofNat 16
    i)) s1 = .error (.exc e) s2 :=
  ⟨(imm 0x3), { wst with mm := { wst.mm with mapen := true } }, _, _, _, _, ready, rfl, by decide, rfl⟩
theorem witness_MiscellaneousResults_13 :
    ∃ (mask : Opnd) (s s1 : State) (m : Word16) (rs : List Nat), Ready 0xBA s ∧ rd .w mask (past 0xBA s) = .ok m s1 ∧
    rs = (List.range 15).filter (fun i => m.getLsbD i) ∧ rs = [] :=
  ⟨(imm 0x8000), wst, _, _, _, ready, rfl, rfl, rfl⟩
theorem witness_MiscellaneousResults_14 :
    ∃ (mask : Opnd) (s s1 s2 : State) (m : Word16) (rs : List Nat) (e : Exc), Ready 0xBA s ∧ rd .w mask (past 0xBA s)
    = .ok m s1 ∧ rs = (List.range 15).filter (fun i => m.getLsbD i) ∧ rs ≠ [] ∧ stackTop rs.length s1 = .error (.exc
    e) s2 :=
  ⟨(imm 0x4003), { wst with mm := { wst.mm with mapen := true } }, _, _, _, _, _, ready, rfl, rfl, by decide, rfl⟩
theorem witness_MiscellaneousResults_15 :
    ∃ (n : Nat) (s s1 : State) (e : Stop), translateSpan (s.reg 14) (4 * n) false s.cur s = .error e s1 :=
  ⟨2, { wst with mm := { wst.mm with mapen := true } }, _, _, rfl⟩
theorem witness_MiscellaneousResults_16 :
    ∃ (n : Nat) (s : State), s.mm.mapen = false ∧ 4 * n ≤ leftInPage (s.reg 14) ∧ (∀ k < n, s.goodRam ((s.reg
    14).toNat % 2 ^ s.cfg.paw + 4 * k) 4) :=
  ⟨15, wst, rfl, by decide, (fun k hk => by interval_cases k <;> exact ⟨rfl, rfl, rfl, rfl⟩)⟩
theorem witness_ReturnFromExceptionAndChangeMode_0 :
    ∃ (s s1 s2 : State) (pc new : Long), Ready 0x02 s ∧ pop (past 0x02 s) = .ok pc s1 ∧ pop s1 = .ok new s2 ∧
    ReiLegal s.psl new :=
  ⟨wst, _, _, _, _, ready, rfl, rfl, (by unfold ReiLegal; decide)⟩
theorem witness_ReturnFromExceptionAndChangeMode_1 :
    ∃ (s s1 s2 : State) (pc new : Long), Ready 0x02 s ∧ pop (past 0x02 s) = .ok pc s1 ∧ pop s1 = .ok new s2 ∧ (¬
    ReiLegal s.psl new) :=
  ⟨{ wst with mem := [(0x7005, 0x1)] }, _, _, _, _, ready, rfl, rfl, (by unfold ReiLegal; decide)⟩
theorem witness_ReturnFromExceptionAndChangeMode_2 :
    ∃ e ∈ ([(0xBC, .chmk, 0), (0xBD, .chme, 1), (0xBE, .chms, 2), (0xBF, .chmu, 3)] : List (Nat × (Opnd → Instr) ×
    Nat)), ∃ (code : Opnd) (s s1 : State) (x : Word16), Ready e.1 s ∧ rd .w code (past e.1 s) = .ok x s1 ∧ s1.is =
    true :=
  ⟨_, row 3, (lit 5), { wst with psl := 0x041F0000 }, _, _, ready, rfl, rfl⟩
theorem witness_ReturnFromExceptionAndChangeMode_3 :
    ∃ e ∈ ([(0xBC, .chmk, 0), (0xBD, .chme, 1), (0xBE, .chms, 2), (0xBF, .chmu, 3)] : List (Nat × (Opnd → Instr) ×
    Nat)), ∃ (code : Opnd) (s s1 : State) (x : Word16), Ready e.1 s ∧ rd .w code (past e.1 s) = .ok x s1 ∧ s1.is =
    false ∧ ∃ (s2 s3 s4 : State) (v : Long), readVector (0x40 + 4 * e.2.2) s1 = .ok (some v) s2 ∧ field v 0 2 ≠ 0 :=
  ⟨_, row 0, (lit 5), { wst with mem := [(0x640, 0x1), (0x641, 0x90)] }, _, _, ready, rfl, rfl, _, wst, wst, _, rfl,
    by decide⟩
theorem witness_ReturnFromExceptionAndChangeMode_4 :
    ∃ e ∈ ([(0xBC, .chmk, 0), (0xBD, .chme, 1), (0xBE, .chms, 2), (0xBF, .chmu, 3)] : List (Nat × (Opnd → Instr) ×
    Nat)), ∃ (code : Opnd) (s s1 : State) (x : Word16), Ready e.1 s ∧ rd .w code (past e.1 s) = .ok x s1 ∧ s1.is =
    false ∧ ∃ (s2 s3 s4 : State) (v : Long), readVector (0x40 + 4 * e.2.2) s1 = .ok (some v) s2 ∧ field v 0 2 = 0 ∧
    s3 = (if min e.2.2 s1.cur = s1.cur then s2 else s2.setReg 14 (s1.sp.get (min e.2.2 s1.cur))) ∧ pushFrame (min
    e.2.2 s1.cur) [s1.psl, s1.pc, x.signExtend 32] s3 = .ok ⟨⟩ s4 :=
  ⟨_, row 0, (lit 5), { wst with psl := 0x03C00000, mem := [(0x641, 0x90)], sp := ⟨0x5000, 0, 0, 0, 0⟩ }, _, _,
    ready, rfl, rfl, _, _, _, _, rfl, rfl, rfl, rfl⟩
theorem witness_ProcessorRegisterTransfers_0 :
    ∃ (src procreg : Opnd) (s s1 s2 s3 : State) (v n : Long), Ready 0xDA s ∧ rd .l src (past 0xDA s) = .ok v s1 ∧ rd
    .l procreg s1 = .ok n s2 ∧ writeReg n.toNat v (s2.flags v false s2.ccC) = .ok ⟨⟩ s3 :=
  ⟨(lit 3), (lit 18), wst, _, _, _, _, _, ready, rfl, rfl, rfl⟩
theorem witness_ProcessorRegisterTransfers_1 :
    ∃ (procreg dst : Opnd) (s s1 s2 s3 s4 s5 : State) (n v : Long) (d k : Dest), Ready 0xDB s ∧ rd .l procreg (past
    0xDB s) = .ok n s1 ∧ wr .l dst s1 = .ok d s2 ∧ prepare .l d s2 = .ok k s3 ∧ readReg n.toNat s3 = .ok v s4 ∧ store
    .l k v s4 = .ok ⟨⟩ s5 :=
  ⟨(lit 18), (reg 0), wst, _, _, _, _, _, _, _, _, _, ready, rfl, rfl, rfl, rfl, rfl⟩
theorem witness_ProcessorRegisterTransfers_2 :
    ∃ (s : State) (v : Long), ∃ e ∈ ([(0x00, 0xFFFFFFFF), (0x01, 0xFFFFFFFF), (0x02, 0xFFFFFFFF), (0x03, 0xFFFFFFFF),
    (0x04, 0xFFFFFFFF), (0x09, 0x003FFFFF), (0x0B, 0x003FFFFF), (0x0D, 0x003FFFFF), (0x12, 0x1F), (0x15, 0xFFFE),
    (0x38, 1), (0x3D, 1), (0x0C, if s.is750 then 0x00FFFFFC else 0x3FFFFFFC), (0x10, 0xFFFFFFFF), (0x11, if s.is750
    then 0x00FFFE00 else 0x3FFFFE00)] : List (Nat × Long)), True :=
  ⟨wst, 0x80000000, _, row 0, trivial⟩
theorem witness_ProcessorRegisterTransfers_3 :
    ∃ (s : State) (v : Long), (field v 30 2 = 2 ∧ field v 0 2 = 0) :=
  ⟨wst, 0x80000000, (by decide)⟩
theorem witness_ProcessorRegisterTransfers_4 :
    ∃ (s : State) (v : Long), (¬ (field v 30 2 = 2 ∧ field v 0 2 = 0)) :=
  ⟨wst, 0x80000001, (by decide)⟩
theorem witness_ProcessorRegisterTransfers_5 :
    ∃ (s : State) (v : Long), (field (v + 0x00800000) 30 2 = 2 ∧ field v 0 2 = 0) :=
  ⟨wst, 0x7F800000, (by decide)⟩
theorem witness_ProcessorRegisterTransfers_6 :
    ∃ (s : State) (v : Long), (¬ (field (v + 0x00800000) 30 2 = 2 ∧ field v 0 2 = 0)) :=
  ⟨wst, 0x80000001, (by decide)⟩
theorem witness_ProcessorRegisterTransfers_7 :
    ∃ (s : State) (v : Long), Sparse.wfFrom 0 s.tb = true :=
  ⟨wst, 0xFFFFFFFF, rfl⟩
theorem witness_ProcessorRegisterTransfers_8 :
    ∃ (s : State) (v : Long), field v 0 3 < 5 :=
  ⟨wst, 4, by decide⟩
theorem witness_ProcessorRegisterTransfers_9 :
    ∃ (s : State) (v : Long), 5 ≤ field v 0 3 :=
  ⟨wst, 5, by decide⟩
theorem witness_ProcessorRegisterTransfers_10 :
    ∃ (s : State) (v : Long), field v 0 4 ≠ 0 :=
  ⟨wst, 15, by decide⟩
theorem witness_ProcessorRegisterTransfers_11 :
    ∃ (s : State) (v : Long), ∃ n, 0x40 ≤ n :=
  ⟨wst, 0, 0x40, by decide⟩
theorem witness_ProcessorRegisterTransfers_12 :
    ∃ (s : State) (v : Long), s.is750 = true :=
  ⟨wst, 1, rfl⟩
theorem witness_ProcessorRegisterTransfers_13 :
    ∃ (s : State) (v : Long), s.is750 = false :=
  ⟨{ wst with cfg := { wst.cfg with cpu := .v780 } }, 1, rfl⟩
theorem witness_ContextSwitchProbeAndHalt_0 :
    ∃ (s s1 s2 s3 : State) (w : List Long) (t : State), Ready 0x06 s ∧ readPcbs 0 24 (past 0x06 s) = .ok w s1 ∧ field
    (w.getD 20 0) 30 2 = 2 ∧ field (w.getD 20 0) 0 2 = 0 ∧ w.getD 21 0 &&& 0xF8C00000 = 0 ∧ field (w.getD 21 0) 24 3
    < 5 ∧ field (w.getD 22 0 + 0x00800000) 30 2 = 2 ∧ field (w.getD 22 0) 0 2 = 0 ∧ w.getD 23 0 &&& 0x7FC00000 = 0 ∧
    t = { s1.withRegs ((w.drop 4).take 14) with tb := s1.tb.filter fun e => decide (0x400000 ≤ e.1), sp := ⟨w.getD 0 0, w.getD 1 0, w.getD 2 0, w.getD 3 0, s1.sp.isp⟩, mm := { s1.mm with p0br := w.getD 20 0, p0lr := (w.getD 21 0).setWidth 22, p1br := w.getD 22 0, p1lr := (w.getD 23 0).setWidth 22 }, astlvl := (w.getD 21 0).extractLsb' 24 3, pme := (w.getD 23 0).getLsbD 31 } ∧ s2 = (if s1.is then { (t.setReg 14 (w.getD 0 0)) with sp := { t.sp with isp := s1.reg 14 }, psl := t.psl &&& 0xFBFFFFFF } else t) ∧ pushFrame 0 [w.getD 19 0, w.getD 18 0] s2 = .ok ⟨⟩ s3 :=
  ⟨{ wst with psl := 0x041F0000, mem := [(0x1, 0x50), (0x53, 0x80), (0x5B, 0x80)] }, _, _, _, _, _, ready, rfl, rfl,
    rfl, rfl, by decide, rfl, rfl, rfl, rfl, rfl, rfl⟩
theorem witness_ContextSwitchProbeAndHalt_1 :
    ∃ (s s1 s2 s3 : State) (pc psl : Long), Ready 0x07 s ∧ pop (past 0x07 s) = .ok pc s1 ∧ pop s1 = .ok psl s2 ∧
    writePcbs 0 ([s2.sp.ksp, s2.sp.esp, s2.sp.ssp, s2.sp.usp] ++ ((List.range 14).map fun i => s2.reg (Fin.ofNat 16
    i)) ++ [pc, psl]) s2 = .ok ⟨⟩ s3 ∧ s2.is = true :=
  ⟨{ wst with psl := 0x041F0000 }, _, _, _, _, _, ready, rfl, rfl, (unit_ok (by decide +kernel)), rfl⟩
theorem witness_ContextSwitchProbeAndHalt_2 :
    ∃ (s s1 s2 s3 : State) (pc psl : Long), Ready 0x07 s ∧ pop (past 0x07 s) = .ok pc s1 ∧ pop s1 = .ok psl s2 ∧
    writePcbs 0 ([s2.sp.ksp, s2.sp.esp, s2.sp.ssp, s2.sp.usp] ++ ((List.range 14).map fun i => s2.reg (Fin.ofNat 16
    i)) ++ [pc, psl]) s2 = .ok ⟨⟩ s3 ∧ s2.is = false ∧ ∃ s4, writePcbs 0 [s2.reg 14] s3 = .ok ⟨⟩ s4 :=
  ⟨wst, _, _, _, _, _, ready, rfl, rfl, (unit_ok (by decide +kernel)), rfl, _, (unit_ok (by decide +kernel))⟩
theorem witness_ContextSwitchProbeAndHalt_3 :
    ∃ e ∈ ([(0x0C, .prober, false), (0x0D, .probew, true)] : List (Nat × (Opnd → Opnd → Opnd → Instr) × Bool)), ∃
    (modeOp len base : Opnd) (s s1 s2 s3 s4 s5 : State) (m : Byte) (n : Word16) (a : Long) (x y : Bool), Ready e.1 s
    ∧ rd .b modeOp (past e.1 s) = .ok m s1 ∧ rd .w len s1 = .ok n s2 ∧ adr .b base s2 = .ok a s3 ∧ accessible a e.2.2
    (max (m.toNat % 4) s3.prv) s3 = .ok x s4 ∧ accessible (a + n.setWidth 32 - 1) e.2.2 (max (m.toNat % 4) s3.prv) s4
    = .ok y s5 :=
  ⟨_, row 1, (lit 0), (lit 1), (mem 0x2000), wst, _, _, _, _, _, _, _, _, _, _, ready, rfl, rfl, rfl, rfl, rfl⟩
theorem witness_ContextSwitchProbeAndHalt_4 :
    ∃ (s : State) (va : Long) (write : Bool) (mode : Nat), s.mm.mapen = false :=
  ⟨wst, 0xFFFFFFFF, true, 3, rfl⟩
theorem witness_ContextSwitchProbeAndHalt_5 :
    ∃ (s : State) (va : Long) (write : Bool) (mode : Nat), s.mm.mapen = true ∧ (s.is750 = true → field s.v750.tbdr 0
    2 ≠ 3) ∧ field va 30 2 = 2 ∧ s.mm.slr.toNat ≤ field va 9 21 :=
  ⟨{ wst with mm := { wst.mm with mapen := true, sbr := 0x4000, slr := 1 }, mem := [] }, 0x80000200, false, 0, rfl,
    (fun _ => by decide), rfl, (by decide)⟩
theorem witness_ContextSwitchProbeAndHalt_6 :
    ∃ (s : State) (va : Long) (write : Bool) (mode : Nat), s.mm.mapen = true ∧ (s.is750 = true → field s.v750.tbdr 0
    2 ≠ 3) ∧ field va 30 2 = 2 ∧ field va 9 21 < s.mm.slr.toNat ∧ s.goodRam (systemPte s va) 4 ∧ field (s.longAt
    (systemPte s va)) 27 4 ≠ 1 :=
  ⟨{ wst with mm := { wst.mm with mapen := true, sbr := 0x4000, slr := 1 }, mem := [(0x4003, 0x90)] }, 0x80000010,
    false, 3, rfl, (fun _ => by decide), rfl, by decide, ⟨rfl, rfl, rfl, rfl⟩, by decide⟩
theorem witness_ContextSwitchProbeAndHalt_7 :
    ∃ (s : State) (va : Long) (write : Bool) (mode : Nat), s.mm.mapen = true ∧ (s.is750 = true → field s.v750.tbdr 0
    2 ≠ 3) ∧ field va 30 2 = 3 :=
  ⟨{ wst with mm := { wst.mm with mapen := true, sbr := 0x4000, slr := 1, p0br := 0x80000000, p0lr := 16 }, mem := []
    }, 0xC0000000, true, 0, rfl, (fun _ => by decide), rfl⟩
theorem witness_ContextSwitchProbeAndHalt_8 :
    ∃ (s : State) (va : Long) (write : Bool) (mode : Nat), s.mm.mapen = true ∧ (s.is750 = true → field s.v750.tbdr 0
    2 ≠ 3) ∧ field va 30 2 < 2 ∧ s.beyondTable va :=
  ⟨{ wst with mm := { wst.mm with mapen := true, sbr := 0x4000, slr := 1, p0br := 0x80000000, p0lr := 8 }, mem := []
    }, 0x1010, true, 0, rfl, (fun _ => by decide), by decide, (show (8 : Nat) ≤ 8 by decide)⟩
theorem witness_ContextSwitchProbeAndHalt_9 :
    ∃ (s : State) (va : Long) (write : Bool) (mode : Nat), s.mm.mapen = true ∧ (s.is750 = true → field s.v750.tbdr 0
    2 ≠ 3) ∧ field va 30 2 < 2 ∧ (¬ s.beyondTable va) ∧ (field (s.processPteVa va) 30 2 ≠ 2 ∨ s.mm.slr.toNat ≤ field
    (s.processPteVa va) 9 21) :=
  ⟨{ wst with mm := { wst.mm with mapen := true, sbr := 0x4000, slr := 0, p0br := 0x80000000, p0lr := 16 }, mem := []
    }, 0x1010, true, 0, rfl, (fun _ => by decide), by decide, (show ¬ (16 ≤ 8) by decide), (.inr (by decide))⟩
theorem witness_ContextSwitchProbeAndHalt_10 :
    ∃ (s : State) (va : Long) (write : Bool) (mode : Nat), s.mm.mapen = true ∧ (s.is750 = true → field s.v750.tbdr 0
    2 ≠ 3) ∧ field va 30 2 < 2 ∧ ∃ x, s.tableEntry va x ∧ accessAllowed (field x 27 4) 0 false = false :=
  ⟨{ wst with mm := { wst.mm with mapen := true, sbr := 0x4000, slr := 1, p0br := 0x80000000, p0lr := 16 }, mem :=
    [(0x4003, 0x80)] }, 0x1010, true, 0, rfl, (fun _ => by decide), by decide, _,
    ⟨show ¬ (16 ≤ 8) by decide, rfl, by decide, ⟨rfl, rfl, rfl, rfl⟩, rfl, by decide⟩, rfl⟩
theorem witness_ContextSwitchProbeAndHalt_11 :
    ∃ (s : State) (va : Long) (write : Bool) (mode : Nat), s.mm.mapen = true ∧ (s.is750 = true → field s.v750.tbdr 0
    2 ≠ 3) ∧ field va 30 2 < 2 ∧ ∃ x, s.tableEntry va x ∧ accessAllowed (field x 27 4) 0 false = true ∧ x.getLsbD 31
    = false :=
  ⟨{ wst with mm := { wst.mm with mapen := true, sbr := 0x4000, slr := 1, p0br := 0x80000000, p0lr := 16 }, mem :=
    [(0x4003, 0x10)] }, 0x1010, true, 0, rfl, (fun _ => by decide), by decide, _,
    ⟨show ¬ (16 ≤ 8) by decide, rfl, by decide, ⟨rfl, rfl, rfl, rfl⟩, rfl, by decide⟩, rfl, rfl⟩
theorem witness_ContextSwitchProbeAndHalt_12 :
    ∃ (s : State) (va : Long) (write : Bool) (mode : Nat), s.mm.mapen = true ∧ (s.is750 = true → field s.v750.tbdr 0
    2 ≠ 3) ∧ field va 30 2 < 2 ∧ ∃ pa, s.entryAt va pa :=
  ⟨{ wst with mm := { wst.mm with mapen := true, sbr := 0x4000, slr := 1, p0br := 0x80000000, p0lr := 16 }, mem :=
    [(0x23, 0x90), (0x4003, 0x90)] }, 0x1010, false, 3, rfl, (fun _ => by decide), by decide, _,
    ⟨⟨_, ⟨show ¬ (16 ≤ 8) by decide, rfl, by decide, ⟨rfl, rfl, rfl, rfl⟩, rfl, by decide⟩, rfl, rfl, rfl⟩, ⟨rfl, rfl, rfl, rfl⟩, by decide⟩⟩
theorem witness_ContextSwitchProbeAndHalt_13 :
    ∃ s : State, Ready 0x00 s :=
  ⟨wst, ready⟩
theorem witness_ContextSwitchProbeAndHalt_14 :
    ∃ (s s1 : State) (w : List Long), Ready 0x06 s ∧ readPcbs 0 24 (past 0x06 s) = .ok w s1 ∧ field (w.getD 20 0) 30 2 ≠ 2 :=
  ⟨{ wst with psl := 0x041F0000, mem := [(0x1, 0x50), (0x51, 0x10), (0x5B, 0x80)] }, _, _, ready, rfl, by decide⟩
theorem witness_ContextSwitchProbeAndHalt_15 :
    ∃ (s s1 : State) (w : List Long), Ready 0x06 s ∧ readPcbs 0 24 (past 0x06 s) = .ok w s1 ∧ field (w.getD 20 0) 0 2 ≠ 0 :=
  ⟨{ wst with psl := 0x041F0000, mem := [(0x1, 0x50), (0x50, 0x2), (0x53, 0x80), (0x5B, 0x80)] }, _, _, ready, rfl, by decide⟩
theorem witness_ContextSwitchProbeAndHalt_16 :
    ∃ (s s1 : State) (w : List Long), Ready 0x06 s ∧ readPcbs 0 24 (past 0x06 s) = .ok w s1 ∧ w.getD 21 0 &&& 0xF8C00000 ≠ 0 :=
  ⟨{ wst with psl := 0x041F0000, mem := [(0x1, 0x50), (0x53, 0x80), (0x57, 0x8), (0x5B, 0x80)] }, _, _, ready, rfl, by decide⟩
theorem witness_ContextSwitchProbeAndHalt_17 :
    ∃ (s s1 : State) (w : List Long), Ready 0x06 s ∧ readPcbs 0 24 (past 0x06 s) = .ok w s1 ∧ w.getD 21 0 &&& 0xF8C00000 ≠ 0 :=
  ⟨{ wst with psl := 0x041F0000, mem := [(0x1, 0x50), (0x53, 0x80), (0x56, 0x40), (0x5B, 0x80)] }, _, _, ready, rfl, by decide⟩
theorem witness_ContextSwitchProbeAndHalt_18 :
    ∃ (s s1 : State) (w : List Long), Ready 0x06 s ∧ readPcbs 0 24 (past 0x06 s) = .ok w s1 ∧ 5 ≤ field (w.getD 21 0) 24 3 :=
  ⟨{ wst with psl := 0x041F0000, mem := [(0x1, 0x50), (0x53, 0x80), (0x57, 0x5), (0x5B, 0x80)] }, _, _, ready, rfl, by decide⟩
theorem witness_ContextSwitchProbeAndHalt_19 :
    ∃ (s s1 : State) (w : List Long), Ready 0x06 s ∧ readPcbs 0 24 (past 0x06 s) = .ok w s1 ∧ field (w.getD 22 0 + 0x00800000) 30 2 ≠ 2 :=
  ⟨{ wst with psl := 0x041F0000, mem := [(0x1, 0x50), (0x53, 0x80), (0x5A, 0x7F), (0x5B, 0x7F)] }, _, _, ready, rfl, by decide⟩
theorem witness_ContextSwitchProbeAndHalt_20 :
    ∃ (s s1 : State) (w : List Long), Ready 0x06 s ∧ readPcbs 0 24 (past 0x06 s) = .ok w s1 ∧ field (w.getD 22 0) 0 2 ≠ 0 :=
  ⟨{ wst with psl := 0x041F0000, mem := [(0x1, 0x50), (0x53, 0x80), (0x58, 0x1), (0x5B, 0x80)] }, _, _, ready, rfl, by decide⟩
theorem witness_ContextSwitchProbeAndHalt_21 :
    ∃ (s s1 : State) (w : List Long), Ready 0x06 s ∧ readPcbs 0 24 (past 0x06 s) = .ok w s1 ∧ w.getD 23 0 &&& 0x7FC00000 ≠ 0 :=
  ⟨{ wst with psl := 0x041F0000, mem := [(0x1, 0x50), (0x53, 0x80), (0x5B, 0x80), (0x5F, 0x40)] }, _, _, ready, rfl, by decide⟩

end Sys2Proof.Tests
end

section
/-! What no action of the machine changes: the configuration, and that memory is in its canonical form. Both are kept for the
same reason, that every action is made of the shared operations and of updates of other fields, so one walk over the actions
serves both. -/
namespace Sys2Proof.Machine

/-- What `s` hands on to every state reached from it: its configuration and, if it has one, a canonical memory. -/
structure State.HandsOn (s t : State) : Prop where
  cfg : t.cfg = s.cfg
  mem : s.MemOk → t.MemOk

theorem State.HandsOn.refl (s : State) : s.HandsOn s := ⟨rfl, id⟩

theorem State.HandsOn.of_eq {s t : State} (hc : t.cfg = s.cfg) (hm : t.mem = s.mem) : s.HandsOn t :=
  ⟨hc, fun h => (congrArg Memory.wf hm).trans h⟩

theorem State.HandsOn.trans {s t u : State} (h : s.HandsOn t) (k : t.HandsOn u) : s.HandsOn u :=
  ⟨k.cfg.trans h.cfg, k.mem ∘ h.mem⟩

theorem State.HandsOn.ite {c : Prop} {_ : Decidable c} {s t u : State} (ht : s.HandsOn t) (hu : s.HandsOn u) :
    s.HandsOn (if c then t else u) := by
  split
  · exact ht
  · exact hu

theorem State.putRegs_handsOn (s : State) (t : DT) (n : Reg) (v : BitVec t.bits) : s.HandsOn (s.putRegs t n v) :=
  .of_eq (s.putRegs_cfg t n v) (s.putRegs_mem t n v)

theorem State.saveSp_handsOn (s : State) : s.HandsOn s.saveSp := .of_eq s.saveSp_cfg s.saveSp_mem

/-- What a state hands on is closed under every update the shared operations make. -/
theorem handsOn_fullClosed (s : State) : FullClosed s.HandsOn where
  toBusClosed := StoreClosed.toBus
    ⟨⟨fun _ _ _ _ _ _ h => ⟨h.cfg, h.mem⟩⟩, fun _ _ _ hm h => ⟨h.cfg, hm ∘ h.mem⟩, fun _ _ h => ⟨h.cfg, h.mem⟩⟩
    fun _ _ _ h => ⟨h.cfg, h.mem⟩
  regs _ _ h := ⟨h.cfg, h.mem⟩
  status _ _ _ _ h := ⟨h.cfg, h.mem⟩
  steps _ h := ⟨h.cfg, h.mem⟩

/-- However `x` ends, the state it started in has handed on what it must. -/
structure Steady {α : Type} (x : M α) : Prop where
  keeps : ∀ s : State, Keeps s.HandsOn x

variable {α β : Type}

theorem Steady.endState {x : M α} (hx : Steady x) (s : State) : s.HandsOn (endState (x s)) :=
  (hx.keeps s).holds s (.refl s)

theorem Steady.of {x : M α} (hx : ∀ P, FullClosed P → Keeps P x) : Steady x :=
  ⟨fun s => hx _ (handsOn_fullClosed s)⟩

theorem Steady.of_endState {x : M α} (hx : ∀ s : State, s.HandsOn (Machine.endState (x s))) : Steady x :=
  ⟨fun _ => ⟨fun t ht => ht.trans (hx t)⟩⟩

theorem Steady.bind {x : M α} {f : α → M β} (hx : Steady x) (hf : ∀ a, Steady (f a)) : Steady (x >>= f) :=
  ⟨fun s => (hx.keeps s).bind fun a => (hf a).keeps s⟩

theorem Steady.pure {a : α} : Steady (Pure.pure a : M α) := ⟨fun _ => .pure a⟩
theorem Steady.get : Steady (MonadState.get : M State) := ⟨fun _ => .get⟩
theorem Steady.throw {e : Stop} : Steady (throw e : M α) := ⟨fun _ => .throw e⟩
theorem Steady.raise {e : Exc} : Steady (raise e : M α) := .throw
theorem Steady.refuse {e : Refusal} : Steady (refuse e : M α) := .throw
theorem Steady.done : Steady done := .pure
theorem Steady.modify {f : State → State} (hf : ∀ s : State, s.HandsOn (f s)) : Steady (modify f : M PUnit) :=
  .of_endState hf

/-- An action on the state it finds; what is put in place of that state may be built from it. -/
theorem Steady.bindGet {f : State → M β} (hf : ∀ s t : State, t.HandsOn s → Keeps t.HandsOn (f s)) :
    Steady (MonadState.get >>= f) := ⟨fun t => .bindGet fun s h => hf s t h⟩

theorem Steady.ite {c : Prop} {_ : Decidable c} {x y : M α} (hx : Steady x) (hy : Steady y) :
    Steady (if c then x else y) := by
  split
  · exact hx
  · exact hy

/-- `if c then x` with `k` after it. -/
theorem Steady.when {c : Prop} {_ : Decidable c} {x : M PUnit} {k : PUnit → M α} (hx : Steady x)
    (hk : ∀ a, Steady (k a)) : Steady (if c then x >>= fun a => k a else k ⟨⟩) := .ite (.bind hx hk) (hk _)

/-- `if c then x; y` with `k` after it. -/
theorem Steady.whenThen {c : Prop} {_ : Decidable c} {x : M β} {y : M PUnit} {k : PUnit → M α} (hx : Steady x)
    (hy : Steady y) (hk : ∀ a, Steady (k a)) :
    Steady (if c then x >>= fun _ => y >>= fun a => k a else k ⟨⟩) := .ite (.bind hx fun _ => .bind hy hk) (hk _)

/-- `if c then x else y` with `k` after it. -/
theorem Steady.choose {c : Prop} {_ : Decidable c} {x y : M β} {k : β → M α} (hx : Steady x) (hy : Steady y)
    (hk : ∀ a, Steady (k a)) : Steady (if c then x >>= fun a => k a else y >>= fun a => k a) :=
  .ite (.bind hx hk) (.bind hy hk)

/-- An update of fields that are not handed on. -/
theorem steady_update {f : State → State} (hc : ∀ s : State, (f s).cfg = s.cfg := by exact fun _ => rfl)
    (hm : ∀ s : State, (f s).mem = s.mem := by exact fun _ => rfl) : Steady (modify f : M PUnit) :=
  .modify fun s => .of_eq (hc s) (hm s)

theorem Steady.map {f : α → β} {x : M α} (hx : Steady x) : Steady (f <$> x) := ⟨fun s => (hx.keeps s).map f⟩
theorem Steady.discard {x : M α} (hx : Steady x) : Steady (discard x) := .map hx
theorem Steady.attempt {x : M α} (hx : Steady x) : Steady (attempt x) := ⟨fun s => (hx.keeps s).attempt⟩
theorem Steady.forM {l : List β} {f : β → M PUnit} (hf : ∀ b, Steady (f b)) : Steady (l.forM f) :=
  ⟨fun s => .forM l fun b => (hf b).keeps s⟩
theorem Steady.mapM {l : List α} {f : α → M β} (hf : ∀ a, Steady (f a)) : Steady (l.mapM f) :=
  ⟨fun s => .mapM l fun a => (hf a).keeps s⟩
theorem Steady.foldlM {l : List β} {f : α → β → M α} {a : α} (hf : ∀ a b, Steady (f a b)) : Steady (l.foldlM f a) :=
  ⟨fun s => .foldlM l (fun a b => (hf a b).keeps s) a⟩

end Sys2Proof.Machine
end

section
/-! The actions of the model are steady: the shared operations by the frames of the laws, every other action by a proof that
follows its program, a combinator for each statement. -/
namespace Sys2Proof.Machine

variable {t ts td tx : DT} {o a b c src dst src1 src2 entry header pred addr base pos size len limit add idx sum mask
  selector subscript low high indexin indexout tbl inicrc strlen stream arglist numarg srclen srcaddr fill dstlen dstaddr
  tbladdr esc src1len src1addr src2len src2addr objlen objaddr char startpos findpos divr divd quo rem mulr muld mulrx intg
  fract arg degree cnt round len1 addr1 len2 addr2 len3 addr3 divrlen divraddr divdlen divdaddr quolen quoaddr pattern
  procreg modeOp code : Opnd}

/-! ### The shared operations -/

theorem steady_draw : Steady draw := .of fun _ h => keeps_draw h.toDevClosed
theorem steady_drawBits {n : Nat} : Steady (drawBits n) := .of fun _ h => keeps_drawBits n h.toDevClosed
theorem steady_drawBool : Steady drawBool := .of fun _ h => keeps_drawBool h.toDevClosed
theorem steady_setCC {n z v c : Bool} : Steady (setCC n z v c) := .of fun _ h => keeps_setCC n z v c h
theorem steady_setNZV {n z v : Bool} : Steady (setNZV n z v) := .of fun _ h => keeps_setNZV n z v h
theorem steady_getR {n : Reg} : Steady (getR n) := .of fun _ _ => keeps_getR n
theorem steady_setR {n : Reg} {v : Long} : Steady (setR n v) := .of fun _ h => keeps_setR n v h.toRegClosed
theorem steady_getPC : Steady getPC := .of fun _ _ => keeps_getPC
theorem steady_setPC {v : Long} : Steady (setPC v) := .of fun _ h => keeps_setPC v h.toRegClosed
theorem steady_modV750 {f : V750 → V750} : Steady (modV750 f) := .of fun _ h => keeps_modV750 f h.toDevClosed
theorem steady_modV780 {f : V780 → V780} : Steady (modV780 f) := .of fun _ h => keeps_modV780 f h.toDevClosed
theorem steady_modPend {f : Pending → Pending} : Steady (modPend f) := .of fun _ h => keeps_modPend f h.toStoreClosed
theorem steady_send {x : Sent} : Steady (send x) := .of fun _ h => keeps_send x h.toDevClosed
theorem steady_modUba {k : Nat} {f : Uba → Uba} : Steady (modUba k f) := .of fun _ h => keeps_modUba k f h.toDevClosed
theorem steady_modMba {k : Nat} {f : Mba → Mba} : Steady (modMba k f) := .of fun _ h => keeps_modMba k f h.toDevClosed
theorem steady_modMemCtl {k : Nat} {f : MemCtl → MemCtl} : Steady (modMemCtl k f) :=
  .of fun _ h => keeps_modMemCtl k f h.toDevClosed
theorem steady_raiseFault {tr : Nat} {bits : BitVec 6} : Steady (raiseFault tr bits) :=
  .of fun _ h => keeps_raiseFault tr bits h.toStoreClosed
theorem steady_freeRam {pa : Nat} {n : Nat} : Steady (freeRam pa n) :=
  .of fun _ h => keeps_freeRam pa n h.toStoreClosed
theorem steady_freeAllRam : Steady freeAllRam := .of fun _ h => keeps_freeAllRam h.toStoreClosed
theorem steady_machineCheck {α : Type} : Steady (machineCheck : M α) :=
  .of fun _ h => keeps_machineCheck h.toDevClosed
theorem steady_latchBusError {cause : Nat} {readLock : Bool} : Steady (latchBusError cause readLock) :=
  .of fun _ h => keeps_latchBusError cause readLock h.toDevClosed
theorem steady_busWriteError : Steady busWriteError := .of fun _ h => keeps_busWriteError h.toStoreClosed
theorem steady_pick {α : Type} {l : List α} : Steady (pick l) := .of fun _ h => keeps_pick l h.toDevClosed
theorem steady_mbaInit {k : Nat} : Steady (mbaInit k) := .of fun _ h => keeps_mbaInit k h.toDevClosed
theorem steady_mbaIn {k : Nat} {data : List Byte} : Steady (mbaIn k data) :=
  .of fun _ h => keeps_mbaIn k data h.toDevClosed
theorem steady_mbaTake {k n : Nat} : Steady (mbaTake k n) := .of fun _ h => keeps_mbaTake k n h.toDevClosed
theorem steady_mbaMemory {k : Nat} {rest : Bool} : Steady (mbaMemory k rest) :=
  .of fun _ h => keeps_mbaMemory k rest h.toStoreClosed
theorem steady_mbaEnd {k : Nat} : Steady (mbaEnd k) := .of fun _ h => keeps_mbaEnd k h.toStoreClosed
theorem steady_mbaFinds {k : Nat} {bits : Long} : Steady (mbaFinds k bits) :=
  .of fun _ h => keeps_mbaFinds k bits h.toDevClosed
theorem steady_unibusInit750 : Steady unibusInit750 := .of fun _ h => keeps_unibusInit750 h.toDevClosed
theorem steady_ubaPowerSequence {k : Nat} : Steady (ubaPowerSequence k) :=
  .of fun _ h => keeps_ubaPowerSequence k h.toDevClosed
theorem steady_ubaReleaseInterlock {k : Nat} : Steady (ubaReleaseInterlock k) :=
  .of fun _ h => keeps_ubaReleaseInterlock k h.toDevClosed
theorem steady_unreadableByte {α : Type} {pa : Nat} : Steady (unreadableByte pa : M α) :=
  .of fun _ h => keeps_unreadableByte pa h.toDevClosed
theorem steady_physRead {u : Use} {pa n : Nat} : Steady (physRead u pa n) :=
  .of fun _ h => keeps_physRead u pa n h.toCycleClosed
theorem steady_physWrite {u : Use} {pa n : Nat} {v : Octa} : Steady (physWrite u pa n v) :=
  .of fun _ h => keeps_physWrite u pa n v h.toBusClosed
theorem steady_readPte {pa : Nat} : Steady (readPte pa) := .of fun _ h => keeps_readPte pa h.toCycleClosed
theorem steady_sysPte {va : Long} {write ptref : Bool} {report : Long} : Steady (sysPte va write ptref report) :=
  .of fun _ h => keeps_sysPte va write ptref report h.toCycleClosed
theorem steady_walk {va : Long} {write : Bool} : Steady (walk va write) :=
  .of fun _ h => keeps_walk va write h.toCycleClosed
theorem steady_check {va : Long} {write : Bool} {mode : Nat} : Steady (check va write mode) :=
  .of fun _ h => keeps_check va write mode h.toCycleClosed
theorem steady_commit {t : Tran} : Steady (commit t) := .of fun _ h => keeps_commit t h.toBusClosed
theorem steady_commitMaybe {t : Tran} : Steady (commitMaybe t) := .of fun _ h => keeps_commitMaybe t h.toBusClosed
theorem steady_translate {va : Long} {write : Bool} {mode : Nat} : Steady (translate va write mode) :=
  .of fun _ h => keeps_translate va write mode h.toBusClosed
theorem steady_translateSpan {va : Long} {n : Nat} {write : Bool} {mode : Nat} : Steady (translateSpan va n write mode) :=
  .of fun _ h => keeps_translateSpan va n write mode h.toBusClosed
theorem steady_readSpan {u : Use} {sp : Span} {n : Nat} : Steady (readSpan u sp n) :=
  .of fun _ h => keeps_readSpan u sp n h.toCycleClosed
theorem steady_writeSpan {u : Use} {sp : Span} {n : Nat} {v : Octa} : Steady (writeSpan u sp n v) :=
  .of fun _ h => keeps_writeSpan u sp n v h.toBusClosed
theorem steady_memRead {u : Use} {va : Long} {n : Nat} : Steady (memRead u va n) :=
  .of fun _ h => keeps_memRead u va n h.toBusClosed
theorem steady_memDest {va : Long} {n : Nat} : Steady (memDest va n) :=
  .of fun _ h => keeps_memDest va n h.toBusClosed
theorem steady_readLong {va : Long} : Steady (readLong va) := .of fun _ h => keeps_readLong va h.toBusClosed
theorem steady_longDests {l : List Long} : Steady (longDests l) := .of fun _ h => keeps_longDests l h.toBusClosed
theorem steady_putLongs {l : List (Span × Long)} : Steady (putLongs l) := .of fun _ h => keeps_putLongs l h.toBusClosed
theorem steady_pushFrame {mode : Nat} {ws : List Long} : Steady (pushFrame mode ws) :=
  .of fun _ h => keeps_pushFrame mode ws h.toRegClosed
theorem steady_push {ws : List Long} : Steady (push ws) := .of fun _ h => keeps_push ws h.toRegClosed
theorem steady_stackTop {n : Nat} : Steady (stackTop n) := .of fun _ h => keeps_stackTop n h.toBusClosed
theorem steady_pop : Steady pop := .of fun _ h => keeps_pop h.toRegClosed
theorem steady_stopAt {why : HaltCause} {pc psl : Long} : Steady (stopAt why pc psl) :=
  .of fun _ h => keeps_stopAt why pc psl h
theorem steady_haltAt {why : HaltCause} {pc psl : Long} : Steady (haltAt why pc psl) :=
  .of fun _ h => keeps_haltAt why pc psl h
theorem steady_freeRegs {n : Nat} : Steady (freeRegs n) := .of fun _ h => keeps_freeRegs n h.toRegClosed
theorem steady_readVector {offset : Nat} : Steady (readVector offset) :=
  .of fun _ h => keeps_readVector offset h.toCycleClosed
theorem steady_noteEntry {offset : Nat} : Steady (noteEntry offset) :=
  .of fun _ h => keeps_noteEntry offset h.toStoreClosed
theorem steady_enterException {x : Exc} {pc : Long} : Steady (enterException x pc) :=
  .of fun _ h => keeps_enterException x pc h
theorem steady_enterTrap {code : Nat} : Steady (enterTrap code) := .of fun _ h => keeps_enterTrap code h
theorem steady_enterInterrupt {offset ipl : Nat} : Steady (enterInterrupt offset ipl) :=
  .of fun _ h => keeps_enterInterrupt offset ipl h
theorem steady_enterTrace : Steady enterTrace := .of fun _ h => keeps_enterTrace h
theorem steady_address {u : Use} : Steady (address u t o) := .of fun _ h => keeps_address u t o h.toRegClosed
theorem steady_rd : Steady (rd t o) := .of fun _ h => keeps_rd t o h.toRegClosed
theorem steady_wr : Steady (wr t o) := .of fun _ h => keeps_wr t o h.toRegClosed
theorem steady_mdAs {u : Use} : Steady (mdAs u t o) := .of fun _ h => keeps_mdAs u t o h.toRegClosed
theorem steady_md : Steady (md t o) := .of fun _ h => keeps_md t o h.toRegClosed
theorem steady_adr : Steady (adr t o) := .of fun _ h => keeps_adr t o h.toRegClosed
theorem steady_adrPlain : Steady (adrPlain t o) := .of fun _ h => keeps_adrPlain t o h.toRegClosed
theorem steady_fld : Steady (fld o) := .of fun _ h => keeps_fld o h.toRegClosed
theorem steady_branchTarget {w : Nat} {bytes : Nat} {d : BitVec w} : Steady (branchTarget bytes d) :=
  .of fun _ h => keeps_branchTarget bytes d h.toRegClosed
theorem steady_prepare {d : Dest} : Steady (prepare t d) := .of fun _ h => keeps_prepare t d h.toBusClosed
theorem steady_store {d : Dest} {v : BitVec t.bits} : Steady (store t d v) :=
  .of fun _ h => keeps_store t d v h.toRegClosed
theorem steady_storePlain {d : Dest} {v : BitVec t.bits} : Steady (storePlain t d v) :=
  .of fun _ h => keeps_storePlain t d v h.toRegClosed
theorem steady_rdPlain : Steady (rdPlain t o) := .of fun _ h => keeps_rdPlain t o h.toRegClosed
theorem steady_wrPlain : Steady (wrPlain t o) := .of fun _ h => keeps_wrPlain t o h.toRegClosed
theorem steady_overflowTrap : Steady overflowTrap := .of fun _ _ => keeps_overflowTrap
theorem steady_setRes {w : Nat} {x : Res w} : Steady (setRes x) := .of fun _ h => keeps_setRes x h
theorem steady_storeRes {d : Dest} {x : Res t.bits} : Steady (storeRes t d x) := .of fun _ h => keeps_storeRes t d x h
theorem steady_unary {f : BitVec ts.bits → Res td.bits} : Steady (unary ts td f src dst) :=
  .of fun _ h => keeps_unary ts td f src dst h
theorem steady_binary3 {f : BitVec t.bits → BitVec t.bits → Res t.bits} : Steady (binary3 t f a b dst) :=
  .of fun _ h => keeps_binary3 t f a b dst h
theorem steady_binary2 {f : BitVec t.bits → BitVec t.bits → Res t.bits} : Steady (binary2 t f a dst) :=
  .of fun _ h => keeps_binary2 t f a dst h
theorem steady_modify1 {f : BitVec t.bits → Res t.bits} : Steady (modify1 t f dst) :=
  .of fun _ h => keeps_modify1 t f dst h
theorem steady_clear : Steady (clear t dst) := .of fun _ h => keeps_clear t dst h
theorem steady_compareFlags {w : Nat} {a b : BitVec w} : Steady (compareFlags a b) :=
  .of fun _ h => keeps_compareFlags a b h
theorem steady_compare : Steady (compare t a b) := .of fun _ h => keeps_compare t a b h
theorem steady_test : Steady (test t a) := .of fun _ h => keeps_test t a h
theorem steady_bitTest : Steady (bitTest t a b) := .of fun _ h => keeps_bitTest t a b h
theorem steady_unibusDma {k : Nat} {c : UbCycle} {ua : BitVec 18} {d : Word16} : Steady (unibusDma k c ua d) :=
  .of fun _ h => keeps_unibusDma k c ua d h.toStoreClosed
theorem steady_agentWrite {pa : Nat} {b : Byte} : Steady (agentWrite pa b) :=
  .of fun _ h => keeps_agentWrite pa b h.toStoreClosed
theorem steady_agentInterlock {pa : Nat} {w : Option (List Byte)} : Steady (agentInterlock pa w) :=
  .of fun _ h => keeps_agentInterlock pa w h.toStoreClosed
theorem steady_needUnibus {k : Nat} {x : M Unit} (hx : Steady x) : Steady (needUnibus k x) :=
  ⟨fun s => keeps_needUnibus k (hx.keeps s)⟩
theorem steady_needMba {k : Nat} {x : M Unit} (hx : Steady x) : Steady (needMba k x) :=
  ⟨fun s => keeps_needMba k (hx.keeps s)⟩
theorem steady_only780 {x : M Unit} (hx : Steady x) : Steady (only780 x) := ⟨fun s => keeps_only780 (hx.keeps s)⟩
theorem steady_unlessDetached {k : Nat} {x : M Unit} (hx : Steady x) : Steady (unlessDetached k x) :=
  ⟨fun s => keeps_unlessDetached k (hx.keeps s)⟩
theorem steady_only750 {x : M Unit} (hx : Steady x) : Steady (only750 x) := .bind .get fun _ => .ite hx .refuse

/-! ### Integer, field and control instructions -/

theorem steady_orRetry {e : Event} {x : M Unit} (hx : Steady x) : Steady (orRetry e x) :=
  .bind (.attempt hx) fun _ => by
    split
    exacts [.pure, steady_update, .throw]

theorem steady_mova : Steady (mova t src dst) := .bind steady_adr fun _ => .bind steady_wr fun _ => steady_storeRes

theorem steady_pusha : Steady (pusha t src) := .bind steady_adr fun _ => .bind steady_push fun _ => steady_setRes

theorem steady_fieldPlace {pos : Long} {size : Nat} {base : FieldBase} : Steady (fieldPlace pos size base) :=
  .when .raise fun _ => .ite .pure
    (by
       split
       exacts [.when .raise fun _ => .when .refuse fun _ => .pure, .pure])

theorem steady_fieldRead {f : FieldPlace} : Steady (fieldRead f) := by
  unfold fieldRead
  split
  exacts [.pure, .bind .get fun _ => .pure, .bind steady_memRead fun _ => .pure]

theorem steady_fieldWrite {f : FieldPlace} {v : Long} : Steady (fieldWrite f v) := by
  unfold fieldWrite
  split
  · exact .pure
  · exact .bindGet fun s t h => .set (.ite ⟨h.cfg, h.mem⟩ ⟨h.cfg, h.mem⟩)
  · exact .bind steady_memDest fun _ => .bind steady_readSpan fun _ => steady_writeSpan

theorem steady_extract {signed : Bool} : Steady (extract signed pos size base dst) :=
  .bind steady_rdPlain fun _ => .bind steady_rdPlain fun _ => .bind steady_fld fun _ => .bind steady_wr fun _ =>
  .bind steady_fieldPlace fun _ => .bind steady_fieldRead fun _ => steady_storeRes

theorem steady_insv : Steady (insv src pos size base) :=
  .bind steady_rd fun _ => .bind steady_rdPlain fun _ => .bind steady_rdPlain fun _ => .bind steady_fld fun _ =>
  .bind steady_fieldPlace fun _ => .bind steady_fieldWrite fun _ => .done

theorem steady_cmpField {signed : Bool} : Steady (cmpField signed pos size base src) :=
  .bind steady_rdPlain fun _ => .bind steady_rdPlain fun _ => .bind steady_fld fun _ => .bind steady_rd fun _ =>
  .bind steady_fieldPlace fun _ => .bind steady_fieldRead fun _ => .bind steady_compareFlags fun _ => .done

theorem steady_findFirst {want : Bool} : Steady (findFirst want startpos size base findpos) :=
  .bind steady_rdPlain fun _ => .bind steady_rdPlain fun _ => .bind steady_fld fun _ => .bind steady_wr fun _ =>
  .bind steady_fieldPlace fun _ => .bind steady_fieldRead fun _ => .bind steady_store fun _ =>
  .bind steady_setCC fun _ => .done

theorem steady_mov : Steady (mov t src dst) := steady_unary

theorem steady_movz : Steady (movz ts td src dst) := steady_unary

theorem steady_widen : Steady (widen ts td src dst) := steady_unary

theorem steady_emul : Steady (emul a b c dst) :=
  .bind steady_rd fun _ => .bind steady_rd fun _ => .bind steady_rd fun _ => .bind steady_wr fun _ =>
  steady_storeRes

theorem steady_ediv : Steady (ediv divr divd quo rem) :=
  .bind steady_rdPlain fun _ => .bind steady_rdPlain fun _ => .bind steady_wrPlain fun _ =>
  .bind steady_wrPlain fun _ => .bind steady_prepare fun _ => .bind steady_prepare fun _ => by
    split
    exacts [.bind steady_storePlain fun _ => .bind steady_storePlain fun _ => steady_setRes]

theorem steady_ash : Steady (ash t cnt src dst) :=
  .bind steady_rd fun _ => .bind steady_rd fun _ => .bind steady_wr fun _ => steady_storeRes

theorem steady_rotl : Steady (rotl cnt src dst) :=
  .bind steady_rd fun _ => .bind steady_rd fun _ => .bind steady_wr fun _ => steady_storeRes

theorem steady_rdAt : Steady (rdAt t o) := by
  unfold rdAt
  split
  exacts [.bind steady_rd fun _ => .pure, .bind steady_getPC fun _ => .bind steady_rd fun _ => .pure,
    .bind steady_rd fun _ => .pure, .bind steady_address fun _ => .bind steady_memRead fun _ => .pure]

theorem steady_awaitInterlock : Steady awaitInterlock :=
  .bind .get fun _ => .ite
    (.ite
       (.bind steady_drawBool fun _ => .ite
          (.bind steady_latchBusError fun _ => .bind steady_machineCheck fun _ => .throw) .throw)
       .pure)
    (.ite .throw .pure)

theorem steady_adawiValue {clash : Bool} {x : Res 16} : Steady (adawiValue clash x) := .ite steady_drawBits .pure

theorem steady_adawiEnd {clash : Bool} {x : Res 16} : Steady (adawiEnd clash x) :=
  .ite
    (.bind steady_drawBool fun _ => .bind steady_drawBool fun _ => .bind steady_drawBool fun _ =>
     .bind steady_drawBool fun _ => .bind steady_setCC fun _ => steady_overflowTrap)
    steady_setRes

theorem steady_adawi : Steady (adawi add sum) :=
  .bind steady_rdAt fun (_, _) => .bind steady_wr fun _ => by
    split
    · exact .when .raise fun _ => .bind steady_memDest fun _ => .bind .get fun _ => by
        split
        · exact .bind steady_awaitInterlock fun _ => .bind steady_readSpan fun _ =>
          .bind steady_adawiValue fun _ => .bind steady_writeSpan fun _ => steady_adawiEnd
        · exact .bind steady_readSpan fun _ => .bind steady_adawiValue fun _ => .bind steady_writeSpan fun _ =>
          steady_adawiEnd
    · exact .bind steady_getR fun _ => .bind steady_adawiValue fun _ => .bind steady_store fun _ =>
      steady_adawiEnd
    · exact .done

theorem steady_pushl : Steady (pushl src) := .bind steady_rd fun _ => .bind steady_push fun _ => steady_setRes

theorem steady_withCarry {f : Long → Long → Bool → Res 32} : Steady (withCarry f a dst) :=
  .bind steady_rd fun _ => .bind steady_md fun (_, _) => .bind .get fun _ => steady_storeRes

theorem steady_branchIf {taken : Bool} {target : Long} : Steady (branchIf taken target) := .ite steady_setPC .pure

theorem steady_branchOn {w bytes : Nat} {displ : BitVec w} {cond : State → Bool} :
    Steady (branchOn bytes displ cond) :=
  .bind steady_branchTarget fun _ => .bind .get fun _ => .bind steady_branchIf fun _ => .done

theorem steady_jump : Steady (jump dst) := .bind steady_adr fun _ => .bind steady_setPC fun _ => .done

theorem steady_branchBit {want : Bool} {displ : Byte} : Steady (branchBit want pos base displ) :=
  .bind steady_rdPlain fun _ => .bind steady_fld fun _ => .bind steady_branchTarget fun _ =>
  .bind steady_fieldPlace fun _ => .bind steady_fieldRead fun _ => .bind steady_branchIf fun _ => .done

theorem steady_exchangeBit {u : Use} {f : FieldPlace} {new : Bool} : Steady (exchangeBit u f new) := by
  unfold exchangeBit
  split
  · exact .bind steady_memDest fun _ => .bind .get fun _ => by
      split
      · exact .bind steady_awaitInterlock fun _ => .bind steady_readSpan fun _ =>
        .bind steady_writeSpan fun _ => .pure
      · exact .bind steady_readSpan fun _ => .bind steady_writeSpan fun _ => .pure
  · exact .bind steady_fieldRead fun _ => .bind steady_fieldWrite fun _ => .pure

theorem steady_branchBitSet {u : Use} {want new : Bool} {displ : Byte} :
    Steady (branchBitSet u want new pos base displ) :=
  .bind steady_rdPlain fun _ => .bind steady_fld fun _ => .bind steady_branchTarget fun _ =>
  .bind steady_fieldPlace fun _ => .bind steady_exchangeBit fun _ => .bind steady_branchIf fun _ => .done

theorem steady_branchLowBit {want : Bool} {displ : Byte} : Steady (branchLowBit want src displ) :=
  .bind steady_rd fun _ => .bind steady_branchTarget fun _ => .bind steady_branchIf fun _ => .done

theorem steady_loopEnd {d : Dest} {x : Res t.bits} {taken : Bool} {target : Long} :
    Steady (loopEnd t d x taken target) :=
  .bind steady_storePlain fun _ => .bind steady_setNZV fun _ => .bind steady_branchIf fun _ =>
  steady_overflowTrap

theorem steady_acb {displ : Word16} : Steady (acb t limit add idx displ) :=
  .bind steady_rdPlain fun _ => .bind steady_rdPlain fun _ => .bind steady_mdAs fun (_, _) =>
  .bind steady_branchTarget fun _ => steady_loopEnd

theorem steady_aob {leq : Bool} {displ : Byte} : Steady (aob leq limit idx displ) :=
  .bind steady_rdPlain fun _ => .bind steady_mdAs fun (_, _) => .bind steady_branchTarget fun _ =>
  steady_loopEnd

theorem steady_sob {geq : Bool} {displ : Byte} : Steady (sob geq idx displ) :=
  .bind steady_mdAs fun (_, _) => .bind steady_branchTarget fun _ => steady_loopEnd

theorem State.answered_handsOn (s : State) (pa n : Nat) : s.HandsOn (s.answered pa n) := ⟨rfl, id⟩

theorem State.fetchedByte_handsOn (s : State) (k pa : Nat) : s.HandsOn (s.fetchedByte k pa) := by
  unfold State.fetchedByte
  split
  · exact ⟨rfl, id⟩
  · dsimp only
    split
    · exact s.answered_handsOn pa 1
    · split <;> exact ⟨rfl, id⟩

theorem State.drawn_handsOn (s : State) (n : Nat) : s.HandsOn (s.drawn n) := by
  unfold State.drawn
  exact .ite ⟨rfl, id⟩ (.refl s)

theorem steady_streamWord {va : Long} : Steady (streamWord va) :=
  .bind .get fun _ => .bind steady_translateSpan fun _ => .bindGet fun s t h => by
    split
    · exact .bind (.set (h.trans (((s.fetchedByte_handsOn _ _).trans (State.fetchedByte_handsOn _ _ _)).trans
        (State.drawn_handsOn _ _)))) fun _ => .pure _
    · exact steady_unreadableByte.keeps t
    · exact steady_unreadableByte.keeps t

theorem steady_case : Steady (case t selector base limit) :=
  .bind steady_rd fun _ => .bind steady_rd fun _ => .bind steady_rd fun _ => .bind steady_getPC fun _ => .ite
    (.bind steady_streamWord fun _ => .bind steady_setPC fun _ => .bind steady_compareFlags fun _ => .done)
    (.bind steady_setPC fun _ => .bind steady_compareFlags fun _ => .done)

theorem steady_branchSub {w bytes : Nat} {displ : BitVec w} : Steady (branchSub bytes displ) :=
  .bind steady_branchTarget fun _ => .bind steady_getPC fun _ => .bind steady_push fun _ =>
  .bind steady_setPC fun _ => .done

theorem steady_jsb : Steady (jsb dst) :=
  .bind steady_adr fun _ => .bind steady_getPC fun _ => .bind steady_push fun _ => .bind steady_setPC fun _ =>
  .done

theorem steady_rsb : Steady rsb := .bind steady_pop fun _ => .bind steady_setPC fun _ => .done

/-! ### Strings -/

theorem steady_readByte {va : Long} : Steady (readByte va) := .bind steady_memRead fun _ => .pure

theorem steady_readBytes {va : Long} {n : Nat} : Steady (readBytes va n) := by
  induction n generalizing va with
  | zero => exact .pure
  | succ _ ih => exact .bind steady_readByte fun _ => .bind ih fun _ => .pure

theorem steady_destByte {va : Long} : Steady (destByte va) := .bind steady_memDest fun _ => .pure

theorem steady_destBytes {va : Long} {n : Nat} : Steady (destBytes va n) := by
  induction n generalizing va with
  | zero => exact .pure
  | succ _ ih => exact .bind steady_destByte fun _ => .bind ih fun _ => .pure

theorem steady_writableBytes {va : Long} {n : Nat} : Steady (writableBytes va n) := by
  induction n generalizing va with
  | zero => exact .pure
  | succ _ ih =>
    exact .bind (.attempt steady_destByte) fun _ => by
        split
        exacts [.bind ih fun _ => .pure, ih, .throw]

theorem steady_putBytes {l : List (Nat × Byte)} : Steady (putBytes l) := by
  induction l with
  | nil => exact .pure
  | cons _ _ ih => exact .bind steady_physWrite fun _ => ih

theorem steady_freeBytes {n : Nat} : Steady (freeBytes n) := by
  induction n with
  | zero => exact .pure
  | succ _ ih => exact .bind steady_drawBits fun _ => .bind ih fun _ => .pure

theorem steady_setRegs {n : Nat} {l : List Long} : Steady (setRegs n l) := by
  induction l generalizing n with
  | nil => exact .pure
  | cons _ _ ih => exact .bind steady_setR fun _ => ih

theorem steady_translateByte {tbl : Long} {b : Byte} : Steady (translateByte tbl b) := steady_readByte

theorem steady_lengthFlags {a b : Word16} {v : Bool} : Steady (lengthFlags a b v) := steady_setCC

theorem steady_movc3 : Steady (movc3 len srcaddr dstaddr) :=
  .bind steady_rdPlain fun _ => .bind steady_adrPlain fun _ => .bind steady_adrPlain fun _ =>
  .bind steady_readBytes fun _ => .bind steady_destBytes fun _ => .bind steady_putBytes fun _ =>
  .bind steady_setRegs fun _ => .bind steady_setCC fun _ => .done

theorem steady_movc5 : Steady (movc5 srclen srcaddr fill dstlen dstaddr) :=
  .bind steady_rdPlain fun _ => .bind steady_adrPlain fun _ => .bind steady_rdPlain fun _ =>
  .bind steady_rdPlain fun _ => .bind steady_adrPlain fun _ => .bind steady_readBytes fun _ =>
  .bind steady_destBytes fun _ => .bind steady_putBytes fun _ => .bind steady_setRegs fun _ =>
  .bind steady_lengthFlags fun _ => .done

theorem steady_translateBytes {tbl va : Long} {n : Nat} : Steady (translateBytes tbl va n) := by
  induction n generalizing va with
  | zero => exact .pure
  | succ _ ih =>
    exact .bind steady_readByte fun _ => .bind steady_translateByte fun _ => .bind ih fun _ =>
      .pure

theorem steady_movtc : Steady (movtc srclen srcaddr fill tbladdr dstlen dstaddr) :=
  .bind steady_rdPlain fun _ => .bind steady_adrPlain fun _ => .bind steady_rdPlain fun _ =>
  .bind steady_adrPlain fun _ => .bind steady_rdPlain fun _ => .bind steady_adrPlain fun _ =>
  .bind steady_translateBytes fun _ => .bind steady_destBytes fun _ => .choose steady_freeBytes .pure fun _ =>
  .bind steady_putBytes fun _ => .bind steady_setRegs fun _ => .bind steady_lengthFlags fun _ => .done

theorem steady_translateUntil {tbl : Long} {esc : Byte} {s d : Long} {n : Nat} :
    Steady (translateUntil tbl esc s d n) := by
  induction n generalizing s d with
  | zero => exact .pure
  | succ _ ih =>
    exact .bind steady_readByte fun _ => .bind steady_translateByte fun _ => .ite .pure
        (.bind steady_destByte fun _ => .bind ih fun (_, _) => .pure)

theorem steady_translateFreely {tbl s d : Long} {n : Nat} : Steady (translateFreely tbl s d n) := by
  induction n generalizing s d with
  | zero => exact .pure
  | succ _ ih =>
    exact .bind steady_readByte fun _ => .bind (.discard steady_translateByte) fun _ =>
      .bind steady_drawBool fun _ => .ite .pure (.bind (.discard steady_destByte) fun _ => ih)

theorem steady_movtuc : Steady (movtuc srclen srcaddr esc tbladdr dstlen dstaddr) :=
  .bind steady_rdPlain fun _ => .bind steady_adrPlain fun _ => .bind steady_rdPlain fun _ =>
  .bind steady_adrPlain fun _ => .bind steady_rdPlain fun _ => .bind steady_adrPlain fun _ => .ite
    (.bind steady_translateFreely fun _ => .bind steady_writableBytes fun _ => .bind steady_freeBytes fun _ =>
     .bind steady_putBytes fun _ => .bind steady_freeRegs fun _ => .bind steady_lengthFlags fun _ => .done)
    (.bind steady_translateUntil fun (_, _) => .bind steady_putBytes fun _ => .bind steady_setRegs fun _ =>
     .bind steady_lengthFlags fun _ => .done)

theorem steady_byteFlags {a b : Byte} : Steady (byteFlags a b) := steady_setCC

theorem steady_byteOrFill {va : Long} {len i : Nat} {fill : Byte} : Steady (byteOrFill va len i fill) :=
  .ite steady_readByte .pure

theorem steady_compareFrom {a b : Long} {len1 len2 : Nat} {fill : Byte} {i n : Nat} :
    Steady (compareFrom a b len1 len2 fill i n) := by
  induction n generalizing i with
  | zero => exact .pure
  | succ _ ih =>
    exact .bind steady_byteOrFill fun _ => .bind steady_byteOrFill fun _ =>
      .bind steady_byteFlags fun _ => .ite .pure ih

theorem steady_compareStrings {a b : Long} {len1 len2 : Nat} {fill : Byte} :
    Steady (compareStrings a b len1 len2 fill) :=
  .bind steady_setCC fun _ => .bind steady_compareFrom fun _ => .bind steady_setRegs fun _ => .done

theorem steady_cmpc3 : Steady (cmpc3 len src1addr src2addr) :=
  .bind steady_rdPlain fun _ => .bind steady_adrPlain fun _ => .bind steady_adrPlain fun _ =>
  steady_compareStrings

theorem steady_cmpc5 : Steady (cmpc5 src1len src1addr fill src2len src2addr) :=
  .bind steady_rdPlain fun _ => .bind steady_adrPlain fun _ => .bind steady_rdPlain fun _ =>
  .bind steady_rdPlain fun _ => .bind steady_adrPlain fun _ => steady_compareStrings

theorem steady_passOver {skip : Byte → M Bool} {va : Long} {n : Nat} (hskip : ∀ a, Steady (skip a)) :
    Steady (passOver skip va n) := by
  induction n generalizing va with
  | zero => exact .pure
  | succ _ ih =>
    exact .bind steady_readByte fun _ => .bind (hskip _) fun _ => .ite (.bind ih fun _ => .pure)
        .pure

theorem steady_searchFlags {r : Nat} : Steady (searchFlags r) := steady_setCC

theorem steady_scan {span : Bool} : Steady (scan span len addr tbladdr mask) :=
  .bind steady_rdPlain fun _ => .bind steady_adrPlain fun _ => .bind steady_adrPlain fun _ =>
  .bind steady_rdPlain fun _ => .bind (steady_passOver (fun _ => .bind steady_translateByte fun _ =>
   .pure)) fun _ => .bind steady_setRegs fun _ => .bind steady_searchFlags fun _ => .done

theorem steady_locate {skipChar : Bool} : Steady (locate skipChar char len addr) :=
  .bind steady_rdPlain fun _ => .bind steady_rdPlain fun _ => .bind steady_adrPlain fun _ =>
  .bind (steady_passOver (fun _ => .pure)) fun _ => .bind steady_setRegs fun _ =>
  .bind steady_searchFlags fun _ => .done

theorem steady_sameBytes {a b : Long} {n : Nat} : Steady (sameBytes a b n) := by
  induction n generalizing a b with
  | zero => exact .pure
  | succ _ ih => exact .bind steady_readByte fun _ => .bind steady_readByte fun _ => .ite .pure ih

theorem steady_matchFrom {src obj : Long} {objlen j n : Nat} : Steady (matchFrom src obj objlen j n) := by
  induction n generalizing j with
  | zero => exact .pure
  | succ _ ih => exact .bind steady_sameBytes fun _ => .ite .pure ih

theorem steady_matchc : Steady (matchc objlen objaddr srclen srcaddr) :=
  .bind steady_rdPlain fun _ => .bind steady_adrPlain fun _ => .bind steady_rdPlain fun _ =>
  .bind steady_adrPlain fun _ => .bind steady_matchFrom fun _ => by
    split
    · exact .bind steady_setRegs fun _ => .bind steady_setCC fun _ => .done
    · exact .bind (.discard steady_readBytes) fun _ => .bind steady_setRegs fun _ => .bind steady_setCC fun _ =>
      .done

/-! ### Packed decimal -/

theorem steady_checkLen {n : Nat} : Steady (checkLen n) := .ite .raise .pure

theorem steady_valid {α : Type} {x : Option α} : Steady (valid x) := by
  unfold valid
  split
  exacts [.pure, .raise]

theorem steady_readPacked {va : Long} {len : Nat} : Steady (readPacked va len) :=
  .bind steady_readBytes fun _ => steady_valid

theorem steady_decimalTrap : Steady decimalTrap := .bind .get fun _ => .pure

theorem steady_storeDec {d : DecString} {srcs : List DecString} {regs : List Long} {v : Int} {keepC : Bool}
    {bytes : Bool → List Nat → M (List Byte)} (hbytes : ∀ a b, Steady (bytes a b)) :
    Steady (storeDec d srcs regs v keepC bytes) :=
  .bind (hbytes _ _) fun _ => .bind steady_destBytes fun _ => .bind .get fun _ =>
  .choose steady_freeBytes .pure fun _ => .bind steady_putBytes fun _ => .bind steady_setRegs fun _ =>
  .bind steady_setCC fun _ => steady_decimalTrap

theorem steady_storePacked {dst : Long} {dstlen : Nat} {srcs : List DecString} {regs : List Long} {v : Int} :
    Steady (storePacked dst dstlen srcs regs v) :=
  steady_storeDec fun _ _ => .pure

theorem steady_packedOpnd : Steady (packedOpnd len addr) :=
  .bind steady_rdPlain fun _ => .bind steady_adrPlain fun _ => .pure

theorem steady_movp : Steady (movp len srcaddr dstaddr) :=
  .bind steady_packedOpnd fun (_, _) => .bind steady_adrPlain fun _ => .bind steady_checkLen fun _ =>
  .bind steady_readPacked fun _ => steady_storeDec fun _ _ => .pure

theorem steady_comparePacked {n1 : Nat} {a : Long} {n2 : Nat} {b : Long} : Steady (comparePacked n1 a n2 b) :=
  .bind steady_checkLen fun _ => .bind steady_checkLen fun _ => .bind steady_readPacked fun _ =>
  .bind steady_readPacked fun _ => .bind steady_setRegs fun _ => .bind steady_setCC fun _ => .done

theorem steady_cmpp3 : Steady (cmpp3 len src1addr src2addr) :=
  .bind steady_packedOpnd fun (_, _) => .bind steady_adrPlain fun _ => steady_comparePacked

theorem steady_cmpp4 : Steady (cmpp4 src1len src1addr src2len src2addr) :=
  .bind steady_packedOpnd fun (_, _) => .bind steady_packedOpnd fun (_, _) => steady_comparePacked

theorem steady_packed4 {f : Int → Int → Int} : Steady (packed4 f len1 addr1 len2 addr2) :=
  .bind steady_packedOpnd fun (_, _) => .bind steady_packedOpnd fun (_, _) => .bind steady_checkLen fun _ =>
  .bind steady_checkLen fun _ => .bind steady_readPacked fun _ => .bind steady_readPacked fun _ =>
  steady_storePacked

theorem steady_packed6 {f : Int → Int → Int} : Steady (packed6 f len1 addr1 len2 addr2 len3 addr3) :=
  .bind steady_packedOpnd fun (_, _) => .bind steady_packedOpnd fun (_, _) =>
  .bind steady_packedOpnd fun (_, _) => .bind steady_checkLen fun _ => .bind steady_checkLen fun _ =>
  .bind steady_checkLen fun _ => .bind steady_readPacked fun _ => .bind steady_readPacked fun _ =>
  steady_storePacked

theorem steady_divp : Steady (divp divrlen divraddr divdlen divdaddr quolen quoaddr) :=
  .bind steady_packedOpnd fun (_, _) => .bind steady_packedOpnd fun (_, _) =>
  .bind steady_packedOpnd fun (_, _) => .bind steady_checkLen fun _ => .bind steady_checkLen fun _ =>
  .bind steady_checkLen fun _ => .bind steady_readPacked fun _ => .ite
    (.bind steady_destBytes fun _ => .bind steady_freeBytes fun _ => .bind steady_putBytes fun _ =>
     .bind steady_setRegs fun _ => .bind steady_drawBool fun _ => .bind steady_drawBool fun _ =>
     .bind steady_drawBool fun _ => .bind steady_drawBool fun _ => .bind steady_setCC fun _ => .pure)
    (.bind steady_readPacked fun _ => steady_storePacked)

theorem steady_ashp : Steady (ashp cnt srclen srcaddr round dstlen dstaddr) :=
  .bind steady_rdPlain fun _ => .bind steady_packedOpnd fun (_, _) => .bind steady_rdPlain fun _ =>
  .bind steady_packedOpnd fun (_, _) => .bind steady_checkLen fun _ => .bind steady_checkLen fun _ =>
  .bind steady_readPacked fun _ => steady_storePacked

theorem steady_cvtlp : Steady (cvtlp src dstlen dstaddr) :=
  .bind steady_rdPlain fun _ => .bind steady_packedOpnd fun (_, _) => .bind steady_checkLen fun _ =>
  steady_storePacked

theorem steady_cvtpl : Steady (cvtpl srclen srcaddr dst) :=
  .bind steady_packedOpnd fun (_, _) => .bind steady_checkLen fun _ => .bind steady_readPacked fun _ =>
  .bind steady_setRegs fun _ => .bind steady_wrPlain fun _ => .bind steady_storePlain fun _ => steady_setRes

theorem steady_cvtps : Steady (cvtps srclen srcaddr dstlen dstaddr) :=
  .bind steady_packedOpnd fun (_, _) => .bind steady_packedOpnd fun (_, _) => .bind steady_checkLen fun _ =>
  .bind steady_checkLen fun _ => .bind steady_readPacked fun _ => steady_storeDec fun _ _ => .pure

theorem steady_cvtsp : Steady (cvtsp srclen srcaddr dstlen dstaddr) :=
  .bind steady_packedOpnd fun (_, _) => .bind steady_packedOpnd fun (_, _) => .bind steady_checkLen fun _ =>
  .bind steady_checkLen fun _ => .bind steady_readBytes fun _ => .bind steady_valid fun _ => steady_storePacked

theorem steady_trailingBytes {tbl : Long} {minus : Bool} {ds : List Nat} : Steady (trailingBytes tbl minus ds) := by
  unfold trailingBytes
  split
  exacts [.pure, .bind steady_readByte fun _ => .pure]

theorem steady_cvtpt : Steady (cvtpt srclen srcaddr tbladdr dstlen dstaddr) :=
  .bind steady_packedOpnd fun (_, _) => .bind steady_adrPlain fun _ => .bind steady_packedOpnd fun (_, _) =>
  .bind steady_checkLen fun _ => .bind steady_checkLen fun _ => .bind steady_readPacked fun _ =>
  steady_storeDec fun _ _ => steady_trailingBytes

theorem steady_cvttp : Steady (cvttp srclen srcaddr tbladdr dstlen dstaddr) :=
  .bind steady_packedOpnd fun (_, _) => .bind steady_adrPlain fun _ => .bind steady_packedOpnd fun (_, _) =>
  .bind steady_checkLen fun _ => .bind steady_checkLen fun _ => .bind steady_readBytes fun _ => by
    split
    exacts [.bind .pure fun _ => steady_storePacked, .bind steady_translateByte fun _ =>
      .bind steady_valid fun _ => steady_storePacked]

theorem steady_editPut {e : Edit} {b : Byte} : Steady (editPut e b) := .bind steady_destByte fun _ => .pure

theorem steady_nextDigit {e : Edit} : Steady (nextDigit e) := by
  unfold nextDigit
  split
  exacts [.pure, .raise, .ite .raise .pure]

theorem steady_editFill {e : Edit} {n : Nat} : Steady (editFill e n) := by
  induction n generalizing e with
  | zero => exact .pure
  | succ _ ih => exact .bind steady_editPut fun _ => ih

theorem steady_editDigit {e : Edit} {d : Nat} : Steady (editDigit e d) := steady_editPut

theorem steady_editMove {float : Bool} {e : Edit} {n : Nat} : Steady (editMove float e n) := by
  induction n generalizing e with
  | zero => exact .pure
  | succ _ ih =>
    exact .bind steady_nextDigit fun (_, _) => .choose steady_editPut .pure fun _ =>
      .bind steady_editDigit fun _ => ih

theorem steady_editBack {e : Edit} {len : Nat} : Steady (editBack e len) := .ite .raise .pure

theorem steady_editAdjust {e : Edit} {len : Nat} : Steady (editAdjust e len) :=
  .when .raise fun _ => .ite (.when .raise fun _ => .ite .pure .pure) (.ite .pure .pure)

theorem steady_editWith {e : Edit} {op : Nat} {ch : Byte} : Steady (editWith e op ch) := by
  unfold editWith
  split
  exacts [.pure, .pure, .pure, .pure, steady_editPut, .bind steady_editBack fun _ => .pure,
    .bind steady_editBack fun _ => .pure, steady_editAdjust]

theorem steady_editOp {e : Edit} {op : Nat} : Steady (editOp e op) :=
  .ite (.choose .pure steady_editPut fun _ => .pure)
    (.ite .pure
       (.ite .pure
          (.ite steady_editPut
             (.ite (.bind steady_readByte fun _ => steady_editWith)
                (.ite steady_editFill (.ite steady_editMove (.ite steady_editMove .raise)))))))

theorem steady_editRun {e : Edit} {n : Nat} : Steady (editRun e n) := by
  induction n generalizing e with
  | zero => exact .throw
  | succ _ ih =>
    exact .bind steady_readByte fun _ => .ite (.when .raise fun _ => .pure)
        (.bind steady_editOp fun _ => ih)

theorem steady_editpc : Steady (editpc srclen srcaddr pattern dstaddr) :=
  .bind steady_packedOpnd fun (_, _) => .bind steady_adrPlain fun _ => .bind steady_adrPlain fun _ =>
  .bind steady_checkLen fun _ => .bind steady_readBytes fun _ => .when .raise fun _ =>
  .bind steady_editRun fun _ => .ite
    (.bind steady_freeBytes fun _ => .bind .pure fun _ => .bind steady_putBytes fun _ =>
     .bind steady_setRegs fun _ => .bind steady_setCC fun _ => steady_decimalTrap)
    (.bind .pure fun _ => .bind steady_putBytes fun _ => .bind steady_setRegs fun _ =>
     .bind steady_setCC fun _ => steady_decimalTrap)

/-! ### Floating point -/

theorem steady_settle {x : Rounded t.bits} : Steady (settle t x) :=
  .bind .get fun _ => by
    split
    exacts [.pure, .when .raise fun _ => .pure, .ite (.when .raise fun _ => .pure) .pure]

theorem steady_divideByZero : Steady (divideByZero t) := .bind .get fun _ => .when .raise fun _ => .pure

theorem steady_floatOf {v : BitVec t.bits} : Steady (floatOf t v) := .ite .raise .pure

theorem steady_accNote {bit : BitVec 3} : Steady (accNote t bit) := .bind .get fun _ => .ite steady_modV780 .pure

theorem steady_accOf {v : BitVec t.bits} : Steady (accOf t v) := .when steady_accNote fun _ => steady_floatOf

theorem steady_accSettle {x : Rounded t.bits} : Steady (accSettle t x) := by
  unfold accSettle
  split
  exacts [steady_settle, .bind steady_accNote fun _ => steady_settle, .bind steady_accNote fun _ =>
    steady_settle]

theorem steady_floatFlags {w : Nat} {x : FloatRes w} {keepC : Bool} : Steady (floatFlags x keepC) :=
  .bindGet fun _ _ h => .set ⟨h.cfg, h.mem⟩

theorem steady_storeFloat {d : Dest} {x : FloatRes t.bits} : Steady (storeFloat t d x) :=
  .bind steady_store fun _ => .bind steady_floatFlags fun _ => .pure

theorem steady_moveFloat {negate : Bool} : Steady (moveFloat t negate src dst) :=
  .bind steady_rd fun _ => .bind steady_wr fun _ => .bind steady_floatOf fun _ => .bind steady_store fun _ =>
  .bind steady_floatFlags fun _ => .done

theorem steady_testFloat : Steady (testFloat t src) :=
  .bind steady_rd fun _ => .bind steady_floatOf fun _ => .bind steady_setCC fun _ => .done

theorem steady_compareFloat : Steady (compareFloat t src1 src2) :=
  .bind steady_rd fun _ => .bind steady_rd fun _ => .bind steady_floatOf fun _ => .bind steady_floatOf fun _ =>
  .bind steady_setCC fun _ => .done

theorem steady_float2 {f : ExactNum → ExactNum → M (FloatRes t.bits)} (hf : ∀ a b, Steady (f a b)) :
    Steady (float2 t f src dst) :=
  .bind steady_rd fun _ => .bind steady_md fun (_, _) => .bind steady_accOf fun _ => .bind steady_accOf fun _ =>
  .bind (hf _ _) fun _ => steady_storeFloat

theorem steady_float3 {f : ExactNum → ExactNum → M (FloatRes t.bits)} (hf : ∀ a b, Steady (f a b)) :
    Steady (float3 t f src1 src2 dst) :=
  .bind steady_rd fun _ => .bind steady_rd fun _ => .bind steady_wr fun _ => .bind steady_accOf fun _ =>
  .bind steady_accOf fun _ => .bind (hf _ _) fun _ => steady_storeFloat

theorem steady_addF {a b : ExactNum} : Steady (addF t a b) := steady_accSettle

theorem steady_subF {a b : ExactNum} : Steady (subF t a b) := steady_accSettle

theorem steady_mulF {a b : ExactNum} : Steady (mulF t a b) := steady_accSettle

theorem steady_divF {a b : ExactNum} : Steady (divF t a b) := .ite steady_divideByZero steady_accSettle

theorem steady_intToFloat : Steady (intToFloat ts td src dst) :=
  .bind steady_rd fun _ => .bind steady_wr fun _ => .bind steady_accSettle fun _ => steady_storeFloat

theorem steady_floatToInt {rounded : Bool} : Steady (floatToInt ts td rounded src dst) :=
  .bind steady_rd fun _ => .bind steady_wr fun _ => .bind steady_accOf fun _ => steady_storeRes

theorem steady_floatToFloat : Steady (floatToFloat ts td src dst) :=
  .bind steady_rd fun _ => .bind steady_wr fun _ => .bind steady_floatOf fun _ => .bind steady_settle fun _ =>
  steady_storeFloat

theorem steady_acbFloat {displ : Word16} : Steady (acbFloat t limit add idx displ) :=
  .bind steady_rd fun _ => .bind steady_rd fun _ => .bind steady_md fun (_, _) =>
  .bind steady_branchTarget fun _ => .bind steady_floatOf fun _ => .bind steady_floatOf fun _ =>
  .bind steady_floatOf fun _ => .bind steady_settle fun _ => .bind steady_store fun _ =>
  .bind steady_floatFlags fun _ => .bind steady_branchIf fun _ => .pure

theorem steady_emod : Steady (emod t tx mulr mulrx muld intg fract) :=
  .bind steady_rd fun _ => .bind steady_rdPlain fun _ => .bind steady_rd fun _ => .bind steady_wrPlain fun _ =>
  .bind steady_wr fun _ => .bind steady_accOf fun _ => .bind steady_accOf fun _ =>
  .bind steady_accSettle fun _ => .bind steady_prepare fun _ => .bind steady_prepare fun _ =>
  .choose steady_drawBits .pure fun _ => .choose steady_drawBits .pure fun _ => .bind steady_storePlain fun _ =>
  .bind steady_store fun _ => .bind steady_setCC fun _ => by
    split
    exacts [.pure, steady_overflowTrap]

theorem steady_coefficient {tbl : Long} {i : Nat} : Steady (coefficient t tbl i) :=
  .bind steady_memRead fun _ => steady_accOf

theorem steady_polyStep {arg : ExactNum} {tbl : Long} {p : Poly t.bits} {i : Nat} : Steady (polyStep t arg tbl p i) :=
  .ite .pure (.bind steady_coefficient fun _ => .bind steady_accSettle fun _ => .pure)

theorem steady_poly : Steady (poly t arg degree tbladdr) :=
  .bind steady_rd fun _ => .bind steady_rdPlain fun _ => .bind steady_adrPlain fun _ =>
  .bind steady_accOf fun _ => .when .raise fun _ => .bind steady_coefficient fun _ =>
  .bind steady_accSettle fun _ => .bind (.foldlM fun _ _ => steady_polyStep) fun p =>
  .bind (.modify fun s => by
    have h := s.putRegs_handsOn t 0 p.r
    dsimp only
    split <;> exact ⟨h.cfg, h.mem⟩) fun _ =>
  .bind steady_setCC fun _ => .pure

/-! ### Registers, PSW, INDEX, CRC, procedure calls -/

theorem steady_pushr : Steady (pushr mask) :=
  .bind steady_rd fun _ => .bind .get fun _ => .when steady_push fun _ => .done

theorem steady_loadRegs {l : List (Nat × Long)} : Steady (loadRegs l) := by
  induction l with
  | nil => exact .pure
  | cons _ _ ih => exact .bind steady_setR fun _ => ih

theorem steady_popr : Steady (popr mask) :=
  .bind steady_rd fun _ => .ite
    (.bind steady_stackTop fun _ => .bind steady_getR fun _ => .bind steady_setR fun _ =>
     .bind steady_loadRegs fun _ => .done)
    .done

theorem steady_movpsl : Steady (movpsl dst) :=
  .bind steady_wr fun _ => .bind .get fun _ => .bind steady_store fun _ => .done

theorem steady_changePsw {f : Long → Long → Long} : Steady (changePsw f mask) :=
  .bind steady_rd fun _ => .when .raise fun _ => .bind steady_update fun _ => .done

theorem steady_index : Steady (index subscript low high size indexin indexout) :=
  .bind steady_rd fun _ => .bind steady_rd fun _ => .bind steady_rd fun _ => .bind steady_rd fun _ =>
  .bind steady_rd fun _ => .bind steady_wr fun _ => steady_storeRes

theorem steady_crcNibble {tbl x : Long} : Steady (crcNibble tbl x) := .bind steady_readLong fun _ => .pure

theorem steady_crcFrom {tbl x va : Long} {n : Nat} : Steady (crcFrom tbl x va n) := by
  induction n generalizing x va with
  | zero => exact .pure
  | succ _ ih =>
    exact .bind steady_readByte fun _ => .bind steady_crcNibble fun _ =>
      .bind steady_crcNibble fun _ => ih

theorem steady_crc : Steady (crc tbl inicrc strlen stream) :=
  .bind steady_adrPlain fun _ => .bind steady_rdPlain fun _ => .bind steady_rdPlain fun _ =>
  .bind steady_adrPlain fun _ => .bind steady_crcFrom fun _ => .bind steady_setRegs fun _ =>
  .bind steady_setNZV fun _ => .done

theorem steady_call {numarg : Option Long} {ap dst : Long} : Steady (call numarg ap dst) :=
  .bind steady_memRead fun _ => .when .raise fun _ => .bind .get fun _ => .bind steady_longDests fun _ =>
  .bind steady_putLongs fun _ => .bind steady_setR fun _ => .bind steady_setR fun _ =>
  .bind steady_setR fun _ => .bind steady_update fun _ => .bind steady_setPC fun _ => .done

theorem steady_callg : Steady (callg arglist dst) := .bind steady_adr fun _ => .bind steady_adr fun _ => steady_call

theorem steady_calls : Steady (calls numarg dst) := .bind steady_rd fun _ => .bind steady_adr fun _ => steady_call

theorem steady_ret : Steady ret :=
  .bind steady_getR fun _ => .bind steady_setR fun _ => .bind steady_pop fun _ => .when .raise fun _ =>
  .bind steady_pop fun _ => .bind steady_setR fun _ => .bind steady_pop fun _ => .bind steady_setR fun _ =>
  .bind steady_pop fun _ => .bind (.forM (fun _ => .bind steady_pop fun _ => steady_setR)) fun _ =>
  .bind steady_getR fun _ => .bind steady_setR fun _ => .bind steady_update fun _ => .ite
    (.bind steady_getR fun _ => .bind steady_readLong fun _ => .bind steady_setR fun _ =>
     .bind steady_setPC fun _ => .done)
    (.bind steady_setPC fun _ => .done)

/-! ### Queues -/

theorem steady_putLong {sp : Span} {v : Long} : Steady (putLong sp v) := steady_writeSpan

theorem steady_longDest {va : Long} : Steady (longDest va) := steady_memDest

theorem steady_queueFlags {a b : Long} {v : Bool} : Steady (queueFlags a b v) := steady_setCC

theorem steady_insque : Steady (insque entry pred) :=
  .bind steady_adrPlain fun _ => .bind steady_adrPlain fun _ => .bind steady_readLong fun _ =>
  .bind steady_longDest fun _ => .bind steady_longDest fun _ => .bind steady_longDest fun _ =>
  .bind steady_longDest fun _ => .bind steady_putLong fun _ => .bind steady_putLong fun _ =>
  .bind steady_putLong fun _ => .bind steady_putLong fun _ => .bind steady_queueFlags fun _ => .done

theorem steady_remque : Steady (remque entry addr) :=
  .bind steady_adrPlain fun _ => .bind steady_wr fun _ => .bind steady_readLong fun _ =>
  .bind steady_readLong fun _ => .ite
    (.bind steady_longDest fun _ => .bind steady_longDest fun _ => .bind steady_prepare fun _ =>
     .bind steady_putLong fun _ => .bind steady_putLong fun _ => .bind steady_store fun _ =>
     .bind steady_queueFlags fun _ => .done)
    (.bind steady_store fun _ => .bind steady_queueFlags fun _ => .done)

theorem steady_lockedRead {h : Long} : Steady (lockedRead h) :=
  .bind steady_longDest fun _ => .bind .get fun _ => by
    split
    exacts [.bind steady_awaitInterlock fun _ => .bind steady_readSpan fun _ => .pure,
      .bind steady_readSpan fun _ => .pure]

theorem steady_withLock {α : Type} {h : Span} {a : Long} {x : M α} (hx : Steady x) : Steady (withLock h a x) :=
  .bind steady_putLong fun _ => .bind (.attempt hx) fun
    | .error _ => .bind steady_putLong fun _ => .throw
    | .ok _ => .pure

theorem steady_insertHead {h : Long} {hs : Span} {e : Long} {es : Span} {a : Long} :
    Steady (insertHead h hs e es a) :=
  .bind (steady_withLock steady_longDest) fun _ => .bind steady_putLong fun _ => .bind steady_putLong fun _ =>
  .bind steady_putLong fun _ => .bind steady_putLong fun _ => steady_setCC

theorem steady_insertTail {h : Long} {hs : Span} {e : Long} {es : Span} {a : Long} :
    Steady (insertTail h hs e es a) :=
  .bind (steady_withLock (.bind steady_readLong fun _ => .when .raise fun _ => .bind steady_longDest fun _ =>
    .bind steady_longDest fun _ => .pure)) fun (_, _, _) => .bind steady_putLong fun _ =>
  .bind steady_putLong fun _ => .bind steady_putLong fun _ => .bind steady_putLong fun _ =>
  .bind steady_putLong fun _ => steady_setCC

theorem steady_unlessLocked {hs : Span} {a : Long} {x : M Unit} (hx : Steady x) : Steady (unlessLocked hs a x) := by
  unfold unlessLocked
  exact .whenThen steady_putLong .raise fun _ => .ite (.bind steady_putLong fun _ => steady_setCC) hx

theorem steady_beginInsert {e h : Long} : Steady (beginInsert e h) := by
  unfold beginInsert
  exact .when .raise fun _ => .bind steady_memDest fun _ => .bind steady_lockedRead fun (_, _) => .pure

theorem steady_insqhi {e h : Long} : Steady (insqhi e h) :=
  .bind steady_beginInsert fun (_, _, _) => steady_unlessLocked steady_insertHead

theorem steady_insqti {e h : Long} : Steady (insqti e h) :=
  .bind steady_beginInsert fun (_, _, _) => .ite (.bind steady_putLong fun _ => steady_insqhi)
    (steady_unlessLocked steady_insertTail)

theorem steady_insqi {tail : Bool} : Steady (insqi tail entry header) :=
  .bind steady_adrPlain fun _ => .bind steady_adrPlain fun _ => .choose steady_insqti steady_insqhi fun _ =>
  .done

theorem steady_removeHead {h : Long} {hs : Span} {d : Dest} {a : Long} : Steady (removeHead h hs d a) :=
  .bind (steady_withLock (.bind steady_readLong fun _ => .when .raise fun _ => .bind steady_longDest fun _ =>
    .pure)) fun (_, _) => .bind steady_putLong fun _ => .bind steady_putLong fun _ =>
  .bind steady_storePlain fun _ => steady_setCC

theorem steady_lastEntry {h c : Long} : Steady (lastEntry h c) := by
  unfold lastEntry
  exact .when .raise fun _ => .bind steady_readLong fun _ => .when .raise fun _ => .bind steady_longDest fun _ =>
    .bind steady_longDest fun _ => .pure

theorem steady_removeTail {h : Long} {single : M Unit} {hs : Span} {d : Dest} {a : Long} (hsingle : Steady single) :
    Steady (removeTail h single hs d a) :=
  .bind (steady_withLock (.bind steady_readLong fun _ => .ite .pure
      (.bind steady_lastEntry fun _ => .pure))) fun
    | none => .bind steady_putLong fun _ => hsingle
    | some _ => .bind steady_putLong fun _ => .bind steady_putLong fun _ => .bind steady_putLong fun _ =>
      .bind steady_storePlain fun _ => steady_setCC

theorem steady_notHeader {h : Long} {d : Dest} : Steady (notHeader h d) := by
  unfold notHeader
  split
  exacts [.ite .raise .pure, .pure]

theorem steady_removal {h : Long} {d : Dest} {x : Span → Dest → Long → M Unit} (hx : ∀ hs d a, Steady (x hs d a)) :
    Steady (removal h d x) := by
  unfold removal
  exact .when .raise fun _ => .bind steady_notHeader fun _ => .bind steady_prepare fun _ =>
    .bind steady_lockedRead fun (_, _) => .whenThen steady_putLong .raise fun _ =>
    .ite (.bind steady_putLong fun _ => steady_setCC)
      (.ite (.bind steady_putLong fun _ => .bind steady_storePlain fun _ => steady_setCC) (hx _ _ _))

theorem steady_remqhi {h : Long} {d : Dest} : Steady (remqhi h d) := steady_removal fun _ _ _ => steady_removeHead

theorem steady_remqti {h : Long} {d : Dest} : Steady (remqti h d) :=
  steady_removal fun _ _ _ => steady_removeTail steady_remqhi

theorem steady_remqi {tail : Bool} : Steady (remqi tail header addr) :=
  .bind steady_adrPlain fun _ => .bind steady_wrPlain fun _ => .choose steady_remqti steady_remqhi fun _ =>
  .done

/-! ### Initialization, boot, restart, power-up -/

theorem steady_processorInit : Steady processorInit :=
  .bind steady_drawBool fun _ => .bind steady_drawBool fun _ => .bind steady_drawBits fun _ =>
  .bind steady_drawBits fun _ => .bind (steady_update State.saveSp_cfg State.saveSp_mem) fun _ => .bind .get fun _ => .ite
    (.bind steady_modV750 fun _ => .bind steady_setPC fun _ => steady_unibusInit750)
    (.bind .get fun _ => steady_modV780)

theorem steady_haltHere {why : HaltCause} : Steady (haltHere why) := .bind .get fun _ => steady_haltAt

theorem steady_runFrom {pc : Long} : Steady (runFrom pc) :=
  .bind steady_setPC fun _ => .bind steady_modPend fun _ => .bind steady_update fun _ =>
  steady_modV780

theorem steady_microVerify : Steady microVerify :=
  .bind steady_processorInit fun _ => .bind steady_freeRegs fun _ => .bind steady_send fun _ =>
  .bind .get fun _ => by
    split
    · exact .pure
    · exact .bind steady_send fun _ => .bind .get fun _ => .bind steady_stopAt fun _ =>
      .bind steady_send fun _ => .pure

theorem State.storeRam_handsOn (s : State) (pa n : Nat) (v : Octa) : s.HandsOn (s.storeRam pa n v) :=
  ⟨rfl, s.storeRam_wf pa n v⟩

theorem State.storeQuad_handsOn (s : State) (pa : Nat) (v : Quad) : s.HandsOn (s.storeQuad pa v) :=
  ⟨rfl, s.storeQuad_wf pa v⟩

theorem foldl_handsOn {β : Type} {f : State → β → State} (hf : ∀ (s : State) b, s.HandsOn (f s b)) (l : List β)
    (s : State) : s.HandsOn (l.foldl f s) := by
  induction l generalizing s with
  | nil => exact .refl s
  | cons b rest ih => exact (hf s b).trans (ih _)

theorem copyRoms_handsOn (base : Nat) (s : State) : s.HandsOn (copyRoms base s) :=
  foldl_handsOn (fun s _ => by split <;> [exact .refl s; exact s.storeRam_handsOn _ _ _]) _ s

theorem steady_bootLoad {flags : Long} {unit adapter rom : Nat} : Steady (bootLoad flags unit adapter rom) :=
  .bind steady_processorInit fun _ => .bind .get fun _ => by
    split
    · exact steady_haltHere
    · exact .bind steady_unibusInit750 fun _ => .bind steady_modV750 fun _ =>
      .bind (.modify (copyRoms_handsOn _)) fun _ => .ite steady_haltHere
        (.bind steady_modV750 fun _ => .bind steady_setR fun _ => .bind steady_setR fun _ =>
         .bind steady_setR fun _ => .bind steady_setR fun _ => .bind steady_setR fun _ => .ite steady_runFrom
           steady_haltHere)

theorem steady_boot750 {clearFlag verify : Bool} {flags : Long} {unit adapter rom : Nat} :
    Steady (boot750 clearFlag verify flags unit adapter rom) := by
  unfold boot750
  exact .when steady_modV750 fun _ => .ite (.bind steady_microVerify fun _ => .ite steady_bootLoad .pure)
      steady_bootLoad

theorem steady_bootSwitch {clearFlag : Bool} : Steady (bootSwitch clearFlag) := .bind .get fun _ => steady_boot750

theorem steady_searchPart {pa n : Nat} : Steady (searchPart pa n) :=
  .bind .get fun _ => .bind (.attempt steady_physRead) fun
    | .error _ => .bind steady_modV750 fun _ => .pure
    | .ok _ => .pure

theorem steady_searchLong {pa : Nat} : Steady (searchLong pa) :=
  .bind steady_searchPart fun
    | none => .pure
    | some _ => .ite .pure
        (.bind steady_searchPart fun
           | none => .pure
           | some _ => .pure)

theorem steady_longSum {pa n : Nat} : Steady (longSum pa n) := by
  induction n generalizing pa with
  | zero => exact .pure
  | succ _ ih =>
    exact .bind steady_searchLong fun
        | none => .pure
        | some _ => .bind ih fun
            | none => .pure
            | some _ => .pure

theorem steady_validRpb {a : Nat} : Steady (validRpb a) :=
  .bind steady_searchLong fun
    | none => .pure
    | some _ => .ite .pure
        (.bind steady_searchLong fun
           | none => .pure
           | some _ => .ite .pure
               (.bind steady_searchLong fun
                  | none => .pure
                  | some _ => .bind steady_longSum fun _ => .pure))

theorem steady_findRpb {a n : Nat} : Steady (findRpb a n) := by
  induction n generalizing a with
  | zero => exact .pure
  | succ _ ih =>
    exact .bind steady_validRpb fun
        | none => ih
        | some _ => .pure

theorem steady_warmFlags {a : Nat} : Steady (warmFlags a) :=
  .bind steady_searchLong fun
    | none => steady_drawBits
    | some _ => .pure

theorem steady_warmStart {cause : Nat} : Steady (warmStart cause) :=
  .bind .get fun _ => .bind steady_findRpb fun
    | none => .pure
    | some _ => .bind steady_warmFlags fun _ => .ite .pure
        (.bind steady_processorInit fun _ => .bind steady_physWrite fun _ => .bind steady_setR fun _ =>
         .bind steady_setR fun _ => .bind steady_runFrom fun _ => .pure)

theorem steady_restart750 {cause : Nat} : Steady (restart750 cause) :=
  .bind steady_warmStart fun
    | none => .pure
    | some _ => .bind .get fun _ => .ite steady_bootSwitch steady_haltHere

theorem steady_freeMap {mask : Long} {map : Sparse 32} {n : Nat} : Steady (freeMap mask map n) := by
  induction n generalizing map with
  | zero => exact .pure
  | succ _ ih => exact .bind steady_drawBits fun _ => ih

theorem steady_powerUpMbas {v750 : Bool} {n : Nat} : Steady (powerUpMbas v750 n) := by
  induction n with
  | zero => exact .pure
  | succ _ ih => exact .bind steady_freeMap fun _ => .bind steady_drawBits fun _ => .bind ih fun _ => .pure

theorem steady_freeProcessor : Steady freeProcessor :=
  .bind steady_freeRegs fun _ => .bind steady_drawBits fun _ => .bind steady_drawBits fun _ =>
  .bind steady_drawBits fun _ => .bind steady_drawBits fun _ => .bind steady_drawBits fun _ =>
  .bind steady_drawBits fun _ => .bind steady_drawBits fun _ => .bind steady_drawBits fun _ =>
  .bind steady_drawBits fun _ => .bind steady_drawBits fun _ => .bind steady_drawBits fun _ =>
  .bind steady_drawBits fun _ => .bind steady_drawBits fun _ => .bind steady_drawBits fun _ =>
  .bind .get fun _ => steady_update

theorem steady_powerUp750 {kept : Bool} : Steady (powerUp750 kept) :=
  .bind steady_freeMap fun _ => .bind steady_drawBits fun _ => .modify fun _ =>
  ⟨rfl, fun h => by
    dsimp only
    split
    · exact h
    · rfl⟩

theorem steady_powerUpUbas {n : Nat} : Steady (powerUpUbas n) := by
  induction n with
  | zero => exact .pure
  | succ _ ih => exact .bind steady_drawBits fun _ => .bind steady_drawBits fun _ => .bind ih fun _ => .pure

theorem steady_powerUp780 {kept : Bool} : Steady (powerUp780 kept) :=
  .bind steady_drawBits fun _ => .bind steady_drawBits fun _ => .bind steady_drawBits fun _ =>
  .bind steady_drawBits fun _ => .bind steady_drawBits fun _ => .bind .get fun _ =>
  .bind steady_powerUpUbas fun _ => .bind steady_update fun _ => .bind .get fun _ =>
  .bind (.forM (fun _ => steady_send)) fun _ => .ite steady_freeAllRam .pure

/-! ### System instructions and processor registers -/

theorem steady_halt : Steady halt := .bind .get fun _ => .bind steady_haltAt fun _ => .done

theorem steady_rei : Steady rei :=
  .bind .get fun _ => .bind steady_pop fun _ => .bind steady_pop fun _ => .when .raise fun _ =>
  .bind (.modify fun s =>
    have h := s.saveSp_handsOn
    .ite ⟨h.cfg, h.mem⟩ (.ite ⟨h.cfg, h.mem⟩ ⟨h.cfg, h.mem⟩)) fun _ => .bind steady_modPend fun _ => .done

theorem steady_chm {target : Nat} : Steady (chm target code) :=
  .bind steady_rd fun _ => .bind .get fun _ => .ite (.bind steady_haltAt fun _ => .done)
    (.bind steady_readVector fun
       | none => .bind steady_haltAt fun _ => .done
       | some _ => .ite (.bind steady_haltAt fun _ => .done)
           (.when steady_setR fun _ => .bind steady_pushFrame fun _ =>
            .bind steady_update fun _ => .bind steady_noteEntry fun _ => .done))

theorem steady_readPcb {n : Nat} : Steady (readPcb n) := .bind .get fun _ => .bind steady_physRead fun _ => .pure

theorem steady_readPcbs {n k : Nat} : Steady (readPcbs n k) := by
  induction k generalizing n with
  | zero => exact .pure
  | succ _ ih => exact .bind steady_readPcb fun _ => .bind ih fun _ => .pure

theorem steady_writePcbs {n : Nat} {l : List Long} : Steady (writePcbs n l) := by
  induction l generalizing n with
  | nil => exact .pure
  | cons _ _ ih => exact .bind .get fun _ => .bind steady_physWrite fun _ => ih

theorem setRegsFrom_handsOn (s : State) (n : Nat) (l : List Long) : s.HandsOn (setRegsFrom s n l) := by
  induction l generalizing s n with
  | nil => exact .refl s
  | cons x rest ih =>
    have h : s.HandsOn (s.setReg ⟨n % 16, Nat.mod_lt _ (by decide)⟩ x) := ⟨rfl, id⟩
    exact h.trans (ih _ _)

theorem steady_ldpctx : Steady ldpctx :=
  .bind steady_readPcbs fun w => .when .raise fun _ => .bindGet fun s t h =>
  have r := h.trans (setRegsFrom_handsOn s 0 ((w.drop 4).take 14))
  .bind (.set (.ite ⟨r.cfg, r.mem⟩ ⟨r.cfg, r.mem⟩)) fun _ =>
  .bind ((steady_pushFrame.attempt).keeps t) fun
    | .error _ => .bind (.modify fun _ k => ⟨k.cfg, k.mem⟩) fun _ => .throw _
    | .ok _ => .done

theorem steady_svpctx : Steady svpctx :=
  .bind steady_pop fun _ => .bind steady_pop fun _ => .bind .get fun _ => .bind steady_writePcbs fun _ => .ite
    (.bind steady_writePcbs fun _ => .bind steady_update fun _ => .done) .done

theorem steady_readSp {k : Nat} : Steady (readSp k) := .bind .get fun _ => .pure

theorem steady_writeSp {k : Nat} {v : Long} : Steady (writeSp k v) :=
  .modify fun _ => by
    dsimp only
    split <;> exact ⟨rfl, id⟩

theorem steady_requestSoftware {n : Nat} : Steady (requestSoftware n) := .ite .pure steady_update

theorem steady_checkBaseRegister {a : Long} : Steady (checkBaseRegister a) := .ite .pure .raise

theorem steady_modClock {f : Clock → Clock} : Steady (modClock f) := steady_update

theorem steady_modTerm {f : Terminal → Terminal} : Steady (modTerm f) := steady_update

theorem steady_readRxdb : Steady readRxdb :=
  .bind .get fun _ => .bind steady_modTerm fun _ => .ite .pure steady_drawBits

theorem steady_readCsrd : Steady readCsrd := .bind .get fun _ => .bind steady_modV750 fun _ => .pure

theorem steady_writeTxdb {v : Long} : Steady (writeTxdb v) :=
  .bind .get fun _ => .when .raise fun _ => .bind steady_modTerm fun _ => .ite
    (.ite steady_bootSwitch (.ite steady_modV750 .pure))
    (.ite (.choose .pure steady_drawBits fun _ => steady_send) .pure)

theorem steady_writeMcesr {v : Long} : Steady (writeMcesr v) := steady_modV750

theorem steady_needMappingOff : Steady needMappingOff := .bind .get fun _ => .ite .refuse .pure

theorem steady_readTb : Steady readTb :=
  .bind steady_needMappingOff fun _ => .bind .get fun _ => .ite steady_drawBits .pure

theorem steady_readHit : Steady readHit := .bind steady_drawBool fun _ => .pure

theorem steady_readReg750 {n : Nat} : Steady (readReg750 n) :=
  .bind .get fun _ => by
    split
    exacts [.pure, .pure, steady_readCsrd, .pure, .pure, .pure, .pure, .bind steady_readHit fun _ => .pure,
      .pure, steady_readTb, .raise]

theorem steady_writeReg750 {n : Nat} {v : Long} : Steady (writeReg750 n v) := by
  unfold writeReg750
  split
  exacts [.pure, steady_modV750, .bind steady_modV750 fun _ => .ite steady_send .pure,
    .bind steady_modV750 fun _ => steady_send, steady_modV750, steady_modV750, steady_writeMcesr,
    steady_modV750, steady_unibusInit750, .bind steady_needMappingOff fun _ => steady_update,
    .raise]

theorem steady_readReg780 {n : Nat} : Steady (readReg780 n) :=
  .bind .get fun _ => by
    split
    exacts [.pure, .pure, .pure, .pure, .pure, steady_drawBits, .pure, .pure, .pure, .pure, .pure, .raise]

theorem steady_writeReg780 {n : Nat} {v : Long} : Steady (writeReg780 n v) := by
  unfold writeReg780
  split
  exacts [.bind .get fun _ => steady_modV780, steady_modV780, steady_modV780, .bind steady_drawBits fun _ =>
    steady_modV780, steady_modV780, steady_modV780, steady_modV780, steady_modV780, .bind .get fun _ => .ite
      (.modify fun s => s.storeQuad_handsOn _ _) steady_busWriteError, steady_modV780, .raise]

theorem steady_readReg {n : Nat} : Steady (readReg n) :=
  .bind .get fun _ => by
    split
    exacts [steady_readSp, steady_readSp, steady_readSp, steady_readSp, steady_readSp, .pure, .pure, .pure,
      .pure, .pure, .pure, .pure, .pure, .pure, .pure, .pure, .pure, .pure, .pure, .pure, steady_readRxdb,
      .pure, .pure, .pure, .pure, .ite steady_readReg750 steady_readReg780]

theorem steady_writeReg {n : Nat} {v : Long} : Steady (writeReg n v) := by
  unfold writeReg
  split
  exacts [steady_writeSp, steady_writeSp, steady_writeSp, steady_writeSp, steady_writeSp,
    .bind steady_checkBaseRegister fun _ => steady_update, steady_update,
    .bind steady_checkBaseRegister fun _ => steady_update, steady_update,
    steady_update, steady_update, steady_update,
    steady_update, steady_update, .when .raise fun _ => steady_update,
    steady_requestSoftware, steady_update, steady_modClock, steady_modClock, .bind .get fun _ =>
    .ite steady_modClock .pure, steady_modTerm, steady_modTerm, steady_writeTxdb, steady_update,
    steady_update, steady_update, steady_update, .bind .get fun _ => .ite
      steady_writeReg750 steady_writeReg780]

theorem steady_mtpr : Steady (mtpr src procreg) :=
  .bind steady_rd fun _ => .bind steady_rd fun _ => .bind steady_setNZV fun _ => .bind steady_writeReg fun _ =>
  .done

theorem steady_mfpr : Steady (mfpr procreg dst) :=
  .bind steady_rd fun _ => .bind steady_wr fun _ => .bind steady_prepare fun _ => .bind steady_readReg fun _ =>
  .bind steady_store fun _ => .bind steady_setNZV fun _ => .done

theorem steady_accessible {va : Long} {write : Bool} {mode : Nat} : Steady (accessible va write mode) :=
  .bind .get fun _ => .ite .pure
    (.when .refuse fun _ => .bind (.attempt steady_walk) fun _ => by
       split
       exacts [.ite .pure .raise, .throw, .when .refuse fun _ => .when steady_commitMaybe fun _ => .pure])

theorem steady_probe {write : Bool} : Steady (probe write modeOp len base) :=
  .bind steady_rd fun _ => .bind steady_rd fun _ => .bind steady_adr fun _ => .bind .get fun _ =>
  .bind steady_accessible fun _ => .bind steady_accessible fun _ => .bind steady_setCC fun _ => .done

/-! ### Interrupts -/

theorem steady_acknowledge {r : Request} : Steady (acknowledge r) := by
  unfold acknowledge
  split
  exacts [steady_update, steady_modPend, steady_modPend, .bind steady_modV750 fun _ => steady_send,
    steady_modMba, steady_modPend, steady_modPend, steady_modV780, .pure]

theorem steady_takeInterrupt {cands : List Request} : Steady (takeInterrupt cands) :=
  .bind steady_pick fun
    | none => .pure
    | some _ => .bind steady_enterInterrupt fun _ => .ite steady_acknowledge .pure

/-! ### The console -/

theorem steady_conError {code : Nat} : Steady (conError code) := steady_send

theorem steady_modCon {f : ConDefaults → ConDefaults} : Steady (modCon f) := steady_update

theorem steady_showSbi : Steady showSbi := .forM (fun _ => .bind steady_readReg780 fun _ => steady_send)

theorem steady_conTry {space : ConSpace} {x : M Unit} (hx : Steady x) : Steady (conTry space x) :=
  .bind .get fun _ => .bind (.attempt hx) fun _ => by
    split
    · exact .pure
    · exact .bind steady_update fun _ => .bind steady_conError fun _ =>
      .when steady_showSbi fun _ => .pure
    · exact .throw

theorem steady_conWrite {x : M Unit} (hx : Steady x) : Steady (conWrite x) :=
  .bind .get fun _ => .bind steady_modPend fun _ => .bind hx fun _ => .bind .get fun _ =>
  .when steady_machineCheck fun _ => steady_modPend

theorem steady_conProcPte {va base : Long} {tooLong write : Bool} : Steady (conProcPte va base tooLong write) :=
  .when .raise fun _ => .when .raise fun _ => .bind steady_sysPte fun (_, _) => .when .raise fun _ =>
  .bind .get fun _ => .bind steady_readPte fun _ => .pure

theorem steady_conWalk {va : Long} {write : Bool} : Steady (conWalk va write) :=
  .bind .get fun _ => by
    split
    exacts [steady_conProcPte, steady_conProcPte, steady_walk]

theorem steady_conAddress {space : ConSpace} {a : Nat} {write : Bool} : Steady (conAddress space a write) :=
  .bind .get fun _ => by
    split
    · exact .ite
        (.ite .pure (.bind steady_conWalk fun _ => .when .raise fun _ => .when steady_commit fun _ => .pure))
        steady_translate
    · exact .pure

theorem steady_conPlaces {space : ConSpace} {a n : Nat} {write : Bool} : Steady (conPlaces space a n write) :=
  .ite (.bind steady_conAddress fun _ => .pure) (.mapM fun _ => .bind steady_conAddress fun _ => .pure)

theorem steady_conGet {l : List (Nat × Nat)} : Steady (conGet l) := by
  induction l with
  | nil => exact .pure
  | cons _ _ ih => exact .bind steady_physRead fun _ => .bind ih fun _ => .pure

theorem steady_conPut {l : List (Nat × Nat)} {v : Quad} : Steady (conPut l v) := by
  induction l generalizing v with
  | nil => exact .pure
  | cons _ _ ih => exact .bind (steady_conWrite steady_physWrite) fun _ => ih

theorem steady_conShow {space a : Nat} {v : Long} : Steady (conShow space a v) :=
  .bind steady_modCon fun _ => steady_send

theorem steady_conMemory {write : Option Quad} {space : ConSpace} {a size : Nat} :
    Steady (conMemory write space a size) :=
  .bind (.mapM fun _ => .bind steady_conPlaces fun _ => .pure) fun _ => .forM fun (_, _) => by
    dsimp only
    split
    exacts [steady_conPut, .bind steady_conGet fun _ => steady_conShow]

theorem steady_conGeneral {write : Option Quad} {n : Nat} : Steady (conGeneral write n) :=
  .ite (.bind .get fun _ => steady_conError)
    (by
       split
       exacts [steady_setR, .bind steady_getR fun _ => steady_conShow])

theorem steady_conInternal {write : Option Quad} {n : Nat} : Steady (conInternal write n) := by
  unfold conInternal
  split
  exacts [.ite (steady_conWrite steady_writeReg) steady_writeReg, .bind steady_readReg fun _ => steady_conShow]

theorem steady_conPsl {write : Option Quad} : Steady (conPsl write) := by
  unfold conPsl
  split
  exacts [.bind (steady_update State.saveSp_cfg State.saveSp_mem) fun _ => steady_modCon,
    .bind .get fun _ => steady_conShow]

theorem steady_readId {n : Nat} : Steady (readId n) :=
  .bind .get fun _ => by
    split
    exacts [.pure, steady_drawBits, .pure, .pure, .pure, .pure, .pure, .pure, .pure, .pure, .pure, .pure, .pure,
      .ite steady_drawBits
        (by
           split
           exacts [steady_readReg, .raise])]

theorem steady_writeId {n : Nat} {v : Long} : Steady (writeId n v) := by
  unfold writeId
  split
  exacts [steady_modTerm, steady_writeTxdb, steady_modClock, steady_modClock, steady_update,
    steady_conPsl, steady_modV780, steady_update, steady_update,
    steady_update, steady_update, steady_update,
    steady_update, steady_update, .ite .refuse
      (by
         split
         exacts [steady_writeReg, .raise])]

theorem steady_conId {write : Option Quad} {n : Nat} : Steady (conId write n) := by
  unfold conId
  split
  exacts [steady_writeId, .bind steady_readId fun _ => steady_conShow]

theorem steady_conVbus {write : Option Quad} {n : Nat} : Steady (conVbus write n) := by
  unfold conVbus
  split
  exacts [.refuse, .bind steady_drawBits fun _ => steady_conShow]

theorem steady_conAccess {write : Option Quad} {space : Option ConSpace} {size : Option Nat} {addr : ConAddr} :
    Steady (conAccess write space size addr) :=
  .bind .get fun _ => .when .refuse fun _ => by
    split
    · exact .bind steady_conPsl fun _ => .ite steady_modCon .pure
    · exact .bind steady_drawBits fun _ => .ite steady_conError
        (.bind (.discard (steady_conTry (by
              split
              exacts [steady_conMemory, steady_conMemory, steady_conGeneral, steady_conInternal, .ite .refuse
                  steady_conId, .ite .refuse steady_conVbus]))) fun _ =>
         steady_modCon)

theorem steady_conStore {a : Nat} {l : List Byte} : Steady (conStore a l) := by
  induction l generalizing a with
  | nil => exact .pure
  | cons _ _ ih => exact .bind (steady_conTry steady_conMemory) fun _ => .ite ih .pure

theorem steady_loadImage {a : Nat} {l : List Byte} : Steady (loadImage a l) := by
  induction l generalizing a with
  | nil => exact .pure
  | cons _ _ ih => exact .bind (.discard steady_conStore) fun _ => ih

theorem steady_boot780 {b : Boot780} : Steady (boot780 b) :=
  .bind steady_processorInit fun _ => .bind (.forM (fun (_, _) => steady_setR)) fun _ =>
  .bind steady_loadImage fun _ => steady_runFrom

theorem steady_conFetch {a n : Nat} : Steady (conFetch a n) := by
  induction n generalizing a with
  | zero => exact .pure
  | succ _ ih => exact .bind steady_conPlaces fun _ => .bind steady_conGet fun _ => .bind ih fun _ => .pure

theorem steady_conBinary {line : List Byte} {check : Byte} {a : Nat} {count : Long} {data : List Byte} :
    Steady (conBinary line check a count data) :=
  .ite steady_conError
    (.ite (.discard (steady_conTry (.bind steady_conFetch fun _ => steady_send)))
       (.bind steady_conStore fun _ => .ite (.ite steady_conError .pure) .pure))

theorem steady_unjam : Steady unjam :=
  .bind .get fun _ => .bind (.forM (fun _ => .bind steady_ubaReleaseInterlock fun _ =>
   .bind steady_modUba fun _ => steady_ubaPowerSequence)) fun _ => .forM fun _ => steady_mbaInit

theorem steady_conSetDefault {space : Option ConSpace} {size : Option Nat} {octal : Option Bool} :
    Steady (conSetDefault space size octal) :=
  steady_modCon

theorem steady_conSetStep {k : StepKind} : Steady (conSetStep k) := by
  unfold conSetStep
  split
  exacts [.pure, .pure, .refuse, .refuse]

theorem steady_modProgram {f : ConProgram → ConProgram} : Steady (modProgram f) := steady_modV780

theorem steady_conFile {lines : Option (List ConCmd)} : Steady (conFile lines) := by
  unfold conFile
  split
  exacts [steady_modProgram, steady_conError]

theorem steady_conProgram {c : ConCmd} : Steady (conProgram c) := by
  refine .bind .get fun _ => ?_
  cases c with
  | setDefault _ _ _ => exact steady_conSetDefault
  | setStep _ => exact steady_conSetStep
  | relocation _ | terminalFill _ | link | repeated _ | enableDx1 => exact steady_modProgram
  | terminalProgram => exact steady_modV780
  | showState | help => exact steady_send
  | showVersion => exact .bind steady_drawBits fun _ => .bind steady_drawBits fun _ => steady_send
  | waitDone => exact .pure
  | perform | indirect _ _ => exact steady_conFile
  | reboot => exact .bind steady_modProgram fun _ => steady_modCon
  | _ => exact .refuse

theorem steady_conContinue : Steady conContinue :=
  .bind .get fun _ => .when .refuse fun _ => .bind steady_getPC fun _ => steady_runFrom

theorem steady_conBoot {noVerify : Bool} {flags : Nat} {device : Option (Nat × Nat × Nat)} :
    Steady (conBoot noVerify flags device) :=
  .bind .get fun _ => by
    dsimp only
    split
    · exact steady_boot750
    · split <;> [exact steady_boot750; exact steady_conError]

theorem steady_conTest : Steady conTest :=
  .bind steady_microVerify fun _ => .ite (.bind steady_send fun _ => .bind .get fun _ => steady_stopAt) .pure

theorem steady_conHalted {c : ConCmd} : Steady (conHalted c) :=
  .bind .get fun _ => match c with
    | .boot _ _ _ => .ite steady_conBoot .refuse
    | .bootImage _ => steady_boot780
    | .continue => steady_conContinue
    | .deposit _ _ _ _ | .examine _ _ _ => steady_conAccess
    | .initializeCpu => steady_processorInit
    | .haltNop => .pure
    | .examineIr => steady_only780 (.bind steady_drawBits fun _ => steady_conShow)
    | .next _ => steady_update
    | .start _ => .bind steady_getPC fun _ => .bind steady_processorInit fun _ => steady_runFrom
    | .test => .ite steady_conTest .refuse
    | .load _ _ => steady_only780 (.discard steady_conStore)
    | .binary _ _ _ _ _ => .ite steady_conBinary .refuse
    | .unjam => steady_only780 steady_unjam
    | .qclear _ =>
      steady_only780 (.discard (steady_conTry (.bind .get fun _ =>
        .ite (.modify fun s => s.storeQuad_handsOn _ _) steady_machineCheck)))
    | .setDefault _ _ _ | .setStep _ | .relocation _ | .terminalProgram | .terminalFill _ | .showState | .showVersion
    | .help | .waitDone | .link | .perform | .indirect _ _ | .repeated _ | .enableDx1 | .reboot | .microMachine =>
      steady_only780 steady_conProgram

theorem steady_conRunning {c : ConCmd} : Steady (conRunning c) :=
  .bind .get fun _ => by
    split
    exacts [steady_modV780, .ite steady_modPend .pure, .ite steady_conAccess steady_conError, .ite
        steady_conProgram steady_conError]

theorem steady_conRun {c : ConCmd} : Steady (conRun c) :=
  .bind .get fun _ => by
    split
    exacts [steady_conHalted, steady_conRunning]

theorem steady_conCommand {c : ConCmd} : Steady (conCommand c) :=
  .bind .get fun _ => .ite (.ite .pure (.bind steady_conHalted fun _ => .ite steady_modCon .pure))
    (.ite .pure (.ite steady_modProgram (.ite .pure steady_conRun)))

theorem steady_conGoOn : Steady conGoOn :=
  .bind .get fun _ => by
    dsimp only
    split
    exacts [.bind steady_modProgram fun _ => steady_conRun, .pure]

theorem steady_controlC : Steady controlC := .bind .get fun _ => .ite steady_modProgram .pure

theorem steady_haltAction {why : HaltCause} : Steady (haltAction why) :=
  .bind .get fun _ => .ite
    (.ite
       (by
          split
          exacts [.pure, .ite steady_bootSwitch .pure, steady_restart750, steady_restart750])
       .pure)
    (by
       split
       exacts [steady_boot780, .pure])

/-! ### Power, terminals, the bus, errors: what events do -/

theorem steady_powerUp {held : Bool} : Steady (powerUp held) :=
  .bind .get fun _ => .choose steady_powerUp750 steady_powerUp780 fun _ => .bind steady_powerUpMbas fun _ =>
  .bind steady_update fun _ => .bind steady_freeProcessor fun _ =>
  .bind steady_processorInit fun _ => .ite
    (by
       split
       · exact .bind steady_microVerify fun _ => .ite steady_haltHere .pure
       · exact steady_bootSwitch
       · exact .bind steady_microVerify fun _ => .ite
           (.bind steady_getPC fun _ => .bind steady_send fun _ => steady_restart750) .pure)
    (by
       split
       exacts [steady_boot780, steady_haltHere])

theorem steady_receive {unit : BitVec 4} {c : Byte} {err : Bool} : Steady (receive unit c err) :=
  .modify fun _ => .ite ⟨rfl, id⟩ ⟨rfl, id⟩

theorem steady_transmitted : Steady transmitted :=
  .modify fun _ => .ite ⟨rfl, id⟩ ⟨rfl, id⟩

theorem steady_controlP : Steady controlP :=
  .bind .get fun _ => .ite .pure
    (.ite
       (by
          split
          exacts [steady_modPend, .bind steady_modCon fun _ => steady_send])
       steady_modV780)

theorem steady_unibusRequest {k level : Nat} {vector : Word16} : Steady (unibusRequest k level vector) :=
  steady_needUnibus (.when .refuse fun _ => .bind .get fun _ => .ite (.when .refuse fun _ => steady_modV750)
     steady_modUba)

theorem steady_unibusDrop {k level : Nat} : Steady (unibusDrop k level) :=
  steady_needUnibus (.bind .get fun _ => .ite steady_modV750 steady_modUba)

theorem steady_unibusReady {k : Nat} : Steady (unibusReady k) := steady_only780 (steady_needUnibus steady_modUba)

theorem steady_correctedData {k : Nat} : Steady (correctedData k) :=
  .bind .get fun _ => .bind steady_drawBits fun _ => .ite (.ite .pure steady_modV750) steady_modMemCtl

theorem steady_memoryError {pa : Nat} : Steady (memoryError pa) :=
  .bind .get fun _ => .ite (.bind steady_freeRam fun _ => steady_update) .pure

theorem steady_sbiDead : Steady sbiDead :=
  .bind .get fun _ => .forM (fun _ => .bind steady_modUba fun _ => steady_ubaPowerSequence)

theorem steady_sbiFaultClear : Steady sbiFaultClear := .bind steady_modV780 fun _ => steady_modPend

theorem steady_nexusRequest {tr level : Nat} {on : Bool} : Steady (nexusRequest tr level on) :=
  steady_only780 (.bind .get fun _ => .ite steady_modV780 .refuse)

theorem steady_memoryReady {k : Nat} : Steady (memoryReady k) := steady_only780 steady_modMemCtl

theorem steady_memoryPower {k : Nat} {up : Bool} : Steady (memoryPower k up) :=
  .bind .get fun _ => .ite steady_modMemCtl .pure

theorem steady_acLow : Steady acLow :=
  .bind steady_modPend fun _ => .bind .get fun _ => .ite
    (.bind steady_update fun _ => .bind steady_modV780 fun _ => .bind .get fun _ =>
     .forM (fun _ => steady_memoryPower))
    .pure

theorem steady_resetButton : Steady resetButton :=
  steady_only750 (.bind .get fun _ => .ite .pure
     (.bind steady_acLow fun _ => .bind steady_draw fun _ => steady_update))

theorem steady_applyEvent {e : Event} : Steady (applyEvent e) := by
  unfold applyEvent
  split
  exacts [steady_modClock, .modify fun _ => .ite ⟨rfl, id⟩ (.refl _), steady_receive, steady_transmitted,
    steady_only750 steady_modV750, steady_only750 steady_modV750, steady_controlP,
    steady_only780 steady_conCommand, steady_conCommand, steady_unibusRequest, steady_unibusDrop,
    steady_orRetry steady_unibusDma, steady_needUnibus steady_update, steady_unibusReady,
    steady_only780 (steady_needUnibus steady_ubaPowerSequence), steady_needMba steady_update,
    steady_needMba steady_update, steady_needMba (steady_unlessDetached steady_mbaIn),
    steady_needMba steady_mbaMemory, steady_needMba (steady_unlessDetached steady_mbaTake),
    steady_needMba (steady_unlessDetached steady_mbaEnd), steady_needMba steady_mbaFinds,
    steady_needMba steady_modMba, steady_agentWrite, steady_orRetry steady_agentInterlock,
    steady_only780 steady_modV780, steady_acLow, steady_powerUp, steady_resetButton, steady_modPend,
    steady_correctedData, steady_memoryError, steady_only780 steady_raiseFault,
    steady_only780 steady_sbiFaultClear, steady_nexusRequest, steady_memoryReady, steady_only780 steady_sbiDead,
    steady_only780 steady_memoryPower, steady_only780 steady_modPend, .ite steady_update .refuse,
    .bind .get fun _ => .ite steady_haltAt .pure, steady_only780 steady_controlC, steady_only780 steady_conGoOn,
    steady_only780 steady_modProgram, steady_only780 steady_modV780]

/-! ### Instruction bytes and specifiers that are missing -/

theorem attempt_of_ok {α : Type} {x : M α} {s t : State} {a : α} (h : x s = .ok a t) :
    attempt x s = .ok (.ok a) t := by
  unfold attempt
  rw [h]

theorem attempt_of_error {α : Type} {x : M α} {s t : State} {e : Stop} (h : x s = .error e t) :
    attempt x s = .ok (.error e) t := by
  unfold attempt
  rw [h]

theorem steady_fetchFault {s0 : State} {va : Long} : Steady (fetchFault s0 va) :=
  .of_endState fun s => by
    have hu := (steady_check (va := va) (write := false) (mode := s0.cur)).endState (s.asFetched s0)
    cases hr : check va false s0.cur (s.asFetched s0) with
    | ok p u =>
      rw [hr] at hu
      have run : fetchFault s0 va s = unreadableByte p.pa (u.resumed s s0) :=
        (bind_of_ok _ (run_get s)).trans <| (bind_of_ok _ (run_set _ s)).trans <|
          (bind_of_ok _ (attempt_of_ok hr)).trans rfl
      rw [run]
      exact State.HandsOn.trans (t := u.resumed s s0) ⟨hu.cfg, id⟩ (steady_unreadableByte.endState _)
    | error e u =>
      rw [hr] at hu
      have run : fetchFault s0 va s = .error e (u.resumed s s0) :=
        (bind_of_ok _ (run_get s)).trans <| (bind_of_ok _ (run_set _ s)).trans <|
          (bind_of_ok _ (attempt_of_error hr)).trans rfl
      rw [run]
      exact ⟨hu.cfg, id⟩

theorem steady_evalSlot {plain : Bool} {slot : Slot} : Steady (evalSlot plain slot) := by
  unfold evalSlot
  split
  exacts [.discard (.ite steady_rdPlain steady_rd), .discard (.ite steady_wrPlain steady_wr),
    .discard (.ite steady_mdAs steady_md), .discard (.ite steady_adrPlain steady_adr), .discard steady_fld,
    .discard steady_branchTarget, .discard steady_branchTarget]

theorem steady_noteCause {c : CheckCause} : Steady (noteCause c) := by
  unfold noteCause
  split
  exacts [.pure, steady_modV750, steady_modV750, steady_modV750]

end Sys2Proof.Machine
end

section
/-! From actions to outcomes: how an instruction ends, dispatch, the boundary, the step. -/
namespace Sys2Proof.Machine

/-! ### How an instruction ends -/

theorem steady_checkOpcode {op : Nat} : Steady (checkOpcode op) := .of fun _ h => keeps_checkOpcode op h
theorem steady_ignoreFpd : Steady ignoreFpd := .of fun _ h => keeps_ignoreFpd h

/-- The next state of an outcome, if there is one, comes from `s`. -/
def HandsOnTo (s : State) (x : Out) : Prop := ∀ t : State, x = .next t → s.HandsOn t

theorem HandsOnTo.refused {s : State} {r : Refusal} : HandsOnTo s (.refused r) := fun _ h => nomatch h

theorem HandsOnTo.next {s t : State} (h : s.HandsOn t) : HandsOnTo s (.next t) := fun _ e => by
  cases e
  exact h

theorem HandsOnTo.after {s t : State} {x : Out} (k : HandsOnTo t x) (h : s.HandsOn t) : HandsOnTo s x :=
  fun _ e => h.trans (k _ e)

/-- The next state an action leaves is the one it ended in. -/
theorem outcomeOf_eq_next {x : EStateM.Result Stop State Unit} {t : State} (h : outcomeOf x = .next t) :
    t = endState x := by
  unfold outcomeOf at h
  split at h <;> cases h <;> rfl

theorem Steady.outcomeOf {x : M Unit} (hx : Steady x) (s : State) : HandsOnTo s (outcomeOf (x s)) := fun _ h =>
  outcomeOf_eq_next h ▸ hx.endState s

/-- An instruction that ends or traps leaves the state its meaning ended in, one that waits the state it started in; an
exception is entered from the state the meaning ended in, its registers and PSL put back. -/
theorem Steady.finish {m : Meaning} (hm : Steady m) (s : State) : HandsOnTo s (finish s (m s)) := by
  have h := hm.endState s
  cases hr : m s with
  | ok trap t =>
    rw [hr] at h
    cases trap with
    | none => exact .next h
    | some code => exact .next ⟨h.cfg, h.mem⟩
  | error e t =>
    rw [hr] at h
    cases e with
    | exc x => exact .after (steady_enterException.outcomeOf _) ⟨h.cfg, h.mem⟩
    | retry => exact .next ⟨rfl, id⟩
    | refuse | fault => exact fun _ e => nomatch e

theorem Steady.execute {op : Nat} {m : Meaning} (hm : Steady m) (s : State) : HandsOnTo s (execute op m s) :=
  Steady.finish (.bind steady_checkOpcode fun _ => .bind steady_setPC fun _ => hm) s

/-! ### Dispatch -/

/-- Every arm of `exec` executes a meaning; the arms with one meaning stand together. -/
theorem exec_handsOnTo (i : Instr) (s : State) : HandsOnTo s (exec i s) := by
  cases i with
  | movab _ _ | movaw _ _ | moval _ _ | movaf _ _ | movaq _ _ | movad _ _ | movag _ _ | movao _ _ | movah _ _ =>
    exact steady_mova.execute s
  | pushab _ | pushaw _ | pushal _ | pushaf _ | pushaq _ | pushad _ | pushag _ | pushao _ | pushah _ =>
    exact steady_pusha.execute s
  | extv _ _ _ _ | extzv _ _ _ _ => exact steady_extract.execute s
  | insv _ _ _ _ => exact steady_insv.execute s
  | cmpv _ _ _ _ | cmpzv _ _ _ _ => exact steady_cmpField.execute s
  | ffs _ _ _ _ | ffc _ _ _ _ => exact steady_findFirst.execute s
  | movb _ _ | movw _ _ | movl _ _ | movq _ _ | movo _ _ => exact steady_mov.execute s
  | pushl _ => exact steady_pushl.execute s
  | clrb _ | clrw _ | clrl _ | clrf _ | clrq _ | clrd _ | clrg _ | clro _ | clrh _ => exact steady_clear.execute s
  | mnegb _ _ | mnegw _ _ | mnegl _ _ | mcomb _ _ | mcomw _ _ | mcoml _ _ | cvtwb _ _ | cvtlb _ _ | cvtlw _ _ =>
    exact steady_unary.execute s
  | movzbw _ _ | movzbl _ _ | movzwl _ _ => exact steady_movz.execute s
  | cvtbw _ _ | cvtbl _ _ | cvtwl _ _ => exact steady_widen.execute s
  | cmpb _ _ | cmpw _ _ | cmpl _ _ => exact steady_compare.execute s
  | tstb _ | tstw _ | tstl _ => exact steady_test.execute s
  | addb2 _ _ | addw2 _ _ | addl2 _ _ | subb2 _ _ | subw2 _ _ | subl2 _ _ | mulb2 _ _ | mulw2 _ _ | mull2 _ _
  | divb2 _ _ | divw2 _ _ | divl2 _ _ | bisb2 _ _ | bisw2 _ _ | bisl2 _ _ | bicb2 _ _ | bicw2 _ _ | bicl2 _ _
  | xorb2 _ _ | xorw2 _ _ | xorl2 _ _ => exact steady_binary2.execute s
  | addb3 _ _ _ | addw3 _ _ _ | addl3 _ _ _ | subb3 _ _ _ | subw3 _ _ _ | subl3 _ _ _ | mulb3 _ _ _ | mulw3 _ _ _
  | mull3 _ _ _ | divb3 _ _ _ | divw3 _ _ _ | divl3 _ _ _ | bisb3 _ _ _ | bisw3 _ _ _ | bisl3 _ _ _ | bicb3 _ _ _
  | bicw3 _ _ _ | bicl3 _ _ _ | xorb3 _ _ _ | xorw3 _ _ _ | xorl3 _ _ _ => exact steady_binary3.execute s
  | adwc _ _ | sbwc _ _ => exact steady_withCarry.execute s
  | adawi _ _ => exact steady_adawi.execute s
  | incb _ | incw _ | incl _ | decb _ | decw _ | decl _ => exact steady_modify1.execute s
  | emul _ _ _ _ => exact steady_emul.execute s
  | ediv _ _ _ _ => exact steady_ediv.execute s
  | bitb _ _ | bitw _ _ | bitl _ _ => exact steady_bitTest.execute s
  | ashl _ _ _ | ashq _ _ _ => exact steady_ash.execute s
  | rotl _ _ _ => exact steady_rotl.execute s
  | brb _ | brw _ | bneq _ | bnequ _ | beql _ | beqlu _ | bgtr _ | bleq _ | bgeq _ | blss _ | bgtru _ | blequ _
  | bvc _ | bvs _ | bcc _ | bgequ _ | bcs _ | blssu _ => exact steady_branchOn.execute s
  | jmp _ => exact steady_jump.execute s
  | bbs _ _ _ | bbc _ _ _ => exact steady_branchBit.execute s
  | bbss _ _ _ | bbcs _ _ _ | bbsc _ _ _ | bbcc _ _ _ | bbssi _ _ _ | bbcci _ _ _ =>
    exact steady_branchBitSet.execute s
  | blbs _ _ | blbc _ _ => exact steady_branchLowBit.execute s
  | acbb _ _ _ _ | acbw _ _ _ _ | acbl _ _ _ _ => exact steady_acb.execute s
  | aoblss _ _ _ | aobleq _ _ _ => exact steady_aob.execute s
  | sobgeq _ _ | sobgtr _ _ => exact steady_sob.execute s
  | caseb _ _ _ | casew _ _ _ | casel _ _ _ => exact steady_case.execute s
  | bsbb _ | bsbw _ => exact steady_branchSub.execute s
  | jsb _ => exact steady_jsb.execute s
  | rsb => exact steady_rsb.execute s
  | movc3 _ _ _ => exact steady_movc3.execute s
  | movc5 _ _ _ _ _ => exact steady_movc5.execute s
  | movtc _ _ _ _ _ _ => exact steady_movtc.execute s
  | movtuc _ _ _ _ _ _ => exact steady_movtuc.execute s
  | cmpc3 _ _ _ => exact steady_cmpc3.execute s
  | cmpc5 _ _ _ _ _ => exact steady_cmpc5.execute s
  | scanc _ _ _ _ | spanc _ _ _ _ => exact steady_scan.execute s
  | locc _ _ _ | skpc _ _ _ => exact steady_locate.execute s
  | matchc _ _ _ _ => exact steady_matchc.execute s
  | movp _ _ _ => exact steady_movp.execute s
  | cmpp3 _ _ _ => exact steady_cmpp3.execute s
  | cmpp4 _ _ _ _ => exact steady_cmpp4.execute s
  | addp4 _ _ _ _ | subp4 _ _ _ _ => exact steady_packed4.execute s
  | addp6 _ _ _ _ _ _ | subp6 _ _ _ _ _ _ | mulp _ _ _ _ _ _ => exact steady_packed6.execute s
  | divp _ _ _ _ _ _ => exact steady_divp.execute s
  | ashp _ _ _ _ _ _ => exact steady_ashp.execute s
  | cvtlp _ _ _ => exact steady_cvtlp.execute s
  | cvtpl _ _ _ => exact steady_cvtpl.execute s
  | cvtps _ _ _ _ => exact steady_cvtps.execute s
  | cvtsp _ _ _ _ => exact steady_cvtsp.execute s
  | cvtpt _ _ _ _ _ => exact steady_cvtpt.execute s
  | cvttp _ _ _ _ _ => exact steady_cvttp.execute s
  | editpc _ _ _ _ => exact steady_editpc.execute s
  | movf _ _ | movd _ _ | movg _ _ | movh _ _ | mnegf _ _ | mnegd _ _ | mnegg _ _ | mnegh _ _ =>
    exact steady_moveFloat.execute s
  | tstf _ | tstd _ | tstg _ | tsth _ => exact steady_testFloat.execute s
  | cmpf _ _ | cmpd _ _ | cmpg _ _ | cmph _ _ => exact steady_compareFloat.execute s
  | addf2 _ _ | addd2 _ _ | addg2 _ _ | addh2 _ _ => exact (steady_float2 fun _ _ => steady_addF).execute s
  | addf3 _ _ _ | addd3 _ _ _ | addg3 _ _ _ | addh3 _ _ _ => exact (steady_float3 fun _ _ => steady_addF).execute s
  | subf2 _ _ | subd2 _ _ | subg2 _ _ | subh2 _ _ => exact (steady_float2 fun _ _ => steady_subF).execute s
  | subf3 _ _ _ | subd3 _ _ _ | subg3 _ _ _ | subh3 _ _ _ => exact (steady_float3 fun _ _ => steady_subF).execute s
  | mulf2 _ _ | muld2 _ _ | mulg2 _ _ | mulh2 _ _ => exact (steady_float2 fun _ _ => steady_mulF).execute s
  | mulf3 _ _ _ | muld3 _ _ _ | mulg3 _ _ _ | mulh3 _ _ _ => exact (steady_float3 fun _ _ => steady_mulF).execute s
  | divf2 _ _ | divd2 _ _ | divg2 _ _ | divh2 _ _ => exact (steady_float2 fun _ _ => steady_divF).execute s
  | divf3 _ _ _ | divd3 _ _ _ | divg3 _ _ _ | divh3 _ _ _ => exact (steady_float3 fun _ _ => steady_divF).execute s
  | cvtbf _ _ | cvtbd _ _ | cvtbg _ _ | cvtbh _ _ | cvtwf _ _ | cvtwd _ _ | cvtwg _ _ | cvtwh _ _ | cvtlf _ _
  | cvtld _ _ | cvtlg _ _ | cvtlh _ _ => exact steady_intToFloat.execute s
  | cvtfb _ _ | cvtdb _ _ | cvtgb _ _ | cvthb _ _ | cvtfw _ _ | cvtdw _ _ | cvtgw _ _ | cvthw _ _ | cvtfl _ _
  | cvtdl _ _ | cvtgl _ _ | cvthl _ _ | cvtrfl _ _ | cvtrdl _ _ | cvtrgl _ _ | cvtrhl _ _ =>
    exact steady_floatToInt.execute s
  | cvtfd _ _ | cvtdf _ _ | cvtfg _ _ | cvtgf _ _ | cvtfh _ _ | cvthf _ _ | cvtdh _ _ | cvthd _ _ | cvtgh _ _
  | cvthg _ _ => exact steady_floatToFloat.execute s
  | acbf _ _ _ _ | acbd _ _ _ _ | acbg _ _ _ _ | acbh _ _ _ _ => exact steady_acbFloat.execute s
  | emodf _ _ _ _ _ | emodd _ _ _ _ _ | emodg _ _ _ _ _ | emodh _ _ _ _ _ => exact steady_emod.execute s
  | polyf _ _ _ | polyd _ _ _ | polyg _ _ _ | polyh _ _ _ => exact steady_poly.execute s
  | pushr _ => exact steady_pushr.execute s
  | popr _ => exact steady_popr.execute s
  | movpsl _ => exact steady_movpsl.execute s
  | bispsw _ | bicpsw _ => exact steady_changePsw.execute s
  | index _ _ _ _ _ _ => exact steady_index.execute s
  | nop => exact Steady.done.execute s
  | crc _ _ _ _ => exact steady_crc.execute s
  | callg _ _ => exact steady_callg.execute s
  | calls _ _ => exact steady_calls.execute s
  | ret => exact steady_ret.execute s
  | insque _ _ => exact steady_insque.execute s
  | remque _ _ => exact steady_remque.execute s
  | insqhi _ _ | insqti _ _ => exact steady_insqi.execute s
  | remqhi _ _ | remqti _ _ => exact steady_remqi.execute s
  | halt => exact steady_halt.execute s
  | bpt | xfc => exact Steady.raise.execute s
  | rei => exact steady_rei.execute s
  | ldpctx => exact steady_ldpctx.execute s
  | svpctx => exact steady_svpctx.execute s
  | mtpr _ _ => exact steady_mtpr.execute s
  | mfpr _ _ => exact steady_mfpr.execute s
  | chmk _ | chme _ | chms _ | chmu _ => exact steady_chm.execute s
  | prober _ _ _ | probew _ _ _ => exact steady_probe.execute s

/-! ### The step -/

/-- Reading instruction bytes hands on: what it logs is in the memory controllers. -/
theorem State.fetched_handsOn (s : State) (n : Nat) : s.HandsOn (s.fetched n) := by
  refine .ite (.refl s) (((s.drawn_handsOn 32).trans (foldl_handsOn (fun t k => ?_) _ _)).trans (State.drawn_handsOn _ n))
  split
  · exact t.fetchedByte_handsOn k _
  · exact .refl t

theorem runMissing_handsOnTo (s0 s : State) (op : Nat) (seen : List Slot) (pos : Nat) :
    HandsOnTo s (runMissing s0 s op seen pos) :=
  Steady.finish (.when steady_checkOpcode fun _ => .bind steady_setPC fun _ =>
    .bind (.forM fun _ => steady_evalSlot) fun _ => .bind steady_fetchFault fun _ => .done) s

theorem runInstruction_handsOnTo (s : State) : HandsOnTo s (runInstruction s) := by
  unfold runInstruction
  split
  next i n _ => exact .after (exec_handsOnTo i _) (s.fetched_handsOn n)
  next op _ => exact .after (Steady.finish (.bind steady_ignoreFpd fun _ => .raise) _) (s.fetched_handsOn _)
  next op seen pos _ => exact .after (runMissing_handsOnTo s _ op seen pos) (s.fetched_handsOn pos)

theorem startInstruction_handsOnTo (s : State) : HandsOnTo s (startInstruction s) := by
  have h : s.HandsOn s.started := ⟨rfl, id⟩
  unfold startInstruction
  split
  · exact .refused
  · split
    · exact .after (runInstruction_handsOnTo s.started) h
    · exact .refused

theorem injectedCheck_handsOnTo (c : CheckCause) (s : State) : HandsOnTo s (injectedCheck c s) :=
  .after (Steady.finish (.bind .get fun _ => .when steady_noteCause fun _ => steady_machineCheck) _) ⟨rfl, id⟩

theorem consoleHalt_handsOnTo (s : State) : HandsOnTo s (consoleHalt s) :=
  .after (Steady.outcomeOf
    (.bind .get fun _ => .bind .get fun _ => .when steady_send fun _ => steady_haltHere) _) ⟨rfl, id⟩

theorem doubleWriteHalt_handsOnTo (s : State) : HandsOnTo s (doubleWriteHalt s) :=
  .after (steady_haltHere.outcomeOf _) ⟨rfl, id⟩

theorem boundary_handsOnTo (s : State) : HandsOnTo s (boundary s) := by
  unfold boundary
  split
  · exact doubleWriteHalt_handsOnTo s
  · split
    · exact injectedCheck_handsOnTo _ s
    · split
      · exact steady_enterTrap.outcomeOf s
      · split
        · exact consoleHalt_handsOnTo s
        · split
          · exact steady_takeInterrupt.outcomeOf s
          · split
            · exact steady_enterTrace.outcomeOf s
            · exact startInstruction_handsOnTo s

theorem advance_handsOnTo (s : State) : HandsOnTo s (advance s) := by
  unfold advance
  split
  · exact boundary_handsOnTo s
  · exact steady_haltAction.outcomeOf s

theorem step_handsOnTo (s : State) : HandsOnTo s (step s) := by
  unfold step oneStep
  split
  · exact advance_handsOnTo s
  · exact .after (steady_applyEvent.outcomeOf _) ⟨rfl, id⟩
  · exact .after (advance_handsOnTo _) ⟨rfl, id⟩

/-- Settles O16: every step hands on the configuration of the state it starts from. -/
theorem stepKeepsConfiguration : Obligations.StepKeepsConfiguration := fun s t h => (step_handsOnTo s t h).cfg

end Sys2Proof.Machine
end

section
/-! Which requests are deliverable, and the machine right after reset. -/
namespace Sys2Proof.Machine

/-! ### The highest level -/

theorem level_le_foldl_max {l : List Request} {m : Nat} :
    m ≤ l.foldl (fun m r => max m r.level) m ∧ ∀ r ∈ l, r.level ≤ l.foldl (fun m r => max m r.level) m := by
  induction l generalizing m with
  | nil => simp
  | cons q rest ih =>
    obtain ⟨hmax, hrest⟩ := ih (m := max m q.level)
    refine ⟨(Nat.le_max_left _ _).trans hmax, fun r hr => ?_⟩
    rcases List.mem_cons.mp hr with rfl | hr
    · exact (Nat.le_max_right _ _).trans hmax
    · exact hrest r hr

theorem foldl_max_attained {l : List Request} {m : Nat} :
    l.foldl (fun m r => max m r.level) m = m ∨ ∃ r ∈ l, r.level = l.foldl (fun m r => max m r.level) m := by
  induction l generalizing m with
  | nil => simp
  | cons q rest ih =>
    rw [List.foldl_cons]
    rcases ih (m := max m q.level) with h | ⟨r, hr, h⟩
    · rw [h]
      rcases Nat.le_total q.level m with hle | hle
      · exact .inl (Nat.max_eq_left hle)
      · exact .inr ⟨q, List.mem_cons_self, (Nat.max_eq_right hle).symm⟩
    · exact .inr ⟨r, List.mem_cons_of_mem q hr, h⟩

theorem level_le_highestLevel {l : List Request} {r : Request} (h : r ∈ l) : r.level ≤ highestLevel l :=
  level_le_foldl_max.2 r h

theorem highestLevel_attained {l : List Request} (h : 0 < highestLevel l) : ∃ r ∈ l, r.level = highestLevel l :=
  foldl_max_attained.resolve_left (Nat.ne_of_gt h)

/-- What is deliverable is a request above the IPL with none above it. -/
theorem mem_deliverable {s : State} {r : Request} :
    r ∈ deliverable s ↔ r ∈ requests s ∧ s.ipl < r.level ∧ r.level = highestLevel (requests s) := by
  unfold deliverable
  dsimp only
  split
  next h =>
    rw [List.mem_filter, beq_iff_eq]
    constructor
    · rintro ⟨hr, e⟩
      exact ⟨hr, e ▸ h, e⟩
    · rintro ⟨hr, _, e⟩
      exact ⟨hr, e⟩
  next h =>
    constructor
    · exact fun hr => nomatch hr
    · rintro ⟨_, hi, e⟩
      exact absurd (e ▸ hi) h

/-- Settles O7: the requests of the highest level are delivered if that level is above the IPL. -/
theorem onlyHigherRequestsInterrupt : Obligations.OnlyHigherRequestsInterrupt := by
  intro s
  refine ⟨⟨fun h => ?_, fun ⟨r, hr, hi⟩ => ?_⟩, fun r hr => ?_⟩
  · obtain ⟨r, hr⟩ := List.exists_mem_of_ne_nil _ h
    obtain ⟨hmem, hi, -⟩ := mem_deliverable.mp hr
    exact ⟨r, hmem, hi⟩
  · have hi : s.ipl < highestLevel (requests s) := hi.trans_le (level_le_highestLevel hr)
    obtain ⟨q, hq, e⟩ := highestLevel_attained (Nat.zero_lt_of_lt hi)
    exact List.ne_nil_of_mem (mem_deliverable.mpr ⟨hq, e ▸ hi, e⟩)
  · obtain ⟨hmem, hi, e⟩ := mem_deliverable.mp hr
    exact ⟨hmem, hi, fun q hq => e ▸ level_le_highestLevel hq⟩

/-- Settles O13: the fields of the machine right after reset, one by one, and no event is scheduled. -/
theorem resetState : Obligations.ResetState := by
  have quiet : ∀ e ∈ State.reset.events, e.2 ≠ .consoleLine ∧ ∀ sp n a v, e.2 ≠ .console (.deposit sp n a v) :=
    fun _ h => absurd h List.not_mem_nil
  exact ⟨rfl, rfl, rfl, rfl, rfl, rfl, rfl, rfl, rfl, rfl, rfl, rfl, rfl, rfl, rfl, rfl, rfl, quiet, by decide⟩

end Sys2Proof.Machine
end

section
/-! The invariants of the PSL, 10_state.md R50, under the updates the machine makes: which bits they rest on, and which classes of
legal PSLs the machine does not leave. -/
namespace Sys2Proof.Machine

/-! ### Masks and fields -/

theorem and_eq_zero_bit {x m : Long} (h : x &&& m = 0) (i : Nat) : (x.getLsbD i && m.getLsbD i) = false := by
  rw [← BitVec.getLsbD_and, h]
  exact BitVec.getLsbD_zero

/-- Under a mask that leaves a field out its replacement does not show. -/
theorem putField_and (x v m : Long) {lo n : Nat} (h : fieldMask lo n &&& m = 0) : putField x lo n v &&& m = x &&& m := by
  refine BitVec.eq_of_getLsbD_eq fun i hi => ?_
  have hf := and_eq_zero_bit h i
  simp only [putField, BitVec.getLsbD_and, BitVec.getLsbD_or, BitVec.getLsbD_not] at hf ⊢
  grind

/-- Clearing a bit leaves a mask clear. -/
theorem clearBit_and_eq_zero {x m : Long} (k : Nat) (h : x &&& m = 0) : putBit x k false &&& m = 0 := by
  rw [putBit, putField, show bitL false = 0#32 from rfl, BitVec.zero_shiftLeft, BitVec.zero_and, BitVec.or_zero,
    BitVec.and_assoc, BitVec.and_comm (~~~_), ← BitVec.and_assoc, h]
  exact BitVec.zero_and

theorem field_and {x m : Long} {lo n : Nat} (h : m.extractLsb' lo n = BitVec.allOnes n) :
    field (x &&& m) lo n = field x lo n := by
  unfold field
  rw [BitVec.extractLsb'_and, h, BitVec.and_allOnes]

/-! ### Legal PSLs -/

/-- Legality rests on PSL<31> and PSL<29:5> alone. -/
theorem pslLegal_and (p : Long) : pslLegal (p &&& 0xBFFFFFE0) = pslLegal p := by
  unfold pslLegal
  simp only [field_and (m := 0xBFFFFFE0) (lo := 24) (n := 2) (by decide),
    field_and (m := 0xBFFFFFE0) (lo := 16) (n := 5) (by decide), field_and (m := 0xBFFFFFE0) (lo := 22) (n := 2) (by decide),
    BitVec.getLsbD_and, BitVec.and_assoc]
  simp [pslMbz]

/-- The five conditions of R50, each as an implication. -/
theorem pslLegal_iff {p : Long} : pslLegal p = true ↔
    (p.getLsbD 26 = true → field p 24 2 = 0) ∧ (field p 16 5 ≠ 0 → field p 24 2 = 0) ∧ field p 24 2 ≤ field p 22 2
      ∧ p &&& pslMbz = 0 ∧ (p.getLsbD 31 = true → p &&& 0x0C0000E0 = 0 ∧ field p 24 2 = 3 ∧ field p 16 5 = 0) := by
  simp only [pslLegal, Bool.and_eq_true, Bool.or_eq_true, Bool.not_eq_true', beq_iff_eq, decide_eq_true_eq]
  grind

/-- A legal PSL out of compatibility mode. -/
def NativePsl (p : Long) : Prop := pslLegal p = true ∧ p.getLsbD 31 = false

/-- A PSL of kernel mode, out of compatibility mode, with its MBZ bits clear. -/
structure KernelPsl (p : Long) : Prop where
  cur : field p 24 2 = 0
  mbz : p &&& pslMbz = 0
  cm : p.getLsbD 31 = false

/-- In kernel mode every IPL and either stack is legal. -/
theorem KernelPsl.native {p : Long} (h : KernelPsl p) : NativePsl p :=
  ⟨pslLegal_iff.mpr ⟨fun _ => h.cur, fun _ => h.cur, h.cur ▸ Nat.zero_le _, h.mbz, fun hcm => (nomatch h.cm.symm.trans hcm)⟩,
    h.cm⟩

/-- Compatibility mode is legal in user mode only. -/
theorem KernelPsl.of_legal {p : Long} (h : pslLegal p = true) (hcur : field p 24 2 = 0) : KernelPsl p := by
  obtain ⟨-, -, -, hmbz, hcm⟩ := pslLegal_iff.mp h
  refine ⟨hcur, hmbz, ?_⟩
  cases hb : p.getLsbD 31 with
  | false => rfl
  | true => exact absurd (hcm hb).2.1 (by omega)

/-- A field that touches neither the mode nor an MBZ bit nor CM may be replaced. -/
theorem KernelPsl.putField {p : Long} (h : KernelPsl p) (v : Long) {lo n : Nat} (hcur : lo + n ≤ 24 ∨ 26 ≤ lo)
    (hmbz : fieldMask lo n &&& pslMbz = 0) (hcm : lo + n ≤ 31) : KernelPsl (putField p lo n v) where
  cur := (field_putField_ne p v lo n 24 2 hcur.symm).trans h.cur
  mbz := (putField_and p v _ hmbz).trans h.mbz
  cm := (putField_getLsbD p v lo n 31 (by decide)).trans ((if_neg (by omega)).trans h.cm)

/-- A PSL that an exception or interrupt enters its handler with, R1030, is one of kernel mode, whatever PSL it comes from. -/
theorem kernelPsl_entryPsl (old : Long) (prv : Nat) (ipl : Option Nat) (onIS : Bool) :
    KernelPsl (entryPsl old 0 prv ipl onIS) := by
  have base : KernelPsl (putField (putField (old &&& 0x041F0000) 24 2 0) 22 2 (BitVec.ofNat 32 prv)) :=
    .putField ⟨field_putField _ 0 24 2 (by decide), (putField_and _ _ _ (by decide)).trans (by simp [BitVec.and_assoc, pslMbz]),
      (putField_getLsbD _ _ _ _ 31 (by decide)).trans (by simp)⟩ _ (.inl (by decide)) (by decide) (by decide)
  have interruptStack {p : Long} (h : KernelPsl p) : KernelPsl (if onIS then putBit p 26 true else p) := by
    split
    exacts [h.putField _ (.inr (by decide)) (by decide) (by decide), h]
  cases ipl with
  | none => exact interruptStack base
  | some l => exact interruptStack (base.putField _ (.inl (by decide)) (by decide) (by decide))

/-! ### Classes of PSLs the machine does not leave -/

/-- A class of PSLs that most updates of the PSL stay in: initialization, the entry of a handler, new condition codes, TP, and
clearing FPD. -/
structure PslClosed (Q : Long → Prop) : Prop where
  initial : Q initialPsl
  entry : ∀ old prv ipl onIS, Q (entryPsl old 0 prv ipl onIS)
  cc : ∀ p v, Q p → Q (putField p 0 4 v)
  tp : ∀ p b, Q p → Q (putBit p 30 b)
  fpd : ∀ p, Q p → Q (putBit p 27 false)

theorem pslLegal_putField {p : Long} (v : Long) {lo n : Nat} (h : fieldMask lo n &&& 0xBFFFFFE0 = 0) (hp : pslLegal p = true) :
    pslLegal (putField p lo n v) = true := by
  rwa [← pslLegal_and, putField_and p v _ h, pslLegal_and]

theorem pslLegal_clearFpd {p : Long} (hp : pslLegal p = true) : pslLegal (putBit p 27 false) = true := by
  obtain ⟨his, hipl, hprv, hmbz, hcm⟩ := pslLegal_iff.mp hp
  have other : ∀ lo n, lo + n ≤ 27 → field (putBit p 27 false) lo n = field p lo n := fun lo n h =>
    field_putField_ne _ _ _ _ _ _ (.inl h)
  have bit : ∀ i < 32, i ≠ 27 → (putBit p 27 false).getLsbD i = p.getLsbD i := fun i hi hne =>
    (putField_getLsbD _ _ _ _ i hi).trans (if_neg (by omega))
  rw [pslLegal_iff, other 24 2 (by decide), other 22 2 (by decide), other 16 5 (by decide), bit 26 (by decide) (by decide),
    bit 31 (by decide) (by decide)]
  exact ⟨his, hipl, hprv, clearBit_and_eq_zero 27 hmbz, fun h =>
    ⟨clearBit_and_eq_zero 27 (hcm h).1, (hcm h).2⟩⟩

theorem pslClosed_legal : PslClosed fun p => pslLegal p = true where
  initial := by decide
  entry _ _ _ _ := (kernelPsl_entryPsl _ _ _ _).native.1
  cc _ _ := pslLegal_putField _ (by decide)
  tp _ _ := pslLegal_putField _ (by decide)
  fpd _ := pslLegal_clearFpd

theorem pslClosed_native : PslClosed NativePsl where
  initial := ⟨by decide, by decide⟩
  entry _ _ _ _ := (kernelPsl_entryPsl _ _ _ _).native
  cc p v h := ⟨pslClosed_legal.cc p v h.1, (putField_getLsbD _ _ _ _ 31 (by decide)).trans h.2⟩
  tp p b h := ⟨pslClosed_legal.tp p b h.1, (putField_getLsbD _ _ _ _ 31 (by decide)).trans h.2⟩
  fpd p h := ⟨pslClosed_legal.fpd p h.1, (putField_getLsbD _ _ _ _ 31 (by decide)).trans h.2⟩

theorem pslClosed_kernel : PslClosed KernelPsl where
  initial := ⟨by decide, by decide, by decide⟩
  entry := kernelPsl_entryPsl
  cc _ _ h := h.putField _ (.inl (by decide)) (by decide) (by decide)
  tp _ _ h := h.putField _ (.inr (by decide)) (by decide) (by decide)
  fpd _ h := h.putField _ (.inr (by decide)) (by decide) (by decide)

theorem nativePsl_iff {p : Long} : NativePsl p ↔
    (p.getLsbD 26 = true → field p 24 2 = 0) ∧ (field p 16 5 ≠ 0 → field p 24 2 = 0) ∧ field p 24 2 ≤ field p 22 2
      ∧ p &&& pslMbz = 0 ∧ p.getLsbD 31 = false := by
  unfold NativePsl
  rw [pslLegal_iff]
  grind

/-- Out of compatibility mode legality rests on PSL<31:8> alone. -/
theorem nativePsl_and {p : Long} : NativePsl (p &&& 0xFFFFFF00) ↔ NativePsl p := by
  have mask : ((0xFFFFFF00 : Long) &&& pslMbz) = pslMbz := by decide
  have bit (i : Nat) (h : (0xFFFFFF00 : Long).getLsbD i = true) : (p &&& 0xFFFFFF00).getLsbD i = p.getLsbD i := by
    rw [BitVec.getLsbD_and, h, Bool.and_true]
  rw [nativePsl_iff, nativePsl_iff, field_and (lo := 24) (n := 2) (by decide), field_and (lo := 16) (n := 5) (by decide),
    field_and (lo := 22) (n := 2) (by decide), BitVec.and_assoc, mask, bit 26 (by decide), bit 31 (by decide)]

theorem NativePsl.of_and_eq {p q : Long} (h : NativePsl p) (e : q &&& 0xFFFFFF00 = p &&& 0xFFFFFF00) : NativePsl q :=
  nativePsl_and.mp (e ▸ nativePsl_and.mpr h)

theorem NativePsl.putField {p : Long} (h : NativePsl p) (v : Long) {lo n : Nat} (hn : fieldMask lo n &&& 0xFFFFFF00 = 0) :
    NativePsl (putField p lo n v) :=
  h.of_and_eq (putField_and p v _ hn)

/-- RET loads PSL<15:0> from a longword whose <15:8> are zero, R747; those bits of a legal PSL are zero too. -/
theorem NativePsl.putWord {p v : Long} (h : NativePsl p) (hv : field v 8 8 = 0) : NativePsl (Machine.putField p 0 16 v) := by
  obtain ⟨-, -, -, hmbz, -⟩ := nativePsl_iff.mp h
  refine h.of_and_eq (BitVec.eq_of_getLsbD_eq fun i hi => ?_)
  rw [BitVec.getLsbD_and, BitVec.getLsbD_and, putField_getLsbD _ _ _ _ i hi]
  split
  next hlow =>
    have low : (0xFFFFFF00 : Long).getLsbD i = true → 8 ≤ i := by
      have : ∀ j < 16, (0xFFFFFF00 : Long).getLsbD j = true → 8 ≤ j := by decide
      exact this i hlow.2
    have vbit (h8 : 8 ≤ i) : v.getLsbD i = false := by
      have := congrArg (fun x : BitVec 8 => x.getLsbD (i - 8)) (BitVec.eq_of_toNat_eq (y := 0#8) hv)
      simpa [h8, show i - 8 < 8 by omega] using this
    have pbit (h8 : 8 ≤ i) : p.getLsbD i = false := by
      have mask : ∀ j < 16, 8 ≤ j → pslMbz.getLsbD j = true := by decide
      simpa [mask i hlow.2 h8] using and_eq_zero_bit hmbz i
    grind
  next => rfl

/-! ### The PSLs that instructions set -/

/-- PSL<7:0> on entry to a procedure, R745. -/
theorem NativePsl.called {p : Long} (h : NativePsl p) (mask : Word16) : NativePsl (calledPsl p mask) :=
  (((h.putField _ (by decide)).putField _ (by decide)).putField _ (by decide)).putField _ (by decide)

/-- What REI lets through is legal, R985. -/
theorem pslLegal_of_reiAllowed {old new : Long} (h : reiAllowed old new = true) : pslLegal new = true := by
  simp only [reiAllowed, Bool.not_eq_true', Bool.or_eq_false_iff, Bool.and_eq_false_imp, decide_eq_false_iff_not,
    decide_eq_true_eq, bne_eq_false_iff_eq] at h
  obtain ⟨⟨⟨⟨⟨⟨⟨-, his⟩, -⟩, hipl⟩, hprv⟩, -⟩, hmbz⟩, hcm⟩ := h
  refine pslLegal_iff.mpr ⟨his, fun h => hipl (Nat.pos_of_ne_zero h), Nat.le_of_not_lt hprv, hmbz, fun h => ?_⟩
  have := hcm h
  exact ⟨this.1, this.2, by omega⟩

theorem field_ofNat_le (k n : Nat) : field (BitVec.ofNat 32 k) 0 n ≤ k := by
  unfold field
  rw [BitVec.extractLsb'_toNat, Nat.shiftRight_zero, BitVec.toNat_ofNat]
  exact (Nat.mod_le _ _).trans (Nat.mod_le _ _)

/-- A change to a mode no less privileged than the current one, off the interrupt stack, R989. -/
theorem pslLegal_changedPsl {old : Long} {mode : Nat} (h : pslLegal old = true) (his : old.getLsbD 26 = false)
    (hmode : mode ≤ field old 24 2) : pslLegal (changedPsl old mode) = true := by
  obtain ⟨-, hipl, -, hmbz, -⟩ := pslLegal_iff.mp h
  have cur : field (changedPsl old mode) 24 2 ≤ field old 24 2 :=
    ((field_putField _ _ 24 2 (by decide)).trans_le (field_ofNat_le _ _)).trans hmode
  have prv : field (changedPsl old mode) 22 2 = field old 24 2 := by
    have small : field old 24 2 < 4 := BitVec.isLt _
    rw [changedPsl, field_putField_ne _ _ _ _ _ _ (.inl (by decide)), field_putField _ _ 22 2 (by decide), field,
      BitVec.extractLsb'_toNat, Nat.shiftRight_zero, BitVec.toNat_ofNat]
    omega
  have ipl : field (changedPsl old mode) 16 5 = field old 16 5 := by
    rw [changedPsl, field_putField_ne _ _ _ _ _ _ (.inl (by decide)), field_putField_ne _ _ _ _ _ _ (.inl (by decide)),
      field_and (by decide)]
  have mbz : changedPsl old mode &&& pslMbz = 0 := by
    have mask : ((0x371FFF00 : Long) &&& pslMbz) = pslMbz &&& 0x371FFF00 := by decide
    rw [changedPsl, putField_and _ _ _ (by decide), putField_and _ _ _ (by decide), BitVec.and_assoc, mask, ← BitVec.and_assoc,
      hmbz]
    decide
  have bit (i : Nat) (hi : i < 32) (hne : 26 ≤ i) : (changedPsl old mode).getLsbD i = (old &&& 0x371FFF00).getLsbD i := by
    rw [changedPsl, putField_getLsbD _ _ _ _ i hi, if_neg (by omega), putField_getLsbD _ _ _ _ i hi, if_neg (by omega)]
  have stack : (changedPsl old mode).getLsbD 26 = false := by
    rw [bit 26 (by decide) (by decide), BitVec.getLsbD_and, his, Bool.false_and]
  have cm : (changedPsl old mode).getLsbD 31 = false := by
    rw [bit 31 (by decide) (by decide), BitVec.getLsbD_and]
    exact Bool.and_false _
  refine (nativePsl_iff.mpr ⟨fun h => (nomatch stack.symm.trans h), fun hne => ?_, prv ▸ cur, mbz, cm⟩).1
  have := hipl (ipl ▸ hne)
  omega

end Sys2Proof.Machine
end

section
/-! What the actions of the machine keep of the PSL and the coming events: an action is orderly if, from a state where no console
deposit is waiting and whose PSL lies in a class that updates do not leave, it ends in such a state. -/
namespace Sys2Proof.Machine

/-! ### The coming events -/

/-- Neither a console deposit nor a line of a command file. -/
def Event.Quiet (e : Event) : Prop := e ≠ .consoleLine ∧ ∀ sp n a v, e ≠ .console (.deposit sp n a v)

/-- No event of the list is a console deposit, or may carry one out. -/
def QuietEvents (l : List (Nat × Event)) : Prop := ∀ e ∈ l, e.2.Quiet

theorem quietEvents_cons {e : Nat × Event} {l : List (Nat × Event)} : QuietEvents (e :: l) ↔ e.2.Quiet ∧ QuietEvents l :=
  List.forall_mem_cons

/-- How soon an event comes does not matter. -/
theorem QuietEvents.delayed {n : Nat} {e : Event} {l : List (Nat × Event)} (h : QuietEvents ((n, e) :: l)) (m : Nat) :
    QuietEvents ((m, e) :: l) :=
  quietEvents_cons.mpr ⟨(quietEvents_cons.mp h).1, (quietEvents_cons.mp h).2⟩

theorem QuietEvents.insertEvent {e : Event} {l : List (Nat × Event)} (h : QuietEvents l) (d : Nat) (he : e.Quiet) :
    QuietEvents (insertEvent d e l) := by
  induction l generalizing d with
  | nil => exact quietEvents_cons.mpr ⟨he, h⟩
  | cons x rest ih =>
    obtain ⟨hx, hrest⟩ := quietEvents_cons.mp h
    unfold Machine.insertEvent
    split
    · exact quietEvents_cons.mpr ⟨he, quietEvents_cons.mpr ⟨hx, hrest⟩⟩
    · exact quietEvents_cons.mpr ⟨hx, ih hrest _⟩

theorem QuietEvents.delayFirst {l : List (Nat × Event)} (h : QuietEvents l) (d : Nat) : QuietEvents (delayFirst d l) := by
  cases l with
  | nil => exact h
  | cons _ _ => exact h.delayed _

theorem QuietEvents.dropSteps {l : List (Nat × Event)} (h : QuietEvents l) : QuietEvents (dropSteps l) := by
  induction l with
  | nil => exact h
  | cons x rest ih =>
    obtain ⟨hx, hrest⟩ := quietEvents_cons.mp h
    unfold Machine.dropSteps
    split
    · exact (ih hrest).delayFirst _
    · exact quietEvents_cons.mpr ⟨hx, ih hrest⟩

/-! ### States in order -/

/-- No console deposit is coming, and the PSL is one of `Q`. -/
structure State.InOrder (Q : Long → Prop) (s : State) : Prop where
  events : QuietEvents s.events
  psl : Q s.psl

theorem State.pslOk_iff {s : State} : s.PslOk ↔ s.InOrder fun p => pslLegal p = true :=
  ⟨fun ⟨hevents, hpsl⟩ => ⟨hevents, hpsl⟩, fun h => ⟨h.events, h.psl⟩⟩

/-- The coming events and the PSL of `s` and `t` are the same. -/
structure State.SameStatus (s t : State) : Prop where
  events : t.events = s.events
  psl : t.psl = s.psl

theorem State.SameStatus.refl (s : State) : s.SameStatus s := ⟨rfl, rfl⟩

theorem State.SameStatus.trans {s t u : State} (h : s.SameStatus t) (k : t.SameStatus u) : s.SameStatus u :=
  ⟨k.events.trans h.events, k.psl.trans h.psl⟩

theorem State.SameStatus.ite {c : Prop} {_ : Decidable c} {s t u : State} (ht : s.SameStatus t) (hu : s.SameStatus u) :
    s.SameStatus (if c then t else u) := by
  split
  · exact ht
  · exact hu

theorem State.saveSp_sameStatus (s : State) : s.SameStatus s.saveSp := ⟨s.saveSp_events, s.saveSp_psl⟩

variable {Q : Long → Prop}

theorem State.InOrder.of_same {s t : State} (h : s.InOrder Q) (k : s.SameStatus t) : t.InOrder Q :=
  ⟨k.events ▸ h.events, k.psl ▸ h.psl⟩

/-! ### Cycles of other agents -/

theorem storeClosed_inOrder : StoreClosed (State.InOrder Q) where
  devices _ _ _ _ _ _ h := ⟨h.events, h.psl⟩
  memory _ _ _ _ h := ⟨h.events, h.psl⟩
  bus _ _ h := ⟨h.events, h.psl⟩

/-- Only a cycle of a bus is put off, 62_platform_780.md R1352. -/
theorem keeps_orRetry_inOrder {e : Event} {x : M Unit} (he : e.Quiet) (hx : Keeps (State.InOrder Q) x) :
    Keeps (State.InOrder Q) (orRetry e x) :=
  .bind (.attempt hx) fun _ => by
    split
    · exact .pure _
    · exact .modify fun s hs => ⟨hs.events.insertEvent 1 he, hs.psl⟩
    · exact .throw _

theorem keeps_busMove_inOrder {e : Event} {x : M Unit} (h : busMove e = some x) : Keeps (State.InOrder Q) x := by
  have c : StoreClosed (State.InOrder Q) := storeClosed_inOrder
  unfold busMove at h
  split at h <;> cases h
  · exact keeps_orRetry_inOrder ⟨nofun, nofun⟩ (keeps_unibusDma _ _ _ _ c)
  · exact keeps_needMba _ (keeps_unlessDetached _ (keeps_mbaIn _ _ c.toDevClosed))
  · exact keeps_needMba _ (keeps_mbaMemory _ _ c)
  · exact keeps_needMba _ (keeps_unlessDetached _ (keeps_mbaTake _ _ c.toDevClosed))
  · exact keeps_agentWrite _ _ c
  · exact keeps_agentInterlock _ _ c

theorem keeps_busMoves_inOrder (l : List Event) : Keeps (State.InOrder Q) (busMoves l) := by
  induction l with
  | nil => exact .pure _
  | cons e rest ih =>
    unfold busMoves
    split
    next x hx => exact .bind (keeps_busMove_inOrder hx) fun _ => ih
    next => exact ih

theorem keeps_meanwhile_inOrder (held : Option Nat) : Keeps (State.InOrder Q) (meanwhile held) :=
  .bindGet fun s hs => by
    split
    · exact .bind (.set ⟨hs.events, hs.psl⟩) fun _ => keeps_busMoves_inOrder _
    · exact .pure _

/-- References of the processor and writes of general registers keep a state in order. -/
theorem regClosed_inOrder : RegClosed (State.InOrder Q) where
  toStoreClosed := storeClosed_inOrder
  moves := keeps_meanwhile_inOrder
  regs _ _ h := ⟨h.events, h.psl⟩

/-! ### Orderly actions -/

section
variable {α : Type} {P : State → Prop}

theorem Keeps.ite {c : Prop} {_ : Decidable c} {x y : M α} (hx : Keeps P x) (hy : Keeps P y) : Keeps P (if c then x else y) := by
  split
  · exact hx
  · exact hy

/-- `if c then x` with `k` after it. -/
theorem Keeps.when {c : Prop} {_ : Decidable c} {x : M PUnit} {k : PUnit → M α} (hx : Keeps P x) (hk : ∀ a, Keeps P (k a)) :
    Keeps P (if c then x >>= fun a => k a else k ⟨⟩) :=
  .ite (.bind hx hk) (hk _)

/-- `if c then raise e` with `k` after it, which may use that `c` fails. -/
theorem Keeps.guard {c : Prop} {_ : Decidable c} {e : Exc} {k : PUnit → M α} (hk : ¬c → Keeps P (k ⟨⟩)) :
    Keeps P (if c then Machine.raise e >>= fun a => k a else k ⟨⟩) := by
  split
  next => exact ⟨fun _ h => h⟩
  next h => exact hk h

end

/-- However `x` ends, the state is in order if it was. -/
structure Orderly {α : Type} (x : M α) : Prop where
  keeps : ∀ {Q : Long → Prop}, PslClosed Q → Keeps (State.InOrder Q) x

variable {α β : Type}

theorem Orderly.of {x : M α} (hx : ∀ P, RegClosed P → Keeps P x) : Orderly x := ⟨fun _ => hx _ regClosed_inOrder⟩

theorem Orderly.bind {x : M α} {f : α → M β} (hx : Orderly x) (hf : ∀ a, Orderly (f a)) : Orderly (x >>= f) :=
  ⟨fun c => (hx.keeps c).bind fun a => (hf a).keeps c⟩

theorem Orderly.pure {a : α} : Orderly (Pure.pure a : M α) := ⟨fun _ => .pure a⟩
theorem Orderly.get : Orderly (MonadState.get : M State) := ⟨fun _ => .get⟩
theorem Orderly.throw {e : Stop} : Orderly (throw e : M α) := ⟨fun _ => .throw e⟩
theorem Orderly.raise {e : Exc} : Orderly (raise e : M α) := .throw
theorem Orderly.refuse {e : Refusal} : Orderly (refuse e : M α) := .throw
theorem Orderly.done : Orderly done := .pure

/-- An update of the PSL within every class. -/
theorem Orderly.modify {f : State → State}
    (hf : ∀ {Q : Long → Prop}, PslClosed Q → ∀ s : State, s.InOrder Q → (f s).InOrder Q) : Orderly (modify f : M PUnit) :=
  ⟨fun c => .modify (hf c)⟩

/-- An update that leaves the PSL and the coming events alone. -/
theorem orderly_update {f : State → State} (hf : ∀ s : State, s.SameStatus (f s) := by exact fun _ => ⟨rfl, rfl⟩) :
    Orderly (modify f : M PUnit) :=
  .modify fun _ s h => h.of_same (hf s)

/-- An action that may use that the state it looks at is in order. -/
theorem Orderly.bindGet {f : State → M β}
    (hf : ∀ {Q : Long → Prop}, PslClosed Q → ∀ s : State, s.InOrder Q → Keeps (State.InOrder Q) (f s)) :
    Orderly (MonadState.get >>= f) := ⟨fun c => .bindGet (hf c)⟩

theorem Orderly.ite {c : Prop} {_ : Decidable c} {x y : M α} (hx : Orderly x) (hy : Orderly y) :
    Orderly (if c then x else y) := ⟨fun c => .ite (hx.keeps c) (hy.keeps c)⟩

/-- `if c then x` with `k` after it. -/
theorem Orderly.when {c : Prop} {_ : Decidable c} {x : M PUnit} {k : PUnit → M α} (hx : Orderly x)
    (hk : ∀ a, Orderly (k a)) : Orderly (if c then x >>= fun a => k a else k ⟨⟩) := .ite (.bind hx hk) (hk _)

/-- `if c then x; y` with `k` after it. -/
theorem Orderly.whenThen {c : Prop} {_ : Decidable c} {x : M β} {y : M PUnit} {k : PUnit → M α} (hx : Orderly x)
    (hy : Orderly y) (hk : ∀ a, Orderly (k a)) :
    Orderly (if c then x >>= fun _ => y >>= fun a => k a else k ⟨⟩) := .ite (.bind hx fun _ => .bind hy hk) (hk _)

/-- `if c then x else y` with `k` after it. -/
theorem Orderly.choose {c : Prop} {_ : Decidable c} {x y : M β} {k : β → M α} (hx : Orderly x) (hy : Orderly y)
    (hk : ∀ a, Orderly (k a)) : Orderly (if c then x >>= fun a => k a else y >>= fun a => k a) :=
  .ite (.bind hx hk) (.bind hy hk)

theorem Orderly.map {f : α → β} {x : M α} (hx : Orderly x) : Orderly (f <$> x) := ⟨fun c => (hx.keeps c).map f⟩
theorem Orderly.discard {x : M α} (hx : Orderly x) : Orderly (discard x) := .map hx
theorem Orderly.attempt {x : M α} (hx : Orderly x) : Orderly (attempt x) := ⟨fun c => (hx.keeps c).attempt⟩
theorem Orderly.forM {l : List β} {f : β → M PUnit} (hf : ∀ b, Orderly (f b)) : Orderly (l.forM f) :=
  ⟨fun c => .forM l fun b => (hf b).keeps c⟩
theorem Orderly.mapM {l : List α} {f : α → M β} (hf : ∀ a, Orderly (f a)) : Orderly (l.mapM f) :=
  ⟨fun c => .mapM l fun a => (hf a).keeps c⟩
theorem Orderly.foldlM {l : List β} {f : α → β → M α} {a : α} (hf : ∀ a b, Orderly (f a b)) : Orderly (l.foldlM f a) :=
  ⟨fun c => .foldlM l (fun a b => (hf a b).keeps c) a⟩

end Sys2Proof.Machine
end

section
/-! Halts and the entry of exceptions and interrupts keep a state in order: a halt keeps the PSL it is given, a handler is entered
with a PSL of kernel mode. -/
namespace Sys2Proof.Machine

variable {Q : Long → Prop} {why : HaltCause} {pc psl : Long}

/-! ### Halts -/

theorem keeps_stopAt_inOrder (hp : Q psl) : Keeps (State.InOrder Q) (stopAt why pc psl) :=
  .modify fun _ h => ⟨h.events.dropSteps, hp⟩

theorem keeps_haltAt_inOrder (hp : Q psl) : Keeps (State.InOrder Q) (haltAt why pc psl) :=
  .bind (keeps_stopAt_inOrder hp) fun _ => keeps_send _ regClosed_inOrder.toDevClosed

theorem keeps_haltInterruptStack_inOrder (hp : Q psl) : Keeps (State.InOrder Q) (haltInterruptStack pc psl) :=
  .bind (keeps_freeRegs _ regClosed_inOrder) fun _ => keeps_haltAt_inOrder hp

/-! ### Handlers -/

theorem keeps_readVector_inOrder {offset : Nat} : Keeps (State.InOrder Q) (readVector offset) :=
  keeps_readVector _ regClosed_inOrder.toCycleClosed

theorem keeps_pushHandler_inOrder {onIS : Bool} {ws : List Long} : Keeps (State.InOrder Q) (pushHandler onIS ws) :=
  keeps_pushHandler _ _ regClosed_inOrder

theorem keeps_noteEntry_inOrder {offset : Nat} : Keeps (State.InOrder Q) (noteEntry offset) :=
  keeps_noteEntry _ storeClosed_inOrder

theorem keeps_drawBits_inOrder {n : Nat} : Keeps (State.InOrder Q) (drawBits n) :=
  keeps_drawBits _ storeClosed_inOrder.toDevClosed

theorem State.InOrder.entered {s : State} (h : s.InOrder Q) (c : PslClosed Q) (old : Long) (prv : Nat) (ipl : Option Nat)
    (onIS : Bool) : { s with psl := entryPsl old 0 prv ipl onIS }.InOrder Q :=
  ⟨h.events, c.entry old prv ipl onIS⟩

variable {e : Entry} {x : Exc} {old : Long} {offset ipl code : Nat} {params : List Long}

theorem keeps_enterSerious_inOrder (c : PslClosed Q) (he : Q e.saved) :
    Keeps (State.InOrder Q) (enterSerious offset params e old) := by
  refine .bind keeps_readVector_inOrder fun
    | none => keeps_haltAt_inOrder he
    | some v => ?_
  dsimp only
  split
  · refine .bind (.modify fun _ h => ⟨h.events, h.psl⟩) fun _ => .bind (.attempt keeps_pushHandler_inOrder) fun
      | .ok _ => .bind (.modify fun s h => ?_) fun _ => .bind keeps_noteEntry_inOrder fun _ => .ite
          (.bind keeps_drawBits_inOrder fun _ => .bind keeps_drawBits_inOrder fun _ => .modify fun _ h => ⟨h.events, h.psl⟩)
          (.pure _)
      | .error (.exc _) => keeps_haltInterruptStack_inOrder he
      | .error (.refuse _) | .error (.fault _) | .error .retry => .throw _
    exact State.InOrder.entered (s := s.setReg 15 _) ⟨h.events, h.psl⟩ c _ _ _ _
  · exact .bindGet fun s _ => .ite (.refuse _) (keeps_haltAt_inOrder he)
  · exact keeps_haltAt_inOrder he
  · exact keeps_haltAt_inOrder he

theorem keeps_enter_inOrder (c : PslClosed Q) (he : Q e.saved) : Keeps (State.InOrder Q) (enter e) := by
  have halted {why : HaltCause} : Keeps (State.InOrder Q) (do haltAt why e.pc e.saved; return false : M Bool) :=
    .bind (keeps_haltAt_inOrder he) fun _ => .pure _
  refine .bindGet fun s _ => .bind keeps_readVector_inOrder fun
    | none => halted
    | some v => .ite halted (.ite halted (.ite (.bindGet fun _ _ => .when (.refuse _) fun _ => halted)
        (.bindGet fun u hu => .when (.set ?_) fun _ => .bind (.attempt keeps_pushHandler_inOrder) fun
          | .ok _ => .bind (.modify fun t ht => ?_) fun _ => .bind keeps_noteEntry_inOrder fun _ => .pure _
          | .error (.exc _) => ?_
          | .error (.refuse _) | .error (.fault _) | .error .retry => .throw _)))
  · have := hu.of_same u.saveSp_sameStatus
    exact ⟨this.events, this.psl⟩
  · exact State.InOrder.entered (s := t.setReg 15 _) ⟨ht.events, ht.psl⟩ c _ _ _ _
  · dsimp only
    split
    · exact .bind (keeps_haltInterruptStack_inOrder he) fun _ => .pure _
    split
    · exact .bind (keeps_haltAt_inOrder he) fun _ => .pure _
    split
    · exact .bind (keeps_enterSerious_inOrder c he) fun _ => .pure _
    · exact .bind (keeps_enterSerious_inOrder c he) fun _ => .pure _

theorem orderly_enterException : Orderly (enterException x pc) :=
  .bindGet fun c s hs => .bind keeps_drawBits_inOrder fun cc =>
    have saved := c.tp _ (x.abort && s.tp) (c.cc _ cc hs.psl)
    .ite (keeps_haltAt_inOrder saved) (.discard (keeps_enter_inOrder c saved))

theorem orderly_enterTrap : Orderly (enterTrap code) :=
  .bind (.of fun _ h => keeps_modPend _ h.toStoreClosed) fun _ => .bindGet fun c _ hs =>
    .discard (keeps_enter_inOrder c hs.psl)

theorem orderly_enterInterrupt : Orderly (enterInterrupt offset ipl) :=
  .bindGet fun c _ hs => keeps_enter_inOrder c hs.psl

theorem orderly_enterTrace : Orderly enterTrace :=
  .bind (.modify fun c s hs => ⟨hs.events, c.tp s.psl false hs.psl⟩) fun _ => .bindGet fun c _ hs =>
    .discard (keeps_enter_inOrder c hs.psl)

/-! ### What the opcode decides -/

theorem orderly_ignoreFpd : Orderly ignoreFpd :=
  .modify fun c s hs => by
    split
    · exact hs
    · exact ⟨hs.events, c.fpd s.psl hs.psl⟩

theorem orderly_checkOpcode {op : Nat} : Orderly (checkOpcode op) :=
  .bind .get fun _ => .when orderly_ignoreFpd fun _ => .when .raise fun _ => .when .raise fun _ =>
    .ite .refuse (.ite .raise .pure)

end Sys2Proof.Machine
end

section
/-! The actions of the model are orderly: references and register writes by the frames of the laws, every other action by a proof
that follows its program, a combinator for each statement. Left out are the instructions that set more of the PSL than the
condition codes, the write of IPL, and the deposits of the console. -/
namespace Sys2Proof.Machine

variable {t ts td tx : DT} {o a b c src dst src1 src2 entry header pred addr base pos size len limit add idx sum mask
  selector subscript low high indexin indexout tbl inicrc strlen stream arglist numarg srclen srcaddr fill dstlen dstaddr
  tbladdr esc src1len src1addr src2len src2addr objlen objaddr char startpos findpos divr divd quo rem mulr muld mulrx intg
  fract arg degree cnt round len1 addr1 len2 addr2 len3 addr3 divrlen divraddr divdlen divdaddr quolen quoaddr pattern
  procreg modeOp code : Opnd}

/-! ### The shared operations -/

theorem orderly_draw : Orderly draw := .of fun _ h => keeps_draw h.toDevClosed
theorem orderly_drawBits {n : Nat} : Orderly (drawBits n) := .of fun _ h => keeps_drawBits n h.toDevClosed
theorem orderly_drawBool : Orderly drawBool := .of fun _ h => keeps_drawBool h.toDevClosed
theorem orderly_getR {n : Reg} : Orderly (getR n) := .of fun _ _ => keeps_getR n
theorem orderly_setR {n : Reg} {v : Long} : Orderly (setR n v) := .of fun _ h => keeps_setR n v h
theorem orderly_getPC : Orderly getPC := .of fun _ _ => keeps_getPC
theorem orderly_setPC {v : Long} : Orderly (setPC v) := .of fun _ h => keeps_setPC v h
theorem orderly_modV750 {f : V750 → V750} : Orderly (modV750 f) := .of fun _ h => keeps_modV750 f h.toDevClosed
theorem orderly_modV780 {f : V780 → V780} : Orderly (modV780 f) := .of fun _ h => keeps_modV780 f h.toDevClosed
theorem orderly_modPend {f : Pending → Pending} : Orderly (modPend f) := .of fun _ h => keeps_modPend f h.toStoreClosed
theorem orderly_send {x : Sent} : Orderly (send x) := .of fun _ h => keeps_send x h.toDevClosed
theorem orderly_modUba {k : Nat} {f : Uba → Uba} : Orderly (modUba k f) := .of fun _ h => keeps_modUba k f h.toDevClosed
theorem orderly_modMba {k : Nat} {f : Mba → Mba} : Orderly (modMba k f) := .of fun _ h => keeps_modMba k f h.toDevClosed
theorem orderly_modMemCtl {k : Nat} {f : MemCtl → MemCtl} : Orderly (modMemCtl k f) :=
  .of fun _ h => keeps_modMemCtl k f h.toDevClosed
theorem orderly_raiseFault {tr : Nat} {bits : BitVec 6} : Orderly (raiseFault tr bits) :=
  .of fun _ h => keeps_raiseFault tr bits h.toStoreClosed
theorem orderly_freeRam {pa : Nat} {n : Nat} : Orderly (freeRam pa n) :=
  .of fun _ h => keeps_freeRam pa n h.toStoreClosed
theorem orderly_freeAllRam : Orderly freeAllRam := .of fun _ h => keeps_freeAllRam h.toStoreClosed
theorem orderly_machineCheck {α : Type} : Orderly (machineCheck : M α) :=
  .of fun _ h => keeps_machineCheck h.toDevClosed
theorem orderly_latchBusError {cause : Nat} {readLock : Bool} : Orderly (latchBusError cause readLock) :=
  .of fun _ h => keeps_latchBusError cause readLock h.toDevClosed
theorem orderly_busWriteError : Orderly busWriteError := .of fun _ h => keeps_busWriteError h.toStoreClosed
theorem orderly_pick {α : Type} {l : List α} : Orderly (pick l) := .of fun _ h => keeps_pick l h.toDevClosed
theorem orderly_mbaInit {k : Nat} : Orderly (mbaInit k) := .of fun _ h => keeps_mbaInit k h.toDevClosed
theorem orderly_mbaIn {k : Nat} {data : List Byte} : Orderly (mbaIn k data) :=
  .of fun _ h => keeps_mbaIn k data h.toDevClosed
theorem orderly_mbaTake {k n : Nat} : Orderly (mbaTake k n) := .of fun _ h => keeps_mbaTake k n h.toDevClosed
theorem orderly_mbaMemory {k : Nat} {rest : Bool} : Orderly (mbaMemory k rest) :=
  .of fun _ h => keeps_mbaMemory k rest h.toStoreClosed
theorem orderly_mbaEnd {k : Nat} : Orderly (mbaEnd k) := .of fun _ h => keeps_mbaEnd k h.toStoreClosed
theorem orderly_mbaFinds {k : Nat} {bits : Long} : Orderly (mbaFinds k bits) :=
  .of fun _ h => keeps_mbaFinds k bits h.toDevClosed
theorem orderly_unibusInit750 : Orderly unibusInit750 := .of fun _ h => keeps_unibusInit750 h.toDevClosed
theorem orderly_ubaPowerSequence {k : Nat} : Orderly (ubaPowerSequence k) :=
  .of fun _ h => keeps_ubaPowerSequence k h.toDevClosed
theorem orderly_ubaReleaseInterlock {k : Nat} : Orderly (ubaReleaseInterlock k) :=
  .of fun _ h => keeps_ubaReleaseInterlock k h.toDevClosed
theorem orderly_unreadableByte {α : Type} {pa : Nat} : Orderly (unreadableByte pa : M α) :=
  .of fun _ h => keeps_unreadableByte pa h.toDevClosed
theorem orderly_physRead {u : Use} {pa n : Nat} : Orderly (physRead u pa n) :=
  .of fun _ h => keeps_physRead u pa n h.toCycleClosed
theorem orderly_physWrite {u : Use} {pa n : Nat} {v : Octa} : Orderly (physWrite u pa n v) :=
  .of fun _ h => keeps_physWrite u pa n v h.toBusClosed
theorem orderly_readPte {pa : Nat} : Orderly (readPte pa) := .of fun _ h => keeps_readPte pa h.toCycleClosed
theorem orderly_sysPte {va : Long} {write ptref : Bool} {report : Long} : Orderly (sysPte va write ptref report) :=
  .of fun _ h => keeps_sysPte va write ptref report h.toCycleClosed
theorem orderly_walk {va : Long} {write : Bool} : Orderly (walk va write) :=
  .of fun _ h => keeps_walk va write h.toCycleClosed
theorem orderly_check {va : Long} {write : Bool} {mode : Nat} : Orderly (check va write mode) :=
  .of fun _ h => keeps_check va write mode h.toCycleClosed
theorem orderly_commit {t : Tran} : Orderly (commit t) := .of fun _ h => keeps_commit t h.toBusClosed
theorem orderly_commitMaybe {t : Tran} : Orderly (commitMaybe t) := .of fun _ h => keeps_commitMaybe t h.toBusClosed
theorem orderly_translate {va : Long} {write : Bool} {mode : Nat} : Orderly (translate va write mode) :=
  .of fun _ h => keeps_translate va write mode h.toBusClosed
theorem orderly_translateSpan {va : Long} {n : Nat} {write : Bool} {mode : Nat} : Orderly (translateSpan va n write mode) :=
  .of fun _ h => keeps_translateSpan va n write mode h.toBusClosed
theorem orderly_readSpan {u : Use} {sp : Span} {n : Nat} : Orderly (readSpan u sp n) :=
  .of fun _ h => keeps_readSpan u sp n h.toCycleClosed
theorem orderly_writeSpan {u : Use} {sp : Span} {n : Nat} {v : Octa} : Orderly (writeSpan u sp n v) :=
  .of fun _ h => keeps_writeSpan u sp n v h.toBusClosed
theorem orderly_memRead {u : Use} {va : Long} {n : Nat} : Orderly (memRead u va n) :=
  .of fun _ h => keeps_memRead u va n h.toBusClosed
theorem orderly_memDest {va : Long} {n : Nat} : Orderly (memDest va n) :=
  .of fun _ h => keeps_memDest va n h.toBusClosed
theorem orderly_readLong {va : Long} : Orderly (readLong va) := .of fun _ h => keeps_readLong va h.toBusClosed
theorem orderly_longDests {l : List Long} : Orderly (longDests l) := .of fun _ h => keeps_longDests l h.toBusClosed
theorem orderly_putLongs {l : List (Span × Long)} : Orderly (putLongs l) := .of fun _ h => keeps_putLongs l h.toBusClosed
theorem orderly_pushFrame {mode : Nat} {ws : List Long} : Orderly (pushFrame mode ws) :=
  .of fun _ h => keeps_pushFrame mode ws h
theorem orderly_push {ws : List Long} : Orderly (push ws) := .of fun _ h => keeps_push ws h
theorem orderly_stackTop {n : Nat} : Orderly (stackTop n) := .of fun _ h => keeps_stackTop n h.toBusClosed
theorem orderly_pop : Orderly pop := .of fun _ h => keeps_pop h
theorem orderly_freeRegs {n : Nat} : Orderly (freeRegs n) := .of fun _ h => keeps_freeRegs n h
theorem orderly_address {u : Use} : Orderly (address u t o) := .of fun _ h => keeps_address u t o h
theorem orderly_rd : Orderly (rd t o) := .of fun _ h => keeps_rd t o h
theorem orderly_wr : Orderly (wr t o) := .of fun _ h => keeps_wr t o h
theorem orderly_mdAs {u : Use} : Orderly (mdAs u t o) := .of fun _ h => keeps_mdAs u t o h
theorem orderly_md : Orderly (md t o) := .of fun _ h => keeps_md t o h
theorem orderly_adr : Orderly (adr t o) := .of fun _ h => keeps_adr t o h
theorem orderly_adrPlain : Orderly (adrPlain t o) := .of fun _ h => keeps_adrPlain t o h
theorem orderly_fld : Orderly (fld o) := .of fun _ h => keeps_fld o h
theorem orderly_branchTarget {w : Nat} {bytes : Nat} {d : BitVec w} : Orderly (branchTarget bytes d) :=
  .of fun _ h => keeps_branchTarget bytes d h
theorem orderly_prepare {d : Dest} : Orderly (prepare t d) := .of fun _ h => keeps_prepare t d h.toBusClosed
theorem orderly_store {d : Dest} {v : BitVec t.bits} : Orderly (store t d v) :=
  .of fun _ h => keeps_store t d v h
theorem orderly_storePlain {d : Dest} {v : BitVec t.bits} : Orderly (storePlain t d v) :=
  .of fun _ h => keeps_storePlain t d v h
theorem orderly_rdPlain : Orderly (rdPlain t o) := .of fun _ h => keeps_rdPlain t o h
theorem orderly_wrPlain : Orderly (wrPlain t o) := .of fun _ h => keeps_wrPlain t o h
theorem orderly_overflowTrap : Orderly overflowTrap := .of fun _ _ => keeps_overflowTrap
theorem orderly_unibusDma {k : Nat} {c : UbCycle} {ua : BitVec 18} {d : Word16} : Orderly (unibusDma k c ua d) :=
  .of fun _ h => keeps_unibusDma k c ua d h.toStoreClosed
theorem orderly_agentWrite {pa : Nat} {b : Byte} : Orderly (agentWrite pa b) :=
  .of fun _ h => keeps_agentWrite pa b h.toStoreClosed
theorem orderly_agentInterlock {pa : Nat} {w : Option (List Byte)} : Orderly (agentInterlock pa w) :=
  .of fun _ h => keeps_agentInterlock pa w h.toStoreClosed
theorem orderly_needUnibus {k : Nat} {x : M Unit} (hx : Orderly x) : Orderly (needUnibus k x) :=
  ⟨fun s => keeps_needUnibus k (hx.keeps s)⟩
theorem orderly_needMba {k : Nat} {x : M Unit} (hx : Orderly x) : Orderly (needMba k x) :=
  ⟨fun s => keeps_needMba k (hx.keeps s)⟩
theorem orderly_only780 {x : M Unit} (hx : Orderly x) : Orderly (only780 x) := ⟨fun s => keeps_only780 (hx.keeps s)⟩
theorem orderly_unlessDetached {k : Nat} {x : M Unit} (hx : Orderly x) : Orderly (unlessDetached k x) :=
  ⟨fun s => keeps_unlessDetached k (hx.keeps s)⟩
theorem orderly_only750 {x : M Unit} (hx : Orderly x) : Orderly (only750 x) := .bind .get fun _ => .ite hx .refuse

/-! ### Condition codes -/

theorem orderly_setCC {n z v c : Bool} : Orderly (setCC n z v c) := .modify fun k s h => ⟨h.events, k.cc s.psl _ h.psl⟩
theorem orderly_setNZV {n z v : Bool} : Orderly (setNZV n z v) := .modify fun k s h => ⟨h.events, k.cc s.psl _ h.psl⟩

theorem orderly_setRes {w : Nat} {x : Res w} : Orderly (setRes x) :=
  .bindGet fun k s h => .bind (.set ⟨h.events, k.cc s.psl _ h.psl⟩) fun _ => by
    split
    exacts [.pure _, keeps_overflowTrap]

theorem orderly_storeRes {d : Dest} {x : Res t.bits} : Orderly (storeRes t d x) :=
  .bind orderly_store fun _ => orderly_setRes

theorem orderly_unary {f : BitVec ts.bits → Res td.bits} : Orderly (unary ts td f src dst) :=
  .bind orderly_rd fun _ => .bind orderly_wr fun _ => orderly_storeRes

theorem orderly_binary3 {f : BitVec t.bits → BitVec t.bits → Res t.bits} : Orderly (binary3 t f a b dst) :=
  .bind orderly_rd fun _ => .bind orderly_rd fun _ => .bind orderly_wr fun _ => orderly_storeRes

theorem orderly_binary2 {f : BitVec t.bits → BitVec t.bits → Res t.bits} : Orderly (binary2 t f a dst) :=
  .bind orderly_rd fun _ => .bind orderly_md fun (_, _) => orderly_storeRes

theorem orderly_modify1 {f : BitVec t.bits → Res t.bits} : Orderly (modify1 t f dst) :=
  .bind orderly_md fun (_, _) => orderly_storeRes

theorem orderly_clear : Orderly (clear t dst) := .bind orderly_wr fun _ => orderly_storeRes

theorem orderly_compareFlags {w : Nat} {a b : BitVec w} : Orderly (compareFlags a b) := orderly_setCC

theorem orderly_compare : Orderly (compare t a b) :=
  .bind orderly_rd fun _ => .bind orderly_rd fun _ => .bind orderly_compareFlags fun _ => .done

theorem orderly_test : Orderly (test t a) := .bind orderly_rd fun _ => orderly_setRes

theorem orderly_bitTest : Orderly (bitTest t a b) := .bind orderly_rd fun _ => .bind orderly_rd fun _ => orderly_setRes

/-! ### Integer, field and control instructions -/

theorem orderly_orRetry {e : Event} {x : M Unit} (he : e.Quiet) (hx : Orderly x) : Orderly (orRetry e x) :=
  ⟨fun k => keeps_orRetry_inOrder he (hx.keeps k)⟩

theorem orderly_mova : Orderly (mova t src dst) := .bind orderly_adr fun _ => .bind orderly_wr fun _ => orderly_storeRes

theorem orderly_pusha : Orderly (pusha t src) := .bind orderly_adr fun _ => .bind orderly_push fun _ => orderly_setRes

theorem orderly_fieldPlace {pos : Long} {size : Nat} {base : FieldBase} : Orderly (fieldPlace pos size base) :=
  .when .raise fun _ => .ite .pure
    (by
       split
       exacts [.when .raise fun _ => .when .refuse fun _ => .pure, .pure])

theorem orderly_fieldRead {f : FieldPlace} : Orderly (fieldRead f) := by
  unfold fieldRead
  split
  exacts [.pure, .bind .get fun _ => .pure, .bind orderly_memRead fun _ => .pure]

theorem orderly_fieldWrite {f : FieldPlace} {v : Long} : Orderly (fieldWrite f v) := by
  unfold fieldWrite
  split
  · exact .pure
  · exact .bindGet fun _ s h => .set (h.of_same (.ite ⟨rfl, rfl⟩ ⟨rfl, rfl⟩))
  · exact .bind orderly_memDest fun _ => .bind orderly_readSpan fun _ => orderly_writeSpan

theorem orderly_extract {signed : Bool} : Orderly (extract signed pos size base dst) :=
  .bind orderly_rdPlain fun _ => .bind orderly_rdPlain fun _ => .bind orderly_fld fun _ => .bind orderly_wr fun _ =>
  .bind orderly_fieldPlace fun _ => .bind orderly_fieldRead fun _ => orderly_storeRes

theorem orderly_insv : Orderly (insv src pos size base) :=
  .bind orderly_rd fun _ => .bind orderly_rdPlain fun _ => .bind orderly_rdPlain fun _ => .bind orderly_fld fun _ =>
  .bind orderly_fieldPlace fun _ => .bind orderly_fieldWrite fun _ => .done

theorem orderly_cmpField {signed : Bool} : Orderly (cmpField signed pos size base src) :=
  .bind orderly_rdPlain fun _ => .bind orderly_rdPlain fun _ => .bind orderly_fld fun _ => .bind orderly_rd fun _ =>
  .bind orderly_fieldPlace fun _ => .bind orderly_fieldRead fun _ => .bind orderly_compareFlags fun _ => .done

theorem orderly_findFirst {want : Bool} : Orderly (findFirst want startpos size base findpos) :=
  .bind orderly_rdPlain fun _ => .bind orderly_rdPlain fun _ => .bind orderly_fld fun _ => .bind orderly_wr fun _ =>
  .bind orderly_fieldPlace fun _ => .bind orderly_fieldRead fun _ => .bind orderly_store fun _ =>
  .bind orderly_setCC fun _ => .done

theorem orderly_mov : Orderly (mov t src dst) := orderly_unary

theorem orderly_movz : Orderly (movz ts td src dst) := orderly_unary

theorem orderly_widen : Orderly (widen ts td src dst) := orderly_unary

theorem orderly_emul : Orderly (emul a b c dst) :=
  .bind orderly_rd fun _ => .bind orderly_rd fun _ => .bind orderly_rd fun _ => .bind orderly_wr fun _ =>
  orderly_storeRes

theorem orderly_ediv : Orderly (ediv divr divd quo rem) :=
  .bind orderly_rdPlain fun _ => .bind orderly_rdPlain fun _ => .bind orderly_wrPlain fun _ =>
  .bind orderly_wrPlain fun _ => .bind orderly_prepare fun _ => .bind orderly_prepare fun _ => by
    split
    exacts [.bind orderly_storePlain fun _ => .bind orderly_storePlain fun _ => orderly_setRes]

theorem orderly_ash : Orderly (ash t cnt src dst) :=
  .bind orderly_rd fun _ => .bind orderly_rd fun _ => .bind orderly_wr fun _ => orderly_storeRes

theorem orderly_rotl : Orderly (rotl cnt src dst) :=
  .bind orderly_rd fun _ => .bind orderly_rd fun _ => .bind orderly_wr fun _ => orderly_storeRes

theorem orderly_rdAt : Orderly (rdAt t o) := by
  unfold rdAt
  split
  exacts [.bind orderly_rd fun _ => .pure, .bind orderly_getPC fun _ => .bind orderly_rd fun _ => .pure,
    .bind orderly_rd fun _ => .pure, .bind orderly_address fun _ => .bind orderly_memRead fun _ => .pure]

theorem orderly_awaitInterlock : Orderly awaitInterlock :=
  .bind .get fun _ => .ite
    (.ite
       (.bind orderly_drawBool fun _ => .ite
          (.bind orderly_latchBusError fun _ => .bind orderly_machineCheck fun _ => .throw) .throw)
       .pure)
    (.ite .throw .pure)

theorem orderly_adawiValue {clash : Bool} {x : Res 16} : Orderly (adawiValue clash x) := .ite orderly_drawBits .pure

theorem orderly_adawiEnd {clash : Bool} {x : Res 16} : Orderly (adawiEnd clash x) :=
  .ite
    (.bind orderly_drawBool fun _ => .bind orderly_drawBool fun _ => .bind orderly_drawBool fun _ =>
     .bind orderly_drawBool fun _ => .bind orderly_setCC fun _ => orderly_overflowTrap)
    orderly_setRes

theorem orderly_adawi : Orderly (adawi add sum) :=
  .bind orderly_rdAt fun (_, _) => .bind orderly_wr fun _ => by
    split
    · exact .when .raise fun _ => .bind orderly_memDest fun _ => .bind .get fun _ => by
        split
        · exact .bind orderly_awaitInterlock fun _ => .bind orderly_readSpan fun _ =>
          .bind orderly_adawiValue fun _ => .bind orderly_writeSpan fun _ => orderly_adawiEnd
        · exact .bind orderly_readSpan fun _ => .bind orderly_adawiValue fun _ => .bind orderly_writeSpan fun _ =>
          orderly_adawiEnd
    · exact .bind orderly_getR fun _ => .bind orderly_adawiValue fun _ => .bind orderly_store fun _ =>
      orderly_adawiEnd
    · exact .done

theorem orderly_pushl : Orderly (pushl src) := .bind orderly_rd fun _ => .bind orderly_push fun _ => orderly_setRes

theorem orderly_withCarry {f : Long → Long → Bool → Res 32} : Orderly (withCarry f a dst) :=
  .bind orderly_rd fun _ => .bind orderly_md fun (_, _) => .bind .get fun _ => orderly_storeRes

theorem orderly_branchIf {taken : Bool} {target : Long} : Orderly (branchIf taken target) := .ite orderly_setPC .pure

theorem orderly_branchOn {w bytes : Nat} {displ : BitVec w} {cond : State → Bool} :
    Orderly (branchOn bytes displ cond) :=
  .bind orderly_branchTarget fun _ => .bind .get fun _ => .bind orderly_branchIf fun _ => .done

theorem orderly_jump : Orderly (jump dst) := .bind orderly_adr fun _ => .bind orderly_setPC fun _ => .done

theorem orderly_branchBit {want : Bool} {displ : Byte} : Orderly (branchBit want pos base displ) :=
  .bind orderly_rdPlain fun _ => .bind orderly_fld fun _ => .bind orderly_branchTarget fun _ =>
  .bind orderly_fieldPlace fun _ => .bind orderly_fieldRead fun _ => .bind orderly_branchIf fun _ => .done

theorem orderly_exchangeBit {u : Use} {f : FieldPlace} {new : Bool} : Orderly (exchangeBit u f new) := by
  unfold exchangeBit
  split
  · exact .bind orderly_memDest fun _ => .bind .get fun _ => by
      split
      · exact .bind orderly_awaitInterlock fun _ => .bind orderly_readSpan fun _ =>
        .bind orderly_writeSpan fun _ => .pure
      · exact .bind orderly_readSpan fun _ => .bind orderly_writeSpan fun _ => .pure
  · exact .bind orderly_fieldRead fun _ => .bind orderly_fieldWrite fun _ => .pure

theorem orderly_branchBitSet {u : Use} {want new : Bool} {displ : Byte} :
    Orderly (branchBitSet u want new pos base displ) :=
  .bind orderly_rdPlain fun _ => .bind orderly_fld fun _ => .bind orderly_branchTarget fun _ =>
  .bind orderly_fieldPlace fun _ => .bind orderly_exchangeBit fun _ => .bind orderly_branchIf fun _ => .done

theorem orderly_branchLowBit {want : Bool} {displ : Byte} : Orderly (branchLowBit want src displ) :=
  .bind orderly_rd fun _ => .bind orderly_branchTarget fun _ => .bind orderly_branchIf fun _ => .done

theorem orderly_loopEnd {d : Dest} {x : Res t.bits} {taken : Bool} {target : Long} :
    Orderly (loopEnd t d x taken target) :=
  .bind orderly_storePlain fun _ => .bind orderly_setNZV fun _ => .bind orderly_branchIf fun _ =>
  orderly_overflowTrap

theorem orderly_acb {displ : Word16} : Orderly (acb t limit add idx displ) :=
  .bind orderly_rdPlain fun _ => .bind orderly_rdPlain fun _ => .bind orderly_mdAs fun (_, _) =>
  .bind orderly_branchTarget fun _ => orderly_loopEnd

theorem orderly_aob {leq : Bool} {displ : Byte} : Orderly (aob leq limit idx displ) :=
  .bind orderly_rdPlain fun _ => .bind orderly_mdAs fun (_, _) => .bind orderly_branchTarget fun _ =>
  orderly_loopEnd

theorem orderly_sob {geq : Bool} {displ : Byte} : Orderly (sob geq idx displ) :=
  .bind orderly_mdAs fun (_, _) => .bind orderly_branchTarget fun _ => orderly_loopEnd

theorem State.answered_sameStatus (s : State) (pa n : Nat) : s.SameStatus (s.answered pa n) := ⟨rfl, rfl⟩

theorem State.fetchedByte_sameStatus (s : State) (k pa : Nat) : s.SameStatus (s.fetchedByte k pa) := by
  unfold State.fetchedByte
  split
  · exact ⟨rfl, rfl⟩
  · dsimp only
    split
    · exact s.answered_sameStatus pa 1
    · split <;> exact ⟨rfl, rfl⟩

theorem State.drawn_sameStatus (s : State) (n : Nat) : s.SameStatus (s.drawn n) := by
  unfold State.drawn
  exact .ite ⟨rfl, rfl⟩ (.refl s)

theorem orderly_streamWord {va : Long} : Orderly (streamWord va) :=
  .bind .get fun _ => .bind orderly_translateSpan fun _ => .bindGet fun k s h => by
    split
    · exact .bind (.set (h.of_same (((s.fetchedByte_sameStatus _ _).trans (State.fetchedByte_sameStatus _ _ _)).trans
        (State.drawn_sameStatus _ _)))) fun _ => .pure _
    · exact orderly_unreadableByte.keeps k
    · exact orderly_unreadableByte.keeps k

theorem orderly_case : Orderly (case t selector base limit) :=
  .bind orderly_rd fun _ => .bind orderly_rd fun _ => .bind orderly_rd fun _ => .bind orderly_getPC fun _ => .ite
    (.bind orderly_streamWord fun _ => .bind orderly_setPC fun _ => .bind orderly_compareFlags fun _ => .done)
    (.bind orderly_setPC fun _ => .bind orderly_compareFlags fun _ => .done)

theorem orderly_branchSub {w bytes : Nat} {displ : BitVec w} : Orderly (branchSub bytes displ) :=
  .bind orderly_branchTarget fun _ => .bind orderly_getPC fun _ => .bind orderly_push fun _ =>
  .bind orderly_setPC fun _ => .done

theorem orderly_jsb : Orderly (jsb dst) :=
  .bind orderly_adr fun _ => .bind orderly_getPC fun _ => .bind orderly_push fun _ => .bind orderly_setPC fun _ =>
  .done

theorem orderly_rsb : Orderly rsb := .bind orderly_pop fun _ => .bind orderly_setPC fun _ => .done

/-! ### Strings -/

theorem orderly_readByte {va : Long} : Orderly (readByte va) := .bind orderly_memRead fun _ => .pure

theorem orderly_readBytes {va : Long} {n : Nat} : Orderly (readBytes va n) := by
  induction n generalizing va with
  | zero => exact .pure
  | succ _ ih => exact .bind orderly_readByte fun _ => .bind ih fun _ => .pure

theorem orderly_destByte {va : Long} : Orderly (destByte va) := .bind orderly_memDest fun _ => .pure

theorem orderly_destBytes {va : Long} {n : Nat} : Orderly (destBytes va n) := by
  induction n generalizing va with
  | zero => exact .pure
  | succ _ ih => exact .bind orderly_destByte fun _ => .bind ih fun _ => .pure

theorem orderly_writableBytes {va : Long} {n : Nat} : Orderly (writableBytes va n) := by
  induction n generalizing va with
  | zero => exact .pure
  | succ _ ih =>
    exact .bind (.attempt orderly_destByte) fun _ => by
        split
        exacts [.bind ih fun _ => .pure, ih, .throw]

theorem orderly_putBytes {l : List (Nat × Byte)} : Orderly (putBytes l) := by
  induction l with
  | nil => exact .pure
  | cons _ _ ih => exact .bind orderly_physWrite fun _ => ih

theorem orderly_freeBytes {n : Nat} : Orderly (freeBytes n) := by
  induction n with
  | zero => exact .pure
  | succ _ ih => exact .bind orderly_drawBits fun _ => .bind ih fun _ => .pure

theorem orderly_setRegs {n : Nat} {l : List Long} : Orderly (setRegs n l) := by
  induction l generalizing n with
  | nil => exact .pure
  | cons _ _ ih => exact .bind orderly_setR fun _ => ih

theorem orderly_translateByte {tbl : Long} {b : Byte} : Orderly (translateByte tbl b) := orderly_readByte

theorem orderly_lengthFlags {a b : Word16} {v : Bool} : Orderly (lengthFlags a b v) := orderly_setCC

theorem orderly_movc3 : Orderly (movc3 len srcaddr dstaddr) :=
  .bind orderly_rdPlain fun _ => .bind orderly_adrPlain fun _ => .bind orderly_adrPlain fun _ =>
  .bind orderly_readBytes fun _ => .bind orderly_destBytes fun _ => .bind orderly_putBytes fun _ =>
  .bind orderly_setRegs fun _ => .bind orderly_setCC fun _ => .done

theorem orderly_movc5 : Orderly (movc5 srclen srcaddr fill dstlen dstaddr) :=
  .bind orderly_rdPlain fun _ => .bind orderly_adrPlain fun _ => .bind orderly_rdPlain fun _ =>
  .bind orderly_rdPlain fun _ => .bind orderly_adrPlain fun _ => .bind orderly_readBytes fun _ =>
  .bind orderly_destBytes fun _ => .bind orderly_putBytes fun _ => .bind orderly_setRegs fun _ =>
  .bind orderly_lengthFlags fun _ => .done

theorem orderly_translateBytes {tbl va : Long} {n : Nat} : Orderly (translateBytes tbl va n) := by
  induction n generalizing va with
  | zero => exact .pure
  | succ _ ih =>
    exact .bind orderly_readByte fun _ => .bind orderly_translateByte fun _ => .bind ih fun _ =>
      .pure

theorem orderly_movtc : Orderly (movtc srclen srcaddr fill tbladdr dstlen dstaddr) :=
  .bind orderly_rdPlain fun _ => .bind orderly_adrPlain fun _ => .bind orderly_rdPlain fun _ =>
  .bind orderly_adrPlain fun _ => .bind orderly_rdPlain fun _ => .bind orderly_adrPlain fun _ =>
  .bind orderly_translateBytes fun _ => .bind orderly_destBytes fun _ => .choose orderly_freeBytes .pure fun _ =>
  .bind orderly_putBytes fun _ => .bind orderly_setRegs fun _ => .bind orderly_lengthFlags fun _ => .done

theorem orderly_translateUntil {tbl : Long} {esc : Byte} {s d : Long} {n : Nat} :
    Orderly (translateUntil tbl esc s d n) := by
  induction n generalizing s d with
  | zero => exact .pure
  | succ _ ih =>
    exact .bind orderly_readByte fun _ => .bind orderly_translateByte fun _ => .ite .pure
        (.bind orderly_destByte fun _ => .bind ih fun (_, _) => .pure)

theorem orderly_translateFreely {tbl s d : Long} {n : Nat} : Orderly (translateFreely tbl s d n) := by
  induction n generalizing s d with
  | zero => exact .pure
  | succ _ ih =>
    exact .bind orderly_readByte fun _ => .bind (.discard orderly_translateByte) fun _ =>
      .bind orderly_drawBool fun _ => .ite .pure (.bind (.discard orderly_destByte) fun _ => ih)

theorem orderly_movtuc : Orderly (movtuc srclen srcaddr esc tbladdr dstlen dstaddr) :=
  .bind orderly_rdPlain fun _ => .bind orderly_adrPlain fun _ => .bind orderly_rdPlain fun _ =>
  .bind orderly_adrPlain fun _ => .bind orderly_rdPlain fun _ => .bind orderly_adrPlain fun _ => .ite
    (.bind orderly_translateFreely fun _ => .bind orderly_writableBytes fun _ => .bind orderly_freeBytes fun _ =>
     .bind orderly_putBytes fun _ => .bind orderly_freeRegs fun _ => .bind orderly_lengthFlags fun _ => .done)
    (.bind orderly_translateUntil fun (_, _) => .bind orderly_putBytes fun _ => .bind orderly_setRegs fun _ =>
     .bind orderly_lengthFlags fun _ => .done)

theorem orderly_byteFlags {a b : Byte} : Orderly (byteFlags a b) := orderly_setCC

theorem orderly_byteOrFill {va : Long} {len i : Nat} {fill : Byte} : Orderly (byteOrFill va len i fill) :=
  .ite orderly_readByte .pure

theorem orderly_compareFrom {a b : Long} {len1 len2 : Nat} {fill : Byte} {i n : Nat} :
    Orderly (compareFrom a b len1 len2 fill i n) := by
  induction n generalizing i with
  | zero => exact .pure
  | succ _ ih =>
    exact .bind orderly_byteOrFill fun _ => .bind orderly_byteOrFill fun _ =>
      .bind orderly_byteFlags fun _ => .ite .pure ih

theorem orderly_compareStrings {a b : Long} {len1 len2 : Nat} {fill : Byte} :
    Orderly (compareStrings a b len1 len2 fill) :=
  .bind orderly_setCC fun _ => .bind orderly_compareFrom fun _ => .bind orderly_setRegs fun _ => .done

theorem orderly_cmpc3 : Orderly (cmpc3 len src1addr src2addr) :=
  .bind orderly_rdPlain fun _ => .bind orderly_adrPlain fun _ => .bind orderly_adrPlain fun _ =>
  orderly_compareStrings

theorem orderly_cmpc5 : Orderly (cmpc5 src1len src1addr fill src2len src2addr) :=
  .bind orderly_rdPlain fun _ => .bind orderly_adrPlain fun _ => .bind orderly_rdPlain fun _ =>
  .bind orderly_rdPlain fun _ => .bind orderly_adrPlain fun _ => orderly_compareStrings

theorem orderly_passOver {skip : Byte → M Bool} {va : Long} {n : Nat} (hskip : ∀ a, Orderly (skip a)) :
    Orderly (passOver skip va n) := by
  induction n generalizing va with
  | zero => exact .pure
  | succ _ ih =>
    exact .bind orderly_readByte fun _ => .bind (hskip _) fun _ => .ite (.bind ih fun _ => .pure)
        .pure

theorem orderly_searchFlags {r : Nat} : Orderly (searchFlags r) := orderly_setCC

theorem orderly_scan {span : Bool} : Orderly (scan span len addr tbladdr mask) :=
  .bind orderly_rdPlain fun _ => .bind orderly_adrPlain fun _ => .bind orderly_adrPlain fun _ =>
  .bind orderly_rdPlain fun _ => .bind (orderly_passOver (fun _ => .bind orderly_translateByte fun _ =>
   .pure)) fun _ => .bind orderly_setRegs fun _ => .bind orderly_searchFlags fun _ => .done

theorem orderly_locate {skipChar : Bool} : Orderly (locate skipChar char len addr) :=
  .bind orderly_rdPlain fun _ => .bind orderly_rdPlain fun _ => .bind orderly_adrPlain fun _ =>
  .bind (orderly_passOver (fun _ => .pure)) fun _ => .bind orderly_setRegs fun _ =>
  .bind orderly_searchFlags fun _ => .done

theorem orderly_sameBytes {a b : Long} {n : Nat} : Orderly (sameBytes a b n) := by
  induction n generalizing a b with
  | zero => exact .pure
  | succ _ ih => exact .bind orderly_readByte fun _ => .bind orderly_readByte fun _ => .ite .pure ih

theorem orderly_matchFrom {src obj : Long} {objlen j n : Nat} : Orderly (matchFrom src obj objlen j n) := by
  induction n generalizing j with
  | zero => exact .pure
  | succ _ ih => exact .bind orderly_sameBytes fun _ => .ite .pure ih

theorem orderly_matchc : Orderly (matchc objlen objaddr srclen srcaddr) :=
  .bind orderly_rdPlain fun _ => .bind orderly_adrPlain fun _ => .bind orderly_rdPlain fun _ =>
  .bind orderly_adrPlain fun _ => .bind orderly_matchFrom fun _ => by
    split
    · exact .bind orderly_setRegs fun _ => .bind orderly_setCC fun _ => .done
    · exact .bind (.discard orderly_readBytes) fun _ => .bind orderly_setRegs fun _ => .bind orderly_setCC fun _ =>
      .done

/-! ### Packed decimal -/

theorem orderly_checkLen {n : Nat} : Orderly (checkLen n) := .ite .raise .pure

theorem orderly_valid {α : Type} {x : Option α} : Orderly (valid x) := by
  unfold valid
  split
  exacts [.pure, .raise]

theorem orderly_readPacked {va : Long} {len : Nat} : Orderly (readPacked va len) :=
  .bind orderly_readBytes fun _ => orderly_valid

theorem orderly_decimalTrap : Orderly decimalTrap := .bind .get fun _ => .pure

theorem orderly_storeDec {d : DecString} {srcs : List DecString} {regs : List Long} {v : Int} {keepC : Bool}
    {bytes : Bool → List Nat → M (List Byte)} (hbytes : ∀ a b, Orderly (bytes a b)) :
    Orderly (storeDec d srcs regs v keepC bytes) :=
  .bind (hbytes _ _) fun _ => .bind orderly_destBytes fun _ => .bind .get fun _ =>
  .choose orderly_freeBytes .pure fun _ => .bind orderly_putBytes fun _ => .bind orderly_setRegs fun _ =>
  .bind orderly_setCC fun _ => orderly_decimalTrap

theorem orderly_storePacked {dst : Long} {dstlen : Nat} {srcs : List DecString} {regs : List Long} {v : Int} :
    Orderly (storePacked dst dstlen srcs regs v) :=
  orderly_storeDec fun _ _ => .pure

theorem orderly_packedOpnd : Orderly (packedOpnd len addr) :=
  .bind orderly_rdPlain fun _ => .bind orderly_adrPlain fun _ => .pure

theorem orderly_movp : Orderly (movp len srcaddr dstaddr) :=
  .bind orderly_packedOpnd fun (_, _) => .bind orderly_adrPlain fun _ => .bind orderly_checkLen fun _ =>
  .bind orderly_readPacked fun _ => orderly_storeDec fun _ _ => .pure

theorem orderly_comparePacked {n1 : Nat} {a : Long} {n2 : Nat} {b : Long} : Orderly (comparePacked n1 a n2 b) :=
  .bind orderly_checkLen fun _ => .bind orderly_checkLen fun _ => .bind orderly_readPacked fun _ =>
  .bind orderly_readPacked fun _ => .bind orderly_setRegs fun _ => .bind orderly_setCC fun _ => .done

theorem orderly_cmpp3 : Orderly (cmpp3 len src1addr src2addr) :=
  .bind orderly_packedOpnd fun (_, _) => .bind orderly_adrPlain fun _ => orderly_comparePacked

theorem orderly_cmpp4 : Orderly (cmpp4 src1len src1addr src2len src2addr) :=
  .bind orderly_packedOpnd fun (_, _) => .bind orderly_packedOpnd fun (_, _) => orderly_comparePacked

theorem orderly_packed4 {f : Int → Int → Int} : Orderly (packed4 f len1 addr1 len2 addr2) :=
  .bind orderly_packedOpnd fun (_, _) => .bind orderly_packedOpnd fun (_, _) => .bind orderly_checkLen fun _ =>
  .bind orderly_checkLen fun _ => .bind orderly_readPacked fun _ => .bind orderly_readPacked fun _ =>
  orderly_storePacked

theorem orderly_packed6 {f : Int → Int → Int} : Orderly (packed6 f len1 addr1 len2 addr2 len3 addr3) :=
  .bind orderly_packedOpnd fun (_, _) => .bind orderly_packedOpnd fun (_, _) =>
  .bind orderly_packedOpnd fun (_, _) => .bind orderly_checkLen fun _ => .bind orderly_checkLen fun _ =>
  .bind orderly_checkLen fun _ => .bind orderly_readPacked fun _ => .bind orderly_readPacked fun _ =>
  orderly_storePacked

theorem orderly_divp : Orderly (divp divrlen divraddr divdlen divdaddr quolen quoaddr) :=
  .bind orderly_packedOpnd fun (_, _) => .bind orderly_packedOpnd fun (_, _) =>
  .bind orderly_packedOpnd fun (_, _) => .bind orderly_checkLen fun _ => .bind orderly_checkLen fun _ =>
  .bind orderly_checkLen fun _ => .bind orderly_readPacked fun _ => .ite
    (.bind orderly_destBytes fun _ => .bind orderly_freeBytes fun _ => .bind orderly_putBytes fun _ =>
     .bind orderly_setRegs fun _ => .bind orderly_drawBool fun _ => .bind orderly_drawBool fun _ =>
     .bind orderly_drawBool fun _ => .bind orderly_drawBool fun _ => .bind orderly_setCC fun _ => .pure)
    (.bind orderly_readPacked fun _ => orderly_storePacked)

theorem orderly_ashp : Orderly (ashp cnt srclen srcaddr round dstlen dstaddr) :=
  .bind orderly_rdPlain fun _ => .bind orderly_packedOpnd fun (_, _) => .bind orderly_rdPlain fun _ =>
  .bind orderly_packedOpnd fun (_, _) => .bind orderly_checkLen fun _ => .bind orderly_checkLen fun _ =>
  .bind orderly_readPacked fun _ => orderly_storePacked

theorem orderly_cvtlp : Orderly (cvtlp src dstlen dstaddr) :=
  .bind orderly_rdPlain fun _ => .bind orderly_packedOpnd fun (_, _) => .bind orderly_checkLen fun _ =>
  orderly_storePacked

theorem orderly_cvtpl : Orderly (cvtpl srclen srcaddr dst) :=
  .bind orderly_packedOpnd fun (_, _) => .bind orderly_checkLen fun _ => .bind orderly_readPacked fun _ =>
  .bind orderly_setRegs fun _ => .bind orderly_wrPlain fun _ => .bind orderly_storePlain fun _ => orderly_setRes

theorem orderly_cvtps : Orderly (cvtps srclen srcaddr dstlen dstaddr) :=
  .bind orderly_packedOpnd fun (_, _) => .bind orderly_packedOpnd fun (_, _) => .bind orderly_checkLen fun _ =>
  .bind orderly_checkLen fun _ => .bind orderly_readPacked fun _ => orderly_storeDec fun _ _ => .pure

theorem orderly_cvtsp : Orderly (cvtsp srclen srcaddr dstlen dstaddr) :=
  .bind orderly_packedOpnd fun (_, _) => .bind orderly_packedOpnd fun (_, _) => .bind orderly_checkLen fun _ =>
  .bind orderly_checkLen fun _ => .bind orderly_readBytes fun _ => .bind orderly_valid fun _ => orderly_storePacked

theorem orderly_trailingBytes {tbl : Long} {minus : Bool} {ds : List Nat} : Orderly (trailingBytes tbl minus ds) := by
  unfold trailingBytes
  split
  exacts [.pure, .bind orderly_readByte fun _ => .pure]

theorem orderly_cvtpt : Orderly (cvtpt srclen srcaddr tbladdr dstlen dstaddr) :=
  .bind orderly_packedOpnd fun (_, _) => .bind orderly_adrPlain fun _ => .bind orderly_packedOpnd fun (_, _) =>
  .bind orderly_checkLen fun _ => .bind orderly_checkLen fun _ => .bind orderly_readPacked fun _ =>
  orderly_storeDec fun _ _ => orderly_trailingBytes

theorem orderly_cvttp : Orderly (cvttp srclen srcaddr tbladdr dstlen dstaddr) :=
  .bind orderly_packedOpnd fun (_, _) => .bind orderly_adrPlain fun _ => .bind orderly_packedOpnd fun (_, _) =>
  .bind orderly_checkLen fun _ => .bind orderly_checkLen fun _ => .bind orderly_readBytes fun _ => by
    split
    exacts [.bind .pure fun _ => orderly_storePacked, .bind orderly_translateByte fun _ =>
      .bind orderly_valid fun _ => orderly_storePacked]

theorem orderly_editPut {e : Edit} {b : Byte} : Orderly (editPut e b) := .bind orderly_destByte fun _ => .pure

theorem orderly_nextDigit {e : Edit} : Orderly (nextDigit e) := by
  unfold nextDigit
  split
  exacts [.pure, .raise, .ite .raise .pure]

theorem orderly_editFill {e : Edit} {n : Nat} : Orderly (editFill e n) := by
  induction n generalizing e with
  | zero => exact .pure
  | succ _ ih => exact .bind orderly_editPut fun _ => ih

theorem orderly_editDigit {e : Edit} {d : Nat} : Orderly (editDigit e d) := orderly_editPut

theorem orderly_editMove {float : Bool} {e : Edit} {n : Nat} : Orderly (editMove float e n) := by
  induction n generalizing e with
  | zero => exact .pure
  | succ _ ih =>
    exact .bind orderly_nextDigit fun (_, _) => .choose orderly_editPut .pure fun _ =>
      .bind orderly_editDigit fun _ => ih

theorem orderly_editBack {e : Edit} {len : Nat} : Orderly (editBack e len) := .ite .raise .pure

theorem orderly_editAdjust {e : Edit} {len : Nat} : Orderly (editAdjust e len) :=
  .when .raise fun _ => .ite (.when .raise fun _ => .ite .pure .pure) (.ite .pure .pure)

theorem orderly_editWith {e : Edit} {op : Nat} {ch : Byte} : Orderly (editWith e op ch) := by
  unfold editWith
  split
  exacts [.pure, .pure, .pure, .pure, orderly_editPut, .bind orderly_editBack fun _ => .pure,
    .bind orderly_editBack fun _ => .pure, orderly_editAdjust]

theorem orderly_editOp {e : Edit} {op : Nat} : Orderly (editOp e op) :=
  .ite (.choose .pure orderly_editPut fun _ => .pure)
    (.ite .pure
       (.ite .pure
          (.ite orderly_editPut
             (.ite (.bind orderly_readByte fun _ => orderly_editWith)
                (.ite orderly_editFill (.ite orderly_editMove (.ite orderly_editMove .raise)))))))

theorem orderly_editRun {e : Edit} {n : Nat} : Orderly (editRun e n) := by
  induction n generalizing e with
  | zero => exact .throw
  | succ _ ih =>
    exact .bind orderly_readByte fun _ => .ite (.when .raise fun _ => .pure)
        (.bind orderly_editOp fun _ => ih)

theorem orderly_editpc : Orderly (editpc srclen srcaddr pattern dstaddr) :=
  .bind orderly_packedOpnd fun (_, _) => .bind orderly_adrPlain fun _ => .bind orderly_adrPlain fun _ =>
  .bind orderly_checkLen fun _ => .bind orderly_readBytes fun _ => .when .raise fun _ =>
  .bind orderly_editRun fun _ => .ite
    (.bind orderly_freeBytes fun _ => .bind .pure fun _ => .bind orderly_putBytes fun _ =>
     .bind orderly_setRegs fun _ => .bind orderly_setCC fun _ => orderly_decimalTrap)
    (.bind .pure fun _ => .bind orderly_putBytes fun _ => .bind orderly_setRegs fun _ =>
     .bind orderly_setCC fun _ => orderly_decimalTrap)

/-! ### Floating point -/

theorem orderly_settle {x : Rounded t.bits} : Orderly (settle t x) :=
  .bind .get fun _ => by
    split
    exacts [.pure, .when .raise fun _ => .pure, .ite (.when .raise fun _ => .pure) .pure]

theorem orderly_divideByZero : Orderly (divideByZero t) := .bind .get fun _ => .when .raise fun _ => .pure

theorem orderly_floatOf {v : BitVec t.bits} : Orderly (floatOf t v) := .ite .raise .pure

theorem orderly_accNote {bit : BitVec 3} : Orderly (accNote t bit) := .bind .get fun _ => .ite orderly_modV780 .pure

theorem orderly_accOf {v : BitVec t.bits} : Orderly (accOf t v) := .when orderly_accNote fun _ => orderly_floatOf

theorem orderly_accSettle {x : Rounded t.bits} : Orderly (accSettle t x) := by
  unfold accSettle
  split
  exacts [orderly_settle, .bind orderly_accNote fun _ => orderly_settle, .bind orderly_accNote fun _ =>
    orderly_settle]

theorem orderly_floatFlags {w : Nat} {x : FloatRes w} {keepC : Bool} : Orderly (floatFlags x keepC) :=
  .bindGet fun k s h => .set ⟨h.events, k.cc s.psl _ h.psl⟩

theorem orderly_storeFloat {d : Dest} {x : FloatRes t.bits} : Orderly (storeFloat t d x) :=
  .bind orderly_store fun _ => .bind orderly_floatFlags fun _ => .pure

theorem orderly_moveFloat {negate : Bool} : Orderly (moveFloat t negate src dst) :=
  .bind orderly_rd fun _ => .bind orderly_wr fun _ => .bind orderly_floatOf fun _ => .bind orderly_store fun _ =>
  .bind orderly_floatFlags fun _ => .done

theorem orderly_testFloat : Orderly (testFloat t src) :=
  .bind orderly_rd fun _ => .bind orderly_floatOf fun _ => .bind orderly_setCC fun _ => .done

theorem orderly_compareFloat : Orderly (compareFloat t src1 src2) :=
  .bind orderly_rd fun _ => .bind orderly_rd fun _ => .bind orderly_floatOf fun _ => .bind orderly_floatOf fun _ =>
  .bind orderly_setCC fun _ => .done

theorem orderly_float2 {f : ExactNum → ExactNum → M (FloatRes t.bits)} (hf : ∀ a b, Orderly (f a b)) :
    Orderly (float2 t f src dst) :=
  .bind orderly_rd fun _ => .bind orderly_md fun (_, _) => .bind orderly_accOf fun _ => .bind orderly_accOf fun _ =>
  .bind (hf _ _) fun _ => orderly_storeFloat

theorem orderly_float3 {f : ExactNum → ExactNum → M (FloatRes t.bits)} (hf : ∀ a b, Orderly (f a b)) :
    Orderly (float3 t f src1 src2 dst) :=
  .bind orderly_rd fun _ => .bind orderly_rd fun _ => .bind orderly_wr fun _ => .bind orderly_accOf fun _ =>
  .bind orderly_accOf fun _ => .bind (hf _ _) fun _ => orderly_storeFloat

theorem orderly_addF {a b : ExactNum} : Orderly (addF t a b) := orderly_accSettle

theorem orderly_subF {a b : ExactNum} : Orderly (subF t a b) := orderly_accSettle

theorem orderly_mulF {a b : ExactNum} : Orderly (mulF t a b) := orderly_accSettle

theorem orderly_divF {a b : ExactNum} : Orderly (divF t a b) := .ite orderly_divideByZero orderly_accSettle

theorem orderly_intToFloat : Orderly (intToFloat ts td src dst) :=
  .bind orderly_rd fun _ => .bind orderly_wr fun _ => .bind orderly_accSettle fun _ => orderly_storeFloat

theorem orderly_floatToInt {rounded : Bool} : Orderly (floatToInt ts td rounded src dst) :=
  .bind orderly_rd fun _ => .bind orderly_wr fun _ => .bind orderly_accOf fun _ => orderly_storeRes

theorem orderly_floatToFloat : Orderly (floatToFloat ts td src dst) :=
  .bind orderly_rd fun _ => .bind orderly_wr fun _ => .bind orderly_floatOf fun _ => .bind orderly_settle fun _ =>
  orderly_storeFloat

theorem orderly_acbFloat {displ : Word16} : Orderly (acbFloat t limit add idx displ) :=
  .bind orderly_rd fun _ => .bind orderly_rd fun _ => .bind orderly_md fun (_, _) =>
  .bind orderly_branchTarget fun _ => .bind orderly_floatOf fun _ => .bind orderly_floatOf fun _ =>
  .bind orderly_floatOf fun _ => .bind orderly_settle fun _ => .bind orderly_store fun _ =>
  .bind orderly_floatFlags fun _ => .bind orderly_branchIf fun _ => .pure

theorem orderly_emod : Orderly (emod t tx mulr mulrx muld intg fract) :=
  .bind orderly_rd fun _ => .bind orderly_rdPlain fun _ => .bind orderly_rd fun _ => .bind orderly_wrPlain fun _ =>
  .bind orderly_wr fun _ => .bind orderly_accOf fun _ => .bind orderly_accOf fun _ =>
  .bind orderly_accSettle fun _ => .bind orderly_prepare fun _ => .bind orderly_prepare fun _ =>
  .choose orderly_drawBits .pure fun _ => .choose orderly_drawBits .pure fun _ => .bind orderly_storePlain fun _ =>
  .bind orderly_store fun _ => .bind orderly_setCC fun _ => by
    split
    exacts [.pure, orderly_overflowTrap]

theorem orderly_coefficient {tbl : Long} {i : Nat} : Orderly (coefficient t tbl i) :=
  .bind orderly_memRead fun _ => orderly_accOf

theorem orderly_polyStep {arg : ExactNum} {tbl : Long} {p : Poly t.bits} {i : Nat} : Orderly (polyStep t arg tbl p i) :=
  .ite .pure (.bind orderly_coefficient fun _ => .bind orderly_accSettle fun _ => .pure)

theorem orderly_poly : Orderly (poly t arg degree tbladdr) :=
  .bind orderly_rd fun _ => .bind orderly_rdPlain fun _ => .bind orderly_adrPlain fun _ =>
  .bind orderly_accOf fun _ => .when .raise fun _ => .bind orderly_coefficient fun _ =>
  .bind orderly_accSettle fun _ => .bind (.foldlM fun _ _ => orderly_polyStep) fun p =>
  .bind (orderly_update fun s => by
    have h : s.SameStatus (s.putRegs t 0 p.r) := ⟨s.putRegs_events t 0 p.r, s.putRegs_psl t 0 p.r⟩
    dsimp only
    split <;> exact ⟨h.events, h.psl⟩) fun _ =>
  .bind orderly_setCC fun _ => .pure

/-! ### Registers, PSW, INDEX, CRC, procedure calls -/

theorem orderly_pushr : Orderly (pushr mask) :=
  .bind orderly_rd fun _ => .bind .get fun _ => .when orderly_push fun _ => .done

theorem orderly_loadRegs {l : List (Nat × Long)} : Orderly (loadRegs l) := by
  induction l with
  | nil => exact .pure
  | cons _ _ ih => exact .bind orderly_setR fun _ => ih

theorem orderly_popr : Orderly (popr mask) :=
  .bind orderly_rd fun _ => .ite
    (.bind orderly_stackTop fun _ => .bind orderly_getR fun _ => .bind orderly_setR fun _ =>
     .bind orderly_loadRegs fun _ => .done)
    .done

theorem orderly_movpsl : Orderly (movpsl dst) :=
  .bind orderly_wr fun _ => .bind .get fun _ => .bind orderly_store fun _ => .done

theorem orderly_index : Orderly (index subscript low high size indexin indexout) :=
  .bind orderly_rd fun _ => .bind orderly_rd fun _ => .bind orderly_rd fun _ => .bind orderly_rd fun _ =>
  .bind orderly_rd fun _ => .bind orderly_wr fun _ => orderly_storeRes

theorem orderly_crcNibble {tbl x : Long} : Orderly (crcNibble tbl x) := .bind orderly_readLong fun _ => .pure

theorem orderly_crcFrom {tbl x va : Long} {n : Nat} : Orderly (crcFrom tbl x va n) := by
  induction n generalizing x va with
  | zero => exact .pure
  | succ _ ih =>
    exact .bind orderly_readByte fun _ => .bind orderly_crcNibble fun _ =>
      .bind orderly_crcNibble fun _ => ih

theorem orderly_crc : Orderly (crc tbl inicrc strlen stream) :=
  .bind orderly_adrPlain fun _ => .bind orderly_rdPlain fun _ => .bind orderly_rdPlain fun _ =>
  .bind orderly_adrPlain fun _ => .bind orderly_crcFrom fun _ => .bind orderly_setRegs fun _ =>
  .bind orderly_setNZV fun _ => .done

/-! ### Queues -/

theorem orderly_putLong {sp : Span} {v : Long} : Orderly (putLong sp v) := orderly_writeSpan

theorem orderly_longDest {va : Long} : Orderly (longDest va) := orderly_memDest

theorem orderly_queueFlags {a b : Long} {v : Bool} : Orderly (queueFlags a b v) := orderly_setCC

theorem orderly_insque : Orderly (insque entry pred) :=
  .bind orderly_adrPlain fun _ => .bind orderly_adrPlain fun _ => .bind orderly_readLong fun _ =>
  .bind orderly_longDest fun _ => .bind orderly_longDest fun _ => .bind orderly_longDest fun _ =>
  .bind orderly_longDest fun _ => .bind orderly_putLong fun _ => .bind orderly_putLong fun _ =>
  .bind orderly_putLong fun _ => .bind orderly_putLong fun _ => .bind orderly_queueFlags fun _ => .done

theorem orderly_remque : Orderly (remque entry addr) :=
  .bind orderly_adrPlain fun _ => .bind orderly_wr fun _ => .bind orderly_readLong fun _ =>
  .bind orderly_readLong fun _ => .ite
    (.bind orderly_longDest fun _ => .bind orderly_longDest fun _ => .bind orderly_prepare fun _ =>
     .bind orderly_putLong fun _ => .bind orderly_putLong fun _ => .bind orderly_store fun _ =>
     .bind orderly_queueFlags fun _ => .done)
    (.bind orderly_store fun _ => .bind orderly_queueFlags fun _ => .done)

theorem orderly_lockedRead {h : Long} : Orderly (lockedRead h) :=
  .bind orderly_longDest fun _ => .bind .get fun _ => by
    split
    exacts [.bind orderly_awaitInterlock fun _ => .bind orderly_readSpan fun _ => .pure,
      .bind orderly_readSpan fun _ => .pure]

theorem orderly_withLock {α : Type} {h : Span} {a : Long} {x : M α} (hx : Orderly x) : Orderly (withLock h a x) :=
  .bind orderly_putLong fun _ => .bind (.attempt hx) fun
    | .error _ => .bind orderly_putLong fun _ => .throw
    | .ok _ => .pure

theorem orderly_insertHead {h : Long} {hs : Span} {e : Long} {es : Span} {a : Long} :
    Orderly (insertHead h hs e es a) :=
  .bind (orderly_withLock orderly_longDest) fun _ => .bind orderly_putLong fun _ => .bind orderly_putLong fun _ =>
  .bind orderly_putLong fun _ => .bind orderly_putLong fun _ => orderly_setCC

theorem orderly_insertTail {h : Long} {hs : Span} {e : Long} {es : Span} {a : Long} :
    Orderly (insertTail h hs e es a) :=
  .bind (orderly_withLock (.bind orderly_readLong fun _ => .when .raise fun _ => .bind orderly_longDest fun _ =>
    .bind orderly_longDest fun _ => .pure)) fun (_, _, _) => .bind orderly_putLong fun _ =>
  .bind orderly_putLong fun _ => .bind orderly_putLong fun _ => .bind orderly_putLong fun _ =>
  .bind orderly_putLong fun _ => orderly_setCC

theorem orderly_unlessLocked {hs : Span} {a : Long} {x : M Unit} (hx : Orderly x) : Orderly (unlessLocked hs a x) := by
  unfold unlessLocked
  exact .whenThen orderly_putLong .raise fun _ => .ite (.bind orderly_putLong fun _ => orderly_setCC) hx

theorem orderly_beginInsert {e h : Long} : Orderly (beginInsert e h) := by
  unfold beginInsert
  exact .when .raise fun _ => .bind orderly_memDest fun _ => .bind orderly_lockedRead fun (_, _) => .pure

theorem orderly_insqhi {e h : Long} : Orderly (insqhi e h) :=
  .bind orderly_beginInsert fun (_, _, _) => orderly_unlessLocked orderly_insertHead

theorem orderly_insqti {e h : Long} : Orderly (insqti e h) :=
  .bind orderly_beginInsert fun (_, _, _) => .ite (.bind orderly_putLong fun _ => orderly_insqhi)
    (orderly_unlessLocked orderly_insertTail)

theorem orderly_insqi {tail : Bool} : Orderly (insqi tail entry header) :=
  .bind orderly_adrPlain fun _ => .bind orderly_adrPlain fun _ => .choose orderly_insqti orderly_insqhi fun _ =>
  .done

theorem orderly_removeHead {h : Long} {hs : Span} {d : Dest} {a : Long} : Orderly (removeHead h hs d a) :=
  .bind (orderly_withLock (.bind orderly_readLong fun _ => .when .raise fun _ => .bind orderly_longDest fun _ =>
    .pure)) fun (_, _) => .bind orderly_putLong fun _ => .bind orderly_putLong fun _ =>
  .bind orderly_storePlain fun _ => orderly_setCC

theorem orderly_lastEntry {h c : Long} : Orderly (lastEntry h c) := by
  unfold lastEntry
  exact .when .raise fun _ => .bind orderly_readLong fun _ => .when .raise fun _ => .bind orderly_longDest fun _ =>
    .bind orderly_longDest fun _ => .pure

theorem orderly_removeTail {h : Long} {single : M Unit} {hs : Span} {d : Dest} {a : Long} (hsingle : Orderly single) :
    Orderly (removeTail h single hs d a) :=
  .bind (orderly_withLock (.bind orderly_readLong fun _ => .ite .pure
      (.bind orderly_lastEntry fun _ => .pure))) fun
    | none => .bind orderly_putLong fun _ => hsingle
    | some _ => .bind orderly_putLong fun _ => .bind orderly_putLong fun _ => .bind orderly_putLong fun _ =>
      .bind orderly_storePlain fun _ => orderly_setCC

theorem orderly_notHeader {h : Long} {d : Dest} : Orderly (notHeader h d) := by
  unfold notHeader
  split
  exacts [.ite .raise .pure, .pure]

theorem orderly_removal {h : Long} {d : Dest} {x : Span → Dest → Long → M Unit} (hx : ∀ hs d a, Orderly (x hs d a)) :
    Orderly (removal h d x) := by
  unfold removal
  exact .when .raise fun _ => .bind orderly_notHeader fun _ => .bind orderly_prepare fun _ =>
    .bind orderly_lockedRead fun (_, _) => .whenThen orderly_putLong .raise fun _ =>
    .ite (.bind orderly_putLong fun _ => orderly_setCC)
      (.ite (.bind orderly_putLong fun _ => .bind orderly_storePlain fun _ => orderly_setCC) (hx _ _ _))

theorem orderly_remqhi {h : Long} {d : Dest} : Orderly (remqhi h d) := orderly_removal fun _ _ _ => orderly_removeHead

theorem orderly_remqti {h : Long} {d : Dest} : Orderly (remqti h d) :=
  orderly_removal fun _ _ _ => orderly_removeTail orderly_remqhi

theorem orderly_remqi {tail : Bool} : Orderly (remqi tail header addr) :=
  .bind orderly_adrPlain fun _ => .bind orderly_wrPlain fun _ => .choose orderly_remqti orderly_remqhi fun _ =>
  .done

/-! ### Initialization, boot, restart, power-up -/

theorem orderly_processorInit : Orderly processorInit :=
  .bind orderly_drawBool fun _ => .bind orderly_drawBool fun _ => .bind orderly_drawBits fun _ =>
  .bind orderly_drawBits fun _ => .bind (.modify fun k s h =>
    ⟨s.saveSp_events ▸ h.events, k.initial⟩) fun _ => .bind .get fun _ => .ite
    (.bind orderly_modV750 fun _ => .bind orderly_setPC fun _ => orderly_unibusInit750)
    (.bind .get fun _ => orderly_modV780)

theorem orderly_haltHere {why : HaltCause} : Orderly (haltHere why) := .bindGet fun _ _ h => keeps_haltAt_inOrder h.psl

theorem orderly_runFrom {pc : Long} : Orderly (runFrom pc) :=
  .bind orderly_setPC fun _ => .bind orderly_modPend fun _ => .bind orderly_update fun _ =>
  orderly_modV780

theorem orderly_microVerify : Orderly microVerify :=
  .bind orderly_processorInit fun _ => .bind orderly_freeRegs fun _ => .bind orderly_send fun _ =>
  .bind .get fun _ => by
    split
    · exact .pure
    · exact .bind orderly_send fun _ => .bindGet fun k _ h => .bind (keeps_stopAt_inOrder h.psl) fun _ =>
        (Orderly.bind orderly_send fun _ => .pure).keeps k

theorem State.storeRam_sameStatus (s : State) (pa n : Nat) (v : Octa) : s.SameStatus (s.storeRam pa n v) :=
  ⟨rfl, rfl⟩

theorem State.storeQuad_sameStatus (s : State) (pa : Nat) (v : Quad) : s.SameStatus (s.storeQuad pa v) :=
  ⟨rfl, rfl⟩

theorem foldl_sameStatus {β : Type} {f : State → β → State} (hf : ∀ (s : State) b, s.SameStatus (f s b)) (l : List β)
    (s : State) : s.SameStatus (l.foldl f s) := by
  induction l generalizing s with
  | nil => exact .refl s
  | cons b rest ih => exact (hf s b).trans (ih _)

theorem copyRoms_sameStatus (base : Nat) (s : State) : s.SameStatus (copyRoms base s) :=
  foldl_sameStatus (fun s _ => by split <;> [exact .refl s; exact s.storeRam_sameStatus _ _ _]) _ s

theorem orderly_bootLoad {flags : Long} {unit adapter rom : Nat} : Orderly (bootLoad flags unit adapter rom) :=
  .bind orderly_processorInit fun _ => .bind .get fun _ => by
    split
    · exact orderly_haltHere
    · exact .bind orderly_unibusInit750 fun _ => .bind orderly_modV750 fun _ =>
      .bind (orderly_update (copyRoms_sameStatus _)) fun _ => .ite orderly_haltHere
        (.bind orderly_modV750 fun _ => .bind orderly_setR fun _ => .bind orderly_setR fun _ =>
         .bind orderly_setR fun _ => .bind orderly_setR fun _ => .bind orderly_setR fun _ => .ite orderly_runFrom
           orderly_haltHere)

theorem orderly_boot750 {clearFlag verify : Bool} {flags : Long} {unit adapter rom : Nat} :
    Orderly (boot750 clearFlag verify flags unit adapter rom) := by
  unfold boot750
  exact .when orderly_modV750 fun _ => .ite (.bind orderly_microVerify fun _ => .ite orderly_bootLoad .pure)
      orderly_bootLoad

theorem orderly_bootSwitch {clearFlag : Bool} : Orderly (bootSwitch clearFlag) := .bind .get fun _ => orderly_boot750

theorem orderly_searchPart {pa n : Nat} : Orderly (searchPart pa n) :=
  .bind .get fun _ => .bind (.attempt orderly_physRead) fun
    | .error _ => .bind orderly_modV750 fun _ => .pure
    | .ok _ => .pure

theorem orderly_searchLong {pa : Nat} : Orderly (searchLong pa) :=
  .bind orderly_searchPart fun
    | none => .pure
    | some _ => .ite .pure
        (.bind orderly_searchPart fun
           | none => .pure
           | some _ => .pure)

theorem orderly_longSum {pa n : Nat} : Orderly (longSum pa n) := by
  induction n generalizing pa with
  | zero => exact .pure
  | succ _ ih =>
    exact .bind orderly_searchLong fun
        | none => .pure
        | some _ => .bind ih fun
            | none => .pure
            | some _ => .pure

theorem orderly_validRpb {a : Nat} : Orderly (validRpb a) :=
  .bind orderly_searchLong fun
    | none => .pure
    | some _ => .ite .pure
        (.bind orderly_searchLong fun
           | none => .pure
           | some _ => .ite .pure
               (.bind orderly_searchLong fun
                  | none => .pure
                  | some _ => .bind orderly_longSum fun _ => .pure))

theorem orderly_findRpb {a n : Nat} : Orderly (findRpb a n) := by
  induction n generalizing a with
  | zero => exact .pure
  | succ _ ih =>
    exact .bind orderly_validRpb fun
        | none => ih
        | some _ => .pure

theorem orderly_warmFlags {a : Nat} : Orderly (warmFlags a) :=
  .bind orderly_searchLong fun
    | none => orderly_drawBits
    | some _ => .pure

theorem orderly_warmStart {cause : Nat} : Orderly (warmStart cause) :=
  .bind .get fun _ => .bind orderly_findRpb fun
    | none => .pure
    | some _ => .bind orderly_warmFlags fun _ => .ite .pure
        (.bind orderly_processorInit fun _ => .bind orderly_physWrite fun _ => .bind orderly_setR fun _ =>
         .bind orderly_setR fun _ => .bind orderly_runFrom fun _ => .pure)

theorem orderly_restart750 {cause : Nat} : Orderly (restart750 cause) :=
  .bind orderly_warmStart fun
    | none => .pure
    | some _ => .bind .get fun _ => .ite orderly_bootSwitch orderly_haltHere

theorem orderly_freeMap {mask : Long} {map : Sparse 32} {n : Nat} : Orderly (freeMap mask map n) := by
  induction n generalizing map with
  | zero => exact .pure
  | succ _ ih => exact .bind orderly_drawBits fun _ => ih

theorem orderly_powerUpMbas {v750 : Bool} {n : Nat} : Orderly (powerUpMbas v750 n) := by
  induction n with
  | zero => exact .pure
  | succ _ ih => exact .bind orderly_freeMap fun _ => .bind orderly_drawBits fun _ => .bind ih fun _ => .pure

theorem orderly_freeProcessor : Orderly freeProcessor :=
  .bind orderly_freeRegs fun _ => .bind orderly_drawBits fun _ => .bind orderly_drawBits fun _ =>
  .bind orderly_drawBits fun _ => .bind orderly_drawBits fun _ => .bind orderly_drawBits fun _ =>
  .bind orderly_drawBits fun _ => .bind orderly_drawBits fun _ => .bind orderly_drawBits fun _ =>
  .bind orderly_drawBits fun _ => .bind orderly_drawBits fun _ => .bind orderly_drawBits fun _ =>
  .bind orderly_drawBits fun _ => .bind orderly_drawBits fun _ => .bind orderly_drawBits fun _ =>
  .bind .get fun _ => orderly_update

theorem orderly_powerUp750 {kept : Bool} : Orderly (powerUp750 kept) :=
  .bind orderly_freeMap fun _ => .bind orderly_drawBits fun _ => orderly_update

theorem orderly_powerUpUbas {n : Nat} : Orderly (powerUpUbas n) := by
  induction n with
  | zero => exact .pure
  | succ _ ih => exact .bind orderly_drawBits fun _ => .bind orderly_drawBits fun _ => .bind ih fun _ => .pure

theorem orderly_powerUp780 {kept : Bool} : Orderly (powerUp780 kept) :=
  .bind orderly_drawBits fun _ => .bind orderly_drawBits fun _ => .bind orderly_drawBits fun _ =>
  .bind orderly_drawBits fun _ => .bind orderly_drawBits fun _ => .bind .get fun _ =>
  .bind orderly_powerUpUbas fun _ => .bind orderly_update fun _ => .bind .get fun _ =>
  .bind (.forM (fun _ => orderly_send)) fun _ => .ite orderly_freeAllRam .pure

/-! ### System instructions and processor registers -/

theorem orderly_halt : Orderly halt :=
  .bindGet fun _ _ h => .bind (keeps_haltAt_inOrder h.psl) fun _ => .done

theorem orderly_readPcb {n : Nat} : Orderly (readPcb n) := .bind .get fun _ => .bind orderly_physRead fun _ => .pure

theorem orderly_readPcbs {n k : Nat} : Orderly (readPcbs n k) := by
  induction k generalizing n with
  | zero => exact .pure
  | succ _ ih => exact .bind orderly_readPcb fun _ => .bind ih fun _ => .pure

theorem orderly_writePcbs {n : Nat} {l : List Long} : Orderly (writePcbs n l) := by
  induction l generalizing n with
  | nil => exact .pure
  | cons _ _ ih => exact .bind .get fun _ => .bind orderly_physWrite fun _ => ih

theorem orderly_readSp {k : Nat} : Orderly (readSp k) := .bind .get fun _ => .pure

theorem orderly_writeSp {k : Nat} {v : Long} : Orderly (writeSp k v) :=
  orderly_update fun _ => by
    dsimp only
    split <;> exact ⟨rfl, rfl⟩

theorem orderly_requestSoftware {n : Nat} : Orderly (requestSoftware n) := .ite .pure orderly_update

theorem orderly_checkBaseRegister {a : Long} : Orderly (checkBaseRegister a) := .ite .pure .raise

theorem orderly_modClock {f : Clock → Clock} : Orderly (modClock f) := orderly_update

theorem orderly_modTerm {f : Terminal → Terminal} : Orderly (modTerm f) := orderly_update

theorem orderly_readRxdb : Orderly readRxdb :=
  .bind .get fun _ => .bind orderly_modTerm fun _ => .ite .pure orderly_drawBits

theorem orderly_readCsrd : Orderly readCsrd := .bind .get fun _ => .bind orderly_modV750 fun _ => .pure

theorem orderly_writeTxdb {v : Long} : Orderly (writeTxdb v) :=
  .bind .get fun _ => .when .raise fun _ => .bind orderly_modTerm fun _ => .ite
    (.ite orderly_bootSwitch (.ite orderly_modV750 .pure))
    (.ite (.choose .pure orderly_drawBits fun _ => orderly_send) .pure)

theorem orderly_writeMcesr {v : Long} : Orderly (writeMcesr v) := orderly_modV750

theorem orderly_needMappingOff : Orderly needMappingOff := .bind .get fun _ => .ite .refuse .pure

theorem orderly_readTb : Orderly readTb :=
  .bind orderly_needMappingOff fun _ => .bind .get fun _ => .ite orderly_drawBits .pure

theorem orderly_readHit : Orderly readHit := .bind orderly_drawBool fun _ => .pure

theorem orderly_readReg750 {n : Nat} : Orderly (readReg750 n) :=
  .bind .get fun _ => by
    split
    exacts [.pure, .pure, orderly_readCsrd, .pure, .pure, .pure, .pure, .bind orderly_readHit fun _ => .pure,
      .pure, orderly_readTb, .raise]

theorem orderly_writeReg750 {n : Nat} {v : Long} : Orderly (writeReg750 n v) := by
  unfold writeReg750
  split
  exacts [.pure, orderly_modV750, .bind orderly_modV750 fun _ => .ite orderly_send .pure,
    .bind orderly_modV750 fun _ => orderly_send, orderly_modV750, orderly_modV750, orderly_writeMcesr,
    orderly_modV750, orderly_unibusInit750, .bind orderly_needMappingOff fun _ => orderly_update,
    .raise]

theorem orderly_readReg780 {n : Nat} : Orderly (readReg780 n) :=
  .bind .get fun _ => by
    split
    exacts [.pure, .pure, .pure, .pure, .pure, orderly_drawBits, .pure, .pure, .pure, .pure, .pure, .raise]

theorem orderly_writeReg780 {n : Nat} {v : Long} : Orderly (writeReg780 n v) := by
  unfold writeReg780
  split
  exacts [.bind .get fun _ => orderly_modV780, orderly_modV780, orderly_modV780, .bind orderly_drawBits fun _ =>
    orderly_modV780, orderly_modV780, orderly_modV780, orderly_modV780, orderly_modV780, .bind .get fun _ => .ite
      (orderly_update fun s => s.storeQuad_sameStatus _ _) orderly_busWriteError, orderly_modV780, .raise]

theorem orderly_readReg {n : Nat} : Orderly (readReg n) :=
  .bind .get fun _ => by
    split
    exacts [orderly_readSp, orderly_readSp, orderly_readSp, orderly_readSp, orderly_readSp, .pure, .pure, .pure,
      .pure, .pure, .pure, .pure, .pure, .pure, .pure, .pure, .pure, .pure, .pure, .pure, orderly_readRxdb,
      .pure, .pure, .pure, .pure, .ite orderly_readReg750 orderly_readReg780]

/-- The IPL apart, no processor register is part of the PSL. -/
theorem orderly_writeReg {n : Nat} {v : Long} (hn : n ≠ 0x12) : Orderly (writeReg n v) := by
  unfold writeReg
  split
  exacts [orderly_writeSp, orderly_writeSp, orderly_writeSp, orderly_writeSp, orderly_writeSp,
    .bind orderly_checkBaseRegister fun _ => orderly_update, orderly_update,
    .bind orderly_checkBaseRegister fun _ => orderly_update, orderly_update,
    orderly_update, orderly_update, orderly_update,
    orderly_update, (hn rfl).elim, .when .raise fun _ => orderly_update,
    orderly_requestSoftware, orderly_update, orderly_modClock, orderly_modClock, .bind .get fun _ =>
    .ite orderly_modClock .pure, orderly_modTerm, orderly_modTerm, orderly_writeTxdb, orderly_update,
    orderly_update, orderly_update, orderly_update, .bind .get fun _ => .ite
      orderly_writeReg750 orderly_writeReg780]

theorem orderly_mfpr : Orderly (mfpr procreg dst) :=
  .bind orderly_rd fun _ => .bind orderly_wr fun _ => .bind orderly_prepare fun _ => .bind orderly_readReg fun _ =>
  .bind orderly_store fun _ => .bind orderly_setNZV fun _ => .done

theorem orderly_accessible {va : Long} {write : Bool} {mode : Nat} : Orderly (accessible va write mode) :=
  .bind .get fun _ => .ite .pure
    (.when .refuse fun _ => .bind (.attempt orderly_walk) fun _ => by
       split
       exacts [.ite .pure .raise, .throw, .when .refuse fun _ => .when orderly_commitMaybe fun _ => .pure])

theorem orderly_probe {write : Bool} : Orderly (probe write modeOp len base) :=
  .bind orderly_rd fun _ => .bind orderly_rd fun _ => .bind orderly_adr fun _ => .bind .get fun _ =>
  .bind orderly_accessible fun _ => .bind orderly_accessible fun _ => .bind orderly_setCC fun _ => .done

/-! ### Interrupts -/

theorem orderly_acknowledge {r : Request} : Orderly (acknowledge r) := by
  unfold acknowledge
  split
  exacts [orderly_update, orderly_modPend, orderly_modPend, .bind orderly_modV750 fun _ => orderly_send,
    orderly_modMba, orderly_modPend, orderly_modPend, orderly_modV780, .pure]

theorem orderly_takeInterrupt {cands : List Request} : Orderly (takeInterrupt cands) :=
  .bind orderly_pick fun
    | none => .pure
    | some _ => .bind orderly_enterInterrupt fun _ => .ite orderly_acknowledge .pure

/-! ### The console -/

theorem orderly_conError {code : Nat} : Orderly (conError code) := orderly_send

theorem orderly_modCon {f : ConDefaults → ConDefaults} : Orderly (modCon f) := orderly_update

theorem orderly_showSbi : Orderly showSbi := .forM (fun _ => .bind orderly_readReg780 fun _ => orderly_send)

theorem orderly_conTry {space : ConSpace} {x : M Unit} (hx : Orderly x) : Orderly (conTry space x) :=
  .bind .get fun _ => .bind (.attempt hx) fun _ => by
    split
    · exact .pure
    · exact .bind orderly_update fun _ => .bind orderly_conError fun _ =>
      .when orderly_showSbi fun _ => .pure
    · exact .throw

theorem orderly_conWrite {x : M Unit} (hx : Orderly x) : Orderly (conWrite x) :=
  .bind .get fun _ => .bind orderly_modPend fun _ => .bind hx fun _ => .bind .get fun _ =>
  .when orderly_machineCheck fun _ => orderly_modPend

theorem orderly_conProcPte {va base : Long} {tooLong write : Bool} : Orderly (conProcPte va base tooLong write) :=
  .when .raise fun _ => .when .raise fun _ => .bind orderly_sysPte fun (_, _) => .when .raise fun _ =>
  .bind .get fun _ => .bind orderly_readPte fun _ => .pure

theorem orderly_conWalk {va : Long} {write : Bool} : Orderly (conWalk va write) :=
  .bind .get fun _ => by
    split
    exacts [orderly_conProcPte, orderly_conProcPte, orderly_walk]

theorem orderly_conAddress {space : ConSpace} {a : Nat} {write : Bool} : Orderly (conAddress space a write) :=
  .bind .get fun _ => by
    split
    · exact .ite
        (.ite .pure (.bind orderly_conWalk fun _ => .when .raise fun _ => .when orderly_commit fun _ => .pure))
        orderly_translate
    · exact .pure

theorem orderly_conPlaces {space : ConSpace} {a n : Nat} {write : Bool} : Orderly (conPlaces space a n write) :=
  .ite (.bind orderly_conAddress fun _ => .pure) (.mapM fun _ => .bind orderly_conAddress fun _ => .pure)

theorem orderly_conGet {l : List (Nat × Nat)} : Orderly (conGet l) := by
  induction l with
  | nil => exact .pure
  | cons _ _ ih => exact .bind orderly_physRead fun _ => .bind ih fun _ => .pure

theorem orderly_conPut {l : List (Nat × Nat)} {v : Quad} : Orderly (conPut l v) := by
  induction l generalizing v with
  | nil => exact .pure
  | cons _ _ ih => exact .bind (orderly_conWrite orderly_physWrite) fun _ => ih

theorem orderly_conShow {space a : Nat} {v : Long} : Orderly (conShow space a v) :=
  .bind orderly_modCon fun _ => orderly_send

theorem orderly_conMemory {write : Option Quad} {space : ConSpace} {a size : Nat} :
    Orderly (conMemory write space a size) :=
  .bind (.mapM fun _ => .bind orderly_conPlaces fun _ => .pure) fun _ => .forM fun (_, _) => by
    dsimp only
    split
    exacts [orderly_conPut, .bind orderly_conGet fun _ => orderly_conShow]

theorem orderly_conGeneral {write : Option Quad} {n : Nat} : Orderly (conGeneral write n) :=
  .ite (.bind .get fun _ => orderly_conError)
    (by
       split
       exacts [orderly_setR, .bind orderly_getR fun _ => orderly_conShow])

theorem orderly_conInternal {n : Nat} : Orderly (conInternal none n) := .bind orderly_readReg fun _ => orderly_conShow

theorem orderly_conPsl : Orderly (conPsl none) := .bind .get fun _ => orderly_conShow

theorem orderly_readId {n : Nat} : Orderly (readId n) :=
  .bind .get fun _ => by
    split
    exacts [.pure, orderly_drawBits, .pure, .pure, .pure, .pure, .pure, .pure, .pure, .pure, .pure, .pure, .pure,
      .ite orderly_drawBits
        (by
           split
           exacts [orderly_readReg, .raise])]

theorem orderly_conId {n : Nat} : Orderly (conId none n) := .bind orderly_readId fun _ => orderly_conShow

theorem orderly_conVbus {n : Nat} : Orderly (conVbus none n) := .bind orderly_drawBits fun _ => orderly_conShow

/-- EXAMINE. -/
theorem orderly_conAccess {space : Option ConSpace} {size : Option Nat} {addr : ConAddr} :
    Orderly (conAccess none space size addr) :=
  .bind .get fun _ => .when .refuse fun _ => by
    split
    · exact .bind orderly_conPsl fun _ => .ite orderly_modCon .pure
    · exact .bind orderly_drawBits fun _ => .ite orderly_conError
        (.bind (.discard (orderly_conTry (by
              split
              exacts [orderly_conMemory, orderly_conMemory, orderly_conGeneral, orderly_conInternal, .ite .refuse
                  orderly_conId, .ite .refuse orderly_conVbus]))) fun _ =>
         orderly_modCon)

theorem orderly_conStore {a : Nat} {l : List Byte} : Orderly (conStore a l) := by
  induction l generalizing a with
  | nil => exact .pure
  | cons _ _ ih => exact .bind (orderly_conTry orderly_conMemory) fun _ => .ite ih .pure

theorem orderly_loadImage {a : Nat} {l : List Byte} : Orderly (loadImage a l) := by
  induction l generalizing a with
  | nil => exact .pure
  | cons _ _ ih => exact .bind (.discard orderly_conStore) fun _ => ih

theorem orderly_boot780 {b : Boot780} : Orderly (boot780 b) :=
  .bind orderly_processorInit fun _ => .bind (.forM (fun (_, _) => orderly_setR)) fun _ =>
  .bind orderly_loadImage fun _ => orderly_runFrom

theorem orderly_conFetch {a n : Nat} : Orderly (conFetch a n) := by
  induction n generalizing a with
  | zero => exact .pure
  | succ _ ih => exact .bind orderly_conPlaces fun _ => .bind orderly_conGet fun _ => .bind ih fun _ => .pure

theorem orderly_conBinary {line : List Byte} {check : Byte} {a : Nat} {count : Long} {data : List Byte} :
    Orderly (conBinary line check a count data) :=
  .ite orderly_conError
    (.ite (.discard (orderly_conTry (.bind orderly_conFetch fun _ => orderly_send)))
       (.bind orderly_conStore fun _ => .ite (.ite orderly_conError .pure) .pure))

theorem orderly_unjam : Orderly unjam :=
  .bind .get fun _ => .bind (.forM (fun _ => .bind orderly_ubaReleaseInterlock fun _ =>
   .bind orderly_modUba fun _ => orderly_ubaPowerSequence)) fun _ => .forM fun _ => orderly_mbaInit

theorem orderly_conSetDefault {space : Option ConSpace} {size : Option Nat} {octal : Option Bool} :
    Orderly (conSetDefault space size octal) :=
  orderly_modCon

theorem orderly_conSetStep {k : StepKind} : Orderly (conSetStep k) := by
  unfold conSetStep
  split
  exacts [.pure, .pure, .refuse, .refuse]

theorem orderly_modProgram {f : ConProgram → ConProgram} : Orderly (modProgram f) := orderly_modV780

theorem orderly_conFile {lines : Option (List ConCmd)} : Orderly (conFile lines) := by
  unfold conFile
  split
  exacts [orderly_modProgram, orderly_conError]

theorem orderly_conProgram {c : ConCmd} : Orderly (conProgram c) := by
  refine .bind .get fun _ => ?_
  cases c with
  | setDefault _ _ _ => exact orderly_conSetDefault
  | setStep _ => exact orderly_conSetStep
  | relocation _ | terminalFill _ | link | repeated _ | enableDx1 => exact orderly_modProgram
  | terminalProgram => exact orderly_modV780
  | showState | help => exact orderly_send
  | showVersion => exact .bind orderly_drawBits fun _ => .bind orderly_drawBits fun _ => orderly_send
  | waitDone => exact .pure
  | perform | indirect _ _ => exact orderly_conFile
  | reboot => exact .bind orderly_modProgram fun _ => orderly_modCon
  | _ => exact .refuse

theorem orderly_conContinue : Orderly conContinue :=
  .bind .get fun _ => .when .refuse fun _ => .bind orderly_getPC fun _ => orderly_runFrom

theorem orderly_conBoot {noVerify : Bool} {flags : Nat} {device : Option (Nat × Nat × Nat)} :
    Orderly (conBoot noVerify flags device) :=
  .bind .get fun _ => by
    dsimp only
    split
    · exact orderly_boot750
    · split <;> [exact orderly_boot750; exact orderly_conError]

theorem orderly_conTest : Orderly conTest :=
  .bind orderly_microVerify fun _ => .ite (.bind orderly_send fun _ => .bindGet fun _ _ h => keeps_stopAt_inOrder h.psl) .pure

theorem orderly_conHalted {c : ConCmd} (hc : ∀ sp n a v, c ≠ .deposit sp n a v) : Orderly (conHalted c) :=
  .bind .get fun _ => match c with
    | .boot _ _ _ => .ite orderly_conBoot .refuse
    | .bootImage _ => orderly_boot780
    | .continue => orderly_conContinue
    | .deposit sp n a v => (hc sp n a v rfl).elim
    | .examine _ _ _ => orderly_conAccess
    | .initializeCpu => orderly_processorInit
    | .haltNop => .pure
    | .examineIr => orderly_only780 (.bind orderly_drawBits fun _ => orderly_conShow)
    | .next _ => .modify fun _ _ h => ⟨h.events.insertEvent _ ⟨nofun, nofun⟩, h.psl⟩
    | .start _ => .bind orderly_getPC fun _ => .bind orderly_processorInit fun _ => orderly_runFrom
    | .test => .ite orderly_conTest .refuse
    | .load _ _ => orderly_only780 (.discard orderly_conStore)
    | .binary _ _ _ _ _ => .ite orderly_conBinary .refuse
    | .unjam => orderly_only780 orderly_unjam
    | .qclear _ =>
      orderly_only780 (.discard (orderly_conTry (.bind .get fun _ =>
        .ite (orderly_update fun s => s.storeQuad_sameStatus _ _) orderly_machineCheck)))
    | .setDefault _ _ _ | .setStep _ | .relocation _ | .terminalProgram | .terminalFill _ | .showState | .showVersion
    | .help | .waitDone | .link | .perform | .indirect _ _ | .repeated _ | .enableDx1 | .reboot | .microMachine =>
      orderly_only780 orderly_conProgram

theorem orderly_conRunning {c : ConCmd} : Orderly (conRunning c) :=
  .bind .get fun _ => by
    split
    exacts [orderly_modV780, .ite orderly_modPend .pure, .ite orderly_conAccess orderly_conError, .ite
        orderly_conProgram orderly_conError]

theorem orderly_conRun {c : ConCmd} (hc : ∀ sp n a v, c ≠ .deposit sp n a v) : Orderly (conRun c) :=
  .bind .get fun _ => by
    split
    exacts [orderly_conHalted hc, orderly_conRunning]

theorem orderly_conCommand {c : ConCmd} (hc : ∀ sp n a v, c ≠ .deposit sp n a v) : Orderly (conCommand c) :=
  .bind .get fun _ => .ite (.ite .pure (.bind (orderly_conHalted hc) fun _ => .ite orderly_modCon .pure))
    (.ite .pure (.ite orderly_modProgram (.ite .pure (orderly_conRun hc))))

theorem orderly_controlC : Orderly controlC := .bind .get fun _ => .ite orderly_modProgram .pure

theorem orderly_haltAction {why : HaltCause} : Orderly (haltAction why) :=
  .bind .get fun _ => .ite
    (.ite
       (by
          split
          exacts [.pure, .ite orderly_bootSwitch .pure, orderly_restart750, orderly_restart750])
       .pure)
    (by
       split
       exacts [orderly_boot780, .pure])

/-! ### Power, terminals, the bus, errors: what events do -/

theorem orderly_powerUp {held : Bool} : Orderly (powerUp held) :=
  .bind .get fun _ => .choose orderly_powerUp750 orderly_powerUp780 fun _ => .bind orderly_powerUpMbas fun _ =>
  .bind orderly_update fun _ => .bind orderly_freeProcessor fun _ =>
  .bind orderly_processorInit fun _ => .ite
    (by
       split
       · exact .bind orderly_microVerify fun _ => .ite orderly_haltHere .pure
       · exact orderly_bootSwitch
       · exact .bind orderly_microVerify fun _ => .ite
           (.bind orderly_getPC fun _ => .bind orderly_send fun _ => orderly_restart750) .pure)
    (by
       split
       exacts [orderly_boot780, orderly_haltHere])

theorem orderly_receive {unit : BitVec 4} {c : Byte} {err : Bool} : Orderly (receive unit c err) :=
  orderly_update fun _ => .ite ⟨rfl, rfl⟩ ⟨rfl, rfl⟩

theorem orderly_transmitted : Orderly transmitted :=
  orderly_update fun _ => .ite ⟨rfl, rfl⟩ ⟨rfl, rfl⟩

theorem orderly_controlP : Orderly controlP :=
  .bind .get fun _ => .ite .pure
    (.ite
       (by
          split
          exacts [orderly_modPend, .bind orderly_modCon fun _ => orderly_send])
       orderly_modV780)

theorem orderly_unibusRequest {k level : Nat} {vector : Word16} : Orderly (unibusRequest k level vector) :=
  orderly_needUnibus (.when .refuse fun _ => .bind .get fun _ => .ite (.when .refuse fun _ => orderly_modV750)
     orderly_modUba)

theorem orderly_unibusDrop {k level : Nat} : Orderly (unibusDrop k level) :=
  orderly_needUnibus (.bind .get fun _ => .ite orderly_modV750 orderly_modUba)

theorem orderly_unibusReady {k : Nat} : Orderly (unibusReady k) := orderly_only780 (orderly_needUnibus orderly_modUba)

theorem orderly_correctedData {k : Nat} : Orderly (correctedData k) :=
  .bind .get fun _ => .bind orderly_drawBits fun _ => .ite (.ite .pure orderly_modV750) orderly_modMemCtl

theorem orderly_memoryError {pa : Nat} : Orderly (memoryError pa) :=
  .bind .get fun _ => .ite (.bind orderly_freeRam fun _ => orderly_update) .pure

theorem orderly_sbiDead : Orderly sbiDead :=
  .bind .get fun _ => .forM (fun _ => .bind orderly_modUba fun _ => orderly_ubaPowerSequence)

theorem orderly_sbiFaultClear : Orderly sbiFaultClear := .bind orderly_modV780 fun _ => orderly_modPend

theorem orderly_nexusRequest {tr level : Nat} {on : Bool} : Orderly (nexusRequest tr level on) :=
  orderly_only780 (.bind .get fun _ => .ite orderly_modV780 .refuse)

theorem orderly_memoryReady {k : Nat} : Orderly (memoryReady k) := orderly_only780 orderly_modMemCtl

theorem orderly_memoryPower {k : Nat} {up : Bool} : Orderly (memoryPower k up) :=
  .bind .get fun _ => .ite orderly_modMemCtl .pure

theorem orderly_acLow : Orderly acLow :=
  .bind orderly_modPend fun _ => .bind .get fun _ => .ite
    (.bind orderly_update fun _ => .bind orderly_modV780 fun _ => .bind .get fun _ =>
     .forM (fun _ => orderly_memoryPower))
    .pure

theorem orderly_resetButton : Orderly resetButton :=
  orderly_only750 (.bind .get fun _ => .ite .pure
     (.bind orderly_acLow fun _ => .bind orderly_draw fun _ =>
      .modify fun _ _ h => ⟨h.events.insertEvent _ ⟨nofun, nofun⟩, h.psl⟩))

/-- Every event that is neither a console deposit nor a line of a command file, which might be one. -/
theorem orderly_applyEvent {e : Event} (he : e.Quiet) : Orderly (applyEvent e) := by
  unfold applyEvent
  split
  exacts [orderly_modClock, orderly_update fun _ => .ite ⟨rfl, rfl⟩ (.refl _), orderly_receive, orderly_transmitted,
    orderly_only750 orderly_modV750, orderly_only750 orderly_modV750, orderly_controlP,
    orderly_only780 (orderly_conCommand nofun),
    orderly_conCommand fun sp n a v h => he.2 sp n a v (congrArg Event.console h), orderly_unibusRequest, orderly_unibusDrop,
    orderly_orRetry he orderly_unibusDma, orderly_needUnibus orderly_update, orderly_unibusReady,
    orderly_only780 (orderly_needUnibus orderly_ubaPowerSequence), orderly_needMba orderly_update,
    orderly_needMba orderly_update, orderly_needMba (orderly_unlessDetached orderly_mbaIn),
    orderly_needMba orderly_mbaMemory, orderly_needMba (orderly_unlessDetached orderly_mbaTake),
    orderly_needMba (orderly_unlessDetached orderly_mbaEnd), orderly_needMba orderly_mbaFinds,
    orderly_needMba orderly_modMba, orderly_agentWrite, orderly_orRetry he orderly_agentInterlock,
    orderly_only780 orderly_modV780, orderly_acLow, orderly_powerUp, orderly_resetButton, orderly_modPend,
    orderly_correctedData, orderly_memoryError, orderly_only780 orderly_raiseFault,
    orderly_only780 orderly_sbiFaultClear, orderly_nexusRequest, orderly_memoryReady, orderly_only780 orderly_sbiDead,
    orderly_only780 orderly_memoryPower, orderly_only780 orderly_modPend, .ite orderly_update .refuse,
    .bindGet fun _ _ h => .ite (keeps_haltAt_inOrder h.psl) (.pure _), orderly_only780 orderly_controlC, (he.1 rfl).elim,
    orderly_only780 orderly_modProgram, orderly_only780 orderly_modV780]

/-! ### Instruction bytes and specifiers that are missing -/

theorem orderly_fetchFault {s0 : State} {va : Long} : Orderly (fetchFault s0 va) :=
  .bindGet fun k _ h => .bind (.set ⟨h.events, h.psl⟩) fun _ => .bind (.attempt (orderly_check.keeps k)) fun _ =>
    .bind (.modify fun _ h => ⟨h.events, h.psl⟩) fun _ => by
      split
      exacts [orderly_unreadableByte.keeps k, .throw _]

theorem orderly_evalSlot {plain : Bool} {slot : Slot} : Orderly (evalSlot plain slot) := by
  unfold evalSlot
  split
  exacts [.discard (.ite orderly_rdPlain orderly_rd), .discard (.ite orderly_wrPlain orderly_wr),
    .discard (.ite orderly_mdAs orderly_md), .discard (.ite orderly_adrPlain orderly_adr), .discard orderly_fld,
    .discard orderly_branchTarget, .discard orderly_branchTarget]

theorem orderly_noteCause {c : CheckCause} : Orderly (noteCause c) := by
  unfold noteCause
  split
  exacts [.pure, orderly_modV750, orderly_modV750, orderly_modV750]

end Sys2Proof.Machine
end

section
/-! The instructions that set more of the PSL than the condition codes: each keeps the class of PSLs it can start with. -/
namespace Sys2Proof.Machine

variable {mask arglist dst numarg code src procreg : Opnd}

/-! ### The PSW, out of compatibility mode -/

theorem keeps_changePsw_native {f : Long → Long → Long} : Keeps (State.InOrder NativePsl) (changePsw f mask) :=
  .bind (orderly_rd.keeps pslClosed_native) fun _ => .when (.raise _) fun _ =>
    .bind (.modify fun _ h => ⟨h.events, h.psl.putField _ (by decide)⟩) fun _ => .done

theorem keeps_call_native {n : Option Long} {ap d : Long} : Keeps (State.InOrder NativePsl) (call n ap d) :=
  .bind (orderly_memRead.keeps pslClosed_native) fun _ => .when (.raise _) fun _ => .bindGet fun _ _ =>
    .bind (orderly_longDests.keeps pslClosed_native) fun _ => .bind (orderly_putLongs.keeps pslClosed_native) fun _ =>
    .bind (orderly_setR.keeps pslClosed_native) fun _ => .bind (orderly_setR.keeps pslClosed_native) fun _ =>
    .bind (orderly_setR.keeps pslClosed_native) fun _ => .bind (.modify fun _ h => ⟨h.events, h.psl.called _⟩) fun _ =>
    .bind (orderly_setPC.keeps pslClosed_native) fun _ => .done

theorem keeps_callg_native : Keeps (State.InOrder NativePsl) (callg arglist dst) :=
  .bind (orderly_adr.keeps pslClosed_native) fun _ => .bind (orderly_adr.keeps pslClosed_native) fun _ => keeps_call_native

theorem keeps_calls_native : Keeps (State.InOrder NativePsl) (calls numarg dst) :=
  .bind (orderly_rd.keeps pslClosed_native) fun _ => .bind (orderly_adr.keeps pslClosed_native) fun _ => keeps_call_native

/-- RET up to the load of the PSW, and after it. -/
theorem keeps_ret_native : Keeps (State.InOrder NativePsl) ret := by
  have pop : Keeps (State.InOrder NativePsl) pop := orderly_pop.keeps pslClosed_native
  have setR (n : Reg) (v : Long) : Keeps (State.InOrder NativePsl) (setR n v) := orderly_setR.keeps pslClosed_native
  have getR (n : Reg) : Keeps (State.InOrder NativePsl) (getR n) := orderly_getR.keeps pslClosed_native
  have setPC (v : Long) : Keeps (State.InOrder NativePsl) (setPC v) := orderly_setPC.keeps pslClosed_native
  refine .bind (getR _) fun _ => .bind (setR _ _) fun _ => .bind pop fun tmp => .guard fun hmbz => ?_
  have psw : Keeps (State.InOrder NativePsl) (modify fun s => { s with psl := putField s.psl 0 16 tmp } : M Unit) :=
    .modify fun _ h => ⟨h.events, h.psl.putWord (not_not.mp hmbz)⟩
  exact .bind pop fun _ => .bind (setR _ _) fun _ => .bind pop fun _ => .bind (setR _ _) fun _ => .bind pop fun _ =>
    .bind (.forM _ fun _ => .bind pop fun _ => setR _ _) fun _ => .bind (getR _) fun _ => .bind (setR _ _) fun _ =>
    .bind psw fun _ => .ite
      (.bind (getR _) fun _ => .bind (orderly_readLong.keeps pslClosed_native) fun _ => .bind (setR _ _) fun _ =>
        .bind (setPC _) fun _ => .done)
      (.bind (setPC _) fun _ => .done)

/-! ### REI and changes of mode -/

theorem keeps_rei_legal : Keeps (State.InOrder fun p => pslLegal p = true) rei := by
  refine .bindGet fun s _ => .bind (orderly_pop.keeps pslClosed_legal) fun pc =>
    .bind (orderly_pop.keeps pslClosed_legal) fun new => .guard fun hallowed => .bind (.modify fun t ht => ?_) fun _ =>
    .bind (orderly_modPend.keeps pslClosed_legal) fun _ => .done
  have hnew : pslLegal new = true := pslLegal_of_reiAllowed (not_not.mp hallowed)
  have loaded : State.InOrder (fun p => pslLegal p = true)
      (State.setReg { t.saveSp with psl := if s.psl.getLsbD 30 then putBit new 30 true else new } 15 pc) := by
    refine ⟨t.saveSp_events ▸ ht.events, ?_⟩
    dsimp only [State.setReg_psl]
    split
    exacts [pslClosed_legal.tp new true hnew, hnew]
  exact loaded.of_same (.ite (.refl _) (.ite ⟨rfl, rfl⟩ ⟨rfl, rfl⟩))

theorem keeps_chm_legal {target : Nat} : Keeps (State.InOrder fun p => pslLegal p = true) (chm target code) := by
  refine .bind (orderly_rd.keeps pslClosed_legal) fun _ => .bindGet fun s hs => ?_
  have halted {why : HaltCause} : Keeps (State.InOrder fun p => pslLegal p = true) (do haltAt why s.pc s.psl; done : Meaning) :=
    .bind (keeps_haltAt_inOrder hs.psl) fun _ => .done
  split
  · exact halted
  next his =>
    have hchanged : pslLegal (changedPsl s.psl (min target s.cur)) = true :=
      pslLegal_changedPsl hs.psl (Bool.eq_false_of_not_eq_true his) (Nat.min_le_right _ _)
    exact .bind keeps_readVector_inOrder fun
      | none => halted
      | some _ => .ite halted (.when (orderly_setR.keeps pslClosed_legal) fun _ =>
          .bind (orderly_pushFrame.keeps pslClosed_legal) fun _ => .bind (.modify fun _ h => ⟨h.events, hchanged⟩) fun _ =>
          .bind keeps_noteEntry_inOrder fun _ => .done)

/-! ### Privileged instructions, in kernel mode -/

theorem setRegsFrom_sameStatus (s : State) (n : Nat) (l : List Long) : s.SameStatus (setRegsFrom s n l) := by
  induction l generalizing s n with
  | nil => exact .refl s
  | cons x rest ih =>
    have h : s.SameStatus (s.setReg ⟨n % 16, Nat.mod_lt _ (by decide)⟩ x) := ⟨rfl, rfl⟩
    exact h.trans (ih _ _)

theorem keeps_ldpctx_kernel : Keeps (State.InOrder KernelPsl) ldpctx := by
  refine .bind (orderly_readPcbs.keeps pslClosed_kernel) fun w => .when (.raise _) fun _ => .bindGet fun s hs =>
    .bind (.set ?_) fun _ => .bind ((orderly_pushFrame.attempt).keeps pslClosed_kernel) fun
    | .error _ => .bind (.modify fun _ h => ⟨h.events, h.psl⟩) fun _ => .throw _
    | .ok _ => .done
  have loaded := hs.of_same (setRegsFrom_sameStatus s 0 ((w.drop 4).take 14))
  split
  · exact ⟨loaded.events, loaded.psl.putField _ (.inr (by decide)) (by decide) (by decide)⟩
  · exact ⟨loaded.events, loaded.psl⟩

theorem keeps_svpctx_kernel : Keeps (State.InOrder KernelPsl) svpctx :=
  have pop : Keeps (State.InOrder KernelPsl) pop := orderly_pop.keeps pslClosed_kernel
  .bind pop fun _ => .bind pop fun _ => .bindGet fun _ _ => .bind (orderly_writePcbs.keeps pslClosed_kernel) fun _ => .ite
    (.bind (orderly_writePcbs.keeps pslClosed_kernel) fun _ => .bind (.modify fun _ h => ⟨h.events,
      (h.psl.putField _ (.inl (by decide)) (by decide) (by decide)).putField _ (.inr (by decide)) (by decide) (by decide)⟩)
      fun _ => .done)
    .done

theorem keeps_writeReg_kernel {n : Nat} {v : Long} : Keeps (State.InOrder KernelPsl) (writeReg n v) := by
  by_cases hn : n = 0x12
  · subst hn
    exact .modify fun _ h => ⟨h.events, h.psl.putField _ (.inl (by decide)) (by decide) (by decide)⟩
  · exact (orderly_writeReg hn).keeps pslClosed_kernel

theorem keeps_mtpr_kernel : Keeps (State.InOrder KernelPsl) (mtpr src procreg) :=
  .bind (orderly_rd.keeps pslClosed_kernel) fun _ => .bind (orderly_rd.keeps pslClosed_kernel) fun _ =>
    .bind (orderly_setNZV.keeps pslClosed_kernel) fun _ => .bind keeps_writeReg_kernel fun _ => .done

end Sys2Proof.Machine
end

section
/-! From actions to outcomes: every step keeps the invariants of the PSL. -/
namespace Sys2Proof.Machine

/-! ### How an instruction ends -/

/-- The next state, if there is one, has a legal PSL and no console deposit coming. -/
def StaysLegal (x : Out) : Prop := ∀ t : State, x = .next t → t.PslOk

theorem StaysLegal.refused {r : Refusal} : StaysLegal (.refused r) := fun _ h => nomatch h

theorem StaysLegal.next {t : State} (h : t.PslOk) : StaysLegal (.next t) := fun _ e => by
  cases e
  exact h

theorem Orderly.pslOk {α : Type} {x : M α} (hx : Orderly x) {s : State} (hs : s.PslOk) : (endState (x s)).PslOk :=
  State.pslOk_iff.mpr ((hx.keeps pslClosed_legal).holds s (State.pslOk_iff.mp hs))

theorem Orderly.outcomeOf {x : M Unit} (hx : Orderly x) {s : State} (hs : s.PslOk) : StaysLegal (outcomeOf (x s)) :=
  fun _ h => outcomeOf_eq_next h ▸ hx.pslOk hs

/-- An exception is entered with the PSL of the start, FPD cleared or not. -/
theorem finish_staysLegal {s : State} {x : EStateM.Result Stop State (Option Nat)} (hs : s.PslOk) (hx : (endState x).PslOk) :
    StaysLegal (finish s x) := by
  cases x with
  | ok trap t =>
    cases trap with
    | none => exact .next hx
    | some code => exact .next ⟨hx.1, hx.2⟩
  | error e t =>
    cases e with
    | exc x =>
      refine orderly_enterException.outcomeOf ⟨hx.1, ?_⟩
      dsimp only
      split
      exacts [pslClosed_legal.fpd _ hs.2, hs.2]
    | retry => exact .next ⟨hs.1, pslClosed_legal.tp s.psl false hs.2⟩
    | refuse | fault => exact fun _ e => nomatch e

theorem Orderly.finish {m : Meaning} (hm : Orderly m) {s : State} (hs : s.PslOk) : StaysLegal (finish s (m s)) :=
  finish_staysLegal hs (hm.pslOk hs)

/-- A meaning that keeps a class of legal PSLs, started in that class. -/
theorem execute_staysLegal {Q : Long → Prop} {m : Meaning} (hm : Keeps (State.InOrder Q) m) (k : PslClosed Q)
    (hQ : ∀ p, Q p → pslLegal p = true) {op : Nat} {s : State} (hs : s.InOrder Q) : StaysLegal (execute op m s) := by
  have run : Keeps (State.InOrder Q) (do checkOpcode op; setPC (s.pc + opBytes op); m : Meaning) :=
    .bind (orderly_checkOpcode.keeps k) fun _ => .bind (orderly_setPC.keeps k) fun _ => hm
  have h := run.holds s hs
  exact finish_staysLegal ⟨hs.events, hQ _ hs.psl⟩ ⟨h.events, hQ _ h.psl⟩

theorem Orderly.execute {m : Meaning} (hm : Orderly m) {op : Nat} {s : State} (hs : s.InOrder NativePsl) :
    StaysLegal (execute op m s) :=
  execute_staysLegal (hm.keeps pslClosed_native) pslClosed_native (fun _ h => h.1) hs

/-- The opcode's own checks pass a privileged instruction in kernel mode only. -/
theorem checkOpcode_ok_privileged {op : Nat} {s t : State} (hop : op ∈ privilegedOps) (h : checkOpcode op s = .ok ⟨⟩ t) :
    s.cur = 0 := by
  by_contra hcur
  have hsmall : ∀ n ∈ privilegedOps, n < 256 := by decide
  have habsent : (decide (256 ≤ op) && !s.cfg.hasGH) = false := by simp [hsmall op hop]
  have hstop : op ∈ privilegedOps ∧ s.cur ≠ 0 := ⟨hop, hcur⟩
  unfold checkOpcode at h
  rw [bind_of_ok _ (run_get s)] at h
  simp only [habsent, if_pos hstop] at h
  split at h
  · obtain ⟨_, u, _, h⟩ := bind_ok h
    exact nomatch h
  · exact nomatch h

/-- A privileged instruction need only keep the PSLs of kernel mode: in another mode its meaning does not run. -/
theorem execute_staysLegal_privileged {m : Meaning} (hm : Keeps (State.InOrder KernelPsl) m) {op : Nat}
    (hop : op ∈ privilegedOps) {s : State} (hs : s.InOrder NativePsl) : StaysLegal (execute op m s) := by
  by_cases hcur : s.cur = 0
  · exact execute_staysLegal hm pslClosed_kernel (fun _ h => h.native.1) ⟨hs.events, .of_legal hs.psl.1 hcur⟩
  · have hok : s.PslOk := ⟨hs.events, hs.psl.1⟩
    refine finish_staysLegal hok ?_
    cases hr : checkOpcode op s with
    | ok a t => exact absurd (checkOpcode_ok_privileged hop hr) hcur
    | error e t =>
      rw [bind_of_error _ hr]
      exact (orderly_checkOpcode.keeps pslClosed_legal).of_error hr (State.pslOk_iff.mp hok) |> State.pslOk_iff.mpr

theorem execute_staysLegal_native {m : Meaning} (hm : Keeps (State.InOrder NativePsl) m) {op : Nat} {s : State}
    (hs : s.InOrder NativePsl) : StaysLegal (execute op m s) :=
  execute_staysLegal hm pslClosed_native (fun _ h => h.1) hs

theorem execute_staysLegal_legal {m : Meaning} (hm : Keeps (State.InOrder fun p => pslLegal p = true) m) {op : Nat} {s : State}
    (hs : s.InOrder NativePsl) : StaysLegal (execute op m s) :=
  execute_staysLegal hm pslClosed_legal (fun _ h => h) ⟨hs.events, hs.psl.1⟩

/-! ### Dispatch -/

/-- Every arm of `exec` executes a meaning; the arms with one meaning stand together. -/
theorem exec_staysLegal (i : Instr) {s : State} (hs : s.InOrder NativePsl) : StaysLegal (exec i s) := by
  cases i with
  | movab _ _ | movaw _ _ | moval _ _ | movaf _ _ | movaq _ _ | movad _ _ | movag _ _ | movao _ _ | movah _ _ =>
    exact orderly_mova.execute hs
  | pushab _ | pushaw _ | pushal _ | pushaf _ | pushaq _ | pushad _ | pushag _ | pushao _ | pushah _ =>
    exact orderly_pusha.execute hs
  | extv _ _ _ _ | extzv _ _ _ _ => exact orderly_extract.execute hs
  | insv _ _ _ _ => exact orderly_insv.execute hs
  | cmpv _ _ _ _ | cmpzv _ _ _ _ => exact orderly_cmpField.execute hs
  | ffs _ _ _ _ | ffc _ _ _ _ => exact orderly_findFirst.execute hs
  | movb _ _ | movw _ _ | movl _ _ | movq _ _ | movo _ _ => exact orderly_mov.execute hs
  | pushl _ => exact orderly_pushl.execute hs
  | clrb _ | clrw _ | clrl _ | clrf _ | clrq _ | clrd _ | clrg _ | clro _ | clrh _ => exact orderly_clear.execute hs
  | mnegb _ _ | mnegw _ _ | mnegl _ _ | mcomb _ _ | mcomw _ _ | mcoml _ _ | cvtwb _ _ | cvtlb _ _ | cvtlw _ _ =>
    exact orderly_unary.execute hs
  | movzbw _ _ | movzbl _ _ | movzwl _ _ => exact orderly_movz.execute hs
  | cvtbw _ _ | cvtbl _ _ | cvtwl _ _ => exact orderly_widen.execute hs
  | cmpb _ _ | cmpw _ _ | cmpl _ _ => exact orderly_compare.execute hs
  | tstb _ | tstw _ | tstl _ => exact orderly_test.execute hs
  | addb2 _ _ | addw2 _ _ | addl2 _ _ | subb2 _ _ | subw2 _ _ | subl2 _ _ | mulb2 _ _ | mulw2 _ _ | mull2 _ _
  | divb2 _ _ | divw2 _ _ | divl2 _ _ | bisb2 _ _ | bisw2 _ _ | bisl2 _ _ | bicb2 _ _ | bicw2 _ _ | bicl2 _ _
  | xorb2 _ _ | xorw2 _ _ | xorl2 _ _ => exact orderly_binary2.execute hs
  | addb3 _ _ _ | addw3 _ _ _ | addl3 _ _ _ | subb3 _ _ _ | subw3 _ _ _ | subl3 _ _ _ | mulb3 _ _ _ | mulw3 _ _ _
  | mull3 _ _ _ | divb3 _ _ _ | divw3 _ _ _ | divl3 _ _ _ | bisb3 _ _ _ | bisw3 _ _ _ | bisl3 _ _ _ | bicb3 _ _ _
  | bicw3 _ _ _ | bicl3 _ _ _ | xorb3 _ _ _ | xorw3 _ _ _ | xorl3 _ _ _ => exact orderly_binary3.execute hs
  | adwc _ _ | sbwc _ _ => exact orderly_withCarry.execute hs
  | adawi _ _ => exact orderly_adawi.execute hs
  | incb _ | incw _ | incl _ | decb _ | decw _ | decl _ => exact orderly_modify1.execute hs
  | emul _ _ _ _ => exact orderly_emul.execute hs
  | ediv _ _ _ _ => exact orderly_ediv.execute hs
  | bitb _ _ | bitw _ _ | bitl _ _ => exact orderly_bitTest.execute hs
  | ashl _ _ _ | ashq _ _ _ => exact orderly_ash.execute hs
  | rotl _ _ _ => exact orderly_rotl.execute hs
  | brb _ | brw _ | bneq _ | bnequ _ | beql _ | beqlu _ | bgtr _ | bleq _ | bgeq _ | blss _ | bgtru _ | blequ _
  | bvc _ | bvs _ | bcc _ | bgequ _ | bcs _ | blssu _ => exact orderly_branchOn.execute hs
  | jmp _ => exact orderly_jump.execute hs
  | bbs _ _ _ | bbc _ _ _ => exact orderly_branchBit.execute hs
  | bbss _ _ _ | bbcs _ _ _ | bbsc _ _ _ | bbcc _ _ _ | bbssi _ _ _ | bbcci _ _ _ =>
    exact orderly_branchBitSet.execute hs
  | blbs _ _ | blbc _ _ => exact orderly_branchLowBit.execute hs
  | acbb _ _ _ _ | acbw _ _ _ _ | acbl _ _ _ _ => exact orderly_acb.execute hs
  | aoblss _ _ _ | aobleq _ _ _ => exact orderly_aob.execute hs
  | sobgeq _ _ | sobgtr _ _ => exact orderly_sob.execute hs
  | caseb _ _ _ | casew _ _ _ | casel _ _ _ => exact orderly_case.execute hs
  | bsbb _ | bsbw _ => exact orderly_branchSub.execute hs
  | jsb _ => exact orderly_jsb.execute hs
  | rsb => exact orderly_rsb.execute hs
  | movc3 _ _ _ => exact orderly_movc3.execute hs
  | movc5 _ _ _ _ _ => exact orderly_movc5.execute hs
  | movtc _ _ _ _ _ _ => exact orderly_movtc.execute hs
  | movtuc _ _ _ _ _ _ => exact orderly_movtuc.execute hs
  | cmpc3 _ _ _ => exact orderly_cmpc3.execute hs
  | cmpc5 _ _ _ _ _ => exact orderly_cmpc5.execute hs
  | scanc _ _ _ _ | spanc _ _ _ _ => exact orderly_scan.execute hs
  | locc _ _ _ | skpc _ _ _ => exact orderly_locate.execute hs
  | matchc _ _ _ _ => exact orderly_matchc.execute hs
  | movp _ _ _ => exact orderly_movp.execute hs
  | cmpp3 _ _ _ => exact orderly_cmpp3.execute hs
  | cmpp4 _ _ _ _ => exact orderly_cmpp4.execute hs
  | addp4 _ _ _ _ | subp4 _ _ _ _ => exact orderly_packed4.execute hs
  | addp6 _ _ _ _ _ _ | subp6 _ _ _ _ _ _ | mulp _ _ _ _ _ _ => exact orderly_packed6.execute hs
  | divp _ _ _ _ _ _ => exact orderly_divp.execute hs
  | ashp _ _ _ _ _ _ => exact orderly_ashp.execute hs
  | cvtlp _ _ _ => exact orderly_cvtlp.execute hs
  | cvtpl _ _ _ => exact orderly_cvtpl.execute hs
  | cvtps _ _ _ _ => exact orderly_cvtps.execute hs
  | cvtsp _ _ _ _ => exact orderly_cvtsp.execute hs
  | cvtpt _ _ _ _ _ => exact orderly_cvtpt.execute hs
  | cvttp _ _ _ _ _ => exact orderly_cvttp.execute hs
  | editpc _ _ _ _ => exact orderly_editpc.execute hs
  | movf _ _ | movd _ _ | movg _ _ | movh _ _ | mnegf _ _ | mnegd _ _ | mnegg _ _ | mnegh _ _ =>
    exact orderly_moveFloat.execute hs
  | tstf _ | tstd _ | tstg _ | tsth _ => exact orderly_testFloat.execute hs
  | cmpf _ _ | cmpd _ _ | cmpg _ _ | cmph _ _ => exact orderly_compareFloat.execute hs
  | addf2 _ _ | addd2 _ _ | addg2 _ _ | addh2 _ _ => exact (orderly_float2 fun _ _ => orderly_addF).execute hs
  | addf3 _ _ _ | addd3 _ _ _ | addg3 _ _ _ | addh3 _ _ _ => exact (orderly_float3 fun _ _ => orderly_addF).execute hs
  | subf2 _ _ | subd2 _ _ | subg2 _ _ | subh2 _ _ => exact (orderly_float2 fun _ _ => orderly_subF).execute hs
  | subf3 _ _ _ | subd3 _ _ _ | subg3 _ _ _ | subh3 _ _ _ => exact (orderly_float3 fun _ _ => orderly_subF).execute hs
  | mulf2 _ _ | muld2 _ _ | mulg2 _ _ | mulh2 _ _ => exact (orderly_float2 fun _ _ => orderly_mulF).execute hs
  | mulf3 _ _ _ | muld3 _ _ _ | mulg3 _ _ _ | mulh3 _ _ _ => exact (orderly_float3 fun _ _ => orderly_mulF).execute hs
  | divf2 _ _ | divd2 _ _ | divg2 _ _ | divh2 _ _ => exact (orderly_float2 fun _ _ => orderly_divF).execute hs
  | divf3 _ _ _ | divd3 _ _ _ | divg3 _ _ _ | divh3 _ _ _ => exact (orderly_float3 fun _ _ => orderly_divF).execute hs
  | cvtbf _ _ | cvtbd _ _ | cvtbg _ _ | cvtbh _ _ | cvtwf _ _ | cvtwd _ _ | cvtwg _ _ | cvtwh _ _ | cvtlf _ _
  | cvtld _ _ | cvtlg _ _ | cvtlh _ _ => exact orderly_intToFloat.execute hs
  | cvtfb _ _ | cvtdb _ _ | cvtgb _ _ | cvthb _ _ | cvtfw _ _ | cvtdw _ _ | cvtgw _ _ | cvthw _ _ | cvtfl _ _
  | cvtdl _ _ | cvtgl _ _ | cvthl _ _ | cvtrfl _ _ | cvtrdl _ _ | cvtrgl _ _ | cvtrhl _ _ =>
    exact orderly_floatToInt.execute hs
  | cvtfd _ _ | cvtdf _ _ | cvtfg _ _ | cvtgf _ _ | cvtfh _ _ | cvthf _ _ | cvtdh _ _ | cvthd _ _ | cvtgh _ _
  | cvthg _ _ => exact orderly_floatToFloat.execute hs
  | acbf _ _ _ _ | acbd _ _ _ _ | acbg _ _ _ _ | acbh _ _ _ _ => exact orderly_acbFloat.execute hs
  | emodf _ _ _ _ _ | emodd _ _ _ _ _ | emodg _ _ _ _ _ | emodh _ _ _ _ _ => exact orderly_emod.execute hs
  | polyf _ _ _ | polyd _ _ _ | polyg _ _ _ | polyh _ _ _ => exact orderly_poly.execute hs
  | pushr _ => exact orderly_pushr.execute hs
  | popr _ => exact orderly_popr.execute hs
  | movpsl _ => exact orderly_movpsl.execute hs
  | bispsw _ | bicpsw _ => exact execute_staysLegal_native keeps_changePsw_native hs
  | index _ _ _ _ _ _ => exact orderly_index.execute hs
  | nop => exact Orderly.done.execute hs
  | crc _ _ _ _ => exact orderly_crc.execute hs
  | callg _ _ => exact execute_staysLegal_native keeps_callg_native hs
  | calls _ _ => exact execute_staysLegal_native keeps_calls_native hs
  | ret => exact execute_staysLegal_native keeps_ret_native hs
  | insque _ _ => exact orderly_insque.execute hs
  | remque _ _ => exact orderly_remque.execute hs
  | insqhi _ _ | insqti _ _ => exact orderly_insqi.execute hs
  | remqhi _ _ | remqti _ _ => exact orderly_remqi.execute hs
  | halt => exact orderly_halt.execute hs
  | bpt | xfc => exact Orderly.raise.execute hs
  | rei => exact execute_staysLegal_legal keeps_rei_legal hs
  | ldpctx => exact execute_staysLegal_privileged keeps_ldpctx_kernel (by decide) hs
  | svpctx => exact execute_staysLegal_privileged keeps_svpctx_kernel (by decide) hs
  | mtpr _ _ => exact execute_staysLegal_privileged keeps_mtpr_kernel (by decide) hs
  | mfpr _ _ => exact orderly_mfpr.execute hs
  | chmk _ | chme _ | chms _ | chmu _ => exact execute_staysLegal_legal keeps_chm_legal hs
  | prober _ _ _ | probew _ _ _ => exact orderly_probe.execute hs

/-! ### The step -/

/-- Reading instruction bytes logs in the memory controllers alone. -/
theorem State.fetched_sameStatus (s : State) (n : Nat) : s.SameStatus (s.fetched n) := by
  refine .ite (.refl s) (((s.drawn_sameStatus 32).trans (foldl_sameStatus (fun t k => ?_) _ _)).trans (State.drawn_sameStatus _ n))
  split
  · exact t.fetchedByte_sameStatus k _
  · exact .refl t

theorem State.PslOk.of_same {s t : State} (h : s.PslOk) (k : s.SameStatus t) : t.PslOk :=
  State.pslOk_iff.mpr ((State.pslOk_iff.mp h).of_same k)

theorem runMissing_staysLegal {s0 s : State} (hs : s.PslOk) (op : Nat) (seen : List Slot) (pos : Nat) :
    StaysLegal (runMissing s0 s op seen pos) :=
  Orderly.finish (.when orderly_checkOpcode fun _ => .bind orderly_setPC fun _ =>
    .bind (.forM fun _ => orderly_evalSlot) fun _ => .bind orderly_fetchFault fun _ => .done) hs

theorem runInstruction_staysLegal {s : State} (hs : s.InOrder NativePsl) : StaysLegal (runInstruction s) := by
  have fetched (n : Nat) : (s.fetched n).InOrder NativePsl := hs.of_same (s.fetched_sameStatus n)
  have legal (n : Nat) : (s.fetched n).PslOk := ⟨(fetched n).events, (fetched n).psl.1⟩
  unfold runInstruction
  split
  next i n _ => exact exec_staysLegal i (fetched n)
  next op _ => exact Orderly.finish (.bind orderly_ignoreFpd fun _ => .raise) (legal _)
  next op seen pos _ => exact runMissing_staysLegal (legal pos) op seen pos

/-- No instruction starts in compatibility mode. -/
theorem startInstruction_staysLegal {s : State} (hs : s.PslOk) : StaysLegal (startInstruction s) := by
  unfold startInstruction
  split
  · exact .refused
  next hcm =>
    split
    · exact runInstruction_staysLegal ⟨hs.1, pslClosed_native.tp s.psl s.t ⟨hs.2, Bool.eq_false_of_not_eq_true hcm⟩⟩
    · exact .refused

theorem injectedCheck_staysLegal {s : State} (hs : s.PslOk) (c : CheckCause) : StaysLegal (injectedCheck c s) :=
  Orderly.finish (.bind .get fun _ => .when orderly_noteCause fun _ => orderly_machineCheck) ⟨hs.1, hs.2⟩

theorem consoleHalt_staysLegal {s : State} (hs : s.PslOk) : StaysLegal (consoleHalt s) :=
  Orderly.outcomeOf (.bind .get fun _ => .bind .get fun _ => .when orderly_send fun _ => orderly_haltHere) ⟨hs.1, hs.2⟩

theorem doubleWriteHalt_staysLegal {s : State} (hs : s.PslOk) : StaysLegal (doubleWriteHalt s) :=
  orderly_haltHere.outcomeOf ⟨hs.1, hs.2⟩

theorem boundary_staysLegal {s : State} (hs : s.PslOk) : StaysLegal (boundary s) := by
  unfold boundary
  split
  · exact doubleWriteHalt_staysLegal hs
  · split
    · exact injectedCheck_staysLegal hs _
    · split
      · exact orderly_enterTrap.outcomeOf hs
      · split
        · exact consoleHalt_staysLegal hs
        · split
          · exact orderly_takeInterrupt.outcomeOf hs
          · split
            · exact orderly_enterTrace.outcomeOf hs
            · exact startInstruction_staysLegal hs

theorem advance_staysLegal {s : State} (hs : s.PslOk) : StaysLegal (advance s) := by
  unfold advance
  split
  · exact boundary_staysLegal hs
  · exact orderly_haltAction.outcomeOf hs

theorem step_staysLegal {s : State} (hs : s.PslOk) : StaysLegal (step s) := by
  unfold step oneStep
  split
  next => exact advance_staysLegal hs
  next e rest h =>
    have quiet := quietEvents_cons.mp (h ▸ hs.1 : QuietEvents ((0, e) :: rest))
    exact (orderly_applyEvent quiet.1).outcomeOf ⟨quiet.2, hs.2⟩
  next n e rest h => exact advance_staysLegal ⟨(h ▸ hs.1 : QuietEvents ((n + 1, e) :: rest)).delayed n, hs.2⟩

/-- Settles O15: an instruction starts out of compatibility mode, and keeps the class of legal PSLs it starts in; exceptions and
interrupts enter kernel mode; initialization sets a legal PSL; nothing else but a console deposit writes the PSL. -/
theorem stepKeepsPslLegal : Obligations.StepKeepsPslLegal := fun _ t hs h => step_staysLegal hs t h

end Sys2Proof.Machine
end

section
/-! Memory stays canonical in every step. -/
namespace Sys2Proof.Machine

/-- Settles O14: every step hands on a canonical memory. -/
theorem stepKeepsMemoryCanonical : Obligations.StepKeepsMemoryCanonical := fun s t hs h => (step_handsOnTo s t h).mem hs

end Sys2Proof.Machine
end

section
/-! What was written to main memory and to the registers of the memory controllers, the
UNIBUS adapters and the MASSBUS adapters is read back. -/
namespace Sys2Proof.Machine

/-! ### Main memory, 20_memory.md R270 -/

/-- Where no array is being initialized nobody waits for one. -/
theorem State.answered_of_initialized {s : State} {pa n : Nat} (h : s.initializing pa n = false) : s.answered pa n = s := by
  simp [State.answered, h]

theorem State.storeRam_csr1 (s : State) (pa n : Nat) (v : Octa) : (s.storeRam pa n v).v750.csr1 = s.v750.csr1 := by
  unfold State.storeRam V750.copyCheck
  dsimp only
  split <;> rfl

/-- A store makes check bits good, never wrong. -/
theorem State.storeRam_badMem_sublist (s : State) (pa n : Nat) (v : Octa) :
    (s.storeRam pa n v).badMem.Sublist s.badMem := by
  unfold State.storeRam
  dsimp only
  split
  · exact List.filter_sublist
  · exact .refl _

theorem State.storeRam_eccDisabled (s : State) (pa n : Nat) (v : Octa) (a : Nat) :
    (s.storeRam pa n v).eccDisabled a = s.eccDisabled a := by
  unfold State.eccDisabled State.eccOff
  rw [s.storeRam_csr1]
  rfl

theorem State.storeRam_checkMode (s : State) (pa n : Nat) (v : Octa) (a : Nat) :
    (s.storeRam pa n v).checkMode a = s.checkMode a := by
  unfold State.checkMode
  rw [s.storeRam_csr1]
  rfl

/-- Bytes without an error are without one after a store to them. -/
theorem State.storeRam_bad {s : State} {pa n : Nat} (v : Octa) (h : s.bad pa n = false) :
    (s.storeRam pa n v).bad pa n = false := by
  obtain ⟨hspoiled, hforced, hinit⟩ := (s.good_iff pa n).mp h
  have h780 : (s.storeRam pa n v).v780 = s.v780 := by
    rw [s.storeRam_v780 pa n v, State.answered_of_initialized hinit]
  refine (State.good_iff _ pa n).mpr ⟨?_, ?_, ?_⟩
  · unfold State.spoiled at hspoiled ⊢
    simp only [State.storeRam_checkMode]
    rw [List.any_eq_false] at hspoiled ⊢
    exact fun e he => hspoiled e ((s.storeRam_badMem_sublist pa n v).subset he)
  · rw [← hforced]
    unfold State.forced State.forcedAt State.ctlOf State.inCtl State.ctlTurn State.ctlRange State.memCtl?
    simp only [State.storeRam_checkMode, h780]
    rfl
  · rw [← hinit]
    unfold State.initializing State.initializes State.ctlOf State.inCtl State.ctlTurn State.ctlRange State.memCtl?
    simp only [h780]
    rfl

/-- Good memory takes a write, byte by byte, and gives it back; nothing else moves. -/
theorem physWrite_physRead_ram {s : State} (u u' : Use) {pa n : Nat} (v : Octa) (hs : s.MemOk) (hg : s.goodRam pa n) :
    ∃ t, physWrite u pa n v s = .ok ⟨⟩ t ∧ t.MemOk
      ∧ physRead u' pa n t = .ok (BitVec.ofNat 128 (v.toNat % 2 ^ (8 * n))) t
      ∧ (∀ k < n, t.byte (pa + k) = (v >>> (8 * k)).setWidth 8)
      ∧ (∀ a, ¬ (pa ≤ a ∧ a < pa + n) → t.byte a = s.byte a)
      ∧ t.r = s.r ∧ t.psl = s.psl ∧ t.sp = s.sp ∧ t.mm = s.mm := by
  obtain ⟨hram, hbad, hecc, hduring⟩ := hg
  obtain ⟨-, hforced, -⟩ := (s.good_iff pa n).mp hbad
  have hmem : (s.storeRam pa n v).mem = ramWrite s.mem pa n v := s.storeRam_good pa n v hbad
  refine ⟨s.storeRam pa n v, physWrite_ram u pa n v s hduring hram hforced, s.storeRam_wf pa n v hs, ?_, ?_, ?_, rfl, rfl,
    rfl, rfl⟩
  · rw [physRead_ram u' pa n (s.storeRam pa n v) hduring ((s.storeRam_place pa n v pa).trans hram) (State.storeRam_bad v hbad)
      ((s.storeRam_eccDisabled pa n v pa).trans hecc)]
    unfold State.ramValue
    rw [hmem, ramBytes_ramWrite s.mem pa n v hs]
  · intro k hk
    unfold State.byte
    rw [hmem, get_ramWrite s.mem pa n v (pa + k) hs, if_pos (by omega), Nat.add_sub_cancel_left]
  · exact fun a ha => s.storeRam_outside pa n v a hs ha

/-! ### Which device answers -/

/-- A V780 has no memory where its registers stand, 20_memory.md R264. -/
theorem State.hasRam_io780 {s : State} {pa : Nat} (hcpu : s.cfg.cpu = .v780) (hpa : ¬ pa < 0x20000000) : s.hasRam pa = false := by
  unfold State.hasRam
  rw [hcpu]
  simp [hpa]

/-- Where there is memory no device answers. -/
theorem hasRam_of_device {s : State} {pa : Nat} {d : Device} (h : place s pa = .device d) : s.hasRam pa = false := by
  cases hr : s.hasRam pa with
  | false => rfl
  | true => cases hcpu : s.cfg.cpu <;> simp [place, place750, place780, hcpu, hr] at h

/-- Which device answers rests on the installation alone: memory controllers move memory, not registers. -/
theorem place_of_cfg {s t : State} {pa : Nat} {d : Device} (h : place s pa = .device d) (hc : t.cfg = s.cfg) :
    place t pa = .device d := by
  have hs := hasRam_of_device h
  rw [← h]
  unfold place at h ⊢
  rw [hc]
  cases hcpu : s.cfg.cpu with
  | v750 =>
    have ht : t.hasRam pa = s.hasRam pa := by
      unfold State.hasRam
      rw [hc, hcpu]
    simp only [place750, ht, hc]
  | v780 =>
    rw [hcpu] at h
    have hpa : ¬ pa < 0x20000000 := fun hlt => by simp [place780, hs, hlt] at h
    simp only [place780, State.hasRam_io780 (hc ▸ hcpu : t.cfg.cpu = .v780) hpa, hs, hc]

/-! ### References to a longword register -/

/-- An aligned longword lies in one longword. -/
theorem splits_aligned (s : State) {pa : Nat} (ha : pa % 4 = 0) : splits s pa 4 = false := by
  unfold splits leftInLongword
  split
  · simp [ha]
  · rfl

theorem physRead_device {s : State} {pa : Nat} {d : Device} (hd : s.during = []) (hp : place s pa = .device d)
    (ha : pa % 4 = 0) {x : Long} (h : readDevice d pa 4 .data s = .ok x s) :
    physRead .data pa 4 s = .ok (x.setWidth 128) s := by
  rw [physRead_idle .data pa 4 s hd]
  unfold physReadWhole
  rw [bind_of_ok _ (run_get s), splits_aligned s ha]
  unfold physReadPart
  simp only [Bool.false_eq_true, if_false]
  rw [bind_of_ok _ (run_get s)]
  simp only [hp]
  rw [if_pos (by cases d <;> rfl), bind_of_ok _ h]
  rfl

theorem physWrite_device {s : State} {pa : Nat} {d : Device} (hd : s.during = []) (hp : place s pa = .device d)
    (ha : pa % 4 = 0) (w : Long) : physWrite .data pa 4 (w.setWidth 128) s = writeDevice d pa 4 w .data s := by
  rw [physWrite_idle .data pa 4 _ s hd]
  unfold physWriteWhole
  rw [bind_of_ok _ (run_get s), splits_aligned s ha]
  unfold physWritePart
  simp only [Bool.false_eq_true, if_false]
  rw [bind_of_ok _ (run_get s)]
  simp only [hp]
  rw [if_pos (by cases d <;> rfl), BitVec.setWidth_setWidth_of_le _ (by decide), BitVec.setWidth_eq]

/-- What a write of a device register leaves as it was. -/
structure State.DevicesOnly (s t : State) : Prop where
  cfg : t.cfg = s.cfg
  during : t.during = s.during
  mem : t.mem = s.mem
  r : t.r = s.r
  psl : t.psl = s.psl
  sp : t.sp = s.sp
  mm : t.mm = s.mm

/-- A register that reads as `old`, and as `new` after a write that moves registers of devices alone. -/
theorem registerAnswers_of_device {s t : State} {pa : Nat} {d : Device} {w old new : Long} (hd : s.during = [])
    (hp : place s pa = .device d) (ha : pa % 4 = 0) (hold : readDevice d pa 4 .data s = .ok old s)
    (hw : writeDevice d pa 4 w .data s = .ok ⟨⟩ t) (ht : s.DevicesOnly t) (hnew : readDevice d pa 4 .data t = .ok new t) :
    RegisterAnswers s pa w old new :=
  ⟨physRead_device hd hp ha hold, t, (physWrite_device hd hp ha w).trans hw,
    physRead_device (ht.during.trans hd) (place_of_cfg hp ht.cfg) ha hnew, ht.mem, ht.r, ht.psl, ht.sp, ht.mm⟩

/-- The same for a register that reads alike in every state. -/
theorem registerAnswers_of_read {read : State → Long} {s t : State} {pa : Nat} {d : Device} {w new : Long}
    (hd : s.during = []) (hp : place s pa = .device d) (ha : pa % 4 = 0)
    (hread : ∀ u : State, readDevice d pa 4 .data u = .ok (read u) u) (hw : writeDevice d pa 4 w .data s = .ok ⟨⟩ t)
    (ht : s.DevicesOnly t) (hnew : read t = new) : RegisterAnswers s pa w (read s) new :=
  registerAnswers_of_device hd hp ha (hread s) hw ht (hnew ▸ hread t)

/-! ### Adapters and controllers of the state -/

theorem getD_updAt {α : Type} (l : List α) {k : Nat} (f : α → α) (d : α) (h : k < l.length) :
    (updAt l k f).getD k d = f (l.getD k d) := by
  induction l generalizing k with
  | nil => exact absurd h (Nat.not_lt_zero k)
  | cons x rest ih =>
    cases k with
    | zero => rfl
    | succ k => exact ih (Nat.lt_of_succ_lt_succ h)

/-! Updates of one adapter or controller, as `modUba`, `modMba` and `modMemCtl` make them. -/

def State.updUba (s : State) (k : Nat) (f : Uba → Uba) : State :=
  { s with v780 := { s.v780 with ubas := updAt s.v780.ubas k f } }
def State.updMba (s : State) (k : Nat) (f : Mba → Mba) : State := { s with mbas := updAt s.mbas k f }
def State.updMemCtl (s : State) (k : Nat) (f : MemCtl → MemCtl) : State :=
  { s with v780 := { s.v780 with mems := updAt s.v780.mems k f } }

theorem run_modUba (k : Nat) (f : Uba → Uba) (s : State) : modUba k f s = .ok ⟨⟩ (s.updUba k f) := rfl
theorem run_modMba (k : Nat) (f : Mba → Mba) (s : State) : modMba k f s = .ok ⟨⟩ (s.updMba k f) := rfl
theorem run_modMemCtl (k : Nat) (f : MemCtl → MemCtl) (s : State) : modMemCtl k f s = .ok ⟨⟩ (s.updMemCtl k f) := rfl

theorem State.updUba_devicesOnly (s : State) (k : Nat) (f : Uba → Uba) : s.DevicesOnly (s.updUba k f) :=
  ⟨rfl, rfl, rfl, rfl, rfl, rfl, rfl⟩
theorem State.updMba_devicesOnly (s : State) (k : Nat) (f : Mba → Mba) : s.DevicesOnly (s.updMba k f) :=
  ⟨rfl, rfl, rfl, rfl, rfl, rfl, rfl⟩
theorem State.updMemCtl_devicesOnly (s : State) (k : Nat) (f : MemCtl → MemCtl) : s.DevicesOnly (s.updMemCtl k f) :=
  ⟨rfl, rfl, rfl, rfl, rfl, rfl, rfl⟩
theorem State.v750_devicesOnly (s : State) (v : V750) : s.DevicesOnly { s with v750 := v } :=
  ⟨rfl, rfl, rfl, rfl, rfl, rfl, rfl⟩

theorem State.updUba_uba? {s : State} {k : Nat} (f : Uba → Uba) (h : k < s.v780.ubas.length) :
    (s.updUba k f).uba? k = f (s.uba? k) := getD_updAt s.v780.ubas f Uba.powerUp h
theorem State.updMba_mba? {s : State} {k : Nat} (f : Mba → Mba) (h : k < s.mbas.length) :
    (s.updMba k f).mba? k = f (s.mba? k) := getD_updAt s.mbas f (Mba.powerUp (!s.is750)) h
theorem State.updMemCtl_memCtl? {s : State} {k : Nat} (f : MemCtl → MemCtl) (h : k < s.v780.mems.length) :
    (s.updMemCtl k f).memCtl? k = f (s.memCtl? k) := getD_updAt s.v780.mems f (MemCtl.powerUp (s.cfg.ctlStart k)) h

/-! ### Bits of a register -/

theorem bitL_getLsbD (b : Bool) (i : Nat) : (bitL b).getLsbD i = (b && decide (i = 0)) := by
  cases b with
  | false => simp [bitL]
  | true => simp [bitL, BitVec.getLsbD_one]

/-- A bit of a word kept in its place. -/
theorem bitL_shift (w : Long) {i : Nat} (hi : i < 32) : bitL (w.getLsbD i) <<< i = w &&& BitVec.twoPow 32 i := by
  refine BitVec.eq_of_getLsbD_eq fun j hj => ?_
  rw [BitVec.getLsbD_shiftLeft, bitL_getLsbD, BitVec.getLsbD_and, BitVec.getLsbD_twoPow]
  by_cases hji : j = i
  · simp [hji, hi]
  · have hsub : ¬ (¬ j < i ∧ j - i = 0) := by omega
    grind

theorem getLsbD_of_and_eq_zero {x m : Long} (h : x &&& m = 0) {i : Nat} (hi : m.getLsbD i = true) : x.getLsbD i = false := by
  simpa [hi] using and_eq_zero_bit h i

theorem csr0Write_eq (old w : Long) : csr0Write old w = csr0After old w := by
  unfold csr0Write csr0After
  cases hold : old.getLsbD 30 with
  | false => simp
  | true =>
    cases hw : w.getLsbD 30 with
    | true => simp
    | false =>
      have hmask : w &&& 0x60000000 = w &&& 0x20000000 := by
        have h30 : w &&& 0x40000000 = 0#32 := by
          have := bitL_shift w (i := 30) (by decide)
          rw [hw] at this
          exact this.symm
        calc w &&& 0x60000000 = (w &&& 0x20000000) ||| (w &&& 0x40000000) := by rw [← BitVec.and_or_distrib_left]; rfl
          _ = w &&& 0x20000000 := by rw [h30, BitVec.or_zero]
      simp only [Bool.not_true, Bool.or_false, Bool.false_eq_true, if_false, not_false_eq_true, and_self, if_true, hmask]

/-- Register C takes the inhibit bit as it is written. -/
theorem putBit_regC (x w : Long) : putBit (x &&& ~~~ (w &&& 0x30000000)) 30 (w.getLsbD 30)
    = (x &&& 0xBFFFFFFF &&& ~~~ (w &&& 0x30000000)) ||| (w &&& 0x40000000) := by
  unfold putBit putField
  rw [bitL_shift w (by decide), BitVec.and_assoc w, BitVec.and_assoc x, BitVec.and_comm (~~~(w &&& 0x30000000)),
    ← BitVec.and_assoc x]
  rfl

/-- What a narrower register keeps of a longword. -/
theorem setWidth_setWidth_eq_and (w : Long) (n : Nat) :
    (w.setWidth n).setWidth 32 = w &&& (BitVec.allOnes n).setWidth 32 := by
  refine BitVec.eq_of_getLsbD_eq fun i hi => ?_
  simp only [BitVec.getLsbD_setWidth, BitVec.getLsbD_and, BitVec.getLsbD_allOnes]
  grind

theorem subLong_whole (x : Long) : subLong x 0 4 = x := by
  unfold subLong
  rw [Nat.mul_zero, BitVec.ushiftRight_zero, show fieldMask 0 (8 * 4) = BitVec.allOnes 32 from rfl, BitVec.and_allOnes]

/-! ### The memory controllers, 61_platform_750.md R1161 to R1163, 62_platform_780.md R1409 -/

theorem longwordOnly_aligned {α : Type} {pa : Nat} (ha : pa % 4 = 0) (x : M α) : longwordOnly pa 4 x = x := if_pos ⟨rfl, ha⟩

section
variable {s : State} {pa : Nat} {w : Long}

theorem readDevice_csr750 (u : State) (k : Nat) (ha : pa % 4 = 0) :
    readDevice (.memoryCsr750 k) pa 4 .data u = csr750Read k u := by
  show longwordOnly pa 4 (csr750Read k) u = _
  rw [longwordOnly_aligned ha]

theorem writeDevice_csr750 (u : State) (k : Nat) (ha : pa % 4 = 0) :
    writeDevice (.memoryCsr750 k) pa 4 w .data u = csr750Write k w u := by
  show longwordOnly pa 4 (csr750Write k w) u = _
  rw [longwordOnly_aligned ha]

theorem csr0_answers (hd : s.during = []) (hp : place s pa = .device (.memoryCsr750 0)) (ha : pa % 4 = 0) :
    RegisterAnswers s pa w s.v750.csr0 (csr0After s.v750.csr0 w) := by
  rw [← csr0Write_eq]
  exact registerAnswers_of_device hd hp ha (readDevice_csr750 s 0 ha) (writeDevice_csr750 s 0 ha) (s.v750_devicesOnly _)
    (readDevice_csr750 _ 0 ha)

theorem csr750Read_csr1 {u : State} (h : u.v750.checkCopied = false) : csr750Read 1 u = .ok u.v750.csr1 u := by
  unfold csr750Read
  rw [bind_of_ok _ (run_get u)]
  simp [h]

theorem csr1_answers (hd : s.during = []) (hp : place s pa = .device (.memoryCsr750 1)) (ha : pa % 4 = 0)
    (hc : s.v750.checkCopied = false) : RegisterAnswers s pa w s.v750.csr1 (w &&& 0x1EFFFE7F) :=
  registerAnswers_of_device hd hp ha ((readDevice_csr750 s 1 ha).trans (csr750Read_csr1 hc)) (writeDevice_csr750 s 1 ha)
    (s.v750_devicesOnly _) ((readDevice_csr750 _ 1 ha).trans (csr750Read_csr1 rfl))

/-- CSR2 ignores what is written. -/
theorem csr2_answers (hd : s.during = []) (hp : place s pa = .device (.memoryCsr750 2)) (ha : pa % 4 = 0) :
    RegisterAnswers s pa w s.csr2 s.csr2 :=
  registerAnswers_of_device hd hp ha (readDevice_csr750 s 2 ha) (writeDevice_csr750 s 2 ha) (s.v750_devicesOnly s.v750)
    (readDevice_csr750 s 2 ha)

theorem ubMap750_answers {i : Nat} (hd : s.during = []) (hp : place s pa = .device (.ubMap750 i)) (ha : pa % 4 = 0)
    (hm : Sparse.wfFrom 0 s.v750.ubMap = true) :
    RegisterAnswers s pa w (Sparse.get s.v750.ubMap i) (w &&& 0x82607FFF) := by
  have hread : ∀ u : State, readDevice (.ubMap750 i) pa 4 .data u = .ok (Sparse.get u.v750.ubMap i) u := fun u => by
    show longwordOnly pa 4 _ u = _
    rw [longwordOnly_aligned ha]
    rfl
  have hwrite : writeDevice (.ubMap750 i) pa 4 w .data s = .ok ⟨⟩
      { s with v750 := { s.v750 with ubMap := Sparse.set s.v750.ubMap i (w &&& ubMap750Mask) } } := by
    show longwordOnly pa 4 _ s = _
    rw [longwordOnly_aligned ha]
    rfl
  refine registerAnswers_of_read hd hp ha hread hwrite (s.v750_devicesOnly _) ?_
  rw [Sparse.get_set _ _ _ _ hm, if_pos rfl]
  rfl

theorem readDevice_regC (u : State) (k : Nat) : readDevice (.memory780 k 8) pa 4 .data u = .ok (u.memCtl? k).regC u := rfl

theorem writeDevice_regC (u : State) (k : Nat) : writeDevice (.memory780 k 8) pa 4 w .data u = .ok ⟨⟩ (u.updMemCtl k fun c =>
    { c with regC := putBit (c.regC &&& ~~~ (w &&& 0x30000000)) 30 (w.getLsbD 30) }) := rfl

theorem regC_answers {k : Nat} (hd : s.during = []) (hp : place s pa = .device (.memory780 k 8))
    (hk : k < s.v780.mems.length) (ha : pa % 4 = 0) :
    RegisterAnswers s pa w (s.memCtl? k).regC
      (((s.memCtl? k).regC &&& 0xBFFFFFFF &&& ~~~ (w &&& 0x30000000)) ||| (w &&& 0x40000000)) := by
  refine registerAnswers_of_read hd hp ha (readDevice_regC · k) (writeDevice_regC s k)
    (s.updMemCtl_devicesOnly k _) ?_
  rw [State.updMemCtl_memCtl? _ hk, putBit_regC]

/-- The controller the statement names is the one the model asks. -/
theorem State.memCtl?_eq_getD (s : State) {k : Nat} (hk : k < s.v780.mems.length) (c : MemCtl) :
    s.memCtl? k = s.v780.mems.getD k c := by
  unfold State.memCtl?
  rw [List.getD_eq_getElem _ _ hk, List.getD_eq_getElem _ _ hk]

/-! ### The UNIBUS adapters, 63_platform_780_uba.md R1513, R1516 -/

theorem readDevice_ubaCr (u : State) (k : Nat) : readDevice (.uba k 4) pa 4 .data u = .ok (u.uba? k).cr u :=
  congrArg (EStateM.Result.ok · u) (subLong_whole _)

theorem readDevice_ubaSr (u : State) (k : Nat) : readDevice (.uba k 8) pa 4 .data u = .ok (u.uba? k).sr u :=
  congrArg (EStateM.Result.ok · u) (subLong_whole _)

theorem ubaRegister_map (u : State) (k : Nat) {i : Nat} (hi : i < 496) :
    ubaRegister k (0x800 + 4 * i) u = .ok (Sparse.get (u.uba? k).map i) u := by
  unfold ubaRegister
  rw [bind_of_ok _ (run_get u), if_pos (by omega), show (0x800 + 4 * i - 0x800) / 4 = i by omega]
  rfl

theorem readDevice_ubaMap (u : State) (k : Nat) {i : Nat} (hi : i < 496) :
    readDevice (.uba k (0x800 + 4 * i)) pa 4 .data u = .ok (Sparse.get (u.uba? k).map i) u := by
  show ubaRead k (0x800 + 4 * i) 4 u = _
  unfold ubaRead
  rw [show (0x800 + 4 * i) / 4 * 4 = 0x800 + 4 * i by omega, bind_of_ok _ (ubaRegister_map u k hi),
    show (0x800 + 4 * i) % 4 = 0 by omega, subLong_whole]
  rfl

/-- Neither an adapter INIT nor a power fail sequence. -/
theorem writeDevice_ubaCr (u : State) (k : Nat) (hw : w &&& 3 = 0) :
    writeDevice (.uba k 4) pa 4 w .data u = .ok ⟨⟩ (u.updUba k fun a => { a with cr := w &&& 0x7C00007E }) := by
  have h0 : w.getLsbD 0 = false := getLsbD_of_and_eq_zero hw (by decide)
  have h1 : w.getLsbD 1 = false := getLsbD_of_and_eq_zero hw (by decide)
  show ubaWriteCr k w u = _
  unfold ubaWriteCr
  rw [if_neg (by rw [h0]; exact Bool.false_ne_true), bind_of_ok _ (run_get u), bind_of_ok _ (run_modUba k _ u),
    if_neg (by rw [h1]; exact fun h => Bool.false_ne_true h.1)]
  rfl

theorem writeDevice_ubaSr (u : State) (k : Nat) : writeDevice (.uba k 8) pa 4 w .data u =
    .ok ⟨⟩ (u.updUba k fun a => { a with sr := a.sr &&& ~~~ (w &&& 0x7FF) }) := rfl

theorem writeDevice_ubaMap (u : State) (k : Nat) {i : Nat} (hi : i < 496) :
    writeDevice (.uba k (0x800 + 4 * i)) pa 4 w .data u = .ok ⟨⟩ (u.updUba k fun a => { a with map := Sparse.set a.map i w }) := by
  show ubaWrite _ k (0x800 + 4 * i) 4 w u = _
  unfold ubaWrite
  rw [if_neg (by omega), if_pos (by omega), show (0x800 + 4 * i - 0x800) / 4 = i by omega]
  rfl

theorem ubaCr_answers {k : Nat} (hd : s.during = []) (hp : place s pa = .device (.uba k 4)) (hk : k < s.v780.ubas.length)
    (ha : pa % 4 = 0) (hw : w &&& 3 = 0) : RegisterAnswers s pa w (s.uba? k).cr (w &&& 0x7C00007E) := by
  refine registerAnswers_of_read hd hp ha (readDevice_ubaCr · k) (writeDevice_ubaCr s k hw)
    (s.updUba_devicesOnly k _) ?_
  rw [State.updUba_uba? _ hk]

theorem ubaSr_answers {k : Nat} (hd : s.during = []) (hp : place s pa = .device (.uba k 8)) (hk : k < s.v780.ubas.length)
    (ha : pa % 4 = 0) : RegisterAnswers s pa w (s.uba? k).sr ((s.uba? k).sr &&& ~~~ (w &&& 0x7FF)) := by
  refine registerAnswers_of_read hd hp ha (readDevice_ubaSr · k) (writeDevice_ubaSr s k)
    (s.updUba_devicesOnly k _) ?_
  rw [State.updUba_uba? _ hk]

theorem ubaMap_answers {k i : Nat} (hd : s.during = []) (hp : place s pa = .device (.uba k (0x800 + 4 * i)))
    (hk : k < s.v780.ubas.length) (ha : pa % 4 = 0) (hi : i < 496) (hm : Sparse.wfFrom 0 (s.uba? k).map = true) :
    RegisterAnswers s pa w (Sparse.get (s.uba? k).map i) w := by
  refine registerAnswers_of_read hd hp ha (readDevice_ubaMap · k hi) (writeDevice_ubaMap s k hi)
    (s.updUba_devicesOnly k _) ?_
  rw [State.updUba_uba? _ hk, Sparse.get_set _ _ _ _ hm, if_pos rfl]

/-! ### The MASSBUS adapters, 61_platform_750.md R1221 to R1224, 64_platform_780_adapters.md R1444, R1450 -/

/-- The attention line sets ATTN, and nothing else. -/
theorem Mba.follow_eq_or (m : Mba) : m.follow = { m with sr := m.sr ||| 0x00010000 } ∨ m.follow = m := ite_eq_or_eq _ _ _

theorem Mba.follow_busy (m : Mba) : m.follow.busy = m.busy := by
  rcases m.follow_eq_or with h | h
  · rw [h]
    exact (BitVec.getLsbD_or).trans (Bool.or_false _)
  · rw [h]

/-- The control register as software reads it. -/
def Mba.cr (m : Mba) : Long := bitL m.ibc <<< 4 ||| bitL m.mmm <<< 3 ||| bitL m.ie <<< 2 ||| bitL m.abort <<< 1

theorem Mba.follow_cr (m : Mba) : m.follow.cr = m.cr := by
  rcases m.follow_eq_or with h | h
  · rw [h]
    rfl
  · rw [h]

/-- Outside maintenance mode ATTN is the drives'. -/
theorem Mba.follow_quiet {m : Mba} (hmmm : m.mmm = false) (hattn : m.attn = false) : m.follow = m := by
  simp [Mba.follow, hmmm, hattn]

/-- With no transfer in progress there is none to abort. -/
theorem Mba.abortNow_idle {m : Mba} (h : m.busy = false) (v750 : Bool) : m.abortNow v750 = m := by
  simp [Mba.abortNow, h]

/-- The control bits of CR as a write that neither initializes nor sets maintenance mode leaves them. -/
def Mba.controlled (m : Mba) (v750 : Bool) (w : Long) : Mba :=
  { m with ibc := v750 && w.getLsbD 4, mmm := false, ie := w.getLsbD 2, abort := w.getLsbD 1 }.follow

theorem Mba.controlled_cr (m : Mba) (v750 : Bool) (w : Long) :
    (m.controlled v750 w).cr = w &&& (if v750 then 0x16 else 6) := by
  have hcr : (m.controlled v750 w).cr
      = bitL (v750 && w.getLsbD 4) <<< 4 ||| 0#32 ||| bitL (w.getLsbD 2) <<< 2 ||| bitL (w.getLsbD 1) <<< 1 := Mba.follow_cr _
  rw [hcr, bitL_shift w (i := 2) (by decide), bitL_shift w (i := 1) (by decide)]
  cases v750 with
  | true =>
    rw [Bool.true_and, bitL_shift w (i := 4) (by decide), BitVec.or_zero,
      ← BitVec.and_or_distrib_left, ← BitVec.and_or_distrib_left]
    rfl
  | false =>
    rw [Bool.false_and, BitVec.or_zero, show bitL false <<< 4 = 0#32 from rfl, BitVec.zero_or, ← BitVec.and_or_distrib_left]
    rfl

theorem readDevice_mbaCr (u : State) (k : Nat) : readDevice (.mba k 4) pa 4 .data u = .ok (u.mba? k).cr u := rfl
theorem readDevice_mbaSr (u : State) (k : Nat) : readDevice (.mba k 8) pa 4 .data u = .ok (u.mba? k).sr u := rfl
theorem readDevice_mbaVar (u : State) (k : Nat) :
    readDevice (.mba k 0xC) pa 4 .data u = .ok ((u.mba? k).var.setWidth 32) u := rfl
theorem readDevice_mbaBcr (u : State) (k : Nat) : readDevice (.mba k 0x10) pa 4 .data u =
    .ok ((u.mba? k).bcrBus.setWidth 32 <<< 16 ||| (u.mba? k).bcrMem.setWidth 32) u := rfl

theorem readDevice_mbaMap (u : State) (k : Nat) {i : Nat} (hi : i < 256) :
    readDevice (.mba k (0x800 + 4 * i)) pa 4 .data u = .ok (Sparse.get (u.mba? k).map i) u := by
  show mbaRead k (0x800 + 4 * i) 4 u = _
  unfold mbaRead
  rw [bind_of_ok _ (run_get u), if_neg (by omega), if_neg (by omega), if_pos (by omega),
    show (0x800 + 4 * i - 0x800) / 4 = i by omega]
  rfl

theorem writeDevice_mbaCr (u : State) (k : Nat) (hw : w &&& 9 = 0) : writeDevice (.mba k 4) pa 4 w .data u =
    .ok ⟨⟩ (u.updMba k fun m => if w.getLsbD 1 then (m.controlled u.is750 w).abortNow u.is750 else m.controlled u.is750 w) := by
  have h0 : w.getLsbD 0 = false := getLsbD_of_and_eq_zero hw (by decide)
  have h3 : w.getLsbD 3 = false := getLsbD_of_and_eq_zero hw (by decide)
  show mbaWriteCr k w u = _
  unfold mbaWriteCr
  rw [bind_of_ok _ (run_get u)]
  simp only [h0, h3, Bool.false_and, Bool.false_eq_true, if_false]
  rfl

theorem writeDevice_mbaSr (u : State) (k : Nat) : writeDevice (.mba k 8) pa 4 w .data u =
    .ok ⟨⟩ (u.updMba k fun m => { m with sr := m.sr &&& ~~~ (w &&& mbaClearable u.is750) }.follow) := rfl

theorem writeDevice_mbaVar (u : State) (k : Nat) (h : (u.mba? k).busy = false) :
    writeDevice (.mba k 0xC) pa 4 w .data u = .ok ⟨⟩ (u.updMba k fun m => { m with var := w.setWidth 17 }) := by
  show (if (u.mba? k).busy then _ else _ : M Unit) u = _
  rw [if_neg (by simp [h])]
  rfl

theorem writeDevice_mbaBcr (u : State) (k : Nat) (h : (u.mba? k).busy = false) : writeDevice (.mba k 0x10) pa 4 w .data u =
    .ok ⟨⟩ (u.updMba k fun m => { m with bcrBus := w.setWidth 16, bcrMem := w.setWidth 16 }) := by
  show (if (u.mba? k).busy then _ else _ : M Unit) u = _
  rw [if_neg (by simp [h])]
  rfl

theorem writeDevice_mbaMap (u : State) (k : Nat) {i : Nat} (hi : i < 256) (h : (u.mba? k).busy = false) :
    writeDevice (.mba k (0x800 + 4 * i)) pa 4 w .data u = .ok ⟨⟩ (u.updMba k fun m =>
      { m with map := Sparse.set m.map i (w &&& (if u.is750 then 0x80007FFF else 0x801FFFFF)) }) := by
  show mbaWrite k (0x800 + 4 * i) 4 w u = _
  unfold mbaWrite
  rw [bind_of_ok _ (run_get u), if_neg (by omega), if_neg (by omega), if_pos (by omega), if_neg (by simp [h]),
    show (0x800 + 4 * i - 0x800) / 4 = i by omega]
  rfl

theorem mbaCr_answers {k : Nat} (hd : s.during = []) (hp : place s pa = .device (.mba k 4)) (hk : k < s.mbas.length)
    (ha : pa % 4 = 0) (hb : (s.mba? k).busy = false) (hw : w &&& 9 = 0) :
    RegisterAnswers s pa w (s.mba? k).cr (w &&& (if s.is750 then 0x16 else 6)) := by
  refine registerAnswers_of_read hd hp ha (readDevice_mbaCr · k) (writeDevice_mbaCr s k hw)
    (s.updMba_devicesOnly k _) ?_
  have hidle : ((s.mba? k).controlled s.is750 w).busy = false := (Mba.follow_busy _).trans hb
  rw [State.updMba_mba? _ hk, Mba.abortNow_idle hidle, ite_self, Mba.controlled_cr]

theorem mbaSr_answers {k : Nat} (hd : s.during = []) (hp : place s pa = .device (.mba k 8)) (hk : k < s.mbas.length)
    (ha : pa % 4 = 0) (hmmm : (s.mba? k).mmm = false) (hattn : (s.mba? k).attn = false) :
    RegisterAnswers s pa w (s.mba? k).sr ((s.mba? k).sr &&& ~~~ (w &&& mbaClearable s.is750)) := by
  refine registerAnswers_of_read hd hp ha (readDevice_mbaSr · k) (writeDevice_mbaSr s k)
    (s.updMba_devicesOnly k _) ?_
  rw [State.updMba_mba? _ hk]
  exact congrArg Mba.sr
    (Mba.follow_quiet (m := { s.mba? k with sr := (s.mba? k).sr &&& ~~~ (w &&& mbaClearable s.is750) }) hmmm hattn)

/-- VAR keeps 17 bits. -/
theorem mbaVar_answers {k : Nat} (hd : s.during = []) (hp : place s pa = .device (.mba k 0xC)) (hk : k < s.mbas.length)
    (ha : pa % 4 = 0) (hb : (s.mba? k).busy = false) :
    RegisterAnswers s pa w ((s.mba? k).var.setWidth 32) (w &&& 0x1FFFF) := by
  refine registerAnswers_of_read hd hp ha (readDevice_mbaVar · k) (writeDevice_mbaVar s k hb)
    (s.updMba_devicesOnly k _) ?_
  rw [State.updMba_mba? _ hk, setWidth_setWidth_eq_and w _]
  rfl

/-- BCR reads its two counters, which a write loads alike. -/
theorem mbaBcr_answers {k : Nat} (hd : s.during = []) (hp : place s pa = .device (.mba k 0x10)) (hk : k < s.mbas.length)
    (ha : pa % 4 = 0) (hb : (s.mba? k).busy = false) :
    RegisterAnswers s pa w ((s.mba? k).bcrBus.setWidth 32 <<< 16 ||| (s.mba? k).bcrMem.setWidth 32)
      ((w &&& 0xFFFF) ||| w <<< 16) := by
  refine registerAnswers_of_read hd hp ha (readDevice_mbaBcr · k) (writeDevice_mbaBcr s k hb)
    (s.updMba_devicesOnly k _) ?_
  have hlow : ((w.setWidth 16).setWidth 32 : Long) = w &&& 0xFFFF := setWidth_setWidth_eq_and w _
  have hhigh : ((w.setWidth 16).setWidth 32 : Long) <<< 16 = w <<< 16 := by
    refine BitVec.eq_of_getLsbD_eq fun i hi => ?_
    simp only [BitVec.getLsbD_shiftLeft, BitVec.getLsbD_setWidth]
    grind
  rw [State.updMba_mba? _ hk, hhigh, hlow, BitVec.or_comm]
  rfl

theorem mbaMap_answers {k i : Nat} (hd : s.during = []) (hp : place s pa = .device (.mba k (0x800 + 4 * i)))
    (hk : k < s.mbas.length) (ha : pa % 4 = 0) (hi : i < 256) (hb : (s.mba? k).busy = false)
    (hm : Sparse.wfFrom 0 (s.mba? k).map = true) :
    RegisterAnswers s pa w (Sparse.get (s.mba? k).map i) (w &&& (if s.is750 then 0x80007FFF else 0x801FFFFF)) := by
  refine registerAnswers_of_read hd hp ha (readDevice_mbaMap · k hi) (writeDevice_mbaMap s k hi hb)
    (s.updMba_devicesOnly k _) ?_
  rw [State.updMba_mba? _ hk, Sparse.get_set _ _ _ _ hm, if_pos rfl]

end

/-- Settles O17: main memory by the laws of `ramWrite`; a device register by its read, its write, and that the place of a device
rests on the installation alone. -/
theorem memoryReadsBackWhatWasWritten : Obligations.MemoryReadsBackWhatWasWritten := by
  refine ⟨fun s u u' pa n v hs _ hg => physWrite_physRead_ram u u' v hs hg, fun s pa w hd => ⟨?_, ?_, ?_, ?_, ?_, ?_, ?_⟩⟩
  · exact fun hp ha => csr0_answers hd hp ha
  · exact fun hp ha hc => csr1_answers hd hp ha hc
  · exact fun hp ha => ⟨_, csr2_answers hd hp ha⟩
  · exact fun i hp ha hm => ubMap750_answers hd hp ha hm
  · rintro k hp hk - ha x rfl
    rw [← s.memCtl?_eq_getD hk]
    exact regC_answers hd hp hk ha
  · rintro k off hp hk - ha a rfl
    refine ⟨?_, ?_, ?_⟩
    · rintro rfl hw
      exact ubaCr_answers hd hp hk ha hw
    · rintro rfl
      exact ubaSr_answers hd hp hk ha
    · rintro i hi rfl hm
      exact ubaMap_answers hd hp hk ha hi hm
  · rintro k off hp hk ha m rfl hb hmmm
    refine ⟨?_, ?_, ?_, ?_, ?_⟩
    · rintro rfl hw
      exact ⟨_, mbaCr_answers hd hp hk ha hb hw⟩
    · rintro rfl hattn
      exact mbaSr_answers hd hp hk ha hmmm hattn
    · rintro rfl
      exact mbaVar_answers hd hp hk ha hb
    · rintro rfl
      exact ⟨_, mbaBcr_answers hd hp hk ha hb⟩
    · rintro i hi rfl hm
      exact mbaMap_answers hd hp hk ha hi hb hm

end Sys2Proof.Machine
end

section
/-! Protection, 21_memory_management.md R353, R354: what the codes permit, and that they agree with the table. -/
namespace Sys2Proof.Machine

/-- A mode may do what the least privileged mode for it may do, where there is one. -/
theorem accessAllowed_iff (code mode : Nat) (write : Bool) :
    accessAllowed code mode write = true ↔
      (if write then leastWrite code else leastRead code) < 4 ∧ mode ≤ if write then leastWrite code else leastRead code :=
  decide_eq_true_iff

/-- No code lets a mode write that may not read. -/
theorem leastWrite_le_leastRead : ∀ code < 16, leastWrite code < 4 → leastRead code < 4 ∧ leastWrite code ≤ leastRead code := by
  decide

theorem accessAllowed_read_of_write {code mode : Nat} (hc : code < 16) (h : accessAllowed code mode true = true) :
    accessAllowed code mode false = true := by
  rw [accessAllowed_iff] at h ⊢
  obtain ⟨hsome, hmode⟩ := h
  obtain ⟨hread, hle⟩ := leastWrite_le_leastRead code hc hsome
  exact ⟨hread, hmode.trans hle⟩

theorem accessAllowed_of_le {code mode m : Nat} {write : Bool} (hm : m ≤ mode) (h : accessAllowed code mode write = true) :
    accessAllowed code m write = true := by
  rw [accessAllowed_iff] at h ⊢
  exact h.imp_right hm.trans

/-- Settles O19: the order of the modes is that of `leastRead` and `leastWrite`; their two tables are compared with R354's code by
code. -/
theorem protectionCodes : Obligations.ProtectionCodes := by
  rintro code hcode - mode hmode
  refine ⟨accessAllowed_read_of_write hcode, fun m hm w => accessAllowed_of_le (Nat.le_of_lt hm), ?_, ?_⟩
  · revert hmode mode hcode code
    decide
  · revert hmode mode hcode code
    decide

end Sys2Proof.Machine
end

section
/-! Page table entries in main memory, 21_memory_management.md R352, R356: they are fetched with the value they have, and setting
the M bit of one changes that bit alone. -/
namespace Sys2Proof.Machine

variable {s t : State} {pa p n k : Nat}

/-! ### Main memory that stays good -/

/-- Whether a read is plain rests on the check bits, the diagnostic modes and the memory controllers. -/
theorem State.bad_of_sublist (hcfg : t.cfg = s.cfg) (hcsr : t.v750.csr1 = s.v750.csr1) (h780 : t.v780 = s.v780)
    (hbad : t.badMem.Sublist s.badMem) (h : s.bad pa n = false) : t.bad pa n = false := by
  obtain ⟨hspoiled, hforced, hinit⟩ := (s.good_iff pa n).mp h
  have h750 : t.is750 = s.is750 := by rw [State.is750, hcfg, State.is750]
  have hmode (a : Nat) : t.checkMode a = s.checkMode a := by rw [State.checkMode, hcsr, h750, State.checkMode]
  refine (t.good_iff pa n).mpr ⟨?_, ?_, ?_⟩
  · unfold State.spoiled State.unit at hspoiled ⊢
    simp only [hmode, h750]
    rw [List.any_eq_false] at hspoiled ⊢
    exact fun e he => hspoiled e (hbad.subset he)
  · rw [← hforced]
    unfold State.forced State.forcedAt State.ctlOf State.inCtl State.ctlTurn State.ctlRange State.memCtl? State.ctlTr
      State.nexusTr State.ctlSize
    simp only [hmode, h750, h780, hcfg]
  · rw [← hinit]
    unfold State.initializing State.initializes State.ctlOf State.inCtl State.ctlTurn State.ctlRange State.memCtl? State.ctlTr
      State.nexusTr State.ctlSize
    simp only [h750, h780, hcfg]

/-- A store to good memory leaves good what was good, there and elsewhere. -/
theorem State.goodRam.storeRam (v : Octa) (h : s.goodRam pa n) (hp : s.goodRam p k) : (s.storeRam pa n v).goodRam p k := by
  obtain ⟨-, hbad, -, -⟩ := h
  obtain ⟨hram, hgood, hecc, hduring⟩ := hp
  obtain ⟨-, -, hinit⟩ := (s.good_iff pa n).mp hbad
  have h780 : (s.storeRam pa n v).v780 = s.v780 := by rw [s.storeRam_v780, State.answered_of_initialized hinit]
  exact ⟨(s.storeRam_place pa n v p).trans hram,
    State.bad_of_sublist (s := s) rfl (s.storeRam_csr1 pa n v) h780 (s.storeRam_badMem_sublist pa n v) hgood,
    (s.storeRam_eccDisabled pa n v p).trans hecc, hduring⟩

/-! ### Longwords -/

theorem ramBytes_congr {m m' : Memory} (h : ∀ a, p ≤ a → a < p + n → Sparse.get m a = Sparse.get m' a) :
    ramBytes m p n = ramBytes m' p n := by
  induction n generalizing p with
  | zero => rfl
  | succ n ih =>
    exact congrArg₂ List.cons (h p (Nat.le_refl _) (by omega)) (ih fun a hlo hhi => h a (by omega) (by omega))

/-- A longword is its four bytes. -/
theorem State.longAt_congr (h : ∀ a, p ≤ a → a < p + 4 → t.byte a = s.byte a) : t.longAt p = s.longAt p := by
  unfold State.longAt
  rw [ramBytes_congr h]

theorem readPte_good (h : s.goodRam pa 4) : readPte pa s = .ok (s.longAt pa) s := by
  obtain ⟨hram, hbad, hecc, hduring⟩ := h
  unfold readPte
  rw [bind_of_ok _ (physRead_ram .table pa 4 s hduring hram hbad hecc)]
  exact congrArg (EStateM.Result.ok · s) (BitVec.setWidth_ofNat_of_le (by decide) _)

/-! ### The M bit -/

/-- A page table entry with M set. -/
abbrev withM (pte : Long) : Long := pte ||| 0x04000000

theorem withM_of_modified {pte : Long} (h : pte.getLsbD 26 = true) : withM pte = pte := by
  have hzero : ∀ i < 32, i ≠ 26 → (0x04000000 : Long).getLsbD i = false := by decide
  refine BitVec.eq_of_getLsbD_eq fun i hi => ?_
  rw [BitVec.getLsbD_or]
  by_cases h26 : i = 26
  · rw [h26, h, Bool.true_or]
  · rw [hzero i hi h26, Bool.or_false]

theorem pteModified_withM (pte : Long) : pteModified (withM pte) = true :=
  BitVec.getLsbD_or.trans (Bool.or_true _)

/-- The state once the M bit of the entry at `pa` is set. -/
def State.markedAt (s : State) (pa : Nat) : State := s.storeRam pa 4 ((withM (s.longAt pa)).setWidth 128)

theorem setPteM_good (h : s.goodRam pa 4) : setPteM pa (s.longAt pa) s = .ok ⟨⟩ (s.markedAt pa) := by
  obtain ⟨hram, hbad, -, hduring⟩ := h
  obtain ⟨-, hforced, -⟩ := (s.good_iff pa 4).mp hbad
  exact physWrite_ram .table pa 4 _ s hduring hram hforced

theorem State.markedAt_goodRam (h : s.goodRam pa 4) (hp : s.goodRam p k) : (s.markedAt pa).goodRam p k := h.storeRam _ hp

theorem State.markedAt_memOk (hs : s.MemOk) : (s.markedAt pa).MemOk := s.storeRam_wf pa 4 _ hs

/-- The bytes outside the entry stay. -/
theorem State.markedAt_byte (hs : s.MemOk) {a : Nat} (ha : ¬ (pa ≤ a ∧ a < pa + 4)) : (s.markedAt pa).byte a = s.byte a :=
  s.storeRam_outside pa 4 _ a hs ha

theorem State.markedAt_longAt (hs : s.MemOk) (h : s.goodRam pa 4) : (s.markedAt pa).longAt pa = withM (s.longAt pa) := by
  obtain ⟨-, hbad, -, -⟩ := h
  unfold State.longAt State.markedAt
  rw [s.storeRam_good pa 4 _ hbad, ramBytes_ramWrite s.mem pa 4 _ hs]
  refine BitVec.eq_of_toNat_eq ?_
  rw [BitVec.toNat_ofNat, Nat.mod_mod, BitVec.toNat_setWidth_of_le (by decide)]
  exact Nat.mod_eq_of_lt (BitVec.isLt _)

/-- Another longword of the same alignment stays. -/
theorem State.markedAt_longAt_ne (hs : s.MemOk) (halign : p % 4 = pa % 4) (hne : p ≠ pa) :
    (s.markedAt pa).longAt p = s.longAt p :=
  State.longAt_congr fun a _ _ => State.markedAt_byte hs (by omega)

/-- The state with other memory, check bits, registers of the V750 and count of free values. -/
def State.stored (s : State) (m : Memory) (b : Sparse 1) (v : V750) (n : Nat) : State :=
  { s with mem := m, badMem := b, v750 := v, draw := n }

/-- Only memory, its check bits and what the V750 notes of a write have changed. -/
theorem State.markedAt_frame (h : s.goodRam pa 4) : ∃ m b v, s.markedAt pa = s.stored m b v s.draw := by
  obtain ⟨-, hbad, -, -⟩ := h
  obtain ⟨-, -, hinit⟩ := (s.good_iff pa 4).mp hbad
  have h780 : (s.markedAt pa).v780 = s.v780 := (s.storeRam_v780 pa 4 _).trans (by rw [State.answered_of_initialized hinit])
  refine ⟨(s.markedAt pa).mem, (s.markedAt pa).badMem, (s.markedAt pa).v750, ?_⟩
  unfold State.stored
  rw [← h780]
  rfl

end Sys2Proof.Machine
end

section
/-! The walk to a page table entry, the access test and the M bit of a write, 21_memory_management.md R342, R356, R360 to R366. -/
namespace Sys2Proof.Machine

variable {s t : State} {va : Long} {write : Bool} {mode pa : Nat} {w : Walk} {pte : Long} {sys : Option Nat}

/-! ### The fault parameter word, R366 -/

theorem faultWord_plain (write : Bool) : faultWord write false false = if write then 4 else 0 := by cases write <;> rfl
theorem faultWord_length (write : Bool) : faultWord write false true = (if write then 4 else 0) + 1 := by cases write <;> rfl
theorem faultWord_table (write : Bool) : faultWord write true false = (if write then 4 else 0) + 2 := by cases write <;> rfl
theorem faultWord_table_length (write : Bool) : faultWord write true true = (if write then 4 else 0) + 3 := by
  cases write <;> rfl

/-! ### The test of an entry, R360, R362 -/

/-- The code must permit the access, and then the entry must be valid. -/
theorem run_entryTest {α : Type} (allowed valid : Bool) (denied invalid : Exc) (x : M α) (s : State) :
    (do
      if ¬ allowed then raise denied
      if ¬ valid then raise invalid
      x : M α) s =
      if allowed = false then .error (.exc denied) s else if valid = false then .error (.exc invalid) s else x s := by
  cases allowed with
  | false => rfl
  | true =>
    cases valid with
    | false => rfl
    | true => rfl

/-! ### The entry of a system page, R361 -/

theorem sysPte_short {report : Long} {ptref : Bool} (h : s.mm.slr.toNat ≤ field va 9 21) :
    sysPte va write ptref report s = .error (.exc (accessViolation report write ptref true)) s := by
  unfold sysPte
  rw [bind_of_ok _ (run_get s), if_pos (show s.mm.slr.toNat ≤ vpn va from h)]
  rfl

theorem sysPte_good {report : Long} {ptref : Bool} (h : field va 9 21 < s.mm.slr.toNat) (hg : s.goodRam (systemPte s va) 4) :
    sysPte va write ptref report s = .ok (s.longAt (systemPte s va), systemPte s va) s := by
  unfold sysPte
  rw [bind_of_ok _ (run_get s), if_neg (show ¬ s.mm.slr.toNat ≤ vpn va from Nat.not_le.mpr h)]
  exact bind_of_ok _ (readPte_good hg)

/-! ### The entry of a process page, R362, R363, R365 -/

/-- Base of the page table of an address of process space. -/
def State.processBase (s : State) (va : Long) : Long := if field va 30 2 = 0 then s.mm.p0br else s.mm.p1br

theorem procPte_beyond {base : Long} : procPte va base true write s = .error (.exc (accessViolation va write false true)) s := rfl

/-- The page table does not lie in system space, or beyond its end. -/
theorem procPte_noTable
    (h : field (s.processPteVa va) 30 2 ≠ 2 ∨ s.mm.slr.toNat ≤ field (s.processPteVa va) 9 21) :
    procPte va (s.processBase va) false write s = .error (.exc (accessViolation va write true true)) s := by
  show (if field (s.processPteVa va) 30 2 ≠ 2 then _ else _ : M Walk) s = _
  split
  · rfl
  next hspace => exact bind_of_error _ (sysPte_short (h.resolve_left hspace))

/-- Once the system entry of the page table is fetched: it must permit kernel reads and be valid. -/
theorem procPte_table {x : Long} (h : s.tableEntry va x) :
    procPte va (s.processBase va) false write s =
      if accessAllowed (field x 27 4) 0 false = false then .error (.exc (accessViolation va write true false)) s
      else if x.getLsbD 31 = false then .error (.exc (notValid va write true)) s
      else (readPte (pageAddress s.cfg x (s.processPteVa va)) >>= fun pte =>
        pure ⟨pte, pageAddress s.cfg x (s.processPteVa va), some (systemPte s (s.processPteVa va))⟩) s := by
  obtain ⟨-, hspace, hlength, hgood, rfl, hcode⟩ := h
  show (if field (s.processPteVa va) 30 2 ≠ 2 then _ else _ : M Walk) s = _
  rw [if_neg (not_not.mpr hspace)]
  refine (bind_of_ok _ (sysPte_good hlength hgood)).trans ?_
  dsimp only
  rw [if_neg (show ¬ pteProt _ = 1 from hcode)]
  exact run_entryTest _ _ _ _ _ s

/-! ### The walk -/

theorem walk_reserved (h : field va 30 2 = 3) : walk va write s = .error (.exc (accessViolation va write false true)) s := by
  unfold walk
  rw [bind_of_ok _ (run_get s), h]
  rfl

theorem walk_system (h : field va 30 2 = 2) :
    walk va write s = (sysPte va write false va >>= fun p => pure ⟨p.1, p.2, none⟩) s := by
  unfold walk
  rw [bind_of_ok _ (run_get s), h]
  rfl

/-- The walk of process space; `beyond` is the test for the end of the page table. -/
theorem walk_process (h : field va 30 2 < 2) {beyond : Bool} (hb : beyond = true ↔ s.beyondTable va) :
    walk va write s = procPte va (s.processBase va) beyond write s := by
  unfold State.beyondTable at hb
  unfold walk State.processBase
  rw [bind_of_ok _ (run_get s)]
  have hregion : field va 30 2 = 0 ∨ field va 30 2 = 1 := by omega
  rcases hregion with h0 | h1
  · rw [if_pos h0] at hb
    rw [if_pos h0, h0, Bool.eq_iff_iff.mpr (hb.trans decide_eq_true_iff.symm)]
    rfl
  · have h0 : ¬ field va 30 2 = 0 := by omega
    rw [if_neg h0] at hb
    rw [if_neg h0, h1, Bool.eq_iff_iff.mpr (hb.trans decide_eq_true_iff.symm)]
    rfl

theorem walk_beyondTable (h : field va 30 2 < 2) (hb : s.beyondTable va) :
    walk va write s = .error (.exc (accessViolation va write false true)) s :=
  (walk_process h (iff_of_true rfl hb)).trans procPte_beyond

theorem walk_withinTable (h : field va 30 2 < 2) (hin : ¬ s.beyondTable va) :
    walk va write s = procPte va (s.processBase va) false write s :=
  walk_process h (iff_of_false Bool.false_ne_true hin)

/-- Within the page table the walk goes through its system entry, which must permit kernel reads and be valid. -/
theorem walk_tableEntry {x : Long} (h : field va 30 2 < 2) (ht : s.tableEntry va x) :
    walk va write s =
      if accessAllowed (field x 27 4) 0 false = false then .error (.exc (accessViolation va write true false)) s
      else if x.getLsbD 31 = false then .error (.exc (notValid va write true)) s
      else (readPte (pageAddress s.cfg x (s.processPteVa va)) >>= fun pte =>
        pure ⟨pte, pageAddress s.cfg x (s.processPteVa va), some (systemPte s (s.processPteVa va))⟩) s :=
  (walk_withinTable h ht.1).trans (procPte_table ht)

/-- The walk to an entry in main memory. -/
theorem walk_entryAt (h : field va 30 2 < 2) (he : s.entryAt va pa) :
    walk va write s = .ok ⟨s.longAt pa, pa, some (systemPte s (s.processPteVa va))⟩ s := by
  obtain ⟨⟨x, htable, hread, hvalid, rfl⟩, hgood, -⟩ := he
  rw [walk_tableEntry h htable, if_neg (by simp [hread]), if_neg (by simp [hvalid])]
  exact bind_of_ok _ (readPte_good hgood)

theorem walk_systemShort (h : field va 30 2 = 2) (hlength : s.mm.slr.toNat ≤ field va 9 21) :
    walk va write s = .error (.exc (accessViolation va write false true)) s :=
  (walk_system h).trans (bind_of_error _ (sysPte_short hlength))

theorem walk_systemPte (h : field va 30 2 = 2) (hlength : field va 9 21 < s.mm.slr.toNat) (hg : s.goodRam (systemPte s va) 4) :
    walk va write s = .ok ⟨s.longAt (systemPte s va), systemPte s va, none⟩ s :=
  (walk_system h).trans (bind_of_ok _ (sysPte_good hlength hg))

/-! ### The access test, R360 -/

/-- Mapping is on, and not in the diagnostic mode of the V750 that the model refuses (11_processor_registers.md R212). -/
def State.Maps (s : State) : Prop := s.mm.mapen = true ∧ (s.is750 = true → field s.v750.tbdr 0 2 ≠ 3)

theorem check_of_walk_error (hm : s.Maps) {e : Stop} (hw : walk va write s = .error e s) :
    check va write mode s = .error e s := by
  obtain ⟨hmap, htb⟩ := hm
  unfold check
  rw [bind_of_ok _ (run_get s), if_neg (not_not.mpr hmap), if_neg (fun h => htb h.1 h.2)]
  exact bind_of_error _ hw

theorem check_of_walk (hm : s.Maps) (hw : walk va write s = .ok ⟨pte, pa, sys⟩ s) (hcode : field pte 27 4 ≠ 1) :
    check va write mode s =
      if accessAllowed (field pte 27 4) mode write = false then .error (.exc (accessViolation va write false false)) s
      else if pte.getLsbD 31 = false then .error (.exc (notValid va write false)) s
      else .ok ⟨pageAddress s.cfg pte va, some ⟨pte, pa, sys⟩⟩ s := by
  obtain ⟨hmap, htb⟩ := hm
  unfold check
  rw [bind_of_ok _ (run_get s), if_neg (not_not.mpr hmap), if_neg (fun h => htb h.1 h.2)]
  refine (bind_of_ok _ hw).trans ?_
  dsimp only
  rw [if_neg (show ¬ pteProt pte = 1 from hcode)]
  exact run_entryTest _ _ _ _ _ s

/-- The entry's code forbids the access. -/
theorem check_forbidden (hm : s.Maps) (hw : walk va write s = .ok ⟨pte, pa, sys⟩ s) (hcode : field pte 27 4 ≠ 1)
    (h : accessAllowed (field pte 27 4) mode write = false) :
    check va write mode s = .error (.exc ⟨false, 0x20, [va, if write then 4 else 0]⟩) s := by
  rw [check_of_walk hm hw hcode, if_pos h, accessViolation, faultWord_plain]

/-- The entry is not valid. -/
theorem check_invalid (hm : s.Maps) (hw : walk va write s = .ok ⟨pte, pa, sys⟩ s) (hcode : field pte 27 4 ≠ 1)
    (h : accessAllowed (field pte 27 4) mode write = true) (hv : pte.getLsbD 31 = false) :
    check va write mode s = .error (.exc ⟨false, 0x24, [va, if write then 4 else 0]⟩) s := by
  rw [check_of_walk hm hw hcode, if_neg (by simp [h]), if_pos hv, notValid, faultWord_plain]

theorem check_valid (hm : s.Maps) (hw : walk va write s = .ok ⟨pte, pa, sys⟩ s) (hcode : field pte 27 4 ≠ 1)
    (h : accessAllowed (field pte 27 4) mode write = true) (hv : pte.getLsbD 31 = true) :
    check va write mode s = .ok ⟨field pte 0 s.cfg.pfnw * 512 + field va 0 9, some ⟨pte, pa, sys⟩⟩ s := by
  rw [check_of_walk hm hw hcode, if_neg (by simp [h]), if_neg (by simp [hv])]
  rfl

/-- The walk ends in a length violation at `va` itself. -/
theorem check_length (hm : s.Maps) (hw : walk va write s = .error (.exc (accessViolation va write false true)) s) :
    check va write mode s = .error (.exc ⟨false, 0x20, [va, (if write then 4 else 0) + 1]⟩) s := by
  rw [check_of_walk_error hm hw, accessViolation, faultWord_length]

/-- There is no system entry for the page table. -/
theorem check_noTable (hm : s.Maps) (h : field va 30 2 < 2) (hin : ¬ s.beyondTable va)
    (hno : field (s.processPteVa va) 30 2 ≠ 2 ∨ s.mm.slr.toNat ≤ field (s.processPteVa va) 9 21) :
    check va write mode s = .error (.exc ⟨false, 0x20, [va, (if write then 4 else 0) + 3]⟩) s := by
  have hw := (walk_withinTable (write := write) h hin).trans (procPte_noTable hno)
  rw [check_of_walk_error hm hw, accessViolation, faultWord_table_length]

/-- The kernel may not read the page table. -/
theorem check_tableForbidden {x : Long} (hm : s.Maps) (h : field va 30 2 < 2) (ht : s.tableEntry va x)
    (hread : accessAllowed (field x 27 4) 0 false = false) :
    check va write mode s = .error (.exc ⟨false, 0x20, [va, (if write then 4 else 0) + 2]⟩) s := by
  have hw := walk_tableEntry (write := write) h ht
  rw [if_pos hread] at hw
  rw [check_of_walk_error hm hw, accessViolation, faultWord_table]

/-- The system entry of the page table is not valid. -/
theorem check_tableInvalid {x : Long} (hm : s.Maps) (h : field va 30 2 < 2) (ht : s.tableEntry va x)
    (hread : accessAllowed (field x 27 4) 0 false = true) (hv : x.getLsbD 31 = false) :
    check va write mode s = .error (.exc ⟨false, 0x24, [va, (if write then 4 else 0) + 2]⟩) s := by
  have hw := walk_tableEntry (write := write) h ht
  rw [if_neg (by simp [hread]), if_pos hv] at hw
  rw [check_of_walk_error hm hw, notValid, faultWord_table]

/-! ### The M bit of a write, R356 -/

/-- The state with another count of free values. -/
def State.withDraw (s : State) (n : Nat) : State := { s with draw := n }

theorem State.withDraw_draw (s : State) : s.withDraw s.draw = s := rfl
theorem State.MemOk.withDraw (h : s.MemOk) (n : Nat) : (s.withDraw n).MemOk := h
theorem State.goodRam.withDraw {p k : Nat} (h : s.goodRam p k) (n : Nat) : (s.withDraw n).goodRam p k := h
theorem run_drawBool (s : State) : drawBool s = .ok ((Config.unpred s.draw).getLsbD 0) (s.withDraw (s.draw + 1)) := rfl

/-- `t` is `s` with the M bit of the entry at `pte` set, and perhaps that of the entries at `more`. -/
structure State.Marks (s t : State) (pte : Nat) (more : List Nat) : Prop where
  entry : t.longAt pte = withM (s.longAt pte)
  others : ∀ p ∈ more, t.longAt p = s.longAt p ∨ t.longAt p = withM (s.longAt p)
  bytes : ∀ a, (∀ p ∈ pte :: more, ¬ (p ≤ a ∧ a < p + 4)) → t.byte a = s.byte a
  frame : ∃ m b v n, t = s.stored m b v n

/-- An entry whose M bit is set already. -/
theorem State.Marks.refl (more : List Nat) (h : pteModified (s.longAt pa) = true) : s.Marks s pa more :=
  ⟨(withM_of_modified h).symm, fun _ _ => .inl rfl, fun _ _ => rfl, s.mem, s.badMem, s.v750, s.draw, rfl⟩

theorem State.Marks.withDraw {more : List Nat} (h : s.Marks t pa more) (n : Nat) : s.Marks (t.withDraw n) pa more := by
  obtain ⟨hentry, hothers, hbytes, m, b, v, _, hframe⟩ := h
  exact ⟨hentry, hothers, hbytes, m, b, v, n, hframe ▸ rfl⟩

theorem State.marks_markedAt {more : List Nat} (hs : s.MemOk) (hg : s.goodRam pa 4) (hmore : ∀ p ∈ more, p % 4 = pa % 4) :
    s.Marks (s.markedAt pa) pa more := by
  have hentry : (s.markedAt pa).longAt pa = withM (s.longAt pa) := State.markedAt_longAt hs hg
  obtain ⟨m, b, v, hframe⟩ := State.markedAt_frame hg
  refine ⟨hentry, fun p hp => ?_, fun a ha => State.markedAt_byte hs (ha pa List.mem_cons_self), m, b, v, s.draw, hframe⟩
  rcases eq_or_ne p pa with rfl | hne
  · exact .inr hentry
  · exact .inl (State.markedAt_longAt_ne hs (hmore p hp) hne)

/-- An entry of `more` that is not marked yet may be marked next: it is not the entry at `pa`. -/
theorem State.Marks.markedAt {more : List Nat} {p : Nat} (h : s.Marks t pa more) (ht : t.MemOk) (hg : t.goodRam p 4)
    (hp : p ∈ more) (hmore : ∀ q ∈ more, q % 4 = pa % 4) (hm : pteModified (t.longAt p) = false) :
    s.Marks (t.markedAt p) pa more := by
  obtain ⟨hentry, hothers, hbytes, hframe⟩ := h
  have modified_ne {q : Nat} (hq : t.longAt q = withM (s.longAt q)) : q ≠ p := by
    rintro rfl
    rw [hq, pteModified_withM] at hm
    exact Bool.false_ne_true hm.symm
  refine ⟨?_, fun q hq => ?_, fun a ha => ?_, ?_⟩
  · rw [State.markedAt_longAt_ne ht (hmore p hp).symm (modified_ne hentry), hentry]
  · by_cases hqp : q = p
    · subst hqp
      have hsame : t.longAt q = s.longAt q := (hothers q hq).resolve_right fun hM => modified_ne hM rfl
      rw [State.markedAt_longAt ht hg, hsame]
      exact .inr rfl
    · rw [State.markedAt_longAt_ne ht ((hmore q hq).trans (hmore p hp).symm) hqp]
      exact hothers q hq
  · rw [State.markedAt_byte ht (ha p (List.mem_cons_of_mem pa hp)), hbytes a ha]
  · obtain ⟨m, b, v, hmarked⟩ := State.markedAt_frame hg
    obtain ⟨_, _, _, n, rfl⟩ := hframe
    exact ⟨m, b, v, n, hmarked⟩

theorem commit_modified {a : Nat} (h : pteModified w.pte = true) : commit ⟨a, some w⟩ s = .ok ⟨⟩ s := by
  unfold commit
  dsimp only
  rw [if_pos h]
  rfl

theorem commit_unmodified_system {a : Nat} (hg : s.goodRam w.ptePa 4) (h : pteModified w.pte = false) (hsys : w.sysPa = none) :
    commit ⟨a, some w⟩ s = .ok ⟨⟩ (s.markedAt w.ptePa) := by
  unfold commit
  dsimp only
  rw [if_neg (by simp [h]), bind_of_ok _ (readPte_good hg), bind_of_ok _ (setPteM_good hg), hsys]
  rfl

/-- Behind a process entry the system entry too is marked, or not, where it is not marked yet. -/
theorem commit_unmodified_process {a p : Nat} (hg : s.goodRam w.ptePa 4) (h : pteModified w.pte = false)
    (hsys : w.sysPa = some p) (hp : s.goodRam p 4) :
    ∃ t n, commit ⟨a, some w⟩ s = .ok ⟨⟩ t ∧ (t = (s.markedAt w.ptePa).withDraw n ∨
      pteModified ((s.markedAt w.ptePa).longAt p) = false ∧ t = ((s.markedAt w.ptePa).withDraw n).markedAt p) := by
  have hpu : (s.markedAt w.ptePa).goodRam p 4 := State.markedAt_goodRam hg hp
  unfold commit
  dsimp only
  rw [if_neg (by simp [h]), bind_of_ok _ (readPte_good hg), bind_of_ok _ (setPteM_good hg), hsys]
  dsimp only
  generalize s.markedAt w.ptePa = u at hpu ⊢
  rw [bind_of_ok _ (readPte_good hpu)]
  cases hm : pteModified (u.longAt p) with
  | true => exact ⟨u, u.draw, rfl, .inl u.withDraw_draw.symm⟩
  | false =>
    rw [if_pos Bool.false_ne_true, bind_of_ok _ (run_drawBool u)]
    cases (Config.unpred u.draw).getLsbD 0 with
    | false => exact ⟨_, _, rfl, .inl rfl⟩
    | true => exact ⟨_, _, setPteM_good (hpu.withDraw _), .inr ⟨rfl, rfl⟩⟩

/-- A write sets the M bit of the entry the walk came to, and nothing where it is set already. -/
theorem commit_marks {a : Nat} (hs : s.MemOk) (hw : w.pte = s.longAt w.ptePa) (hg : s.goodRam w.ptePa 4)
    (hsys : ∀ p ∈ w.sysPa.toList, s.goodRam p 4 ∧ p % 4 = w.ptePa % 4) :
    ∃ t, commit ⟨a, some w⟩ s = .ok ⟨⟩ t ∧ s.Marks t w.ptePa w.sysPa.toList ∧ (pteModified w.pte = true → t = s) := by
  cases hm : pteModified w.pte with
  | true => exact ⟨s, commit_modified hm, .refl _ (hw ▸ hm), fun _ => rfl⟩
  | false =>
    have hmarks : s.Marks (s.markedAt w.ptePa) w.ptePa w.sysPa.toList := State.marks_markedAt hs hg fun p hp => (hsys p hp).2
    cases hspa : w.sysPa with
    | none => exact ⟨_, commit_unmodified_system hg hm hspa, hspa ▸ hmarks, nofun⟩
    | some p =>
      have hmem : p ∈ w.sysPa.toList := Option.mem_toList.mpr hspa
      obtain ⟨t, n, hcommit, ht⟩ := commit_unmodified_process (a := a) hg hm hspa (hsys p hmem).1
      refine ⟨t, hcommit, hspa ▸ ?_, nofun⟩
      rcases ht with rfl | ⟨hunmarked, rfl⟩
      · exact hmarks.withDraw n
      · exact (hmarks.withDraw n).markedAt ((State.markedAt_memOk hs).withDraw n)
          ((State.markedAt_goodRam hg (hsys p hmem).1).withDraw n) hmem (fun q hq => (hsys q hq).2) hunmarked

/-! ### A translation that reaches an entry -/

theorem translate_read {a : Tran} (h : check va false mode s = .ok a s) : translate va false mode s = .ok a.pa s := by
  unfold translate
  rw [bind_of_ok _ h]
  rfl

theorem translate_write {a : Tran} (h : check va true mode s = .ok a s) (hc : commit a s = .ok ⟨⟩ t) :
    translate va true mode s = .ok a.pa t := by
  unfold translate
  rw [bind_of_ok _ h]
  exact bind_of_ok _ hc

/-- The test of a destination within a page. -/
theorem memDest_translate {n a : Nat} (hn : n ≤ leftInPage va) (h : translate va true s.cur s = .ok a t) :
    memDest va n s = .ok ⟨a, n, 0⟩ t := by
  unfold memDest translateSpan
  rw [bind_of_ok _ (run_get s)]
  dsimp only
  rw [if_pos hn]
  exact bind_of_ok _ h

/-- What a walk to a valid entry in main memory makes of a permitted write. -/
theorem setsModify_of_walk (hm : s.Maps) (hs : s.MemOk) (hwalk : ∀ write, walk va write s = .ok ⟨s.longAt pa, pa, sys⟩ s)
    (hg : s.goodRam pa 4) (hsys : ∀ p ∈ sys.toList, s.goodRam p 4 ∧ p % 4 = pa % 4)
    (hcode : field (s.longAt pa) 27 4 ≠ 1) (hallow : accessAllowed (field (s.longAt pa) 27 4) mode true = true)
    (hvalid : (s.longAt pa).getLsbD 31 = true) : SetsModify s va mode pa sys.toList := by
  have hread : accessAllowed (field (s.longAt pa) 27 4) mode false = true :=
    accessAllowed_read_of_write (BitVec.isLt _) hallow
  have hcheckr := check_valid hm (hwalk false) hcode hread hvalid
  have hcheckw := check_valid hm (hwalk true) hcode hallow hvalid
  obtain ⟨t, hcommit, ⟨hentry, hothers, hbytes, hframe⟩, hsame⟩ := commit_marks (w := ⟨s.longAt pa, pa, sys⟩) hs rfl hg hsys
  have hwrite := translate_write hcheckw hcommit
  refine ⟨translate_read hcheckr, t, hwrite, ?_, hentry, hothers, hbytes, ?_, hsame⟩
  · rintro rfl n hn
    exact memDest_translate hn hwrite
  · obtain ⟨m, b, v, n, rfl⟩ := hframe
    rfl

/-! ### The statement -/

/-- System page table entries are longwords in line: the base has its low bits clear. -/
theorem systemPte_aligned (s : State) (va : Long) : systemPte s va % 4 = 0 := by
  have hpage : 4 ∣ 2 ^ s.cfg.paw := by
    unfold Config.paw
    cases s.cfg.cpu <;> decide
  have hsum : 4 ∣ s.mm.sbr.toNat / 4 * 4 + 4 * field va 9 21 := (Nat.dvd_mul_left 4 _).add (Nat.dvd_mul_right 4 _)
  exact Nat.mod_eq_zero_of_dvd ((Nat.dvd_mod_iff hpage).mpr hsum)

theorem setsModify_entryAt (hm : s.Maps) (hs : s.MemOk) (h : field va 30 2 < 2) (he : s.entryAt va pa) (halign : pa % 4 = 0)
    (hallow : accessAllowed (field (s.longAt pa) 27 4) mode true = true) (hvalid : (s.longAt pa).getLsbD 31 = true) :
    SetsModify s va mode pa [systemPte s (s.processPteVa va)] := by
  have hwalk (write : Bool) := walk_entryAt (write := write) h he
  obtain ⟨⟨_, ⟨-, -, -, htable, -, -⟩, -, -, -⟩, hgood, hcode⟩ := he
  refine setsModify_of_walk (sys := some _) hm hs hwalk hgood (fun p hp => ?_) hcode hallow hvalid
  obtain rfl := Option.some.inj (Option.mem_toList.mp hp)
  exact ⟨htable, (systemPte_aligned s _).trans halign.symm⟩

theorem setsModify_systemPte (hm : s.Maps) (hs : s.MemOk) (h : field va 30 2 = 2) (hlength : field va 9 21 < s.mm.slr.toNat)
    (hg : s.goodRam (systemPte s va) 4) (hcode : field (s.longAt (systemPte s va)) 27 4 ≠ 1)
    (hallow : accessAllowed (field (s.longAt (systemPte s va)) 27 4) mode true = true)
    (hvalid : (s.longAt (systemPte s va)).getLsbD 31 = true) : SetsModify s va mode (systemPte s va) [] :=
  setsModify_of_walk (sys := none) hm hs (fun _ => walk_systemPte h hlength hg) hg (fun _ hp => absurd hp List.not_mem_nil)
    hcode hallow hvalid

/-- Settles O18: by the outcome of the walk in each region, the test of the entry it came to, and the stores of the M bit, which
leave good memory good and meet one another only where the two entries are one. -/
theorem systemTranslation : Obligations.SystemTranslation := by
  intro s va write mode
  refine ⟨fun hoff => ?_, fun hmap htb => ?_⟩
  · rw [translate_off va write mode s hoff, Config.paw]
    cases s.cfg.cpu <;> rfl
  have hm : s.Maps := ⟨hmap, htb⟩
  refine ⟨fun h => check_length hm (walk_reserved h), fun h => ⟨?_, ?_, ?_, ?_⟩, fun h => ⟨?_, ?_⟩⟩
  · exact fun hb => check_length hm (walk_beyondTable h hb)
  · exact fun hin hno => check_noTable hm h hin hno
  · exact fun x ht => ⟨check_tableForbidden hm h ht, check_tableInvalid hm h ht⟩
  · intro pa he
    have hwalk := walk_entryAt (write := write) h he
    have ⟨_, _, hcode⟩ := he
    refine ⟨check_forbidden hm hwalk hcode, check_invalid hm hwalk hcode, fun hallow hvalid => ?_, ?_⟩
    · exact ⟨_, check_valid hm hwalk hcode hallow hvalid, rfl⟩
    · exact fun hallow hvalid hs halign => setsModify_entryAt hm hs h he halign hallow hvalid
  · exact fun hlength => check_length hm (walk_systemShort h hlength)
  · intro hlength hg hcode
    have hwalk := walk_systemPte (write := write) h hlength hg
    refine ⟨check_forbidden hm hwalk hcode, check_invalid hm hwalk hcode, fun hallow hvalid => ?_, ?_⟩
    · exact ⟨_, check_valid hm hwalk hcode hallow hvalid, rfl⟩
    · exact fun hallow hvalid hs => setsModify_systemPte hm hs h hlength hg hcode hallow hvalid

end Sys2Proof.Machine
end

section
/-! Decoding reads back what the encoder wrote, 30_encoding.md R400 to R432: what a parser reads is what the instruction's slots
encode to. -/
namespace Sys2Proof

/-- The parser `p` reads the specifiers and displacements `l`, in this order, and then answers `i`. -/
inductive Parser.Reads (i : Instr) : Parser → List Slot → Prop
  | ret : Reads i (ret i) []
  | opd {acc : Access} {t : DT} {o : Opnd} {k : Opnd → Parser} {l : List Slot} :
      Reads i (k o) l → Reads i (opd acc t k) (.op acc t o :: l)
  | brB {d : Byte} {k : Byte → Parser} {l : List Slot} : Reads i (k d) l → Reads i (brB k) (.brB d :: l)
  | brW {d : Word16} {k : Word16 → Parser} {l : List Slot} : Reads i (k d) l → Reads i (brW k) (.brW d :: l)

/-- A parser goes on behind the bytes of a legal slot. -/
theorem Parser.goOn {p q : Parser} {a : Slot} {op : Nat} {f : Stream} {i : Instr} {l : List Slot}
    (hhead : ∀ pos seen, a.legal = true → HoldsAt f pos a.encode → p op f pos seen = q op f (pos + a.encode.length) (seen ++ [a]))
    (htail : l.all Slot.legal = true → ∀ pos seen, HoldsAt f pos (l.flatMap Slot.encode) →
      q op f pos seen = .ok i (pos + (l.flatMap Slot.encode).length))
    (hl : (a :: l).all Slot.legal = true) (pos : Nat) (seen : List Slot) (hf : HoldsAt f pos ((a :: l).flatMap Slot.encode)) :
    p op f pos seen = .ok i (pos + ((a :: l).flatMap Slot.encode).length) := by
  rw [List.all_cons, Bool.and_eq_true] at hl
  rw [List.flatMap_cons, HoldsAt.append] at hf
  rw [hhead pos seen hl.1 hf.1, htail hl.2 _ _ hf.2, List.flatMap_cons, List.length_append, Nat.add_assoc]

/-- A parser finds its instruction in the bytes that legal slots encode to. -/
theorem Parser.Reads.encode {i : Instr} {p : Parser} {l : List Slot} (h : p.Reads i l) (op : Nat) (f : Stream)
    (hl : l.all Slot.legal = true) (pos : Nat) (seen : List Slot) (hf : HoldsAt f pos (l.flatMap Slot.encode)) :
    p op f pos seen = .ok i (pos + (l.flatMap Slot.encode).length) := by
  induction h generalizing pos seen with
  | ret => rfl
  | opd _ ih => exact Parser.goOn (fun pos seen ho hf => opd_encode _ _ _ op f pos seen _ ho hf) ih hl pos seen hf
  | @brB d k _ _ ih =>
    refine Parser.goOn (a := .brB d) (fun pos seen _ hf => ?_) ih hl pos seen hf
    exact brB_encode k op f pos seen d hf
  | @brW d k _ _ ih =>
    refine Parser.goOn (a := .brW d) (fun pos seen _ hf => ?_) ih hl pos seen hf
    exact brW_encode k op f pos seen d hf

/-- What reads the rest of an instruction with opcode `op`: a two-byte opcode has FD for its low byte. -/
noncomputable def parserOf (op : Nat) : Option Parser :=
  if op < 256 then parse1 op else if op % 256 = 0xFD ∧ op / 256 < 256 then parse2 (op / 256) else none

/-- The parser of an instruction's opcode reads its slots and answers the instruction under the opcode's one name. -/
theorem parserOf_reads (i : Instr) : ∃ p, parserOf i.opcode = some p ∧ p.Reads i.canonical i.slots := by
  cases i <;> (dsimp only [Instr.opcode]; exact ⟨_, rfl, by repeat constructor⟩)

/-- Decoding begins with the parser of the opcode. -/
theorem decode_of_parserOf {op : Nat} {p : Parser} {f : Stream} (hp : parserOf op = some p)
    (hf : HoldsAt f 0 (bytesLE op (if op < 256 then 1 else 2))) : decode f = p op f (if op < 256 then 1 else 2) [] := by
  unfold parserOf at hp
  split at hp
  next hone =>
    rw [if_pos hone, bytesLE, HoldsAt.cons] at hf
    obtain ⟨hop, -⟩ := hf
    have hb : (BitVec.ofNat 8 op).toNat = op := Nat.mod_eq_of_lt hone
    have hne : BitVec.ofNat 8 op ≠ 0xFD#8 := by
      intro h
      rw [← hb, h] at hp
      cases hp
    unfold decode
    simp only [hop, hb, if_neg hne, hp, if_pos hone]
  next hone =>
    split at hp
    next htwo =>
      obtain ⟨hlow, hhigh⟩ := htwo
      simp only [if_neg hone, bytesLE, HoldsAt.cons] at hf
      obtain ⟨hfirst, hsecond, -⟩ := hf
      have hb : BitVec.ofNat 8 op = 0xFD#8 := BitVec.eq_of_toNat_eq hlow
      have hc : (BitVec.ofNat 8 (op / 256)).toNat = op / 256 := Nat.mod_eq_of_lt hhigh
      have hop : 0xFD + 256 * (op / 256) = op := by omega
      unfold decode
      simp only [hfirst, hb, if_true, hsecond, hc, hp, hop, if_neg hone]
    next => cases hp

/-! ### The statements -/

/-- Settles O2: the parser of the opcode reads the bytes of the slots back, each legal specifier as the one it encodes. -/
theorem decodeOfEncodeIsCanonical : Obligations.DecodeOfEncodeIsCanonical := by
  intro i rest hi
  obtain ⟨p, hp, hreads⟩ := parserOf_reads i
  obtain ⟨hop, hslots⟩ := HoldsAt.append.mp (holdsAt_streamOf (encode i) rest)
  rw [bytesLE_length, Nat.zero_add] at hslots
  rw [decode_of_parserOf hp hop, encode, List.length_append, bytesLE_length]
  exact hreads.encode _ _ hi _ _ hslots

/-- Settles O1: each of the words is what the encoder writes for its instruction, which is well formed. -/
theorem encodedWordsDecode : Obligations.EncodedWordsDecode :=
  ⟨decodeOfEncodeIsCanonical (.addl3 ⟨none, .lit 5⟩ ⟨none, .dispB 14 0xFC⟩ ⟨none, .reg 1⟩) [] rfl,
    decodeOfEncodeIsCanonical (.movab ⟨some 2, .dispB 1 4⟩ ⟨none, .reg 0⟩) [] rfl,
    decodeOfEncodeIsCanonical (.movl ⟨none, .imm 0x12345678⟩ ⟨none, .absolute 0x2000⟩) [] rfl,
    decodeOfEncodeIsCanonical (.brb 0xFE) [] rfl,
    decodeOfEncodeIsCanonical (.addh2 ⟨none, .regDef 1⟩ ⟨none, .autoDec 5⟩) [] rfl⟩

end Sys2Proof
end

section
/-! Opcodes that no instruction has, 30_encoding.md R446, and what is turned away at its opcode, 60_exceptions.md R1054: the reserved
instruction fault with nothing changed but FPD on the V780, 46_string.md R901. -/
namespace Sys2Proof

/-- Every instruction the parser `p` can answer has the opcode `n`. -/
inductive Parser.Yields (n : Nat) : Parser → Prop
  | ret {i : Instr} : i.opcode = n → Yields n (ret i)
  | opd {acc : Access} {t : DT} {k : Opnd → Parser} : (∀ o, Yields n (k o)) → Yields n (opd acc t k)
  | brB {k : Byte → Parser} : (∀ d, Yields n (k d)) → Yields n (brB k)
  | brW {k : Word16 → Parser} : (∀ d, Yields n (k d)) → Yields n (brW k)

theorem Parser.Yields.exists_instr {n : Nat} {p : Parser} (h : p.Yields n) : ∃ i : Instr, i.opcode = n := by
  induction h with
  | ret hi => exact ⟨_, hi⟩
  | opd _ ih => exact ih ⟨none, .lit 0⟩
  | brB _ ih => exact ih 0
  | brW _ ih => exact ih 0

theorem parse2_yields {c : Nat} {p : Parser} (h : parse2 c = some p) : p.Yields (0xFD + 256 * c) := by
  unfold parse2 at h
  split at h <;> cases h <;> repeat' first | intro _ | constructor

/-- A second opcode byte that no instruction has begins nothing. -/
theorem parse2_eq_none {c : Nat} (h : ∀ i : Instr, i.opcode ≠ 0xFD + 256 * c) : parse2 c = none := by
  cases hp : parse2 c with
  | none => rfl
  | some p =>
    obtain ⟨i, hi⟩ := (parse2_yields hp).exists_instr
    exact absurd hi (h i)

theorem decode_reserved1 {f : Stream} {b : Byte} (h0 : f 0 = some b) (hb : b ≠ 0xFD#8) (h : parse1 b.toNat = none) :
    decode f = .reserved b.toNat := by
  unfold decode
  simp only [h0, if_neg hb, h]

theorem decode_reserved2 {f : Stream} {c : Byte} (h0 : f 0 = some 0xFD#8) (h1 : f 1 = some c) (h : parse2 c.toNat = none) :
    decode f = .reserved (0xFD + 256 * c.toNat) := by
  unfold decode
  simp only [h0, h1, h, if_true]

end Sys2Proof

namespace Sys2Proof.Machine

/-! ### Reading instruction bytes, 20_memory.md R285 -/

/-- Only the registers of the memory controllers and the count of free values differ. -/
def State.LogsOnly (s t : State) : Prop := t = { s with v750 := t.v750, v780 := t.v780, draw := t.draw }

theorem State.LogsOnly.refl (s : State) : s.LogsOnly s := rfl

theorem State.LogsOnly.trans {s t u : State} (h : s.LogsOnly t) (k : t.LogsOnly u) : s.LogsOnly u := by
  unfold State.LogsOnly at *
  rw [k, h]

theorem State.LogsOnly.foldl {β : Type} {f : State → β → State} (hf : ∀ s b, State.LogsOnly s (f s b)) (l : List β) (s : State) :
    s.LogsOnly (l.foldl f s) := by
  induction l generalizing s with
  | nil => exact .refl s
  | cons b rest ih => exact (hf s b).trans (ih _)

theorem State.drawn_logsOnly (s : State) (n : Nat) : s.LogsOnly (s.drawn n) := by
  unfold State.drawn
  split <;> rfl

theorem State.fetchedByte_logsOnly (s : State) (k pa : Nat) : s.LogsOnly (s.fetchedByte k pa) := by
  unfold State.fetchedByte
  split
  · rfl
  · dsimp only
    split
    · rfl
    · split <;> rfl

/-- Reading the bytes of an instruction leaves no more than what it logs. -/
theorem State.fetched_logsOnly (s : State) (n : Nat) : s.LogsOnly (s.fetched n) := by
  unfold State.fetched
  split
  · exact .refl s
  · refine ((s.drawn_logsOnly 32).trans (.foldl (fun t k => ?_) _ _)).trans (State.drawn_logsOnly _ n)
    split
    · exact t.fetchedByte_logsOnly k _
    · exact .refl t

theorem State.fetched_pc (s : State) (n : Nat) : (s.fetched n).pc = s.pc := by
  rw [s.fetched_logsOnly n]
  rfl

/-! ### FPD, 46_string.md R901 -/

theorem putBit_fpd (p : Long) : putBit p 27 false = p &&& 0xF7FFFFFF := by
  unfold putBit putField
  rw [show (bitL false <<< 27) &&& fieldMask 27 1 = 0#32 from rfl, BitVec.or_zero]
  rfl

theorem run_ignoreFpd (s : State) : ignoreFpd s = .ok ⟨⟩ s.clearedFpd := by
  unfold ignoreFpd State.clearedFpd
  rw [run_modify, putBit_fpd]
  split <;> rfl

/-- Without FPD there is nothing to clear. -/
theorem State.clearedFpd_of_not_fpd {s : State} (h : s.fpd = false) : s.clearedFpd = s := by
  have hpsl : s.psl &&& 0xF7FFFFFF = s.psl := by
    refine BitVec.eq_of_getLsbD_eq fun i hi => ?_
    have hmask : ∀ i < 32, i ≠ 27 → (0xF7FFFFFF : Long).getLsbD i = true := by decide
    rw [BitVec.getLsbD_and]
    by_cases h27 : i = 27
    · rw [h27, show s.psl.getLsbD 27 = false from h, Bool.false_and]
    · rw [hmask i hi h27, Bool.and_true]
  unfold State.clearedFpd
  rw [hpsl, ite_self]

theorem State.clearedFpd_fpd (s : State) : s.clearedFpd.fpd = (s.is750 && s.fpd) := by
  unfold State.clearedFpd State.fpd
  cases s.is750 with
  | true => rfl
  | false =>
    dsimp only
    rw [if_neg Bool.false_ne_true, BitVec.getLsbD_and]
    exact Bool.and_false _

/-- An exception that comes once FPD is ignored puts back all else. -/
theorem finish_clearedFpd (s : State) (e : Exc) :
    finish s (.error (.exc e) s.clearedFpd) = outcomeOf (enterException e s.pc s.clearedFpd) := by
  have hpsl : (if s.fpd && !s.clearedFpd.fpd then putBit s.psl 27 false else s.psl) = s.clearedFpd.psl := by
    rw [s.clearedFpd_fpd, putBit_fpd]
    cases hf : s.fpd with
    | false =>
      rw [State.clearedFpd_of_not_fpd hf]
      rfl
    | true => unfold State.clearedFpd; cases s.is750 <;> rfl
  unfold finish
  dsimp only
  rw [hpsl]
  rfl

theorem runReserved_eq (s : State) : runReserved s = outcomeOf (enterException reservedInstruction s.pc s.clearedFpd) := by
  unfold runReserved
  rw [bind_of_ok _ (run_ignoreFpd s), run_raise, finish_clearedFpd]

/-! ### What is turned away at its opcode, 60_exceptions.md R1054 -/

theorem checkOpcode_absent {op : Nat} {s : State} (hop : 256 ≤ op) (hgh : s.cfg.hasGH = false) :
    checkOpcode op s = .error (.exc reservedInstruction) s.clearedFpd := by
  unfold checkOpcode
  rw [bind_of_ok _ (run_get s)]
  simp only [hop, hgh, decide_true, Bool.not_false, Bool.not_true, Bool.and_self, Bool.and_false, Bool.and_true, if_true]
  cases hf : s.fpd with
  | false =>
    rw [State.clearedFpd_of_not_fpd hf]
    rfl
  | true =>
    rw [if_pos rfl]
    exact bind_of_ok _ (run_ignoreFpd s)

theorem execute_of_checkOpcode {op : Nat} {m : Meaning} {s : State} {e : Exc}
    (h : checkOpcode op s = .error (.exc e) s.clearedFpd) : execute op m s = outcomeOf (enterException e s.pc s.clearedFpd) := by
  unfold execute
  rw [bind_of_error _ h, finish_clearedFpd]

/-- Every instruction runs a meaning of its own behind the checks of its opcode. -/
theorem exec_eq_execute (i : Instr) : ∃ m, ∀ s, exec i s = execute i.opcode m s := by
  cases i <;> exact ⟨_, fun _ => rfl⟩

/-- Settles O3: an opcode that begins no instruction is decoded as reserved; the opcode's own checks turn away what G and H floating
would run. -/
theorem unassignedOpcodesFault : Obligations.UnassignedOpcodesFault := by
  intro s
  refine ⟨fun b h0 hb => ?_, fun c h0 h1 hno => ?_, fun hgh i hi => ?_⟩
  · have hnone : b ≠ 0xFD#8 ∧ parse1 b.toNat = none ∧ ¬ b.toNat % 256 = 0xFD := by
      simp only [List.mem_cons, List.not_mem_nil, or_false] at hb
      rcases hb with rfl | rfl | rfl | rfl | rfl | rfl | rfl <;> exact ⟨by decide, rfl, by decide⟩
    obtain ⟨hfd, hparse, hlen⟩ := hnone
    unfold runInstruction
    rw [decode_reserved1 (f := s.stream) h0 hfd hparse]
    dsimp only
    rw [if_neg hlen, runReserved_eq, s.fetched_pc]
  · unfold runInstruction
    rw [decode_reserved2 (f := s.stream) h0 h1 (parse2_eq_none hno)]
    dsimp only
    rw [if_pos (by omega), runReserved_eq, s.fetched_pc]
  · obtain ⟨m, hm⟩ := exec_eq_execute i
    rw [hm, execute_of_checkOpcode (checkOpcode_absent hi hgh)]

end Sys2Proof.Machine
end

section
/-! Operands in registers, literals and immediates, 30_encoding.md R411, R412, R421, the addresses of the memory modes, R413 to R424,
and that registers and literals have none. -/
namespace Sys2Proof.Machine

variable {s : State} {t : DT} {n : Reg}

/-! ### The PC past a specifier -/

@[simp] theorem run_adv (k : Nat) (s : State) : adv k s = .ok ⟨⟩ (s.setReg 15 (s.pc + BitVec.ofNat 32 k)) := rfl

theorem notPC_ok (h : n ≠ 15) (s : State) : notPC n s = .ok ⟨⟩ s := by
  unfold notPC
  rw [if_neg h]
  rfl

theorem checkReg_ok (h : n.val + t.regs ≤ 15) (s : State) : checkReg t n s = .ok ⟨⟩ s := by
  unfold checkReg
  rw [if_neg (by omega)]
  rfl

/-! ### Registers, R412 -/

theorem bits_le_regs (t : DT) : t.bits ≤ 32 * t.regs := by cases t <;> decide
theorem regs_le_four (t : DT) : t.regs ≤ 4 := by cases t <;> decide

/-- Bit `i` of four registers is bit `i % 32` of register `i / 32` of them. -/
theorem State.regs4_getLsbD (s : State) (n : Reg) {i : Nat} (hi : i < 128) :
    (s.regs4 n).getLsbD i = (s.reg (Reg.plus n (i / 32))).getLsbD (i % 32) := by
  have hplus : Reg.plus n 0 = n := Fin.ext (Nat.mod_eq_of_lt n.isLt)
  unfold State.regs4
  simp only [BitVec.getLsbD_append]
  have hq : i / 32 = 0 ∨ i / 32 = 1 ∨ i / 32 = 2 ∨ i / 32 = 3 := by omega
  rcases hq with h | h | h | h
  · rw [h, hplus, if_pos (by omega), show i % 32 = i by omega]
  · rw [h, if_neg (by omega), if_pos (by omega), show i % 32 = i - 32 by omega]
  · rw [h, if_neg (by omega), if_neg (by omega), if_pos (by omega), show i % 32 = i - 32 - 32 by omega]
  · rw [h, if_neg (by omega), if_neg (by omega), if_neg (by omega), show i % 32 = i - 32 - 32 - 32 by omega]

theorem Reg.plus_ne_pc {k : Nat} (h : n.val + t.regs ≤ 15) (hk : k < t.regs) : Reg.plus n k ≠ 15 := by
  intro e
  have : (n.val + k) % 16 = 15 := congrArg Fin.val e
  omega

/-- A register operand does not include the PC. -/
theorem State.regs4_setReg_pc (h : n.val + t.regs ≤ 15) (v : Long) :
    ((s.setReg 15 v).regs4 n).setWidth t.bits = (s.regs4 n).setWidth t.bits := by
  refine BitVec.eq_of_getLsbD_eq fun i hi => ?_
  have hbits := bits_le_regs t
  have hregs := regs_le_four t
  have h128 : i < 128 := by omega
  rw [BitVec.getLsbD_setWidth, BitVec.getLsbD_setWidth, State.regs4_getLsbD _ n h128, State.regs4_getLsbD _ n h128,
    s.setReg_reg_ne v (Reg.plus_ne_pc h (by omega)).symm]

theorem md_reg (h : n.val + t.regs ≤ 15) :
    md t ⟨none, .reg n⟩ s = .ok (.reg n, (s.regs4 n).setWidth _) (s.setReg 15 (s.pc + 1)) := by
  unfold md mdAs
  dsimp only
  rw [bind_of_ok _ (checkReg_ok h s), bind_of_ok _ (run_adv 1 s), bind_of_ok _ (run_get _), State.regs4_setReg_pc h]
  rfl

/-! ### Results in registers, R412 -/

/-- A byte or word replaces the low bits of a register. -/
theorem putField_low {w : Nat} (x : Long) (v : BitVec w) :
    putField x 0 w ((v.setWidth 128).extractLsb' (32 * 0) 32) = (x &&& ~~~ fieldMask 0 w) ||| v.setWidth 32 := by
  refine BitVec.eq_of_getLsbD_eq fun i hi => ?_
  rw [putField_getLsbD _ _ _ _ _ hi, BitVec.getLsbD_or, BitVec.getLsbD_and, BitVec.getLsbD_not, fieldMask_getLsbD 0 w i hi,
    BitVec.getLsbD_extractLsb', BitVec.getLsbD_setWidth, BitVec.getLsbD_setWidth]
  by_cases h : i < w
  · simp [h, hi, show i < 128 by omega]
  · simp [h, hi, BitVec.getLsbD_of_ge v i (by omega)]

theorem store_byte (v : Byte) : store .b (.reg n) v s = .ok ⟨⟩ (s.setReg n ((s.reg n &&& 0xFFFFFF00) ||| v.setWidth 32)) := by
  rw [store_reg]
  unfold State.putRegs
  dsimp only
  rw [putField_low]
  rfl

theorem store_word (v : Word16) :
    store .w (.reg n) v s = .ok ⟨⟩ (s.setReg n ((s.reg n &&& 0xFFFF0000) ||| v.setWidth 32)) := by
  rw [store_reg]
  unfold State.putRegs
  dsimp only
  rw [putField_low]
  rfl

/-- The longwords of a datum. -/
theorem extract_part {w : Nat} (v : BitVec w) (hw : w ≤ 128) (k : Nat) :
    (v.setWidth 128).extractLsb' (32 * k) 32 = (v >>> (32 * k)).setWidth 32 := by
  refine BitVec.eq_of_getLsbD_eq fun i hi => ?_
  rw [BitVec.getLsbD_extractLsb', BitVec.getLsbD_setWidth, BitVec.getLsbD_setWidth, BitVec.getLsbD_ushiftRight]
  by_cases h : 32 * k + i < 128
  · simp [h, hi]
  · simp [hi, h, BitVec.getLsbD_of_ge v (32 * k + i) (by omega)]

theorem store_long (v : Long) : store .l (.reg n) v s = .ok ⟨⟩ (s.setReg n v) := by
  rw [store_reg]
  unfold State.putRegs
  dsimp only
  rw [extract_part v (by decide) 0]
  simp

theorem store_f (v : Long) : store .f (.reg n) v s = .ok ⟨⟩ (s.setReg n v) := store_long v

theorem store_quad (v : Quad) : store .q (.reg n) v s =
    .ok ⟨⟩ ((s.setReg n (v.setWidth 32)).setReg (Reg.plus n 1) ((v >>> 32).setWidth 32)) := by
  rw [store_reg]
  unfold State.putRegs
  dsimp only
  rw [extract_part v (by decide) 0, extract_part v (by decide) 1]
  simp

theorem store_octa (v : Octa) : store .o (.reg n) v s =
    .ok ⟨⟩ ((((s.setReg n (v.setWidth 32)).setReg (Reg.plus n 1) ((v >>> 32).setWidth 32)).setReg (Reg.plus n 2)
        ((v >>> 64).setWidth 32)).setReg (Reg.plus n 3) ((v >>> 96).setWidth 32)) := by
  rw [store_reg]
  unfold State.putRegs
  dsimp only
  rw [extract_part v (by decide) 0, extract_part v (by decide) 1, extract_part v (by decide) 2, extract_part v (by decide) 3]
  simp

/-! ### Literals, R411 -/

theorem bits_le_octa (t : DT) : t.bits ≤ 128 := by cases t <;> decide

/-- For an integer type a literal is zero-extended. -/
theorem rd_lit_integer (h : t ∈ [.b, .w, .l, .q, .o]) (v : BitVec 6) :
    rd t ⟨none, .lit v⟩ s = .ok (v.setWidth _) (s.setReg 15 (s.pc + 1)) := by
  have hlit : litValue t v = v.setWidth 128 := by
    cases t with
    | b | w | l | q | o => rfl
    | f | d | g | h => simp at h
  rw [rd_lit, hlit, BitVec.setWidth_setWidth_of_le _ (bits_le_octa t)]

/-- For a floating type the high three bits of a literal are the exponent, the low three the top of the fraction. -/
theorem floatValue_litValue : ∀ t ∈ [DT.f, .d, .g, .h], ∀ v : BitVec 6,
    reservedFloat t ((litValue t v).setWidth t.bits) = false ∧ 3 ≤ fracLen t
      ∧ floatValue t ((litValue t v).setWidth t.bits) =
        ⟨false, (8 + v.toNat % 8) * 2 ^ (fracLen t - 3), (v.toNat / 8 : Nat) - (fracLen t + 1)⟩ := by
  decide +kernel

theorem rat_literal {n f e : Nat} (hn : 3 ≤ n) :
    ExactNum.rat ⟨false, (8 + f) * 2 ^ (n - 3), (e : Nat) - (n + 1)⟩ = (8 + f : Nat) / 16 * (2 : ℚ) ^ e := by
  obtain ⟨k, rfl⟩ := Nat.exists_eq_add_of_le hn
  have hscale : (2 : ℚ) ^ (((3 + k : ℕ) : ℤ) + 1) = 16 * 2 ^ k := by
    rw [show ((3 + k : ℕ) : ℤ) + 1 = ((k + 4 : ℕ) : ℤ) by push_cast; ring, zpow_natCast, pow_add]
    norm_num [mul_comm]
  unfold ExactNum.rat
  simp only [Bool.false_eq_true, if_false, one_mul, Nat.add_sub_cancel_left, Nat.cast_mul, Nat.cast_pow, Nat.cast_ofNat]
  rw [zpow_sub₀ two_ne_zero, zpow_natCast, hscale]
  field_simp

/-! ### Addresses of the memory modes, R413 to R424 -/

/-- The base of a displacement: the register, or the PC past the specifier. -/
theorem State.setReg_pc_reg (hn : n ≠ 15) (v : Long) : (s.setReg 15 v).reg n = s.reg n := s.setReg_reg_ne v hn.symm

theorem modeAddress_regDef (hn : n ≠ 15) (u : Use) : modeAddress u t (.regDef n) s = .ok (s.reg n) (s.setReg 15 (s.pc + 1)) := by
  unfold modeAddress
  dsimp only
  rw [bind_of_ok _ (notPC_ok hn s), bind_of_ok _ (run_adv 1 s), run_getR]
  exact congrArg (EStateM.Result.ok · _) (State.setReg_pc_reg hn _)

theorem modeAddress_autoDec (hn : n ≠ 15) (u : Use) :
    modeAddress u t (.autoDec n) s = .ok (s.reg n - BitVec.ofNat 32 t.len)
      ((s.setReg 15 (s.pc + 1)).setReg n (s.reg n - BitVec.ofNat 32 t.len)) := by
  unfold modeAddress
  dsimp only
  rw [bind_of_ok _ (notPC_ok hn s), bind_of_ok _ (run_adv 1 s), bind_of_ok _ (run_getR n _), State.setReg_pc_reg hn]
  rfl

theorem modeAddress_autoInc (hn : n ≠ 15) (u : Use) :
    modeAddress u t (.autoInc n) s = .ok (s.reg n) ((s.setReg 15 (s.pc + 1)).setReg n (s.reg n + BitVec.ofNat 32 t.len)) := by
  unfold modeAddress
  dsimp only
  rw [bind_of_ok _ (notPC_ok hn s), bind_of_ok _ (run_adv 1 s), bind_of_ok _ (run_getR n _), State.setReg_pc_reg hn]
  rfl

theorem modeAddress_autoIncDef (hn : n ≠ 15) {u : Use} {x : Long} {s' : State}
    (h : pointer u (s.reg n) (s.setReg 15 (s.pc + 1)) = .ok x s') :
    modeAddress u t (.autoIncDef n) s = .ok x (s'.setReg n (s.reg n + 4)) := by
  unfold modeAddress
  dsimp only
  rw [bind_of_ok _ (notPC_ok hn s), bind_of_ok _ (run_adv 1 s), bind_of_ok _ (run_getR n _), State.setReg_pc_reg hn]
  exact bind_of_ok _ h

theorem modeAddress_dispB (u : Use) (b : Byte) : modeAddress u t (.dispB n b) s =
    .ok ((s.setReg 15 (s.pc + 2)).reg n + b.signExtend 32) (s.setReg 15 (s.pc + 2)) := rfl

theorem modeAddress_dispW (u : Use) (w : Word16) : modeAddress u t (.dispW n w) s =
    .ok ((s.setReg 15 (s.pc + 3)).reg n + w.signExtend 32) (s.setReg 15 (s.pc + 3)) := rfl

theorem modeAddress_dispL (u : Use) (l : Long) : modeAddress u t (.dispL n l) s =
    .ok ((s.setReg 15 (s.pc + 5)).reg n + l) (s.setReg 15 (s.pc + 5)) := rfl

theorem modeAddress_dispBDef (u : Use) (b : Byte) : modeAddress u t (.dispBDef n b) s =
    pointer u ((s.setReg 15 (s.pc + 2)).reg n + b.signExtend 32) (s.setReg 15 (s.pc + 2)) := rfl

theorem modeAddress_dispWDef (u : Use) (w : Word16) : modeAddress u t (.dispWDef n w) s =
    pointer u ((s.setReg 15 (s.pc + 3)).reg n + w.signExtend 32) (s.setReg 15 (s.pc + 3)) := rfl

theorem modeAddress_dispLDef (u : Use) (l : Long) : modeAddress u t (.dispLDef n l) s =
    pointer u ((s.setReg 15 (s.pc + 5)).reg n + l) (s.setReg 15 (s.pc + 5)) := rfl

/-- An indexed specifier adds the index times the size of the datum to the base. -/
theorem address_indexed {u : Use} {x : Reg} {m : Mode} {a : Long} {s' : State} (hb : checkBase x m s = .ok ⟨⟩ s)
    (hm : modeAddress u t m (s.setReg 15 (s.pc + 1)) = .ok a s') :
    address u t ⟨some x, m⟩ s = .ok (a + BitVec.ofNat 32 t.len * s'.reg x) s' := by
  unfold address
  dsimp only
  rw [bind_of_ok _ hb, bind_of_ok _ (run_adv 1 s)]
  exact bind_of_ok _ hm

/-! ### Registers and literals have no address, R411, R412, R424 -/

/-- A register or a literal, indexed or not. -/
def NoAddress (o : Opnd) : Prop := (∃ n, o.mode = .reg n) ∨ ∃ v, o.mode = .lit v

theorem address_noAddress {o : Opnd} (h : NoAddress o) (u : Use) :
    address u t o s = .error (.exc reservedAddressing) s := by
  obtain ⟨idx, m⟩ := o
  unfold address
  cases idx with
  | none => rcases h with ⟨n, rfl⟩ | ⟨v, rfl⟩ <;> rfl
  | some x =>
    have hbase : checkBase x m s = .error (.exc reservedAddressing) s := by
      unfold checkBase
      split
      · rfl
      · rcases h with ⟨n, rfl⟩ | ⟨v, rfl⟩ <;> rfl
    exact bind_of_error _ hbase

/-- An instruction that begins with the address of such an operand ends there, with nothing changed. -/
theorem execute_noAddress {op : Nat} {o : Opnd} (ho : NoAddress o) (hf : s.fpd = false)
    (hg : op < 256 ∨ s.cfg.hasGH = true) (hp : op ∉ privilegedOps) (k : Long → Meaning) :
    execute op (adr t o >>= k) s = outcomeOf (enterException reservedAddressing s.pc s) :=
  execute_exc op _ s (s.setReg 15 (s.pc + opBytes op)) _ hf hg (.inl hp) (bind_of_error _ (address_noAddress ho .data))

/-! ### The statements -/

/-- Settles O20. -/
theorem registerLiteralAndImmediateOperands : Obligations.RegisterLiteralAndImmediateOperands := by
  intro s t
  refine ⟨fun n hn => ⟨?_, wr_reg t n s hn, md_reg hn⟩, fun v hv => rd_lit_integer hv v, fun v => ?_, fun n v => store_byte v,
    fun n v => store_word v, fun n v => ⟨store_long v, store_f v⟩, ?_, ?_, fun v ht => ?_⟩
  · rw [rd_reg t n s hn, State.regs4_setReg_pc hn]
  · rw [rd_imm, BitVec.ofNat_add, ← BitVec.add_assoc]
    rfl
  · rintro n v u - rfl
    exact ⟨store_quad v, store_quad v, store_quad v⟩
  · rintro n v u - rfl
    exact ⟨store_octa v, store_octa v⟩
  · obtain ⟨hreserved, hfrac, hvalue⟩ := floatValue_litValue t ht v
    exact ⟨_, rd_lit t v s, hreserved, hvalue ▸ rat_literal hfrac⟩

/-- Settles O21: what each mode answers, with the base register read behind the PC's step. -/
theorem memoryModeAddresses : Obligations.MemoryModeAddresses := by
  intro s u t n b w l
  refine ⟨rfl, fun hn => ⟨modeAddress_regDef hn u, modeAddress_autoDec hn u, modeAddress_autoInc hn u, ?_, ?_, ?_, ?_, ?_, ?_,
    fun x s' h => modeAddress_autoIncDef hn h⟩, ?_, ?_, ?_, fun x m a s' _ hb hm => address_indexed hb hm, ?_, ?_, ?_⟩
  · rw [modeAddress_dispB, State.setReg_pc_reg hn]
  · rw [modeAddress_dispW, State.setReg_pc_reg hn]
  · rw [modeAddress_dispL, State.setReg_pc_reg hn]
  · intro x s' h
    rw [modeAddress_dispBDef, State.setReg_pc_reg hn, h]
  · intro x s' h
    rw [modeAddress_dispWDef, State.setReg_pc_reg hn, h]
  · intro x s' h
    rw [modeAddress_dispLDef, State.setReg_pc_reg hn, h]
  · rw [modeAddress_dispB, State.setReg_reg_same]
  · rw [modeAddress_dispW, State.setReg_reg_same]
  · rw [modeAddress_dispL, State.setReg_reg_same]
  · intro x s' h
    rw [modeAddress_dispBDef, State.setReg_reg_same, h]
  · intro x s' h
    rw [modeAddress_dispWDef, State.setReg_reg_same, h]
  · intro x s' h
    rw [modeAddress_dispLDef, State.setReg_reg_same, h]

/-- Settles O22: MOVAx, PUSHAx, JMP and JSB begin with the address of their operand. -/
theorem registersHaveNoAddress : Obligations.RegistersHaveNoAddress := by
  intro s n x v o dst hf ho
  have hno : NoAddress o := by
    rcases ho with rfl | rfl | rfl | rfl
    · exact .inl ⟨n, rfl⟩
    · exact .inr ⟨v, rfl⟩
    · exact .inl ⟨n, rfl⟩
    · exact .inr ⟨v, rfl⟩
  refine ⟨fun i hi => ?_, fun hgh i hi => ?_⟩
  · simp only [List.mem_cons, List.not_mem_nil, or_false] at hi
    rcases hi with rfl | rfl | rfl | rfl | rfl | rfl | rfl | rfl | rfl | rfl | rfl | rfl | rfl | rfl | rfl | rfl <;>
      exact execute_noAddress hno hf (.inl (by decide)) (by decide) _
  · simp only [List.mem_cons, List.not_mem_nil, or_false] at hi
    rcases hi with rfl | rfl | rfl | rfl <;> exact execute_noAddress hno hf (.inr hgh) (by decide) _

end Sys2Proof.Machine
end

section
/-! Where a modify operand reaches into a second page, the page table entries behind its two pages are looked up one after the other,
and the first lookup may change what the second one finds: on the V750 a read in ECC Disable Mode copies check bits to CSR1<6:0>
(61_platform_750.md R1162), and CSR1 may stand where a system page table entry is looked for (20_memory.md R281). The M bit that is
then set lies elsewhere than the lookups from the start would say. -/
namespace Sys2Proof.Machine

/-! ### Reads in ECC Disable Mode, 61_platform_750.md R1162 -/

/-- Bytes within one unit of check bits are one part. -/
theorem unitParts_single {u pa n : Nat} (h0 : 0 < n) (hn : n ≤ u - pa % u) : unitParts u n pa n = [(pa, n)] := by
  have hmin : min n (u - pa % u) = n := Nat.min_eq_left hn
  have hnone (more : Nat) : unitParts u more (pa + n) 0 = [] := by cases more <;> rfl
  cases n with
  | zero => exact absurd h0 (Nat.lt_irrefl 0)
  | succ k =>
    unfold unitParts
    rw [if_neg (Nat.succ_ne_zero k), hmin, Nat.sub_self, hnone]

/-- A read of good memory in ECC Disable Mode copies the check bits and changes nothing else. -/
theorem physRead_eccDisabled {s : State} {u : Use} {pa n : Nat} (hd : s.during = []) (hram : place s pa = .ram)
    (hbad : s.bad pa n = false) (hecc : s.eccDisabled pa = true) (h0 : 0 < n) (hn : n ≤ s.unit - pa % s.unit) :
    physRead u pa n s = .ok (s.ramValue pa n) (s.noteEcc pa) := by
  obtain ⟨hspoiled, hforced, hinit⟩ := (s.good_iff pa n).mp hbad
  have hspoiled' : (s.noteEcc pa).spoiled pa n = false := hspoiled
  have hforced' : (s.noteEcc pa).forced pa n = false := hforced
  have hread : (s.noteEcc pa).unreadable pa n = false := by simp [State.unreadable, hspoiled']
  rw [physRead_idle u pa n s hd]
  unfold physReadWhole
  rw [bind_of_ok _ (run_get s), splits_ram s pa n hram]
  unfold physReadPart
  simp only [Bool.false_eq_true, if_false]
  rw [bind_of_ok _ (run_get s)]
  simp only [hram]
  unfold ramRead
  rw [bind_of_ok _ (run_get s), if_pos (by simp [hecc]), bind_of_ok _ (run_modify _ s), State.answered_idle s pa n hinit,
    unitParts_single h0 hn]
  unfold ramReadParts
  rw [bind_of_ok _ (run_get _)]
  simp only [hread, hspoiled', hforced', Bool.false_eq_true, if_false]
  have hzero : s.ramValue pa n ||| 0#128 <<< (8 * n) = s.ramValue pa n := by simp
  exact congrArg (EStateM.Result.ok · _) hzero

/-! ### The walk where a fetch may change the state, 21_memory_management.md R360 to R365 -/

section
variable {s t u : State} {va x y : Long} {write : Bool} {mode p : Nat}

/-- The walk of process space fetches the system entry and then the entry. -/
theorem walk_fetches (h : field va 30 2 < 2) (hin : ¬ s.beyondTable va) (hspace : field (s.processPteVa va) 30 2 = 2)
    (hlength : field (s.processPteVa va) 9 21 < s.mm.slr.toNat) (hx : readPte (systemPte s (s.processPteVa va)) s = .ok x t)
    (hcode : field x 27 4 = 2) (hvalid : x.getLsbD 31 = true) (hp : pageAddress t.cfg x (s.processPteVa va) = p)
    (hy : readPte p t = .ok y u) :
    walk va write s = .ok ⟨y, p, some (systemPte s (s.processPteVa va))⟩ u := by
  have hsys : sysPte (s.processPteVa va) write true va s = .ok (x, systemPte s (s.processPteVa va)) t := by
    unfold sysPte
    rw [bind_of_ok _ (run_get s), if_neg (show ¬ s.mm.slr.toNat ≤ vpn (s.processPteVa va) from Nat.not_le.mpr hlength)]
    exact bind_of_ok _ hx
  rw [walk_withinTable h hin]
  show (if field (s.processPteVa va) 30 2 ≠ 2 then _ else _ : M Walk) s = _
  rw [if_neg (not_not.mpr hspace)]
  refine (bind_of_ok _ hsys).trans ?_
  dsimp only
  rw [if_neg (show ¬ pteProt x = 1 by rw [pteProt, hcode]; decide)]
  refine (run_entryTest _ _ _ _ _ t).trans ?_
  rw [if_neg (show ¬ accessAllowed (pteProt x) 0 false = false by rw [pteProt, hcode]; decide),
    if_neg (show ¬ pteValid x = false by simp [pteValid, hvalid]), bind_of_ok _ (run_get t)]
  subst hp
  exact bind_of_ok _ hy

theorem check_walk (hm : s.Maps) {sys : Option Nat} (hw : walk va write s = .ok ⟨y, p, sys⟩ u) (hcode : field y 27 4 ≠ 1) :
    check va write mode s =
      if accessAllowed (field y 27 4) mode write = false then .error (.exc (accessViolation va write false false)) u
      else if y.getLsbD 31 = false then .error (.exc (notValid va write false)) u
      else .ok ⟨pageAddress s.cfg y va, some ⟨y, p, sys⟩⟩ u := by
  obtain ⟨hmap, htb⟩ := hm
  unfold check
  rw [bind_of_ok _ (run_get s), if_neg (not_not.mpr hmap), if_neg (fun h => htb h.1 h.2)]
  refine (bind_of_ok _ hw).trans ?_
  dsimp only
  rw [if_neg (show ¬ pteProt y = 1 from hcode)]
  exact run_entryTest _ _ _ _ _ u
end

namespace CopiedCheckBits

/-- CSR1 as a page table entry with `b` for the low bits of its page frame number: valid, kernel write, M set. ECC Disable Mode is
on, Page Mode off. -/
def entry (b : BitVec 7) : Long := 0x96000F80 ||| b.setWidth 32

theorem entry_mode : ∀ b, (entry b).getLsbD 25 = true ∧ (entry b).getLsbD 26 = true ∧ (entry b).getLsbD 27 = false := by
  decide +kernel

theorem entry_pte : ∀ b, field (entry b) 27 4 = 2 ∧ (entry b).getLsbD 31 = true ∧ field (entry b) 0 15 = 0xF80 + b.toNat := by
  decide +kernel

theorem putField_entry (a : BitVec 7) (v : Long) : putField (entry a) 0 7 v = entry (v.setWidth 7) := by
  have hlow : ∀ i < 32, i < 7 → (0x96000F80 : Long).getLsbD i = false := by decide
  refine BitVec.eq_of_getLsbD_eq fun i hi => ?_
  rw [putField_getLsbD _ _ _ _ _ hi, entry, entry, BitVec.getLsbD_or, BitVec.getLsbD_or, BitVec.getLsbD_setWidth,
    BitVec.getLsbD_setWidth, BitVec.getLsbD_setWidth]
  by_cases h : i < 7
  · rw [if_pos ⟨Nat.zero_le i, by omega⟩, hlow i hi h]
    simp [h, hi]
  · rw [if_neg (by omega), BitVec.getLsbD_of_ge a i (by omega)]
    simp [h]

/-- The low bits of the free value that the first read of CSR1 takes for copied check bits. -/
def drawn : BitVec 7 := ((Config.unpred 0).setWidth 32).setWidth 7

/-- Where the page frame number of `entry b` puts the page table of process region 1. -/
@[irreducible] def table (b : BitVec 7) : Nat := (0xF80 + b.toNat) * 512

/-- The entries of region 0's last page at 4 and 20200, and that of region 1's first page in the page table that CSR1 gives with
the check bits copied to it. -/
def memory : Memory :=
  [(4, 1), (5, 1), (6, 1), (7, 0x90), (0x20200, 2), (0x20201, 1), (0x20202, 1), (0x20203, 0x94), (table drawn + 3, 0x90)]

/-- A V750 with mapping on whose system page table begins at CSR1; the PC is past the operand specifier. -/
def machine (copied : Bool) (b : BitVec 7) (d : Nat) (m : Memory) : State :=
  { State.reset with
    r := (Vector.replicate 16 0).set 15 5
    mm := ⟨0x86800004, 0x200000, 0x80000000, 0, 0xF20004, 0x40000, true⟩
    v750 := { V750.reset with csr1 := entry b, checkCopied := copied, battFail := false }
    mem := m
    draw := d }

/-- The last byte of region 0. -/
def lastByte : Long := 0x3FFFFFFF

variable {c : Bool} {b : BitVec 7} {d : Nat} {m : Memory} {pa n : Nat} {u : Use}

/-! ### References -/

theorem table_lt (b : BitVec 7) : 0x1F0000 ≤ table b ∧ table b + 512 ≤ 0x200000 := by
  have := b.isLt
  unfold table
  omega

theorem machine_place (h : pa < 0x200000) : place (machine c b d m) pa = .ram := by
  show place750 (machine c b d m) pa = .ram
  unfold place750
  rw [if_pos (show (machine c b d m).hasRam pa = true from decide_eq_true h)]

theorem machine_checkMode : (machine c b d m).checkMode pa = false := by
  obtain ⟨-, -, hpage⟩ := entry_mode b
  unfold State.checkMode
  simp only [machine, hpage, Bool.and_false, Bool.false_and]

theorem machine_eccDisabled : (machine c b d m).eccDisabled pa = true := by
  obtain ⟨hecc, -, hpage⟩ := entry_mode b
  unfold State.eccDisabled State.eccOff
  simp only [machine, hecc, hpage, Bool.not_false, Bool.true_or, Bool.and_true]
  rfl

theorem machine_forced : (machine c b d m).forced pa n = false := by
  have h (a : Nat) : (machine c b d m).forcedAt a = false := by
    unfold State.forcedAt
    rw [machine_checkMode]
    rfl
  unfold State.forced
  simp [h]

theorem machine_bad : (machine c b d m).bad pa n = false := by
  refine (State.good_iff _ pa n).mpr ⟨rfl, machine_forced, rfl⟩

/-- Memory is read as it is, and the check bits copied. -/
theorem read_memory (hpa : pa < 0x200000) (h0 : 0 < n) (hn : n ≤ 4 - pa % 4) :
    physRead u pa n (machine c b d m) = .ok ((machine c b d m).ramValue pa n) (machine true b d m) := by
  rw [physRead_eccDisabled rfl (machine_place hpa) machine_bad machine_eccDisabled h0 hn]
  unfold State.noteEcc
  rw [machine_eccDisabled]
  simp [machine, V750.copyCheck]

theorem read_csr1 : readPte 0xF20004 (machine false b d m) = .ok (entry b) (machine false b d m) := by
  have h : physRead .table 0xF20004 4 (machine false b d m) = .ok ((entry b).setWidth 128) (machine false b d m) := rfl
  unfold readPte
  rw [bind_of_ok _ h, run_pure, BitVec.setWidth_setWidth_of_le _ (by decide), BitVec.setWidth_eq]

theorem read_csr1_copied : readPte 0xF20004 (machine true b d m) =
    .ok (entry (((Config.unpred d).setWidth 32).setWidth 7)) (machine true b (d + 1) m) := by
  have h : physRead .table 0xF20004 4 (machine true b d m) =
    .ok ((putField (entry b) 0 7 ((Config.unpred d).setWidth 32)).setWidth 128) (machine true b (d + 1) m) := rfl
  unfold readPte
  rw [bind_of_ok _ h, run_pure, BitVec.setWidth_setWidth_of_le _ (by decide), BitVec.setWidth_eq, putField_entry]

theorem readPte_memory (hpa : pa < 0x200000) (halign : pa % 4 = 0) :
    readPte pa (machine c b d m) = .ok ((machine c b d m).longAt pa) (machine true b d m) := by
  unfold readPte
  rw [bind_of_ok _ (read_memory hpa (by decide) (by omega))]
  exact congrArg (EStateM.Result.ok · _) (BitVec.setWidth_ofNat_of_le (by decide) _)

theorem write_memory (hpa : pa < 0x200000) (v : Octa) :
    physWrite u pa 4 v (machine true b d m) = .ok ⟨⟩ (machine true b d (ramWrite m pa 4 v)) := by
  rw [physWrite_ram u pa 4 v _ rfl (machine_place hpa) machine_forced]
  unfold State.storeRam
  rw [State.answered_idle _ pa 4 rfl, machine_bad, machine_eccDisabled]
  cases coversLongword pa 4 <;> rfl

/-! ### The entries -/

theorem memory_wf : Memory.wf memory = true := by
  have := table_lt drawn
  have h : 0x20204 ≤ table drawn + 3 := by omega
  simp [Memory.wf, memory, Sparse.wfFrom, h]

theorem longAt_tables : (machine c b d memory).longAt 4 = 0x90010101 ∧ (machine c b d memory).longAt 0x20200 = 0x94010102 := by
  constructor <;> simp [State.longAt, machine, ramBytes, memory, Sparse.get, leNat]

theorem byte_table {a : Nat} (ha : 0x20204 ≤ a) : Sparse.get memory a = if a = table drawn + 3 then 0x90 else 0 := by
  have h (k : Nat) (hk : k < 0x20204) : a ≠ k := by omega
  simp only [memory, Sparse.get, h 4 (by decide), h 5 (by decide), h 6 (by decide), h 7 (by decide), h 0x20200 (by decide),
    h 0x20201 (by decide), h 0x20202 (by decide), h 0x20203 (by decide), if_false]

theorem longAt_table_drawn : (machine c b d memory).longAt (table drawn) = 0x90000000 := by
  have := table_lt drawn
  show BitVec.ofNat 32 (leNat (ramBytes memory (table drawn) 4)) = _
  simp only [ramBytes]
  rw [byte_table (by omega), byte_table (by omega), byte_table (by omega), byte_table (by omega), if_neg (by omega),
    if_neg (by omega), if_neg (by omega), if_pos (by omega)]
  rfl

theorem longAt_table_other (h : b ≠ drawn) : (machine c b d memory).longAt (table b) = 0 := by
  have := table_lt b
  have hne : b.toNat ≠ drawn.toNat := fun e => h (BitVec.eq_of_toNat_eq e)
  have hoff (k : Nat) (hk : k < 4) : ¬ table b + k = table drawn + 3 := by
    unfold table
    omega
  have h0 : ¬ table b = table drawn + 3 := Nat.add_zero (table b) ▸ hoff 0 (by decide)
  show BitVec.ofNat 32 (leNat (ramBytes memory (table b) 4)) = _
  simp only [ramBytes]
  rw [byte_table (by omega), byte_table (by omega), byte_table (by omega), byte_table (by omega), if_neg h0,
    if_neg (hoff 1 (by decide)), if_neg (hoff 2 (by decide)), if_neg (hoff 3 (by decide))]
  rfl

/-! ### The two pages -/

theorem machine_pageAddress (pte va : Long) :
    pageAddress (machine c b d m).cfg pte va = field pte 0 15 * 512 + field va 0 9 := rfl

theorem machine_beyondTable (va : Long) : (machine c b d m).beyondTable va ↔
    if field va 30 2 = 0 then 0x200000 ≤ field va 9 21 else field va 9 21 < 0 := Iff.rfl

theorem machine_maps : (machine c b d m).Maps := by
  refine ⟨rfl, fun _ => ?_⟩
  show field (V750.reset.tbdr) 0 2 ≠ 3
  decide

theorem machine_cur : (machine c b d m).cur = 0 := by
  show field State.reset.psl 24 2 = 0
  decide

theorem systemPte_lastByte : systemPte (machine c b d m) 0x87000000 = 4 := by
  show (0xF20004 / 4 * 4 + 4 * field (0x87000000 : Long) 9 21) % 2 ^ 24 = 4
  decide +kernel

theorem systemPte_next : systemPte (machine c b d m) 0x80000000 = 0xF20004 := by
  show (0xF20004 / 4 * 4 + 4 * field (0x80000000 : Long) 9 21) % 2 ^ 24 = 0xF20004
  decide +kernel

theorem readPte_lastByte : readPte 4 (machine c b d memory) = .ok 0x90010101 (machine true b d memory)
    ∧ readPte 0x20200 (machine c b d memory) = .ok 0x94010102 (machine true b d memory) := by
  obtain ⟨hsys, hpte⟩ := longAt_tables (c := c) (b := b) (d := d)
  constructor
  · rw [readPte_memory (by decide) (by decide), hsys]
  · rw [readPte_memory (by decide) (by decide), hpte]

theorem walk_lastByte : walk lastByte true (machine c b d memory) = .ok ⟨0x94010102, 0x20200, some 4⟩ (machine true b d memory) := by
  have hva : (machine c b d memory).processPteVa lastByte = 0x87000000 := by
    show (0x86800004 : Long) + BitVec.ofNat 32 (4 * field lastByte 9 21) = 0x87000000
    decide
  have hin : ¬ (machine c b d memory).beyondTable lastByte := by
    rw [machine_beyondTable]
    decide
  have hlength : field (0x87000000 : Long) 9 21 < 0x40000 := by decide
  have htable : field (0x90010101 : Long) 0 15 * 512 + field (0x87000000 : Long) 0 9 = 0x20200 := by decide
  have hw := walk_fetches (s := machine c b d memory) (va := lastByte) (write := true) (p := 0x20200)
    (by decide) hin (by rw [hva]; decide) (by rw [hva]; exact hlength)
    (by rw [hva, systemPte_lastByte]; exact readPte_lastByte.1) (by decide) (by decide)
    (by rw [hva, machine_pageAddress, htable]) readPte_lastByte.2
  rwa [hva, systemPte_lastByte] at hw

/-- The last byte of region 0 is in the page at 20400, whose entry has M set; the lookup copies check bits. -/
theorem check_lastByte : check lastByte true 0 (machine c b d memory) =
    .ok ⟨0x205FF, some ⟨0x94010102, 0x20200, some 4⟩⟩ (machine true b d memory) := by
  have hpage : field (0x94010102 : Long) 0 15 * 512 + field lastByte 0 9 = 0x205FF := by decide
  rw [check_walk machine_maps walk_lastByte (by decide), if_neg (by decide), if_neg (by decide), machine_pageAddress, hpage]

/-- Where CSR1 reads as `entry x` the entry of the next page is the first one of `table x`. -/
theorem walk_next {d' : Nat} {x : BitVec 7}
    (hx : readPte 0xF20004 (machine c b d memory) = .ok (entry x) (machine c b d' memory)) :
    walk 0x40000000 true (machine c b d memory) =
      .ok ⟨(machine c b d' memory).longAt (table x), table x, some 0xF20004⟩ (machine true b d' memory) := by
  obtain ⟨hcode, hvalid, hframe⟩ := entry_pte x
  have hva : (machine c b d memory).processPteVa 0x40000000 = 0x80000000 := rfl
  have hin : ¬ (machine c b d memory).beyondTable 0x40000000 := by
    rw [machine_beyondTable]
    decide
  have hlength : field (0x80000000 : Long) 9 21 < 0x40000 := by decide
  have htable : field (entry x) 0 15 * 512 + field (0x80000000 : Long) 0 9 = table x := by
    rw [hframe, show field (0x80000000 : Long) 0 9 = 0 by decide, table, Nat.add_zero]
  obtain ⟨-, hlt⟩ := table_lt x
  have hy := readPte_memory (c := c) (b := b) (d := d') (m := memory) (pa := table x) (by omega) (by unfold table; omega)
  have hw := walk_fetches (s := machine c b d memory) (va := 0x40000000) (write := true) (p := table x)
    (by decide) hin (by rw [hva]; decide) (by rw [hva]; exact hlength) (by rw [hva, systemPte_next]; exact hx)
    hcode hvalid (by rw [hva, machine_pageAddress, htable]) hy
  rwa [hva, systemPte_next] at hw

/-- Looked up first, CSR1 leads to a longword that forbids the access. -/
theorem check_next_first (h : b ≠ drawn) :
    ∃ e, check 0x40000000 true 0 (machine false b d memory) = .error e (machine true b d memory) := by
  have hw := walk_next (d := d) (b := b) read_csr1
  rw [longAt_table_other h] at hw
  rw [check_walk machine_maps hw (by decide), if_pos (by decide)]
  exact ⟨_, rfl⟩

/-- Looked up after other entries, CSR1 leads to the entry in memory. -/
theorem check_next_copied : check 0x40000000 true 0 (machine true b 0 memory) =
    .ok ⟨0, some ⟨0x90000000, table drawn, some 0xF20004⟩⟩ (machine true b 1 memory) := by
  have hw := walk_next (c := true) (b := b) (d := 0) (d' := 1) (x := drawn) read_csr1_copied
  rw [longAt_table_drawn] at hw
  have hpage : field (0x90000000 : Long) 0 15 * 512 + field (0x40000000 : Long) 0 9 = 0 := by decide
  rw [check_walk machine_maps hw (by decide), if_neg (by decide), if_neg (by decide),
    machine_pageAddress, hpage]

/-! ### The operand -/

/-- Memory once the M bit of the entry in `table drawn` is set. -/
def marked : Memory := ramWrite memory (table drawn) 4 ((0x94000000 : Long).setWidth 128)

/-- The next page's entry gets its M bit; CSR1 has its own set. -/
theorem commit_next : commit ⟨0, some ⟨0x90000000, table drawn, some 0xF20004⟩⟩ (machine true b 1 memory) =
    .ok ⟨⟩ (machine true b 2 marked) := by
  obtain ⟨-, hlt⟩ := table_lt drawn
  have hread := readPte_memory (c := true) (b := b) (d := 1) (m := memory) (pa := table drawn) (by omega)
    (by unfold table; omega)
  rw [longAt_table_drawn] at hread
  have hset : setPteM (table drawn) 0x90000000 (machine true b 1 memory) = .ok ⟨⟩ (machine true b 1 marked) :=
    write_memory (by omega) _
  have hmodified (x : BitVec 7) : pteModified (entry x) = true := (entry_mode x).2.1
  unfold commit
  dsimp only
  rw [if_neg (by decide), bind_of_ok _ hread, bind_of_ok _ hset, bind_of_ok _ read_csr1_copied, hmodified, if_neg (by simp)]
  rfl

theorem memDest_lastByte : memDest lastByte 2 (machine false b 0 memory) = .ok ⟨0x205FF, 1, 0⟩ (machine true b 2 marked) := by
  have hleft : leftInPage lastByte = 1 := by decide
  have hcur : (machine false b 0 memory).cur = 0 := machine_cur
  have hcommit : commit ⟨0x205FF, some ⟨0x94010102, 0x20200, some 4⟩⟩ (machine true b 1 memory) = .ok ⟨⟩ (machine true b 1 memory) :=
    commit_modified (by decide)
  have hnext : lastByte + BitVec.ofNat 32 1 = 0x40000000 := by decide
  unfold memDest
  rw [bind_of_ok _ (run_get _), hcur]
  unfold translateSpan
  dsimp only
  rw [hleft, if_neg (by decide), bind_of_ok _ (attempt_of_ok check_lastByte)]
  dsimp only
  rw [hnext, bind_of_ok _ (attempt_of_ok check_next_copied)]
  dsimp only
  rw [if_pos rfl]
  refine (bind_of_ok _ hcommit).trans ?_
  exact bind_of_ok _ commit_next

theorem readSpan_lastByte : ∃ v, readSpan .modify ⟨0x205FF, 1, 0⟩ 2 (machine true b d m) = .ok v (machine true b d m) := by
  have hsplit : noSplitDevice .modify ⟨0x205FF, 1, 0⟩ (machine true b d m) = .ok ⟨⟩ (machine true b d m) := by
    unfold noSplitDevice
    rw [bind_of_ok _ (run_get _), if_pos (show (machine true b d m).is750 = true from rfl)]
    dsimp only
    rw [machine_place (by decide), machine_place (by decide)]
    rfl
  have hread {pa : Nat} (hpa : pa < 0x200000) : physReadWhole .modify pa 1 (machine true b d m) =
      .ok ((machine true b d m).ramValue pa 1) (machine true b d m) :=
    (physRead_idle .modify pa 1 _ rfl).symm.trans (read_memory hpa (by decide) (by omega))
  rw [readSpan_idle .modify ⟨0x205FF, 1, 0⟩ 2 _ rfl (by decide), bind_of_ok _ hsplit]
  exact ⟨_, (bind_of_ok _ (hread (by decide))).trans (bind_of_ok _ (hread (by decide)))⟩

/-- The machine before the operand specifier. -/
def start (b : BitVec 7) : State := { machine false b 0 memory with r := Vector.replicate 16 0 }

theorem address_start : address (modifyUse .w) .w ⟨none, .absolute lastByte⟩ (start b) = .ok lastByte (machine false b 0 memory) :=
  rfl

theorem md_start : ∃ v, md .w ⟨none, .absolute lastByte⟩ (start b) = .ok v (machine true b 2 marked) := by
  obtain ⟨v, hread⟩ := readSpan_lastByte (b := b) (d := 2) (m := marked)
  unfold md mdAs
  dsimp only
  rw [bind_of_ok _ address_start]
  exact ⟨_, (bind_of_ok _ memDest_lastByte).trans (bind_of_ok _ hread)⟩

/-! ### The bytes that the lookups from the start name -/

theorem touched_lastByte (h : b ≠ drawn) {p : Nat} (hp : p ∈ (machine false b 0 memory).touched lastByte) : p < 0x20204 := by
  obtain ⟨e, hnext⟩ := check_next_first (d := 0) h
  have hcur : (machine false b 0 memory).cur = 0 := machine_cur
  have hleft : lastByte + BitVec.ofNat 32 (leftInPage lastByte) = 0x40000000 := by decide
  unfold State.touched State.pteBytes at hp
  rw [hcur, hleft, check_lastByte, hnext] at hp
  have hbytes : ∀ p ∈ (⟨0x205FF, some ⟨0x94010102, 0x20200, some 4⟩⟩ : Tran).pteBytes ++ [], p < 0x20204 := by decide
  exact hbytes p hp

theorem byte_marked : (machine c b d marked).byte (table drawn + 3) = 0x94 := by
  show Sparse.get (ramWrite memory (table drawn) 4 _) (table drawn + 3) = _
  rw [get_ramWrite _ _ _ _ _ memory_wf, if_pos (by omega), Nat.add_sub_cancel_left]
  decide

theorem byte_memory : (start b).byte (table drawn + 3) = 0x90 := by
  have := table_lt drawn
  show Sparse.get memory (table drawn + 3) = _
  rw [byte_table (by omega), if_pos rfl]

end CopiedCheckBits

open CopiedCheckBits

/-- Refutes O23: a word in the last byte of region 0 and the first of region 1, whose second lookup goes through CSR1, to which the
first one has copied check bits. The M bit set is not in the page table bytes that the lookups from the start name. -/
theorem not_operandsChangeOnlySteppedRegisters : ¬ Obligations.OperandsChangeOnlySteppedRegisters := by
  unfold Obligations.OperandsChangeOnlySteppedRegisters
  intro h
  have hb : ~~~ drawn ≠ drawn := fun e => by simpa using congrArg (BitVec.getLsbD · 0) e
  obtain ⟨v, hmd⟩ := md_start (b := ~~~ drawn)
  obtain ⟨-, -, -, -, hmodify⟩ := h (start (~~~ drawn)) (machine true (~~~ drawn) 2 marked) .w ⟨none, .absolute lastByte⟩
  obtain ⟨-, -, -, -, hbytes⟩ := hmodify v hmd
  have hlow (p : Nat) := touched_lastByte (p := p) hb
  have hkept := hbytes lastByte (machine false (~~~ drawn) 0 memory) memory_wf rfl address_start
    (fun p hp => machine_place (by have := hlow p hp; omega)) (table drawn + 3)
    fun hp => by
      have := hlow _ hp
      have := table_lt drawn
      omega
  rw [byte_marked, byte_memory] at hkept
  exact absurd hkept (by decide)

end Sys2Proof.Machine
end

section
/-! Integer results, 40_integer.md R460 to R463, R481, R495, R540, R547, R553, R590: what a `Res` of the model holds, in the exact
signed and unsigned arithmetic of the spec's rules. -/
namespace Sys2Proof.Machine

variable {w : Nat}

/-! ### Signed values in `w` bits -/

/-- A signed integer keeps its value in `w` bits when it is in their range. -/
theorem toInt_ofInt_eq_iff (hw : 0 < w) (p : Int) :
    (BitVec.ofInt w p).toInt = p ↔ -2 ^ (w - 1) ≤ p ∧ p < 2 ^ (w - 1) := by
  refine ⟨fun h => ?_, fun ⟨hlo, hhi⟩ => BitVec.toInt_ofInt_eq_self hw hlo hhi⟩
  rw [← h]
  exact ⟨BitVec.le_toInt _, BitVec.toInt_lt⟩

theorem two_pow_eq_double (hw : 0 < w) : (2 : Int) ^ w = 2 * 2 ^ (w - 1) := by
  rw [← pow_succ', Nat.sub_add_cancel hw]

/-- What one more bit would hold wraps around at most once. -/
theorem toInt_ofInt_wrap (hw : 0 < w) {p : Int} (hlo : -2 ^ w ≤ p) (hhi : p < 2 ^ w) :
    (BitVec.ofInt w p).toInt = if p < -2 ^ (w - 1) then p + 2 ^ w else if 2 ^ (w - 1) ≤ p then p - 2 ^ w else p := by
  have hp := two_pow_eq_double hw
  rw [BitVec.toInt_ofInt]
  split
  next h => rw [← Int.add_bmod_right, ← BitVec.toInt_ofInt, BitVec.toInt_ofInt_eq_self hw] <;> push_cast <;> omega
  next h =>
    split
    next h2 => rw [← Int.sub_bmod_right, ← BitVec.toInt_ofInt, BitVec.toInt_ofInt_eq_self hw] <;> push_cast <;> omega
    next h2 => rw [← BitVec.toInt_ofInt, BitVec.toInt_ofInt_eq_self hw] <;> omega

theorem boolToInt_bounds (c : Bool) : 0 ≤ c.toInt ∧ c.toInt ≤ 1 := by cases c <;> decide

theorem ofInt_boolToInt (c : Bool) : BitVec.ofInt w c.toInt = BitVec.ofNat w c.toNat := by cases c <;> simp

theorem ofNat_boolToNat (c : Bool) : BitVec.ofNat 32 c.toNat = bitL c := by cases c <;> rfl

/-! ### What a result holds -/

/-- A result, its V, its C from the old C, and its trap. -/
structure Res.Is (x : Res w) (r : BitVec w) (v : Bool) (c : Bool → Bool) (trap : Option Nat) : Prop where
  result : x.r = r
  overflow : x.v = v
  carry : ∀ old, x.c.getD old = c old
  trap : x.trap = trap

theorem Res.keepC_is (r : BitVec w) : (Res.keepC r).Is r false (fun c => c) none := ⟨rfl, rfl, fun _ => rfl, rfl⟩

theorem Res.clearVC_is (r : BitVec w) : (Res.clearVC r).Is r false (fun _ => false) none := ⟨rfl, rfl, fun _ => rfl, rfl⟩

theorem Res.ofInt_is (p : Int) :
    (Res.ofInt p : Res w).Is (BitVec.ofInt w p) (decide (p ≠ (BitVec.ofInt w p).toInt)) (fun _ => false) none :=
  ⟨rfl, decide_eq_decide.mpr ne_comm, fun _ => rfl, rfl⟩

/-! ### Sums and differences, R461 -/

theorem add_eq_ofInt (a b : BitVec w) (c : Bool) :
    a + b + BitVec.ofNat w c.toNat = BitVec.ofInt w (a.toInt + b.toInt + c.toInt) := by
  rw [BitVec.ofInt_add, BitVec.ofInt_add, BitVec.ofInt_toInt, BitVec.ofInt_toInt, ofInt_boolToInt]

/-- The signs tell an overflow: equal ones of the operands and another one of the sum. -/
theorem add_signs (hw : 0 < w) (a b r : BitVec w) (c : Bool) (hr : r = a + b + BitVec.ofNat w c.toNat) :
    (a.msb == b.msb && r.msb != a.msb) = decide (a.toInt + b.toInt + c.toInt ≠ r.toInt) := by
  have hp := two_pow_eq_double hw
  have hc := boolToInt_bounds c
  have ha := a.le_toInt
  have hb := b.le_toInt
  have ha' := a.toInt_lt
  have hb' := b.toInt_lt
  rw [hr, add_eq_ofInt, Bool.eq_iff_iff]
  simp only [BitVec.msb_eq_toInt, toInt_ofInt_wrap hw (p := a.toInt + b.toInt + c.toInt) (by omega) (by omega), Bool.and_eq_true,
    beq_iff_eq, bne_iff_ne, ne_eq, decide_eq_decide, decide_eq_true_iff]
  split <;> omega

theorem Res.add_is (hw : 0 < w) (a b : BitVec w) (c : Bool) :
    (Res.add a b c).Is (a + b + BitVec.ofNat w c.toNat)
      (decide (a.toInt + b.toInt + c.toInt ≠ (a + b + BitVec.ofNat w c.toNat).toInt))
      (fun _ => decide (2 ^ w ≤ a.toNat + b.toNat + c.toNat)) none := by
  have hr : (Res.add a b c).r = a + b + BitVec.ofNat w c.toNat := by
    unfold Res.add
    simp [BitVec.ofNat_add]
  exact ⟨hr, by rw [← hr]; exact add_signs hw a b _ c hr, fun _ => rfl, rfl⟩

theorem sub_eq_ofInt (a b : BitVec w) (c : Bool) :
    a - b - BitVec.ofNat w c.toNat = BitVec.ofInt w (a.toInt - b.toInt - c.toInt) := by
  rw [Int.sub_eq_add_neg, Int.sub_eq_add_neg, BitVec.ofInt_add, BitVec.ofInt_add, BitVec.ofInt_neg, BitVec.ofInt_neg, BitVec.ofInt_toInt,
    BitVec.ofInt_toInt, ofInt_boolToInt, ← BitVec.sub_eq_add_neg, ← BitVec.sub_eq_add_neg]

/-- The signs tell an overflow: different ones of the operands and another one of the difference than of the minuend. -/
theorem sub_signs (hw : 0 < w) (a b : BitVec w) (c : Bool) :
    (a.msb != b.msb && (a - b - BitVec.ofNat w c.toNat).msb != a.msb) =
      decide (a.toInt - b.toInt - c.toInt ≠ (a - b - BitVec.ofNat w c.toNat).toInt) := by
  have hp := two_pow_eq_double hw
  have hc := boolToInt_bounds c
  have ha := a.le_toInt
  have hb := b.le_toInt
  have ha' := a.toInt_lt
  have hb' := b.toInt_lt
  rw [sub_eq_ofInt, Bool.eq_iff_iff]
  simp only [BitVec.msb_eq_toInt, toInt_ofInt_wrap hw (p := a.toInt - b.toInt - c.toInt) (by omega) (by omega), Bool.and_eq_true,
    bne_iff_ne, ne_eq, decide_eq_decide, decide_eq_true_iff]
  split <;> omega

theorem Res.sub_is (hw : 0 < w) (a b : BitVec w) (c : Bool) :
    (Res.sub a b c).Is (a - b - BitVec.ofNat w c.toNat)
      (decide (a.toInt - b.toInt - c.toInt ≠ (a - b - BitVec.ofNat w c.toNat).toInt))
      (fun _ => decide (a.toNat < b.toNat + c.toNat)) none :=
  ⟨rfl, sub_signs hw a b c, fun _ => rfl, rfl⟩

/-- Without a carry in. -/
theorem Res.add_false_is (hw : 0 < w) (a b : BitVec w) :
    (Res.add a b false).Is (a + b) (decide (a.toInt + b.toInt ≠ (a + b).toInt)) (fun _ => decide (2 ^ w ≤ a.toNat + b.toNat)) none := by
  simpa using Res.add_is hw a b false

theorem Res.add_swap_is (hw : 0 < w) (a b : BitVec w) :
    (Res.add a b false).Is (b + a) (decide (b.toInt + a.toInt ≠ (b + a).toInt)) (fun _ => decide (2 ^ w ≤ b.toNat + a.toNat)) none := by
  have h := Res.add_false_is hw a b
  rwa [BitVec.add_comm a b, Int.add_comm a.toInt, Nat.add_comm a.toNat] at h

theorem Res.sub_false_is (hw : 0 < w) (a b : BitVec w) :
    (Res.sub a b false).Is (a - b) (decide (a.toInt - b.toInt ≠ (a - b).toInt)) (fun _ => decide (a.toNat < b.toNat)) none := by
  simpa using Res.sub_is hw a b false

/-- A sum or difference overflows when its exact value is out of range. -/
theorem ne_toInt_iff {r : BitVec w} (hw : 0 < w) {p : Int} (hr : r = BitVec.ofInt w p) :
    p ≠ r.toInt ↔ p < -2 ^ (w - 1) ∨ 2 ^ (w - 1) ≤ p := by
  rw [hr, ne_comm, Ne, toInt_ofInt_eq_iff hw]
  omega

theorem Res.increment_is (hw : 1 < w) (x : BitVec w) :
    (Res.add x 1 false).Is (x + 1) (decide (x.toInt = 2 ^ (w - 1) - 1)) (fun _ => decide (x.toNat = 2 ^ w - 1)) none := by
  have hsum := Res.add_false_is (Nat.zero_lt_of_lt hw) x 1
  have hone : (1 : BitVec w).toInt = 1 := BitVec.toInt_one hw
  have hone' : (1 : BitVec w).toNat = 1 := BitVec.toNat_one (Nat.zero_lt_of_lt hw)
  have hint : x + 1 = BitVec.ofInt w (x.toInt + 1) := by
    rw [BitVec.ofInt_add, BitVec.ofInt_toInt]
    rfl
  refine ⟨hsum.result, hsum.overflow.trans (decide_eq_decide.mpr ?_), fun old => (hsum.carry old).trans (decide_eq_decide.mpr ?_), rfl⟩
  · rw [hone, ne_toInt_iff (Nat.zero_lt_of_lt hw) hint]
    have := x.le_toInt
    have := x.toInt_lt
    omega
  · have := x.isLt
    omega

theorem Res.decrement_is (hw : 1 < w) (x : BitVec w) :
    (Res.sub x 1 false).Is (x - 1) (decide (x.toInt = -2 ^ (w - 1))) (fun _ => decide (x.toNat = 0)) none := by
  have hdif := Res.sub_false_is (Nat.zero_lt_of_lt hw) x 1
  have hone : (1 : BitVec w).toInt = 1 := BitVec.toInt_one hw
  have hone' : (1 : BitVec w).toNat = 1 := BitVec.toNat_one (Nat.zero_lt_of_lt hw)
  have hint : x - 1 = BitVec.ofInt w (x.toInt - 1) := by
    rw [Int.sub_eq_add_neg, BitVec.ofInt_add, BitVec.ofInt_neg, BitVec.ofInt_toInt, ← BitVec.sub_eq_add_neg]
    rfl
  refine ⟨hdif.result, hdif.overflow.trans (decide_eq_decide.mpr ?_), fun old => (hdif.carry old).trans (decide_eq_decide.mpr ?_), rfl⟩
  · rw [hone, ne_toInt_iff (Nat.zero_lt_of_lt hw) hint]
    have := x.le_toInt
    have := x.toInt_lt
    omega
  · omega

/-- Negation, R481: only the most negative integer has no negative. -/
theorem Res.neg_is (hw : 0 < w) (x : BitVec w) :
    (Res.neg x).Is (-x) (decide (x.toInt = -2 ^ (w - 1))) (fun _ => decide (x ≠ 0)) none := by
  refine ⟨rfl, (Res.sub_false_is hw 0 x).overflow.trans (decide_eq_decide.mpr ?_), fun _ => decide_eq_decide.mpr ?_, rfl⟩
  · have hint : 0 - x = BitVec.ofInt w (-x.toInt) := by
      rw [BitVec.ofInt_neg, BitVec.ofInt_toInt]
      exact BitVec.zero_sub x
    have hzero : (0 : BitVec w).toInt = 0 := BitVec.toInt_zero
    have := x.le_toInt
    have := x.toInt_lt
    rw [hzero, Int.zero_sub, ne_toInt_iff hw hint]
    omega
  · simp

/-! ### Products and quotients, R540, R547 -/

theorem Res.mul_is (a b : BitVec w) :
    (Res.mul a b).Is (a * b) (decide (a.toInt * b.toInt ≠ (a * b).toInt)) (fun _ => false) none := by
  have hr : BitVec.ofInt w (a.toInt * b.toInt) = a * b := by rw [BitVec.ofInt_mul, BitVec.ofInt_toInt, BitVec.ofInt_toInt]
  have h := Res.ofInt_is (w := w) (a.toInt * b.toInt)
  rwa [hr] at h

/-- The one quotient that does not fit is that of the most negative integer by -1. -/
theorem quotient_fits_iff (hw : 0 < w) (a b : BitVec w) :
    (BitVec.ofInt w (b.toInt.tdiv a.toInt)).toInt = b.toInt.tdiv a.toInt ↔ ¬ (b.toInt = -2 ^ (w - 1) ∧ a.toInt = -1) := by
  constructor
  · rintro hfits ⟨hb, ha⟩
    rw [hb, ha, toInt_ofInt_eq_iff hw, Int.tdiv_neg, Int.tdiv_one] at hfits
    omega
  · intro hno
    rw [BitVec.toInt_ofInt, ← BitVec.toInt_sdiv]
    apply BitVec.toInt_sdiv_of_ne_or_ne
    by_contra hboth
    rw [not_or, not_not, not_not] at hboth
    obtain ⟨rfl, rfl⟩ := hboth
    refine hno ⟨?_, ?_⟩
    · rw [BitVec.toInt_intMin, Nat.mod_eq_of_lt (Nat.pow_lt_pow_right (by decide) (by omega))]
      push_cast
      rfl
    · rw [BitVec.neg_one_eq_allOnes, BitVec.toInt_allOnes, if_pos hw]

theorem Res.div_is (hw : 0 < w) (a b : BitVec w) :
    (Res.div b a).Is (if divides a b then BitVec.ofInt w (b.toInt.tdiv a.toInt) else b) (!divides a b) (fun _ => false)
      (if a = 0 then some 2 else none) := by
  unfold Res.div
  by_cases ha : a = 0
  · have hd : divides a b = false := decide_eq_false fun h => h.1 ha
    rw [if_pos ha, if_pos ha, hd]
    exact ⟨rfl, rfl, fun _ => rfl, rfl⟩
  · rw [if_neg ha, if_neg ha]
    dsimp only
    by_cases hfits : (BitVec.ofInt w (b.toInt.tdiv a.toInt)).toInt = b.toInt.tdiv a.toInt
    · have hd : divides a b = true := decide_eq_true ⟨ha, (quotient_fits_iff hw a b).mp hfits⟩
      rw [if_pos hfits, hd]
      exact ⟨rfl, rfl, fun _ => rfl, rfl⟩
    · have hd : divides a b = false := decide_eq_false fun h => hfits ((quotient_fits_iff hw a b).mpr h.2)
      rw [if_neg hfits, hd]
      exact ⟨rfl, rfl, fun _ => rfl, rfl⟩

/-! ### Conversions, R490 to R498 -/

theorem Res.zeroExtend_is {n : Nat} (x : BitVec w) :
    (Res.keepC (x.setWidth n)).Is (BitVec.ofNat n x.toNat) false (fun c => c) none := by
  rw [BitVec.ofNat_toNat]
  exact Res.keepC_is _

/-- A widening conversion keeps the value. -/
theorem Res.widen_is {n : Nat} (h : w ≤ n) (x : BitVec w) :
    (Res.clearVC (x.signExtend n)).Is (BitVec.ofInt n x.toInt) (decide ((BitVec.ofInt n x.toInt).toInt ≠ x.toInt))
      (fun _ => false) none :=
  ⟨rfl, (decide_eq_false (not_not.mpr (BitVec.toInt_signExtend_of_le h))).symm, fun _ => rfl, rfl⟩

theorem Res.narrow_is {n : Nat} (h : n ≤ w) (x : BitVec w) :
    (Res.narrow n x).Is (BitVec.ofInt n x.toInt) (decide ((BitVec.ofInt n x.toInt).toInt ≠ x.toInt)) (fun _ => false) none := by
  have hr : x.setWidth n = BitVec.ofInt n x.toInt := (BitVec.signExtend_eq_setWidth_of_le x h).symm
  exact ⟨hr, by rw [← hr]; rfl, fun _ => rfl, rfl⟩

/-! ### Shifts and rotation, R590, R592 -/

/-- The source times a power of two, or divided by one and rounded down. -/
def shifted (n : Byte) (x : BitVec w) : BitVec w :=
  if 0 ≤ n.toInt then BitVec.ofInt w (x.toInt * 2 ^ n.toInt.toNat) else BitVec.ofInt w (x.toInt / 2 ^ (-n.toInt).toNat)

/-- The product does not fit. -/
def shiftLoses (n : Byte) (x : BitVec w) : Bool :=
  decide (0 ≤ n.toInt ∧ (shifted n x).toInt ≠ x.toInt * 2 ^ n.toInt.toNat)

theorem sshiftRight_eq_ofInt (x : BitVec w) (k : Nat) : x.sshiftRight k = BitVec.ofInt w (x.toInt / 2 ^ k) := by
  rw [← BitVec.ofInt_toInt (x := x.sshiftRight k), BitVec.toInt_sshiftRight, Int.shiftRight_eq_div_pow]
  norm_cast

theorem Res.ash_is (n : Byte) (x : BitVec w) : (Res.ash n x).Is (shifted n x) (shiftLoses n x) (fun _ => false) none := by
  unfold Res.ash shiftLoses shifted
  by_cases h : 0 ≤ n.toInt
  · simp only [h, if_true, true_and]
    exact ⟨rfl, rfl, fun _ => rfl, rfl⟩
  · simp only [h, if_false, false_and, decide_false]
    exact ⟨sshiftRight_eq_ofInt x _, rfl, fun _ => rfl, rfl⟩

/-- Rotating left by a signed count, modulo the width. -/
theorem rotateLeft_byte (n : Byte) (x : Long) :
    x.rotateLeft (n.toNat % 32) = (x <<< (n.toInt % 32).toNat) ||| (x >>> (32 - (n.toInt % 32).toNat)) := by
  have hcount : (n.toInt % 32).toNat = n.toNat % 32 := by
    have := n.isLt
    rw [BitVec.toInt_eq_toNat_cond]
    split <;> omega
  rw [BitVec.rotateLeft_def, hcount, Nat.mod_mod]

/-! ### Extended products and quotients, R546, R553 -/

theorem Res.emul_is (a b e : Long) :
    (Res.ofInt (a.toInt * b.toInt + e.toInt) : Res 64).Is (BitVec.ofInt 64 (a.toInt * b.toInt + e.toInt)) false (fun _ => false) none := by
  have hfits : (BitVec.ofInt 64 (a.toInt * b.toInt + e.toInt)).toInt = a.toInt * b.toInt + e.toInt := by
    have hlo := BitVec.le_toInt_mul_toInt (x := a) (y := b)
    have hhi := BitVec.toInt_mul_toInt_le (x := a) (y := b)
    have := e.le_toInt
    have := e.toInt_lt
    rw [toInt_ofInt_eq_iff (by decide)]
    omega
  exact ⟨rfl, decide_eq_false (not_not.mpr hfits), fun _ => rfl, rfl⟩

/-- The quotient of EDIV exists and fits. -/
def edivFits (a : Long) (b : Quad) : Bool :=
  decide (a ≠ 0 ∧ -2 ^ 31 ≤ b.toInt.tdiv a.toInt ∧ b.toInt.tdiv a.toInt < 2 ^ 31)

def edivQuotient (a : Long) (b : Quad) : Long := if edivFits a b then BitVec.ofInt 32 (b.toInt.tdiv a.toInt) else b.setWidth 32

def edivRemainder (a : Long) (b : Quad) : Long := if edivFits a b then BitVec.ofInt 32 (b.toInt.tmod a.toInt) else 0

theorem edivResult_is (a : Long) (b : Quad) :
    (edivResult a b).1.Is (edivQuotient a b) (!edivFits a b) (fun _ => false) (if a = 0 then some 2 else none)
      ∧ (edivResult a b).2 = edivRemainder a b := by
  unfold edivResult edivQuotient edivRemainder
  by_cases ha : a = 0
  · have hf : edivFits a b = false := decide_eq_false fun h => h.1 ha
    rw [if_pos ha, if_pos ha, hf]
    exact ⟨⟨rfl, rfl, fun _ => rfl, rfl⟩, rfl⟩
  · rw [if_neg ha, if_neg ha]
    by_cases hfits : (BitVec.ofInt 32 (b.toInt.tdiv a.toInt)).toInt = b.toInt.tdiv a.toInt
    · have hf : edivFits a b = true := decide_eq_true ⟨ha, (toInt_ofInt_eq_iff (by decide) _).mp hfits⟩
      rw [if_pos hfits, hf]
      exact ⟨⟨rfl, rfl, fun _ => rfl, rfl⟩, rfl⟩
    · have hf : edivFits a b = false := decide_eq_false fun h => hfits ((toInt_ofInt_eq_iff (by decide) _).mpr h.2)
      rw [if_neg hfits, hf]
      exact ⟨⟨rfl, rfl, fun _ => rfl, rfl⟩, rfl⟩

end Sys2Proof.Machine
end

section
/-! The integer instructions of one shape, 40_integer.md R470 to R498, R510 to R580: each row of the tables runs the meaning the model
gives its shape, with the result and condition codes of the row, and leaves the state settled so. -/
namespace Sys2Proof.Machine

/-! ### How an instruction ends -/

theorem execute_ready {op : Nat} {s : State} (h : Ready op s) (m : Meaning) : execute op m s = finish s (m (past op s)) := by
  obtain ⟨hfpd, hfloat, hmode⟩ := h
  exact execute_eq op m s hfpd hfloat hmode

/-- The state with the condition codes of a stored result and the trap that is due: `trap`, or that of an integer overflow, R462. -/
def State.settled {w : Nat} (s : State) (r : BitVec w) (v c : Bool) : Option Nat → State
  | some code => (s.flags r v c).trapped code
  | none => (s.flags r v c).trappedIf (v && s.iv) 1

section
variable {w : Nat} {s : State} {r : BitVec w} {v c : Bool}

theorem State.settled_quiet (h : (v && s.iv) = false) : s.settled r v c none = s.flags r v c := by
  show (s.flags r v c).trappedIf (v && s.iv) 1 = _
  rw [h]
  rfl

theorem State.settled_overflow (hv : v = true) (hiv : s.iv = true) : s.settled r v c none = (s.flags r v c).trapped 1 := by
  show (s.flags r v c).trappedIf (v && s.iv) 1 = _
  rw [hv, hiv]
  rfl

/-- The state a result leaves, whichever way its row states it. -/
theorem finish_setRes {x : Res w} {cf : Bool → Bool} {trap : Option Nat} (hx : x.Is r v cf trap) (start u : State) :
    finish start (setRes x u) = .next (u.settled r v (cf u.ccC) trap) := by
  obtain ⟨rfl, rfl, hcarry, rfl⟩ := hx
  rw [setRes_eq, hcarry]
  cases x.trap with
  | some code => rfl
  | none =>
    unfold State.settled State.trappedIf
    dsimp only
    split <;> rfl
end

/-! ### Sources and one destination: moves, negations, complements, conversions -/

/-- The row's instruction has the shape src, dst and stores the row's result. -/
def UnaryRow.Runs (e : UnaryRow) : Prop :=
  ∃ f : BitVec e.ts.bits → Res e.td.bits, (∀ src dst s, exec (e.mkI src dst) s = execute e.op (unary e.ts e.td f src dst) s)
    ∧ ∀ x, (f x).Is (e.r x) (e.v x) (e.c x) none

section
variable {op : Nat} {mk : Opnd → Opnd → Instr} {t ts td : DT}

theorem one_lt_bits (t : DT) : 1 < t.bits := by cases t <;> decide
theorem bits_pos (t : DT) : 0 < t.bits := Nat.zero_lt_of_lt (one_lt_bits t)

theorem moveRow_runs (h : ∀ src dst s, exec (mk src dst) s = execute op (mov t src dst) s) : (moveRow op mk t).Runs :=
  ⟨_, h, fun x => Res.keepC_is x⟩

theorem negateRow_runs (h : ∀ src dst s, exec (mk src dst) s = execute op (unary t t .neg src dst) s) :
    (negateRow op mk t).Runs :=
  ⟨_, h, fun x => Res.neg_is (bits_pos t) x⟩

theorem complementRow_runs (h : ∀ src dst s, exec (mk src dst) s = execute op (unary t t (fun x => .keepC (~~~x)) src dst) s) :
    (complementRow op mk t).Runs :=
  ⟨_, h, fun x => Res.keepC_is (~~~x)⟩

theorem zeroExtendRow_runs (h : ∀ src dst s, exec (mk src dst) s = execute op (movz ts td src dst) s) :
    (zeroExtendRow op mk ts td).Runs :=
  ⟨_, h, fun x => Res.zeroExtend_is x⟩

theorem widenRow_runs (hle : ts.bits ≤ td.bits) (h : ∀ src dst s, exec (mk src dst) s = execute op (widen ts td src dst) s) :
    (convertRow op mk ts td).Runs :=
  ⟨_, h, fun x => Res.widen_is hle x⟩

theorem narrowRow_runs (hle : td.bits ≤ ts.bits)
    (h : ∀ src dst s, exec (mk src dst) s = execute op (unary ts td (.narrow td.bits) src dst) s) : (convertRow op mk ts td).Runs :=
  ⟨_, h, fun x => Res.narrow_is hle x⟩
end

theorem unaryRows_run : ∀ e ∈ unaryRows, e.Runs := by
  unfold unaryRows
  simp only [List.forall_mem_cons]
  exact ⟨moveRow_runs fun _ _ _ => rfl, moveRow_runs fun _ _ _ => rfl, moveRow_runs fun _ _ _ => rfl, moveRow_runs fun _ _ _ => rfl,
    moveRow_runs fun _ _ _ => rfl, negateRow_runs fun _ _ _ => rfl, negateRow_runs fun _ _ _ => rfl, negateRow_runs fun _ _ _ => rfl,
    complementRow_runs fun _ _ _ => rfl, complementRow_runs fun _ _ _ => rfl, complementRow_runs fun _ _ _ => rfl,
    zeroExtendRow_runs fun _ _ _ => rfl, zeroExtendRow_runs fun _ _ _ => rfl, zeroExtendRow_runs fun _ _ _ => rfl,
    widenRow_runs (by decide) fun _ _ _ => rfl, widenRow_runs (by decide) fun _ _ _ => rfl,
    narrowRow_runs (by decide) fun _ _ _ => rfl, widenRow_runs (by decide) fun _ _ _ => rfl,
    narrowRow_runs (by decide) fun _ _ _ => rfl, narrowRow_runs (by decide) fun _ _ _ => rfl, List.forall_mem_nil _⟩

/-- How an instruction with one source and one destination leaves the machine. -/
theorem exec_unary {e : UnaryRow} (he : e ∈ unaryRows) {src dst : Opnd} {s s1 s2 s3 : State} {x : BitVec e.ts.bits} {d : Dest}
    (hready : Ready e.op s) (hsrc : rd e.ts src (past e.op s) = .ok x s1) (hdst : wr e.td dst s1 = .ok d s2)
    (hstore : store e.td d (e.r x) s2 = .ok ⟨⟩ s3) :
    exec (e.mkI src dst) s = .next (s3.settled (e.r x) (e.v x) (e.c x s3.ccC) none) := by
  obtain ⟨f, hexec, hf⟩ := unaryRows_run e he
  rw [← (hf x).result] at hstore
  rw [hexec, execute_ready hready, unary_ok _ _ f src dst hsrc hdst hstore, finish_setRes (hf x)]

/-! ### Two sources: arithmetic and logic -/

/-- The row's instructions have the shapes src, modified destination and src1, src2, dst, and store the row's result. -/
def BinaryRow.Runs (e : BinaryRow) : Prop :=
  ∃ f g : BitVec e.t.bits → BitVec e.t.bits → Res e.t.bits,
    (∀ src dst s, exec (e.mk2 src dst) s = execute e.op2 (binary2 e.t f src dst) s)
    ∧ (∀ src1 src2 dst s, exec (e.mk3 src1 src2 dst) s = execute e.op3 (binary3 e.t g src1 src2 dst) s)
    ∧ (∀ a b, (f a b).Is (e.r a b) (e.v a b) (e.c a b) (e.trap a b)) ∧ ∀ a b, (g a b).Is (e.r a b) (e.v a b) (e.c a b) (e.trap a b)

section
variable {op2 op3 : Nat} {mk2 : Opnd → Opnd → Instr} {mk3 : Opnd → Opnd → Opnd → Instr} {t : DT}

theorem addRow_runs (h2 : ∀ src dst s, exec (mk2 src dst) s = execute op2 (binary2 t (fun a y => .add y a false) src dst) s)
    (h3 : ∀ a b dst s, exec (mk3 a b dst) s = execute op3 (binary3 t (fun a b => .add a b false) a b dst) s) :
    (addRow op2 op3 mk2 mk3 t).Runs :=
  ⟨_, _, h2, h3, fun a b => Res.add_false_is (bits_pos t) b a, fun a b => Res.add_swap_is (bits_pos t) a b⟩

theorem subtractRow_runs (h2 : ∀ src dst s, exec (mk2 src dst) s = execute op2 (binary2 t (fun a y => .sub y a false) src dst) s)
    (h3 : ∀ a b dst s, exec (mk3 a b dst) s = execute op3 (binary3 t (fun a b => .sub b a false) a b dst) s) :
    (subtractRow op2 op3 mk2 mk3 t).Runs :=
  ⟨_, _, h2, h3, fun a b => Res.sub_false_is (bits_pos t) b a, fun a b => Res.sub_false_is (bits_pos t) b a⟩

theorem multiplyRow_runs (h2 : ∀ src dst s, exec (mk2 src dst) s = execute op2 (binary2 t (fun a y => .mul y a) src dst) s)
    (h3 : ∀ a b dst s, exec (mk3 a b dst) s = execute op3 (binary3 t (fun a b => .mul b a) a b dst) s) :
    (multiplyRow op2 op3 mk2 mk3 t).Runs :=
  ⟨_, _, h2, h3, fun a b => Res.mul_is b a, fun a b => Res.mul_is b a⟩

theorem divideRow_runs (h2 : ∀ src dst s, exec (mk2 src dst) s = execute op2 (binary2 t (fun a y => .div y a) src dst) s)
    (h3 : ∀ a b dst s, exec (mk3 a b dst) s = execute op3 (binary3 t (fun a b => .div b a) a b dst) s) :
    (divideRow op2 op3 mk2 mk3 t).Runs :=
  ⟨_, _, h2, h3, fun a b => Res.div_is (bits_pos t) a b, fun a b => Res.div_is (bits_pos t) a b⟩

/-- A logical instruction works bit by bit. -/
theorem bitRow_runs {f : Bool → Bool → Bool} (op : BitVec t.bits → BitVec t.bits → BitVec t.bits)
    (hop : ∀ (m x : BitVec t.bits) (i : Nat) (hi : i < t.bits), (op m x)[i] = f m[i] x[i])
    (h2 : ∀ src dst s, exec (mk2 src dst) s = execute op2 (binary2 t (fun m x => .keepC (op m x)) src dst) s)
    (h3 : ∀ a b dst s, exec (mk3 a b dst) s = execute op3 (binary3 t (fun m x => .keepC (op m x)) a b dst) s) :
    (bitRow f op2 op3 mk2 mk3 t).Runs := by
  have hbits (m x : BitVec t.bits) : op m x = BitVec.ofFnLE fun i => f (m.getLsb i) (x.getLsb i) :=
    BitVec.eq_of_getElem_eq fun i hi => by
      rw [BitVec.getElem_ofFnLE]
      exact hop m x i hi
  have hres (m x : BitVec t.bits) :
      (Res.keepC (op m x)).Is (BitVec.ofFnLE fun i => f (m.getLsb i) (x.getLsb i)) false (fun c => c) none := by
    rw [← hbits m x]
    exact Res.keepC_is _
  exact ⟨_, _, h2, h3, hres, hres⟩

theorem bitSetRow_runs (h2 : ∀ src dst s, exec (mk2 src dst) s = execute op2 (binary2 t (fun m y => .keepC (y ||| m)) src dst) s)
    (h3 : ∀ a b dst s, exec (mk3 a b dst) s = execute op3 (binary3 t (fun m x => .keepC (x ||| m)) a b dst) s) :
    (bitRow (fun m x => x || m) op2 op3 mk2 mk3 t).Runs :=
  bitRow_runs (fun m x => x ||| m) (fun _ _ _ _ => BitVec.getElem_or ..) h2 h3

theorem bitClearRow_runs (h2 : ∀ src dst s, exec (mk2 src dst) s = execute op2 (binary2 t (fun m y => .keepC (y &&& ~~~m)) src dst) s)
    (h3 : ∀ a b dst s, exec (mk3 a b dst) s = execute op3 (binary3 t (fun m x => .keepC (x &&& ~~~m)) a b dst) s) :
    (bitRow (fun m x => x && !m) op2 op3 mk2 mk3 t).Runs :=
  bitRow_runs (fun m x => x &&& ~~~m) (fun _ _ _ _ => by rw [BitVec.getElem_and, BitVec.getElem_not]) h2 h3

theorem bitXorRow_runs (h2 : ∀ src dst s, exec (mk2 src dst) s = execute op2 (binary2 t (fun m y => .keepC (y ^^^ m)) src dst) s)
    (h3 : ∀ a b dst s, exec (mk3 a b dst) s = execute op3 (binary3 t (fun m x => .keepC (x ^^^ m)) a b dst) s) :
    (bitRow (fun m x => xor x m) op2 op3 mk2 mk3 t).Runs :=
  bitRow_runs (fun m x => x ^^^ m) (fun _ _ _ _ => BitVec.getElem_xor ..) h2 h3
end

theorem binaryRows_run : ∀ e ∈ binaryRows, e.Runs := by
  unfold binaryRows
  simp only [List.forall_mem_cons]
  exact ⟨addRow_runs (fun _ _ _ => rfl) fun _ _ _ _ => rfl, addRow_runs (fun _ _ _ => rfl) fun _ _ _ _ => rfl,
    addRow_runs (fun _ _ _ => rfl) fun _ _ _ _ => rfl, subtractRow_runs (fun _ _ _ => rfl) fun _ _ _ _ => rfl,
    subtractRow_runs (fun _ _ _ => rfl) fun _ _ _ _ => rfl, subtractRow_runs (fun _ _ _ => rfl) fun _ _ _ _ => rfl,
    multiplyRow_runs (fun _ _ _ => rfl) fun _ _ _ _ => rfl, multiplyRow_runs (fun _ _ _ => rfl) fun _ _ _ _ => rfl,
    multiplyRow_runs (fun _ _ _ => rfl) fun _ _ _ _ => rfl, divideRow_runs (fun _ _ _ => rfl) fun _ _ _ _ => rfl,
    divideRow_runs (fun _ _ _ => rfl) fun _ _ _ _ => rfl, divideRow_runs (fun _ _ _ => rfl) fun _ _ _ _ => rfl,
    bitSetRow_runs (fun _ _ _ => rfl) fun _ _ _ _ => rfl, bitSetRow_runs (fun _ _ _ => rfl) fun _ _ _ _ => rfl,
    bitSetRow_runs (fun _ _ _ => rfl) fun _ _ _ _ => rfl, bitClearRow_runs (fun _ _ _ => rfl) fun _ _ _ _ => rfl,
    bitClearRow_runs (fun _ _ _ => rfl) fun _ _ _ _ => rfl, bitClearRow_runs (fun _ _ _ => rfl) fun _ _ _ _ => rfl,
    bitXorRow_runs (fun _ _ _ => rfl) fun _ _ _ _ => rfl, bitXorRow_runs (fun _ _ _ => rfl) fun _ _ _ _ => rfl,
    bitXorRow_runs (fun _ _ _ => rfl) fun _ _ _ _ => rfl, List.forall_mem_nil _⟩

section
variable {e : BinaryRow} {a b : BitVec e.t.bits} {d : Dest} {s s1 s2 s3 s4 : State}

/-- How a two-operand instruction leaves the machine. -/
theorem exec_binary2 (he : e ∈ binaryRows) {src dst : Opnd} (hready : Ready e.op2 s) (hsrc : rd e.t src (past e.op2 s) = .ok a s1)
    (hdst : md e.t dst s1 = .ok (d, b) s2) (hstore : store e.t d (e.r a b) s2 = .ok ⟨⟩ s3) :
    exec (e.mk2 src dst) s = .next (s3.settled (e.r a b) (e.v a b) (e.c a b s3.ccC) (e.trap a b)) := by
  obtain ⟨f, -, hexec, -, hf, -⟩ := binaryRows_run e he
  rw [← (hf a b).result] at hstore
  rw [hexec, execute_ready hready, binary2_ok _ f src dst hsrc hdst hstore, finish_setRes (hf a b)]

/-- How a three-operand instruction leaves the machine. -/
theorem exec_binary3 (he : e ∈ binaryRows) {src1 src2 dst : Opnd} (hready : Ready e.op3 s)
    (hsrc1 : rd e.t src1 (past e.op3 s) = .ok a s1) (hsrc2 : rd e.t src2 s1 = .ok b s2) (hdst : wr e.t dst s2 = .ok d s3)
    (hstore : store e.t d (e.r a b) s3 = .ok ⟨⟩ s4) :
    exec (e.mk3 src1 src2 dst) s = .next (s4.settled (e.r a b) (e.v a b) (e.c a b s4.ccC) (e.trap a b)) := by
  obtain ⟨-, g, -, hexec, -, hg⟩ := binaryRows_run e he
  rw [← (hg a b).result] at hstore
  rw [hexec, execute_ready hready, binary3_ok _ g src1 src2 dst hsrc1 hsrc2 hdst hstore, finish_setRes (hg a b)]
end

/-! ### One modified operand, and the operations with carry -/

/-- The row's instruction modifies its operand to the row's result. -/
def StepRow.Runs (e : StepRow) : Prop :=
  ∃ f : BitVec e.t.bits → Res e.t.bits, (∀ dst s, exec (e.mkI dst) s = execute e.op (modify1 e.t f dst) s)
    ∧ ∀ x, (f x).Is (e.r x) (e.v x) (fun _ => e.c x) none

section
variable {op : Nat} {mk : Opnd → Instr} {t : DT}

theorem incrementRow_runs (h : ∀ dst s, exec (mk dst) s = execute op (modify1 t (fun y => .add y 1 false) dst) s) :
    (incrementRow op mk t).Runs :=
  ⟨_, h, fun x => Res.increment_is (one_lt_bits t) x⟩

theorem decrementRow_runs (h : ∀ dst s, exec (mk dst) s = execute op (modify1 t (fun y => .sub y 1 false) dst) s) :
    (decrementRow op mk t).Runs :=
  ⟨_, h, fun x => Res.decrement_is (one_lt_bits t) x⟩
end

theorem stepRows_run : ∀ e ∈ stepRows, e.Runs := by
  unfold stepRows
  simp only [List.forall_mem_cons]
  exact ⟨incrementRow_runs fun _ _ => rfl, incrementRow_runs fun _ _ => rfl, incrementRow_runs fun _ _ => rfl,
    decrementRow_runs fun _ _ => rfl, decrementRow_runs fun _ _ => rfl, decrementRow_runs fun _ _ => rfl, List.forall_mem_nil _⟩

/-- How an increment or decrement leaves the machine. -/
theorem exec_step {e : StepRow} (he : e ∈ stepRows) {dst : Opnd} {s s1 s2 : State} {x : BitVec e.t.bits} {d : Dest}
    (hready : Ready e.op s) (hdst : md e.t dst (past e.op s) = .ok (d, x) s1) (hstore : store e.t d (e.r x) s1 = .ok ⟨⟩ s2) :
    exec (e.mkI dst) s = .next (s2.settled (e.r x) (e.v x) (e.c x) none) := by
  obtain ⟨f, hexec, hf⟩ := stepRows_run e he
  rw [← (hf x).result] at hstore
  rw [hexec, execute_ready hready, modify1_ok _ f dst hdst hstore, finish_setRes (hf x)]

section
variable {src dst : Opnd} {a b : Long} {d : Dest} {s s1 s2 s3 : State}

theorem withCarry_ok (f : Long → Long → Bool → Res 32) (hsrc : rd .l src s = .ok a s1) (hdst : md .l dst s1 = .ok (d, b) s2)
    (hstore : store .l d (f b a s2.ccC).r s2 = .ok ⟨⟩ s3) : withCarry f src dst s = setRes (f b a s2.ccC) s3 := by
  unfold withCarry
  rw [bind_of_ok _ hsrc, bind_of_ok _ hdst]
  exact storeRes_ok .l d _ hstore

/-- How ADWC leaves the machine, R516. -/
theorem exec_adwc (hready : Ready 0xD8 s) (hsrc : rd .l src (past 0xD8 s) = .ok a s1) (hdst : md .l dst s1 = .ok (d, b) s2)
    (hstore : store .l d (b + a + bitL s2.ccC) s2 = .ok ⟨⟩ s3) :
    exec (.adwc src dst) s = .next (s3.settled (b + a + bitL s2.ccC)
      (decide (b.toInt + a.toInt + s2.ccC.toInt ≠ (b + a + bitL s2.ccC).toInt))
      (decide (2 ^ 32 ≤ b.toNat + a.toNat + s2.ccC.toNat)) none) := by
  have hsum := Res.add_is (w := 32) (by decide) b a s2.ccC
  rw [ofNat_boolToNat] at hsum
  rw [← hsum.result] at hstore
  show execute 0xD8 (withCarry .add src dst) s = _
  rw [execute_ready hready, withCarry_ok .add hsrc hdst hstore, finish_setRes hsum]

/-- How SBWC leaves the machine, R530. -/
theorem exec_sbwc (hready : Ready 0xD9 s) (hsrc : rd .l src (past 0xD9 s) = .ok a s1) (hdst : md .l dst s1 = .ok (d, b) s2)
    (hstore : store .l d (b - a - bitL s2.ccC) s2 = .ok ⟨⟩ s3) :
    exec (.sbwc src dst) s = .next (s3.settled (b - a - bitL s2.ccC)
      (decide (b.toInt - a.toInt - s2.ccC.toInt ≠ (b - a - bitL s2.ccC).toInt))
      (decide (b.toNat < a.toNat + s2.ccC.toNat)) none) := by
  have hdif := Res.sub_is (w := 32) (by decide) b a s2.ccC
  rw [ofNat_boolToNat] at hdif
  rw [← hdif.result] at hstore
  show execute 0xD9 (withCarry .sub src dst) s = _
  rw [execute_ready hready, withCarry_ok .sub hsrc hdst hstore, finish_setRes hdif]
end

/-! ### The statements -/

/-- Settles O25. -/
theorem unaryIntegerResults : Obligations.UnaryIntegerResults := by
  intro e he src dst s s1 s2 s3 x d hready hsrc hdst hstore
  exact exec_unary he hready hsrc hdst hstore

/-- Settles O26. -/
theorem twoOperandIntegerResults : Obligations.TwoOperandIntegerResults := by
  intro e he src dst s s1 s2 s3 a b d hready hsrc hdst hstore htrap hquiet
  rw [exec_binary2 he hready hsrc hdst hstore, htrap, State.settled_quiet hquiet]

/-- Settles O27. -/
theorem threeOperandIntegerResults : Obligations.ThreeOperandIntegerResults := by
  intro e he src1 src2 dst s s1 s2 s3 s4 a b d hready hsrc1 hsrc2 hdst hstore htrap hquiet
  rw [exec_binary3 he hready hsrc1 hsrc2 hdst hstore, htrap, State.settled_quiet hquiet]

/-- Settles O28. -/
theorem incrementDecrementAndCarryResults : Obligations.IncrementDecrementAndCarryResults := by
  refine ⟨fun e he dst s s1 s2 x d hready hdst hstore hquiet => ?_, fun src dst s s1 s2 s3 a b d hready hsrc hdst hstore hquiet => ?_,
    fun src dst s s1 s2 s3 a b d hready hsrc hdst hstore hquiet => ?_⟩
  · rw [exec_step he hready hdst hstore, State.settled_quiet hquiet]
  · rw [exec_adwc hready hsrc hdst hstore, State.settled_quiet hquiet]
  · rw [exec_sbwc hready hsrc hdst hstore, State.settled_quiet hquiet]

end Sys2Proof.Machine
end

section
/-! What the evaluation of a read operand leaves as it was, 30_encoding.md R413 to R424: all but the PC, the register the specifier steps
and what a read may do to devices. -/
namespace Sys2Proof.Machine

/-- Only the PC, the registers `regs`, device registers, what was sent and the count of free values may differ. -/
structure State.Reads (s : State) (regs : List Reg) (t : State) : Prop where
  rest : t = { s with r := t.r, v750 := t.v750, v780 := t.v780, mbas := t.mbas, sent := t.sent, draw := t.draw }
  regs : ∀ n : Reg, n ≠ 15 → n ∉ regs → t.reg n = s.reg n

theorem State.Reads.refl (s : State) (regs : List Reg) : s.Reads regs s := ⟨rfl, fun _ _ _ => rfl⟩

theorem State.Reads.trans {s t u : State} {l m : List Reg} (h : s.Reads l t) (k : t.Reads m u) : s.Reads (l ++ m) u := by
  refine ⟨?_, fun n hpc hn => ?_⟩
  · rw [k.rest, h.rest]
  · rw [List.mem_append, not_or] at hn
    exact (k.regs n hpc hn.2).trans (h.regs n hpc hn.1)

theorem State.Reads.during {s t : State} {regs : List Reg} (h : s.Reads regs t) : t.during = s.during := by rw [h.rest]

theorem State.Reads.psl {s t : State} {regs : List Reg} (h : s.Reads regs t) : t.psl = s.psl := by rw [h.rest]

theorem State.Reads.setReg {s t : State} {regs : List Reg} (h : s.Reads regs t) {n : Reg} (hn : n = 15 ∨ n ∈ regs) (v : Long) :
    s.Reads regs (t.setReg n v) := by
  refine ⟨?_, fun k hpc hk => ?_⟩
  · rw [h.rest]
    rfl
  · have hne : n ≠ k := by
      rintro rfl
      exact hn.elim hpc hk
    rw [t.setReg_reg_ne v hne]
    exact h.regs k hpc hk

section
variable {s : State} {regs : List Reg} {P : State → Prop}

/-- Where no other agent's cycle is to come, a read's cycles keep to that frame. -/
theorem cycleClosed_reads (hd : s.during = []) : CycleClosed (s.Reads regs) where
  devices t _ _ _ _ _ h := ⟨by rw [h.rest], h.regs⟩
  moves held := keeps_meanwhile_idle held fun _ h => h.during.trans hd

/-! ### Reads from memory set no M bit, 21_memory_management.md R356 -/

theorem keeps_translate_read (va : Long) (mode : Nat) (h : CycleClosed P) : Keeps P (translate va false mode) := by
  unfold translate
  exact Keeps.bind (keeps_check _ _ _ h) fun _ => Keeps.pure _

theorem keeps_translateSpan_read (va : Long) (n mode : Nat) (h : CycleClosed P) : Keeps P (translateSpan va n false mode) := by
  have hcheck (a : Long) : Keeps P (attempt (check a false mode)) := Keeps.attempt (keeps_check a false mode h)
  unfold translateSpan
  dsimp only
  split
  · exact Keeps.bind (keeps_translate_read va mode h) fun _ => Keeps.pure _
  · refine Keeps.bind (hcheck va) fun first => ?_
    cases first with
    | error e => exact Keeps.throw e
    | ok t0 =>
      refine Keeps.bind (hcheck _) fun second => ?_
      cases second with
      | error e => exact Keeps.throw e
      | ok t1 => exact Keeps.pure _

theorem keeps_memRead_read (u : Use) (va : Long) (n : Nat) (h : CycleClosed P) : Keeps P (memRead u va n) := by
  unfold memRead
  exact Keeps.bindGet fun s _ => Keeps.bind (keeps_translateSpan_read va n s.cur h) fun sp => keeps_readSpan u sp n h

/-! ### Operands -/

theorem reads_setReg {n : Reg} (hn : n = 15 ∨ n ∈ regs) (v : Long) : Keeps (s.Reads regs) (setR n v) :=
  ⟨fun _ h => h.setReg hn v⟩

theorem reads_adv (k : Nat) : Keeps (s.Reads regs) (adv k) := ⟨fun _ h => h.setReg (.inl rfl) _⟩

theorem reads_pointer (hd : s.during = []) (u : Use) (va : Long) : Keeps (s.Reads regs) (pointer u va) := by
  unfold pointer
  exact Keeps.bind (keeps_memRead_read _ va 4 (cycleClosed_reads hd)) fun _ => Keeps.pure _

/-- Only the modes that step a register write one, and that one. -/
theorem reads_modeAddress (hd : s.during = []) (u : Use) (t : DT) (o : Opnd) :
    Keeps (s.Reads (stepped o)) (modeAddress u t o.mode) := by
  have hread (n : Reg) : Keeps (s.Reads (stepped o)) (getR n) := keeps_getR n
  have hstep (n : Reg) (v : Long) (hn : n ∈ stepped o) : Keeps (s.Reads (stepped o)) (setR n v) := reads_setReg (.inr hn) v
  unfold modeAddress
  cases hm : o.mode with
  | lit | index | reg => exact Keeps.raise _
  | regDef n => exact Keeps.bind (keeps_notPC n) fun _ => Keeps.bind (reads_adv 1) fun _ => hread n
  | autoDec n | autoInc n =>
    have hn : n ∈ stepped o := by simp [stepped, hm]
    exact Keeps.bind (keeps_notPC n) fun _ => Keeps.bind (reads_adv 1) fun _ => Keeps.bind (hread n) fun _ =>
      Keeps.bind (hstep n _ hn) fun _ => Keeps.pure _
  | autoIncDef n =>
    have hn : n ∈ stepped o := by simp [stepped, hm]
    exact Keeps.bind (keeps_notPC n) fun _ => Keeps.bind (reads_adv 1) fun _ => Keeps.bind (hread n) fun _ =>
      Keeps.bind (reads_pointer hd u _) fun _ => Keeps.bind (hstep n _ hn) fun _ => Keeps.pure _
  | imm => exact Keeps.bind keeps_getPC fun _ => Keeps.bind (reads_adv _) fun _ => Keeps.pure _
  | absolute => exact Keeps.bind (reads_adv 5) fun _ => Keeps.pure _
  | dispB n | dispW n | dispL n => exact Keeps.bind (reads_adv _) fun _ => Keeps.bind (hread n) fun _ => Keeps.pure _
  | dispBDef n | dispWDef n | dispLDef n =>
    exact Keeps.bind (reads_adv _) fun _ => Keeps.bind (hread n) fun _ => reads_pointer hd u _

theorem reads_address (hd : s.during = []) (u : Use) (t : DT) (o : Opnd) : Keeps (s.Reads (stepped o)) (address u t o) := by
  unfold address
  split
  · exact reads_modeAddress hd u t o
  next x _ =>
    exact Keeps.bind (keeps_checkBase x o.mode) fun _ => Keeps.bind (reads_adv 1) fun _ =>
      Keeps.bind (reads_modeAddress hd u t o) fun _ => Keeps.bind (keeps_getR x) fun _ => Keeps.pure _

theorem reads_rd (hd : s.during = []) (t : DT) (o : Opnd) : Keeps (s.Reads (stepped o)) (rd t o) := by
  unfold rd rdAs
  split
  · exact Keeps.bind (reads_adv 1) fun _ => Keeps.pure _
  next n _ _ => exact Keeps.bind (keeps_checkReg t n) fun _ => Keeps.bind (reads_adv 1) fun _ => Keeps.bindGet fun _ _ => Keeps.pure _
  · exact Keeps.bind (reads_adv _) fun _ => Keeps.pure _
  · exact Keeps.bind (reads_address hd _ t o) fun a =>
      Keeps.bind (keeps_memRead_read _ a t.len (cycleClosed_reads hd)) fun _ => Keeps.pure _
end

/-- A read operand that is evaluated. -/
theorem rd_reads {t : DT} {o : Opnd} {s s' : State} {v : BitVec t.bits} (hd : s.during = []) (h : rd t o s = .ok v s') :
    s.Reads (stepped o) s' :=
  (reads_rd hd t o).of_ok h (State.Reads.refl s _)

theorem past_reads (op : Nat) (s : State) : s.Reads [] (past op s) := (State.Reads.refl s []).setReg (.inl rfl) _

/-- New condition codes are no other bits of the PSL, 10_state.md R40. -/
theorem State.withCC_psl_rest (s : State) (n z v c : Bool) : (s.withCC n z v c).psl &&& 0xFFFFFFF0 = s.psl &&& 0xFFFFFFF0 := by
  refine BitVec.eq_of_getLsbD_eq fun i hi => ?_
  have hmask : ∀ i < 32, i < 4 → (0xFFFFFFF0 : Long).getLsbD i = false := by decide
  unfold State.withCC
  rw [BitVec.getLsbD_and, BitVec.getLsbD_and, putField_getLsbD _ _ _ _ _ hi]
  by_cases h4 : i < 4
  · rw [hmask i hi h4, Bool.and_false, Bool.and_false]
  · rw [if_neg (by omega)]

/-- What reads operands and then sets the condition codes keeps to the frame of reads. -/
theorem State.Reads.readFrame {s t : State} {regs : List Reg} (h : s.during = [] → s.Reads regs t) (n z v c : Bool) :
    s.ReadFrame (t.withCC n z v c) regs := by
  intro hd
  have hr := h hd
  refine ⟨?_, fun k hpc hk => hr.regs k hpc hk, ?_⟩
  · rw [hr.rest]
    rfl
  · rw [State.withCC_psl_rest, hr.psl]

end Sys2Proof.Machine
end

section
/-! Compares and tests, 40_integer.md R500 to R505, R560 to R562: condition codes alone. -/
namespace Sys2Proof.Machine

/-- The row's instruction reads two operands and sets the row's condition codes. -/
def CompareRow.Runs (e : CompareRow) : Prop :=
  ∃ m : Opnd → Opnd → Meaning, (∀ src1 src2 s, exec (e.mkI src1 src2) s = execute e.op (m src1 src2) s)
    ∧ ∀ (src1 src2 : Opnd) (s s1 s2 : State) (a b : BitVec e.t.bits), rd e.t src1 s = .ok a s1 → rd e.t src2 s1 = .ok b s2 →
      m src1 src2 s = .ok none (s2.withCC (e.n a b) (e.z a b) false (e.c a b s2.ccC))

section
variable {op : Nat} {mk : Opnd → Opnd → Instr} {t : DT} {src1 src2 : Opnd} {s s1 s2 : State} {a b : BitVec t.bits}

theorem compare_ok (h1 : rd t src1 s = .ok a s1) (h2 : rd t src2 s1 = .ok b s2) :
    compare t src1 src2 s =
      .ok none (s2.withCC (decide (a.toInt < b.toInt)) (decide (a = b)) false (decide (a.toNat < b.toNat))) := by
  unfold compare
  rw [bind_of_ok _ h1, bind_of_ok _ h2]
  rfl

theorem bitTest_ok (h1 : rd t src1 s = .ok a s1) (h2 : rd t src2 s1 = .ok b s2) :
    bitTest t src1 src2 s = .ok none (s2.withCC (a.msb && b.msb) (decide (a &&& b = 0)) false s2.ccC) := by
  unfold bitTest
  rw [bind_of_ok _ h1, bind_of_ok _ h2, setRes_eq, BitVec.and_comm, ← BitVec.msb_and]
  rfl

theorem compareRow_runs (h : ∀ src1 src2 s, exec (mk src1 src2) s = execute op (compare t src1 src2) s) :
    (compareRow op mk t).Runs :=
  ⟨_, h, fun _ _ _ _ _ _ _ h1 h2 => compare_ok h1 h2⟩

theorem bitTestRow_runs (h : ∀ src1 src2 s, exec (mk src1 src2) s = execute op (bitTest t src1 src2) s) :
    (bitTestRow op mk t).Runs :=
  ⟨_, h, fun _ _ _ _ _ _ _ h1 h2 => bitTest_ok h1 h2⟩
end

theorem compareRows_run : ∀ e ∈ compareRows, e.Runs := by
  unfold compareRows
  simp only [List.forall_mem_cons]
  exact ⟨compareRow_runs fun _ _ _ => rfl, compareRow_runs fun _ _ _ => rfl, compareRow_runs fun _ _ _ => rfl,
    bitTestRow_runs fun _ _ _ => rfl, bitTestRow_runs fun _ _ _ => rfl, bitTestRow_runs fun _ _ _ => rfl, List.forall_mem_nil _⟩

theorem test_ok {t : DT} {src : Opnd} {s s1 : State} {a : BitVec t.bits} (h : rd t src s = .ok a s1) :
    test t src s = setRes (.clearVC a) s1 := by
  unfold test
  rw [bind_of_ok _ h]

theorem testRows_run : ∀ e ∈ testRows, ∀ src s, exec (e.2.1 src) s = execute e.1 (test e.2.2 src) s := by
  unfold testRows
  simp only [List.forall_mem_cons]
  exact ⟨fun _ _ => rfl, fun _ _ => rfl, fun _ _ => rfl, List.forall_mem_nil _⟩

/-- Settles O30. -/
theorem compareAndTestResults : Obligations.CompareAndTestResults := by
  refine ⟨fun e he src1 src2 s s1 s2 a b hready h1 h2 => ⟨?_, State.Reads.readFrame (fun hd => ?_) _ _ _ _⟩,
    fun e he src s s1 a hready h1 => ⟨?_, State.Reads.readFrame (fun hd => ?_) _ _ _ _⟩⟩
  · obtain ⟨m, hexec, hm⟩ := compareRows_run e he
    rw [hexec, execute_ready hready, hm src1 src2 _ s1 s2 a b h1 h2]
    rfl
  · have hsrc1 := rd_reads (s := past e.op s) hd h1
    exact (past_reads e.op s).trans (hsrc1.trans (rd_reads (hsrc1.during.trans hd) h2))
  · rw [testRows_run e he, execute_ready hready, test_ok h1, finish_setRes (Res.clearVC_is a), State.settled_quiet rfl]
    rfl
  · exact (past_reads e.1 s).trans (rd_reads (s := past e.1 s) hd h1)

end Sys2Proof.Machine
end

section
/-! Shifts, rotation, extended multiply and divide, 40_integer.md R546, R553, R590 to R592. -/
namespace Sys2Proof.Machine

/-! ### Shifts and rotation -/

/-- How ASHL and ASHQ leave the machine, R590, R591. -/
theorem exec_ash {op : Nat} {t : DT} {mk : Opnd → Opnd → Opnd → Instr}
    (hexec : ∀ cnt src dst s, exec (mk cnt src dst) s = execute op (ash t cnt src dst) s) {cnt src dst : Opnd}
    {s s1 s2 s3 s4 : State} {n : Byte} {x : BitVec t.bits} {d : Dest} (hready : Ready op s) (hcnt : rd .b cnt (past op s) = .ok n s1)
    (hsrc : rd t src s1 = .ok x s2) (hdst : wr t dst s2 = .ok d s3) (hstore : store t d (shifted n x) s3 = .ok ⟨⟩ s4) :
    exec (mk cnt src dst) s = .next (s4.settled (shifted n x) (shiftLoses n x) false none) := by
  have hres := Res.ash_is n x
  have hrun : ash t cnt src dst (past op s) = setRes (Res.ash n x) s4 := by
    rw [← hres.result] at hstore
    unfold ash
    rw [bind_of_ok _ hcnt, bind_of_ok _ hsrc, bind_of_ok _ hdst, storeRes_ok t d _ hstore]
  rw [hexec, execute_ready hready, hrun, finish_setRes hres]

theorem exec_ashl_eq (cnt src dst : Opnd) (s : State) : exec (.ashl cnt src dst) s = execute 0x78 (ash .l cnt src dst) s := rfl

theorem exec_ashq_eq (cnt src dst : Opnd) (s : State) : exec (.ashq cnt src dst) s = execute 0x79 (ash .q cnt src dst) s := rfl

section
variable {w : Nat} {n : Byte} {x : BitVec w}

theorem shifted_of_nonneg (hn : 0 ≤ n.toInt) : shifted n x = BitVec.ofInt w (x.toInt * 2 ^ n.toInt.toNat) := if_pos hn

theorem shiftLoses_of_ne (hn : 0 ≤ n.toInt) (h : (shifted n x).toInt ≠ x.toInt * 2 ^ n.toInt.toNat) : shiftLoses n x = true :=
  decide_eq_true ⟨hn, h⟩
end

/-- How ROTL leaves the machine, R592. -/
theorem exec_rotl {cnt src dst : Opnd} {s s1 s2 s3 s4 : State} {n : Byte} {x : Long} {d : Dest} (hready : Ready 0x9C s)
    (hcnt : rd .b cnt (past 0x9C s) = .ok n s1) (hsrc : rd .l src s1 = .ok x s2) (hdst : wr .l dst s2 = .ok d s3)
    (hstore : store .l d (x.rotateLeft (n.toNat % 32)) s3 = .ok ⟨⟩ s4) :
    exec (.rotl cnt src dst) s = .next (s4.settled (x.rotateLeft (n.toNat % 32)) false s4.ccC none) := by
  have hrun : rotl cnt src dst (past 0x9C s) = setRes (Res.keepC (x.rotateLeft (n.toNat % 32))) s4 := by
    unfold rotl
    rw [bind_of_ok _ hcnt, bind_of_ok _ hsrc, bind_of_ok _ hdst]
    exact storeRes_ok .l d _ hstore
  show execute 0x9C (rotl cnt src dst) s = _
  rw [execute_ready hready, hrun, finish_setRes (Res.keepC_is _)]

/-! ### Extended multiply and divide -/

/-- How EMUL leaves the machine, R546. -/
theorem exec_emul {mulr muld add prod : Opnd} {s s1 s2 s3 s4 s5 : State} {a b e : Long} {d : Dest} (hready : Ready 0x7A s)
    (hmulr : rd .l mulr (past 0x7A s) = .ok a s1) (hmuld : rd .l muld s1 = .ok b s2) (hadd : rd .l add s2 = .ok e s3)
    (hprod : wr .q prod s3 = .ok d s4) (hstore : store .q d (BitVec.ofInt 64 (a.toInt * b.toInt + e.toInt)) s4 = .ok ⟨⟩ s5) :
    exec (.emul mulr muld add prod) s =
      .next (s5.settled (BitVec.ofInt 64 (a.toInt * b.toInt + e.toInt)) false false none) := by
  have hrun : emul mulr muld add prod (past 0x7A s) = setRes (Res.ofInt (a.toInt * b.toInt + e.toInt) : Res 64) s5 := by
    unfold emul
    rw [bind_of_ok _ hmulr, bind_of_ok _ hmuld, bind_of_ok _ hadd, bind_of_ok _ hprod]
    exact storeRes_ok .q d _ hstore
  show execute 0x7A (emul mulr muld add prod) s = _
  rw [execute_ready hready, hrun, finish_setRes (Res.emul_is a b e)]

/-- How EDIV leaves the machine, R553. -/
theorem exec_ediv {divr divd quo rem : Opnd} {s s1 s2 s3 s4 s5 s6 s7 s8 : State} {a : Long} {b : Quad} {d1 d2 e1 e2 : Dest}
    (hready : Ready 0x7B s) (hdivr : rdPlain .l divr (past 0x7B s) = .ok a s1) (hdivd : rdPlain .q divd s1 = .ok b s2)
    (hquo : wrPlain .l quo s2 = .ok d1 s3) (hrem : wrPlain .l rem s3 = .ok d2 s4) (hcheck1 : prepare .l d1 s4 = .ok e1 s5)
    (hcheck2 : prepare .l d2 s5 = .ok e2 s6) (hstore1 : storePlain .l e1 (edivQuotient a b) s6 = .ok ⟨⟩ s7)
    (hstore2 : storePlain .l e2 (edivRemainder a b) s7 = .ok ⟨⟩ s8) :
    exec (.ediv divr divd quo rem) s =
      .next (s8.settled (edivQuotient a b) (!edivFits a b) false (if a = 0 then some 2 else none)) := by
  obtain ⟨hres, hremainder⟩ := edivResult_is a b
  have hrun : ediv divr divd quo rem (past 0x7B s) = setRes (edivResult a b).1 s8 := by
    rw [← hres.result] at hstore1
    rw [← hremainder] at hstore2
    unfold ediv
    rw [bind_of_ok _ hdivr, bind_of_ok _ hdivd, bind_of_ok _ hquo, bind_of_ok _ hrem, bind_of_ok _ hcheck1, bind_of_ok _ hcheck2]
    exact (bind_of_ok _ hstore1).trans (bind_of_ok _ hstore2)
  show execute 0x7B (ediv divr divd quo rem) s = _
  rw [execute_ready hready, hrun, finish_setRes hres]

theorem State.trappedIf_trapped (s : State) (b : Bool) (k code : Nat) : (s.trappedIf b k).trapped code = s.trapped code := by
  unfold State.trappedIf
  split <;> rfl

/-- The trap of a zero divisor replaces that of an overflow. -/
theorem State.settled_divide {w : Nat} (s : State) (r : BitVec w) (v c zero : Bool) (P : Prop) [Decidable P] (h : zero = decide P) :
    s.settled r v c (if P then some 2 else none) = ((s.flags r v c).trappedIf (v && s.iv) 1).trappedIf zero 2 := by
  subst h
  by_cases hP : P
  · rw [if_pos hP, decide_eq_true hP]
    exact (State.trappedIf_trapped _ _ 1 2).symm
  · rw [if_neg hP, decide_eq_false hP]
    rfl

/-- Settles O31. -/
theorem shiftAndExtendedResults : Obligations.ShiftAndExtendedResults := by
  refine ⟨?_, ?_, ?_, ?_, ?_⟩
  · rintro cnt src dst s s1 s2 s3 s4 n x d r hready hcnt hsrc hdst rfl hstore v rfl
    exact exec_ash exec_ashl_eq hready hcnt hsrc hdst hstore
  · rintro cnt src dst s s1 s2 s3 s4 n x d r hready hcnt hsrc hdst rfl hstore v rfl
    exact exec_ash exec_ashq_eq hready hcnt hsrc hdst hstore
  · intro cnt src dst s s1 s2 s3 s4 n x d hready hcnt hsrc hdst hstore
    rw [← rotateLeft_byte] at hstore ⊢
    rw [exec_rotl hready hcnt hsrc hdst hstore, State.settled_quiet rfl]
  · intro mulr muld add prod s s1 s2 s3 s4 s5 a b e d hready hmulr hmuld hadd hprod hstore
    rw [exec_emul hready hmulr hmuld hadd hprod hstore, State.settled_quiet rfl]
  · rintro divr divd quo rem s s1 s2 s3 s4 s5 s6 s7 s8 a b d1 d2 e1 e2 hready hdivr hdivd hquo hrem hcheck1 hcheck2 fits rfl hstore1
      hstore2
    rw [exec_ediv hready hdivr hdivd hquo hrem hcheck1 hcheck2 hstore1 hstore2, State.settled_divide _ _ _ _ _ (a = 0) rfl]
    rfl

end Sys2Proof.Machine
end

section
/-! ADAWI, 40_integer.md R517: the sum in a register or in an aligned word of main memory, under the interlock. -/
namespace Sys2Proof.Machine

variable {add sum : Opnd} {n : Reg} {s s1 s2 s3 s4 s5 : State} {la : Option Dest} {a : Word16} {va : Long} {sp : Span} {y : Octa}

theorem overlap_reg (h : la ≠ some (.reg n)) : overlap la (.reg n) = false := by
  cases la with
  | none => rfl
  | some d =>
    cases d with
    | reg m =>
      refine beq_eq_false_iff_ne.mpr ?_
      rintro rfl
      exact h rfl
    | mem | place => rfl

/-- Where nothing holds the interlock of main memory the instruction goes on. -/
theorem awaitInterlock_free (h750 : s.v750.lock = false) (h780 : s.v780.interlock = false) : awaitInterlock s = .ok ⟨⟩ s := by
  unfold awaitInterlock
  rw [bind_of_ok _ (run_get s)]
  split
  · rw [if_neg (by simp [h750])]
    rfl
  · rw [if_neg (by simp [h780])]
    rfl

theorem adawi_reg_ok (hn : n ≠ 15) (hadd : rdAt .w add s = .ok (la, a) s1) (hla : la ≠ some (.reg n)) :
    adawi add ⟨none, .reg n⟩ s = setRes (Res.add ((s1.reg n).setWidth 16) a false)
      ((s1.setReg 15 (s1.pc + 1)).putRegs .w n (Res.add ((s1.reg n).setWidth 16) a false).r) := by
  have hle : n.val + DT.regs .w ≤ 15 := by
    have : n.val ≠ 15 := fun e => hn (Fin.ext e)
    have := n.isLt
    show n.val + 1 ≤ 15
    omega
  unfold adawi
  refine (bind_of_ok _ hadd).trans ((bind_of_ok _ (wr_reg .w n s1 hle)).trans ?_)
  dsimp only
  rw [overlap_reg hla, bind_of_ok _ (run_getR n _), State.setReg_pc_reg hn]
  rfl

theorem adawi_mem_ok (hadd : rdAt .w add s = .ok (la, a) s1) (hsum : wr .w sum s1 = .ok (.mem va) s2)
    (hclash : overlap la (.mem va) = false) (heven : va.getLsbD 0 = false) (hdest : memDest va 2 s2 = .ok sp s3)
    (hram : place s3 sp.a0 = .ram) (h750 : s3.v750.lock = false) (h780 : s3.v780.interlock = false)
    (hread : readSpan .interlocked sp 2 s3 = .ok y s4)
    (hwrite : writeSpan .interlocked sp 2 ((Res.add (y.setWidth 16) a false).r.setWidth 128) s4 = .ok ⟨⟩ s5) :
    adawi add sum s = setRes (Res.add (y.setWidth 16) a false) s5 := by
  unfold adawi
  refine (bind_of_ok _ hadd).trans ((bind_of_ok _ hsum).trans ?_)
  dsimp only
  rw [hclash, if_neg (Bool.eq_false_iff.mp heven), bind_of_ok _ hdest, bind_of_ok _ (run_get s3), hram]
  exact (bind_of_ok _ (awaitInterlock_free h750 h780)).trans ((bind_of_ok _ hread).trans (bind_of_ok _ hwrite))

theorem adawi_odd (hadd : rdAt .w add s = .ok (la, a) s1) (hsum : wr .w sum s1 = .ok (.mem va) s2) (hodd : va.getLsbD 0 = true) :
    adawi add sum s = .error (.exc reservedOperand) s2 := by
  unfold adawi
  refine (bind_of_ok _ hadd).trans ((bind_of_ok _ hsum).trans ?_)
  dsimp only
  rw [if_pos hodd]
  rfl

/-- How ADAWI to a register leaves the machine. -/
theorem exec_adawi_reg (hready : Ready 0x58 s) (hn : n ≠ 15) (hadd : rdAt .w add (past 0x58 s) = .ok (la, a) s1)
    (hla : la ≠ some (.reg n)) {r : Word16} (hr : r = (s1.reg n).setWidth 16 + a) :
    exec (.adawi add ⟨none, .reg n⟩) s = .next (((s1.setReg 15 (s1.pc + 1)).putRegs .w n r).settled r
      (decide (((s1.reg n).setWidth 16 : Word16).toInt + a.toInt ≠ r.toInt))
      (decide (2 ^ 16 ≤ ((s1.reg n).setWidth 16 : Word16).toNat + a.toNat)) none) := by
  have hres := Res.add_false_is (w := 16) (by decide) ((s1.reg n).setWidth 16) a
  show execute 0x58 (adawi add ⟨none, .reg n⟩) s = _
  rw [execute_ready hready, adawi_reg_ok hn hadd hla, finish_setRes hres, hres.result, hr]

/-- How ADAWI to main memory leaves the machine. -/
theorem exec_adawi_mem (hready : Ready 0x58 s) (hadd : rdAt .w add (past 0x58 s) = .ok (la, a) s1)
    (hsum : wr .w sum s1 = .ok (.mem va) s2) (hclash : overlap la (.mem va) = false) (heven : va.getLsbD 0 = false)
    (hdest : memDest va 2 s2 = .ok sp s3) (hram : place s3 sp.a0 = .ram) (h750 : s3.v750.lock = false)
    (h780 : s3.v780.interlock = false) (hread : readSpan .interlocked sp 2 s3 = .ok y s4) {r : Word16} (hr : r = y.setWidth 16 + a)
    (hwrite : writeSpan .interlocked sp 2 (r.setWidth 128) s4 = .ok ⟨⟩ s5) :
    exec (.adawi add sum) s = .next (s5.settled r (decide ((y.setWidth 16 : Word16).toInt + a.toInt ≠ r.toInt))
      (decide (2 ^ 16 ≤ (y.setWidth 16 : Word16).toNat + a.toNat)) none) := by
  have hres := Res.add_false_is (w := 16) (by decide) (y.setWidth 16) a
  rw [hr, ← hres.result] at hwrite
  show execute 0x58 (adawi add sum) s = _
  rw [execute_ready hready, adawi_mem_ok hadd hsum hclash heven hdest hram h750 h780 hread hwrite, finish_setRes hres, hr]

/-- Settles O32. -/
theorem addAlignedInterlocked : Obligations.AddAlignedInterlocked := by
  refine ⟨?_, ?_, ?_⟩
  · intro add n s s1 la a r hready hn hadd hla hr hquiet
    rw [exec_adawi_reg hready hn hadd hla hr, State.settled_quiet]
    unfold State.iv
    rwa [State.putRegs_psl]
  · intro add sum s s1 s2 s3 s4 s5 la a va sp y r hready hadd hsum hclash heven hdest hram h750 h780 hread hr hwrite hquiet
    rw [exec_adawi_mem hready hadd hsum hclash heven hdest hram h750 h780 hread hr hwrite, State.settled_quiet hquiet]
  · intro add sum s s1 s2 la a va hready hadd hsum hodd
    obtain ⟨hfpd, hfloat, hmode⟩ := hready
    exact execute_exc 0x58 (adawi add sum) s s2 _ hfpd hfloat hmode (adawi_odd hadd hsum hodd)

end Sys2Proof.Machine
end

section
/-! Traps of the integer instructions, 40_integer.md R462, R463, 60_exceptions.md R1075, R1076, R1100: left due once the result is
stored. -/
namespace Sys2Proof.Machine

/-- Settles O29: in every shape the instruction leaves the state settled, and the trap in it is the one claimed. -/
theorem integerTraps : Obligations.IntegerTraps := by
  refine ⟨?_, ?_, ?_, ?_, ?_, ?_, ?_, ?_, ?_⟩
  · intro e he src1 src2 dst s s1 s2 s3 s4 a b d hready hsrc1 hsrc2 hdst hstore
    rw [exec_binary3 he hready hsrc1 hsrc2 hdst hstore]
    refine ⟨fun htrap => ?_, fun htrap hv hiv => ?_⟩
    · rw [htrap]
      rfl
    · rw [htrap, State.settled_overflow hv hiv]
  · intro e he src dst s s1 s2 s3 a b d hready hsrc hdst hstore
    rw [exec_binary2 he hready hsrc hdst hstore]
    refine ⟨fun htrap => ?_, fun htrap hv hiv => ?_⟩
    · rw [htrap]
      rfl
    · rw [htrap, State.settled_overflow hv hiv]
  · intro e he src dst s s1 s2 s3 x d hready hsrc hdst hstore hv hiv
    rw [exec_unary he hready hsrc hdst hstore, State.settled_overflow hv hiv]
  · intro e he dst s s1 s2 x d hready hdst hstore hv hiv
    rw [exec_step he hready hdst hstore, State.settled_overflow hv hiv]
  · refine fun src dst s s1 s2 s3 a b d => ⟨fun hready hsrc hdst hstore hv hiv => ?_, fun hready hsrc hdst hstore hv hiv => ?_⟩
    · rw [exec_adwc hready hsrc hdst hstore, decide_eq_true hv, State.settled_overflow rfl hiv]
    · rw [exec_sbwc hready hsrc hdst hstore, decide_eq_true hv, State.settled_overflow rfl hiv]
  · intro cnt src dst s s1 s2 s3 s4 n d
    refine ⟨fun x r hready hcnt hsrc hdst hn hr hstore hv hiv => ?_, fun x r hready hcnt hsrc hdst hn hr hstore hv hiv => ?_⟩
    · obtain rfl := hr.trans (shifted_of_nonneg hn).symm
      rw [exec_ash exec_ashl_eq hready hcnt hsrc hdst hstore, shiftLoses_of_ne hn hv, State.settled_overflow rfl hiv]
    · obtain rfl := hr.trans (shifted_of_nonneg hn).symm
      rw [exec_ash exec_ashq_eq hready hcnt hsrc hdst hstore, shiftLoses_of_ne hn hv, State.settled_overflow rfl hiv]
  · intro add n s s1 la a r hready hn hadd hla hr hv hiv
    rw [exec_adawi_reg hready hn hadd hla hr, decide_eq_true hv, State.settled_overflow rfl]
    unfold State.iv
    rwa [State.putRegs_psl]
  · intro add sum s s1 s2 s3 s4 s5 la a va sp y r hready hadd hsum hclash heven hdest hram h750 h780 hread hr hwrite hv hiv
    rw [exec_adawi_mem hready hadd hsum hclash heven hdest hram h750 h780 hread hr hwrite, decide_eq_true hv,
      State.settled_overflow rfl hiv]
  · intro divr divd quo rem s s1 s2 s3 s4 s5 s6 s7 s8 a b d1 d2 e1 e2 hready hdivr hdivd hquo hrem hcheck1 hcheck2 hstore1 hstore2
    have hleft (hf : edivFits a b = false) : exec (.ediv divr divd quo rem) s =
        .next (s8.settled (b.setWidth 32 : Long) true false (if a = 0 then some 2 else none)) := by
      have hquotient : edivQuotient a b = b.setWidth 32 := if_neg (by simp [hf])
      have hremainder : edivRemainder a b = 0 := if_neg (by simp [hf])
      rw [← hquotient] at hstore1
      rw [← hremainder] at hstore2
      rw [exec_ediv hready hdivr hdivd hquo hrem hcheck1 hcheck2 hstore1 hstore2, hf, hquotient]
      rfl
    refine ⟨fun ha => ?_, fun ha hout => ?_⟩
    · rw [hleft (decide_eq_false fun h => h.1 ha), if_pos ha]
      rfl
    · rw [hleft (decide_eq_false (by omega)), if_neg ha]
      exact ⟨fun hiv => by rw [State.settled_overflow rfl hiv], fun hiv => by rw [State.settled_quiet (by rw [hiv, Bool.and_false])]⟩

end Sys2Proof.Machine
end

section
/-! Clears, address moves and pushes, 40_integer.md R475 to R480, 41_address_field.md R620. -/
namespace Sys2Proof.Machine

theorem clearRows_run : ∀ e ∈ clearRows, ∀ dst s, exec (e.2.1 dst) s = execute e.1 (clear e.2.2 dst) s := by
  unfold clearRows
  simp only [List.forall_mem_cons]
  exact ⟨fun _ _ => rfl, fun _ _ => rfl, fun _ _ => rfl, fun _ _ => rfl, fun _ _ => rfl, fun _ _ => rfl, fun _ _ => rfl,
    fun _ _ => rfl, fun _ _ => rfl, List.forall_mem_nil _⟩

theorem moveAddressRows_run : ∀ e ∈ moveAddressRows, ∀ src dst s, exec (e.2.1 src dst) s = execute e.1 (mova e.2.2 src dst) s := by
  unfold moveAddressRows
  simp only [List.forall_mem_cons]
  exact ⟨fun _ _ _ => rfl, fun _ _ _ => rfl, fun _ _ _ => rfl, fun _ _ _ => rfl, fun _ _ _ => rfl, fun _ _ _ => rfl,
    fun _ _ _ => rfl, fun _ _ _ => rfl, fun _ _ _ => rfl, List.forall_mem_nil _⟩

theorem pushAddressRows_run : ∀ e ∈ pushAddressRows, ∀ src s, exec (e.2.1 src) s = execute e.1 (pusha e.2.2 src) s := by
  unfold pushAddressRows
  simp only [List.forall_mem_cons]
  exact ⟨fun _ _ => rfl, fun _ _ => rfl, fun _ _ => rfl, fun _ _ => rfl, fun _ _ => rfl, fun _ _ => rfl, fun _ _ => rfl,
    fun _ _ => rfl, fun _ _ => rfl, List.forall_mem_nil _⟩

section
variable {t : DT} {src dst : Opnd} {s s1 s2 s3 : State} {a : Long} {d : Dest}

theorem mova_ok (hsrc : adr t src s = .ok a s1) (hdst : wr .l dst s1 = .ok d s2) (hstore : store .l d a s2 = .ok ⟨⟩ s3) :
    mova t src dst s = setRes (Res.keepC a) s3 := by
  unfold mova
  rw [bind_of_ok _ hsrc, bind_of_ok _ hdst]
  exact storeRes_ok .l d _ hstore

theorem pusha_ok (hsrc : adr t src s = .ok a s1) (hpush : push [a] s1 = .ok ⟨⟩ s2) : pusha t src s = setRes (Res.keepC a) s2 := by
  unfold pusha
  rw [bind_of_ok _ hsrc, bind_of_ok _ hpush]

theorem pushl_ok (hsrc : rd .l src s = .ok a s1) (hpush : push [a] s1 = .ok ⟨⟩ s2) : pushl src s = setRes (Res.keepC a) s2 := by
  unfold pushl
  rw [bind_of_ok _ hsrc, bind_of_ok _ hpush]
end

/-- Settles O33. -/
theorem clearMoveAddressAndPushResults : Obligations.ClearMoveAddressAndPushResults := by
  refine ⟨?_, ?_, ?_, ?_⟩
  · intro e he dst s s1 s2 d hready hdst hstore
    rw [clearRows_run e he, execute_ready hready, clear_ok _ dst hdst hstore, finish_setRes (Res.keepC_is _), State.settled_quiet rfl]
    have hsign : (0 : BitVec e.2.2.bits).msb = false := BitVec.msb_zero
    unfold State.flags
    rw [hsign, decide_eq_true rfl]
  · intro e he src dst s s1 s2 s3 a d hready hsrc hdst hstore
    rw [moveAddressRows_run e he, execute_ready hready, mova_ok hsrc hdst hstore, finish_setRes (Res.keepC_is a),
      State.settled_quiet rfl]
  · intro e he src s s1 s2 a hready hsrc hpush
    rw [pushAddressRows_run e he, execute_ready hready, pusha_ok hsrc hpush, finish_setRes (Res.keepC_is a), State.settled_quiet rfl]
  · intro src s s1 s2 x hready hsrc hpush
    show execute 0xDD (pushl src) s = _
    rw [execute_ready hready, pushl_ok hsrc hpush, finish_setRes (Res.keepC_is x), State.settled_quiet rfl]

end Sys2Proof.Machine
end

section
/-! Bit fields, 41_address_field.md R640, R641: the bits of a field and where it lies. -/
namespace Sys2Proof.Machine

/-! ### Bits -/

/-- A field read out of an octaword: the bits from `lo` on, zeros above its size. -/
theorem bitsOf_getLsbD (x : Octa) (lo n : Nat) {i : Nat} (hi : i < 32) :
    (bitsOf x lo n).getLsbD i = (decide (i < n) && x.getLsbD (lo + i)) := by
  unfold bitsOf
  rw [BitVec.getLsbD_and, fieldMask_getLsbD 0 n i hi, BitVec.getLsbD_setWidth, BitVec.getLsbD_ushiftRight, Nat.zero_add,
    decide_eq_true hi, decide_eq_true (Nat.zero_le i), Bool.true_and, Bool.true_and, Bool.and_comm]

/-- The mask of a field at bit 0, at every bit number. -/
theorem fieldMask_zero_getLsbD {n : Nat} (hn : n ≤ 32) (i : Nat) : (fieldMask 0 n).getLsbD i = decide (i < n) := by
  by_cases hi : i < 32
  · rw [fieldMask_getLsbD 0 n i hi, Nat.zero_add, decide_eq_true (Nat.zero_le i), Bool.true_and]
  · rw [BitVec.getLsbD_of_ge _ _ (by omega), decide_eq_false (by omega)]

/-- An octaword after a field of it is replaced. -/
theorem putBits_getLsbD (x : Octa) (lo : Nat) {n : Nat} (hn : n ≤ 32) (v : Long) {j : Nat} (hj : j < 128) :
    (putBits x lo n v).getLsbD j = if lo ≤ j ∧ j < lo + n then v.getLsbD (j - lo) else x.getLsbD j := by
  have hmask : ((fieldMask 0 n).setWidth 128 <<< lo).getLsbD j = decide (lo ≤ j ∧ j < lo + n) := by
    rw [BitVec.getLsbD_shiftLeft, BitVec.getLsbD_setWidth, fieldMask_zero_getLsbD hn, Bool.eq_iff_iff]
    simp only [Bool.and_eq_true, Bool.not_eq_true', decide_eq_true_eq, decide_eq_false_iff_not]
    omega
  unfold putBits
  rw [BitVec.getLsbD_or, BitVec.getLsbD_and, BitVec.getLsbD_not, BitVec.getLsbD_and, hmask, BitVec.getLsbD_shiftLeft]
  by_cases hin : lo ≤ j ∧ j < lo + n
  · rw [if_pos hin, decide_eq_true hin, decide_eq_false (by omega : ¬ j < lo), BitVec.getLsbD_setWidth,
      decide_eq_true (by omega : j - lo < 128)]
    simp [hj]
  · rw [if_neg hin, decide_eq_false hin]
    simp [hj]

/-- Sign extension of a field: its own bits, above them its highest; zero for a field of size 0. -/
theorem signExtendField_getLsbD {n : Nat} (hn : n ≤ 32) (v : Long) {i : Nat} (hi : i < 32) :
    (signExtendField n v).getLsbD i = (if n = 0 then false else if i < n then v.getLsbD i else v.getLsbD (n - 1)) := by
  unfold signExtendField
  rw [BitVec.getLsbD_sshiftRight, decide_eq_false (by omega : ¬ 32 ≤ i), Bool.not_false, Bool.true_and]
  have hmsb : (v <<< (32 - n)).msb = if n = 0 then false else v.getLsbD (n - 1) := by
    rw [BitVec.msb_eq_getLsbD_last, BitVec.getLsbD_shiftLeft]
    split
    next h0 => simp [h0]
    next h0 => rw [show 32 - 1 - (32 - n) = n - 1 by omega, decide_eq_false (by omega : ¬ 32 - 1 < 32 - n)]; rfl
  by_cases hin : i < n
  · rw [if_pos (by omega), if_neg (by omega), if_pos hin, BitVec.getLsbD_shiftLeft, Nat.add_sub_cancel_left,
      decide_eq_true (by omega : 32 - n + i < 32), decide_eq_false (by omega : ¬ 32 - n + i < 32 - n)]
    rfl
  · rw [if_neg (by omega), hmsb, if_neg hin]

/-- A position found in a field: the first bit that is as wanted, or none. -/
theorem firstBit_eq {v : Long} {want : Bool} {n i : Nat} (hi : i ≤ n) (hbelow : ∀ j < i, v.getLsbD j = !want)
    (hat : i < n → v.getLsbD i = want) : firstBit v want n = if i = n then none else some i := by
  unfold firstBit
  split
  next h =>
    subst h
    refine List.find?_range_eq_none.mpr fun j hj => ?_
    rw [hbelow j hj]
    cases want <;> rfl
  next h =>
    have hlt : i < n := by omega
    refine List.find?_range_eq_some.mpr ⟨beq_iff_eq.mpr (hat hlt), List.mem_range.mpr hlt, fun j hj => ?_⟩
    rw [hbelow j hj]
    cases want <;> rfl

/-! ### The place of a field, R641 -/

section
variable {s : State} {p : Long} {n : Nat} {r : Reg} {b : FieldBase}

theorem fieldPlace_zero : fieldPlace p 0 b s = .ok .empty s := rfl

theorem fieldPlace_tooLong (hn : 32 < n) : fieldPlace p n b s = .error (.exc reservedOperand) s := by
  unfold fieldPlace
  rw [if_pos hn]
  rfl

theorem fieldPlace_reg_beyond (h0 : 0 < n) (hp : 31 < p.toNat) :
    fieldPlace p n (.reg r) s = .error (.exc reservedOperand) s := by
  by_cases hn : 32 < n
  · exact fieldPlace_tooLong hn
  · unfold fieldPlace
    rw [if_neg hn, if_neg (by omega)]
    dsimp only
    rw [if_pos hp]
    rfl

/-- A field that starts in a register lies in it and, where it goes on past bit 31, in the next, which is not the PC. -/
theorem fieldPlace_reg (h0 : 0 < n) (hn : n ≤ 32) (hp : p.toNat ≤ 31) (hr : ¬ (32 < p.toNat + n ∧ r = 14)) :
    fieldPlace p n (.reg r) s = .ok (.regs r p.toNat n) s := by
  unfold fieldPlace
  rw [if_neg (by omega), if_neg (by omega)]
  dsimp only
  rw [if_neg (by omega), if_neg hr]
  rfl

/-- A field in memory: the byte is that of the position divided by 8 and rounded down, the bit its remainder, and the bytes
referred to are those that hold the field. -/
theorem fieldPlace_mem (a : Long) (h0 : 0 < n) (hn : n ≤ 32) : fieldPlace p n (.mem a) s =
    .ok (.bytes (a + BitVec.ofInt 32 (p.toInt / 8)) (p.toNat % 8) ((p.toNat % 8 + n + 7) / 8) n) s := by
  have hbyte : p.sshiftRight 3 = BitVec.ofInt 32 (p.toInt / 8) := sshiftRight_eq_ofInt p 3
  have hbit : field p 0 3 = p.toNat % 8 := by
    unfold field
    rw [BitVec.extractLsb'_toNat, Nat.shiftRight_zero]
  unfold fieldPlace
  rw [if_neg (by omega), if_neg (by omega), hbyte, hbit]
  rfl
end

/-! ### Fields in registers -/

section
variable {s : State} {r : Reg} {pos n : Nat} {x : Long}

theorem fieldRead_regs : fieldRead (.regs r pos n) s = .ok (bitsOf (s.regs4 r) pos n) s := rfl

/-- A register and the next, as a quadword. -/
theorem State.regs4_getLsbD_pair (s : State) (r : Reg) {j : Nat} (hj : j < 64) :
    (s.regs4 r).getLsbD j = (s.reg (Reg.plus r 1) ++ s.reg r).getLsbD j := by
  have hplus : Reg.plus r 0 = r := Fin.ext (Nat.mod_eq_of_lt r.isLt)
  rw [s.regs4_getLsbD r (by omega), BitVec.getLsbD_append]
  split
  next h => rw [Nat.div_eq_of_lt h, Nat.mod_eq_of_lt h, hplus]
  next h => rw [show j / 32 = 1 by omega, show j % 32 = j - 32 by omega]

theorem State.regs4_getLsbD_low (s : State) (r : Reg) {j : Nat} (hj : j < 32) : (s.regs4 r).getLsbD j = (s.reg r).getLsbD j := by
  rw [s.regs4_getLsbD_pair r (by omega), BitVec.getLsbD_append, if_pos hj]

theorem fieldWrite_regs : fieldWrite (.regs r pos n) x s =
    .ok ⟨⟩ (if 32 < pos + n then
      (s.setReg r ((putBits (s.regs4 r) pos n x).extractLsb' 0 32)).setReg (Reg.plus r 1)
        ((putBits (s.regs4 r) pos n x).extractLsb' 32 32)
      else s.setReg r ((putBits (s.regs4 r) pos n x).extractLsb' 0 32)) := rfl

/-- A field within one register, read. -/
theorem bitsOf_regs4 (h : pos + n ≤ 32) : bitsOf (s.regs4 r) pos n = (s.reg r >>> pos) &&& fieldMask 0 n := by
  refine BitVec.eq_of_getLsbD_eq fun i hi => ?_
  rw [bitsOf_getLsbD _ _ _ hi, BitVec.getLsbD_and, BitVec.getLsbD_ushiftRight, fieldMask_zero_getLsbD (by omega), Bool.and_comm]
  by_cases hin : i < n
  · rw [s.regs4_getLsbD_low r (by omega)]
  · rw [decide_eq_false hin, Bool.and_false, Bool.and_false]

/-- A field within one register, replaced. -/
theorem putBits_regs4_low (h : pos + n ≤ 32) :
    (putBits (s.regs4 r) pos n x).extractLsb' 0 32 = putField (s.reg r) pos n x := by
  refine BitVec.eq_of_getLsbD_eq fun i hi => ?_
  rw [BitVec.getLsbD_extractLsb', decide_eq_true hi, Bool.true_and, Nat.zero_add, putBits_getLsbD _ _ (by omega) _ (by omega),
    putField_getLsbD _ _ _ _ _ hi, s.regs4_getLsbD_low r hi]

/-- What a field that goes on into the next register reads, bit by bit. -/
theorem bitsOf_regs4_getLsbD (hp : pos ≤ 31) {i : Nat} (hi : i < 32) :
    (bitsOf (s.regs4 r) pos n).getLsbD i = (decide (i < n) && (s.reg (Reg.plus r 1) ++ s.reg r).getLsbD (pos + i)) := by
  rw [bitsOf_getLsbD _ _ _ hi, s.regs4_getLsbD_pair r (by omega)]

/-- The two registers after a field that goes on into the next is written, bit by bit. -/
theorem putBits_regs4_pair (hn : n ≤ 32) {j : Nat} (hj : j < 64) :
    ((putBits (s.regs4 r) pos n x).extractLsb' 32 32 ++ (putBits (s.regs4 r) pos n x).extractLsb' 0 32).getLsbD j =
      if pos ≤ j ∧ j < pos + n then x.getLsbD (j - pos) else (s.reg (Reg.plus r 1) ++ s.reg r).getLsbD j := by
  have hpair : ((putBits (s.regs4 r) pos n x).extractLsb' 32 32 ++ (putBits (s.regs4 r) pos n x).extractLsb' 0 32).getLsbD j =
      (putBits (s.regs4 r) pos n x).getLsbD j := by
    rw [BitVec.getLsbD_append, BitVec.getLsbD_extractLsb', BitVec.getLsbD_extractLsb']
    split
    next h => rw [decide_eq_true h, Bool.true_and, Nat.zero_add]
    next h => rw [decide_eq_true (by omega : j - 32 < 32), Bool.true_and, show 32 + (j - 32) = j by omega]
  rw [hpair, putBits_getLsbD _ _ hn _ (by omega), s.regs4_getLsbD_pair r hj]
end

/-! ### Fields in memory -/

section
variable {s s1 s2 s3 : State} {a x : Long} {o k n : Nat} {sp : Span} {w y : Octa}

theorem fieldRead_bytes (h : memRead .other a k s = .ok w s1) : fieldRead (.bytes a o k n) s = .ok (bitsOf w o n) s1 :=
  bind_of_ok _ h

/-- Replacing a field is determined by its bits. -/
theorem putBits_eq (hn : n ≤ 32) (hy : ∀ j < 128, y.getLsbD j = if o ≤ j ∧ j < o + n then x.getLsbD (j - o) else w.getLsbD j) :
    putBits w o n x = y :=
  BitVec.eq_of_getLsbD_eq fun j hj => (putBits_getLsbD w o hn x hj).trans (hy j hj).symm

/-- The bytes that hold the field are checked for write, read, and written back with the field replaced. -/
theorem fieldWrite_bytes (hdest : memDest a k s = .ok sp s1) (hread : readSpan .other sp k s1 = .ok w s2)
    (hwrite : writeSpan .other sp k (putBits w o n x) s2 = .ok ⟨⟩ s3) : fieldWrite (.bytes a o k n) x s = .ok ⟨⟩ s3 := by
  unfold fieldWrite
  dsimp only
  rw [bind_of_ok _ hdest, bind_of_ok _ hread]
  exact hwrite
end

end Sys2Proof.Machine
end

section
/-! Extraction, comparison and search of bit fields, 41_address_field.md R643, R644, R646 to R649. -/
namespace Sys2Proof.Machine

/-- A field as its instruction extends it to a longword. -/
def fieldValue (signed : Bool) (size : Nat) (v : Long) : Long := if signed then signExtendField size v else v

section
variable {signed want : Bool} {pos size base other : Opnd} {s s1 s2 s3 s4 s5 s6 s7 : State} {p x v : Long} {n : Byte}
  {b : FieldBase} {d : Dest} {f : FieldPlace} {i : Nat}

theorem extract_ok (hpos : rdPlain .l pos s = .ok p s1) (hsize : rdPlain .b size s1 = .ok n s2) (hbase : fld base s2 = .ok b s3)
    (hdst : wr .l other s3 = .ok d s4) (hplace : fieldPlace p n.toNat b s4 = .ok f s5) (hread : fieldRead f s5 = .ok v s6)
    (hstore : store .l d (fieldValue signed n.toNat v) s6 = .ok ⟨⟩ s7) :
    extract signed pos size base other s = setRes (Res.keepC (fieldValue signed n.toNat v)) s7 := by
  unfold extract
  rw [bind_of_ok _ hpos, bind_of_ok _ hsize, bind_of_ok _ hbase, bind_of_ok _ hdst, bind_of_ok _ hplace, bind_of_ok _ hread]
  exact storeRes_ok .l d _ hstore

theorem cmpField_ok (hpos : rdPlain .l pos s = .ok p s1) (hsize : rdPlain .b size s1 = .ok n s2) (hbase : fld base s2 = .ok b s3)
    (hsrc : rd .l other s3 = .ok x s4) (hplace : fieldPlace p n.toNat b s4 = .ok f s5) (hread : fieldRead f s5 = .ok v s6) :
    cmpField signed pos size base other s =
      .ok none (s6.withCC (decide ((fieldValue signed n.toNat v).toInt < x.toInt)) (decide (fieldValue signed n.toNat v = x)) false
        (decide ((fieldValue signed n.toNat v).toNat < x.toNat))) := by
  unfold cmpField
  rw [bind_of_ok _ hpos, bind_of_ok _ hsize, bind_of_ok _ hbase, bind_of_ok _ hsrc, bind_of_ok _ hplace, bind_of_ok _ hread]
  rfl

theorem findFirst_ok (hpos : rdPlain .l pos s = .ok p s1) (hsize : rdPlain .b size s1 = .ok n s2) (hbase : fld base s2 = .ok b s3)
    (hdst : wr .l other s3 = .ok d s4) (hplace : fieldPlace p n.toNat b s4 = .ok f s5) (hread : fieldRead f s5 = .ok v s6)
    (hfirst : firstBit v want n.toNat = if i = n.toNat then none else some i)
    (hstore : store .l d (p + BitVec.ofNat 32 i) s6 = .ok ⟨⟩ s7) :
    findFirst want pos size base other s = .ok none (s7.withCC false (decide (i = n.toNat)) false false) := by
  have hposition : (firstBit v want n.toNat).getD n.toNat = i := by
    rw [hfirst]
    split
    next h => exact h.symm
    next => rfl
  have hnone : (firstBit v want n.toNat).isNone = decide (i = n.toNat) := by
    rw [hfirst]
    split
    next h => exact (decide_eq_true h).symm
    next h => exact (decide_eq_false h).symm
  rw [← hposition] at hstore
  unfold findFirst
  rw [bind_of_ok _ hpos, bind_of_ok _ hsize, bind_of_ok _ hbase, bind_of_ok _ hdst, bind_of_ok _ hplace, bind_of_ok _ hread]
  refine (bind_of_ok _ hstore).trans ?_
  rw [hnone]
  rfl

/-- How EXTV and EXTZV leave the machine, R643, R644. -/
theorem exec_extract {op : Nat} {mk : Opnd → Opnd → Opnd → Opnd → Instr}
    (hexec : ∀ pos size base dst s, exec (mk pos size base dst) s = execute op (extract signed pos size base dst) s)
    (hready : Ready op s) (hpos : rdPlain .l pos (past op s) = .ok p s1) (hsize : rdPlain .b size s1 = .ok n s2)
    (hbase : fld base s2 = .ok b s3) (hdst : wr .l other s3 = .ok d s4) (hplace : fieldPlace p n.toNat b s4 = .ok f s5)
    (hread : fieldRead f s5 = .ok v s6) (hstore : store .l d (fieldValue signed n.toNat v) s6 = .ok ⟨⟩ s7) :
    exec (mk pos size base other) s = .next (s7.flags (fieldValue signed n.toNat v) false s7.ccC) := by
  rw [hexec, execute_ready hready, extract_ok hpos hsize hbase hdst hplace hread hstore, finish_setRes (Res.keepC_is _),
    State.settled_quiet rfl]

/-- How CMPV and CMPZV leave the machine, R646, R647. -/
theorem exec_cmpField {op : Nat} {mk : Opnd → Opnd → Opnd → Opnd → Instr}
    (hexec : ∀ pos size base src s, exec (mk pos size base src) s = execute op (cmpField signed pos size base src) s)
    (hready : Ready op s) (hpos : rdPlain .l pos (past op s) = .ok p s1) (hsize : rdPlain .b size s1 = .ok n s2)
    (hbase : fld base s2 = .ok b s3) (hsrc : rd .l other s3 = .ok x s4) (hplace : fieldPlace p n.toNat b s4 = .ok f s5)
    (hread : fieldRead f s5 = .ok v s6) :
    exec (mk pos size base other) s =
      .next (s6.withCC (decide ((fieldValue signed n.toNat v).toInt < x.toInt)) (decide (fieldValue signed n.toNat v = x)) false
        (decide ((fieldValue signed n.toNat v).toNat < x.toNat))) := by
  rw [hexec, execute_ready hready, cmpField_ok hpos hsize hbase hsrc hplace hread]
  rfl

/-- How FFS and FFC leave the machine, R648, R649: `i` is the first position that is as wanted, or the size. -/
theorem exec_findFirst {op : Nat} {mk : Opnd → Opnd → Opnd → Opnd → Instr}
    (hexec : ∀ start size base findpos s, exec (mk start size base findpos) s = execute op (findFirst want start size base findpos) s)
    (hi : i ≤ n.toNat) (hready : Ready op s) (hpos : rdPlain .l pos (past op s) = .ok p s1) (hsize : rdPlain .b size s1 = .ok n s2)
    (hbase : fld base s2 = .ok b s3) (hdst : wr .l other s3 = .ok d s4) (hplace : fieldPlace p n.toNat b s4 = .ok f s5)
    (hread : fieldRead f s5 = .ok v s6) (hbelow : ∀ j < i, v.getLsbD j = !want) (hat : i < n.toNat → v.getLsbD i = want)
    (hstore : store .l d (p + BitVec.ofNat 32 i) s6 = .ok ⟨⟩ s7) :
    exec (mk pos size base other) s = .next (s7.withCC false (decide (i = n.toNat)) false false) := by
  rw [hexec, execute_ready hready, findFirst_ok hpos hsize hbase hdst hplace hread (firstBit_eq hi hbelow hat) hstore]
  rfl
end

/-- Settles O34. -/
theorem bitFieldReads : Obligations.BitFieldReads := by
  refine ⟨fun n v hn i hi => signExtendField_getLsbD hn v hi, ?_, ?_, ?_⟩
  · intro pos size base dst s s1 s2 s3 s4 s5 s6 s7 p n b d f v
    exact ⟨exec_extract (signed := true) fun _ _ _ _ _ => rfl, exec_extract (signed := false) fun _ _ _ _ _ => rfl⟩
  · intro pos size base src s s1 s2 s3 s4 s5 s6 p n b x f v
    exact ⟨exec_cmpField (signed := true) fun _ _ _ _ _ => rfl, exec_cmpField (signed := false) fun _ _ _ _ _ => rfl⟩
  · intro start size base findpos s s1 s2 s3 s4 s5 s6 s7 p n b d f v i hi
    exact ⟨exec_findFirst (want := true) (fun _ _ _ _ _ => rfl) hi, exec_findFirst (want := false) (fun _ _ _ _ _ => rfl) hi⟩

end Sys2Proof.Machine
end

section
/-! INSV, 41_address_field.md R645, and the places of bit fields, R640, R641. -/
namespace Sys2Proof.Machine

section
variable {src pos size base : Opnd} {s s1 s2 s3 s4 s5 s6 : State} {x p : Long} {n : Byte} {b : FieldBase} {f : FieldPlace} {e : Exc}

theorem insv_ok (hsrc : rd .l src s = .ok x s1) (hpos : rdPlain .l pos s1 = .ok p s2) (hsize : rdPlain .b size s2 = .ok n s3)
    (hbase : fld base s3 = .ok b s4) (hplace : fieldPlace p n.toNat b s4 = .ok f s5) (hwrite : fieldWrite f x s5 = .ok ⟨⟩ s6) :
    insv src pos size base s = .ok none s6 := by
  unfold insv
  rw [bind_of_ok _ hsrc, bind_of_ok _ hpos, bind_of_ok _ hsize, bind_of_ok _ hbase, bind_of_ok _ hplace, bind_of_ok _ hwrite]
  rfl

/-- A field that is turned away leaves INSV with the exception and nothing written. -/
theorem insv_exc (hsrc : rd .l src s = .ok x s1) (hpos : rdPlain .l pos s1 = .ok p s2) (hsize : rdPlain .b size s2 = .ok n s3)
    (hbase : fld base s3 = .ok b s4) (hplace : fieldPlace p n.toNat b s4 = .error (.exc e) s5) :
    insv src pos size base s = .error (.exc e) s5 := by
  unfold insv
  rw [bind_of_ok _ hsrc, bind_of_ok _ hpos, bind_of_ok _ hsize, bind_of_ok _ hbase, bind_of_error _ hplace]
end

/-- Settles O35. -/
theorem bitFieldPlacesAndInsertion : Obligations.BitFieldPlacesAndInsertion := by
  refine ⟨?_, ?_, ?_, ?_, ?_, ?_, ?_, ?_, ?_, ?_⟩
  · intro src pos size base s s1 s2 s3 s4 s5 s6 x p n b f hready hsrc hpos hsize hbase hplace hwrite
    show execute 0xF0 (insv src pos size base) s = _
    rw [execute_ready hready, insv_ok hsrc hpos hsize hbase hplace hwrite]
    rfl
  · intro src pos size base s s1 s2 s3 s4 s5 x p n b e hready hsrc hpos hsize hbase hplace
    obtain ⟨hfpd, hfloat, hmode⟩ := hready
    exact execute_exc 0xF0 (insv src pos size base) s s5 e hfpd hfloat hmode (insv_exc hsrc hpos hsize hbase hplace)
  · exact fun s p x b => ⟨fieldPlace_zero, rfl, rfl⟩
  · intro s p n r x hn hp hacross hr
    have hr14 : ¬ (32 < p.toNat + n ∧ r = 14) := by
      rintro ⟨-, rfl⟩
      exact absurd hr (by decide)
    exact ⟨fieldPlace_reg (by omega) hn hp hr14, ⟨_, fieldRead_regs, fun i hi => bitsOf_regs4_getLsbD hp hi⟩,
      _, _, fieldWrite_regs.trans (by rw [if_pos hacross]), fun j hj => putBits_regs4_pair hn hj⟩
  · intro s p n r x hinside h0 hp
    refine ⟨fieldPlace_reg h0 (by omega) hp (by omega), ?_, ?_⟩
    · rw [fieldRead_regs, bitsOf_regs4 hinside]
    · rw [fieldWrite_regs, if_neg (by omega), putBits_regs4_low hinside]
  · exact fun s p n r h0 hp => fieldPlace_reg_beyond h0 hp
  · exact fun s p n b hn => fieldPlace_tooLong hn
  · exact fun s p a n h0 hn => ⟨_, fieldPlace_mem a h0 hn, by omega, by omega⟩
  · intro s s1 a o k n i w _ _ hn hi hread
    refine ⟨_, fieldRead_bytes hread, ?_⟩
    rw [bitsOf_getLsbD w o n (by omega), decide_eq_true hi, Bool.true_and]
  · intro s s1 s2 s3 a x o k n sp w y _ hn hdest hread hy hwrite
    rw [← putBits_eq hn hy] at hwrite
    exact fieldWrite_bytes hdest hread hwrite

end Sys2Proof.Machine
end

section
/-! Branches, jumps and subroutine calls, 42_control.md R675 to R691, R704, R705, R723 to R726: where the PC goes. -/
namespace Sys2Proof.Machine

/-! ### Where a branch goes -/

/-- The state that a branch to `target` leaves, which is taken where `P`. -/
def State.branched (s : State) (P : Prop) [Decidable P] (target : Long) : State := if P then s.setReg 15 target else s

section
variable {P : Prop} [Decidable P] {taken : Bool} {s : State} {target : Long} {w op : Nat}

theorem branchIf_ok (h : taken = true ↔ P) : branchIf taken target s = .ok ⟨⟩ (s.branched P target) := by
  unfold branchIf State.branched
  by_cases hP : P
  · rw [if_pos hP, if_pos (h.mpr hP)]
    rfl
  · rw [if_neg hP, if_neg (mt h.mp hP)]
    rfl

@[simp] theorem State.branched_psl : (s.branched P target).psl = s.psl := by
  unfold State.branched
  split <;> rfl

/-- Where the PC has been set before, only its value depends on the branch. -/
theorem State.branched_setReg (next : Long) : (s.setReg 15 next).branched P target = s.setReg 15 (if P then target else next) := by
  unfold State.branched
  split
  · exact s.setReg_twice 15 next target
  · rfl

/-- The displacement counts from the byte after it, R403. -/
theorem branchTarget_ok (k : Nat) (d : BitVec w) (s : State) : branchTarget k d s =
    .ok (s.pc + BitVec.ofNat 32 k + d.signExtend 32) (s.setReg 15 (s.pc + BitVec.ofNat 32 k)) := by
  unfold branchTarget
  rw [bind_of_ok _ (run_adv k s), bind_of_ok _ (run_getPC _), State.setReg_pc]
  rfl

/-- The same where the displacement comes right after an opcode of one byte. -/
theorem branchTarget_past (hop : op < 256) (k : Nat) (d : BitVec w) (s : State) : branchTarget k d (past op s) =
    .ok (s.pc + BitVec.ofNat 32 (1 + k) + d.signExtend 32) (s.setReg 15 (s.pc + BitVec.ofNat 32 (1 + k))) := by
  have hpast : past op s = s.setReg 15 (s.pc + 1) := by rw [past, if_pos hop]
  rw [branchTarget_ok, hpast, State.setReg_pc, State.setReg_twice, BitVec.add_assoc s.pc, BitVec.ofNat_add]
  rfl
end

/-! ### Branches on the condition codes and on a low bit -/

section
variable {op k w : Nat} {d : BitVec w} {cond : State → Bool} {s s1 : State} {src : Opnd} {x : Long} {want : Bool}

/-- How a branch on the state leaves the machine; the condition looks at more than the PC. -/
theorem execute_branchOn (hop : op < 256) (hcond : ∀ v, cond (s.setReg 15 v) = cond s) (hready : Ready op s) :
    execute op (branchOn k d cond) s = .next (s.setReg 15 (if cond s = true then s.pc + BitVec.ofNat 32 (1 + k) + d.signExtend 32
      else s.pc + BitVec.ofNat 32 (1 + k))) := by
  rw [execute_ready hready]
  unfold branchOn
  rw [bind_of_ok _ (branchTarget_past hop k d s), bind_of_ok _ (run_get _), hcond,
    bind_of_ok _ (branchIf_ok (P := cond s = true) Iff.rfl), State.branched_setReg]
  rfl

theorem branchLowBit_ok (d : Byte) (hsrc : rd .l src s = .ok x s1) : branchLowBit want src d s =
    .ok none (s1.setReg 15 (if x.getLsbD 0 = want then s1.pc + 1 + d.signExtend 32 else s1.pc + 1)) := by
  unfold branchLowBit
  rw [bind_of_ok _ hsrc, bind_of_ok _ (branchTarget_ok 1 d s1), bind_of_ok _ (branchIf_ok beq_iff_eq), State.branched_setReg]
  rfl
end

theorem branchRows_opcode : ∀ e ∈ branchRows, e.1 < 256 := by simp [branchRows]

/-- A row's instruction branches on the row's condition. -/
theorem branchRows_run : ∀ e ∈ branchRows, ∀ d s,
    exec (e.2.1 d) s = execute e.1 (branchOn 1 d fun t => e.2.2 t.ccN t.ccZ t.ccV t.ccC) s := by
  unfold branchRows
  simp only [List.forall_mem_cons]
  exact ⟨fun _ _ => rfl, fun _ _ => rfl, fun _ _ => rfl, fun _ _ => rfl, fun _ _ => rfl, fun _ _ => rfl, fun _ _ => rfl,
    fun _ _ => rfl, fun _ _ => rfl, fun _ _ => rfl, fun _ _ => rfl, fun _ _ => rfl, fun _ _ => rfl, fun _ _ => rfl,
    fun _ _ => rfl, fun _ _ => rfl, fun _ _ => rfl, List.forall_mem_nil _⟩

/-- Settles O36. -/
theorem branchResults : Obligations.BranchResults := by
  refine ⟨?_, ?_, ?_⟩
  · intro e he d s hready
    rw [branchRows_run e he]
    exact execute_branchOn (branchRows_opcode e he) (fun _ => rfl) hready
  · intro d s hready
    exact execute_branchOn (cond := fun _ => true) (by decide) (fun _ => rfl) hready
  · refine fun src d s s1 x => ⟨fun hready hsrc => ?_, fun hready hsrc => ?_⟩
    · show execute 0xE8 (branchLowBit true src d) s = _
      rw [execute_ready hready, branchLowBit_ok d hsrc]
      rfl
    · show execute 0xE9 (branchLowBit false src d) s = _
      rw [execute_ready hready, branchLowBit_ok d hsrc]
      rfl

/-! ### Jumps and subroutines -/

section
variable {op w k : Nat} {d : BitVec w} {dst : Opnd} {s s1 s2 : State} {a x : Long} {e : Exc}

theorem jump_ok (hdst : adr .b dst s = .ok a s1) : jump dst s = .ok none (s1.setReg 15 a) := by
  unfold jump
  rw [bind_of_ok _ hdst]
  rfl

theorem jsb_ok (hdst : adr .b dst s = .ok a s1) (hpush : push [s1.pc] s1 = .ok ⟨⟩ s2) :
    jsb dst s = .ok none (s2.setReg 15 a) := by
  unfold jsb
  rw [bind_of_ok _ hdst, bind_of_ok _ (run_getPC s1), bind_of_ok _ hpush]
  rfl

theorem rsb_ok (hpop : pop s = .ok x s1) : rsb s = .ok none (s1.setReg 15 x) := by
  unfold rsb
  rw [bind_of_ok _ hpop]
  rfl

/-- BSBB and BSBW come down to their push of the PC after the displacement. -/
theorem branchSub_past (hop : op < 256) : branchSub k d (past op s) = (do
    push [s.pc + BitVec.ofNat 32 (1 + k)]
    setPC (s.pc + BitVec.ofNat 32 (1 + k) + d.signExtend 32)
    done : Meaning) (s.setReg 15 (s.pc + BitVec.ofNat 32 (1 + k))) := by
  unfold branchSub
  rw [bind_of_ok _ (branchTarget_past hop k d s), bind_of_ok _ (run_getPC _), State.setReg_pc]

/-- How BSBB and BSBW leave the machine, R723, R724. -/
theorem execute_branchSub (hop : op < 256) (hready : Ready op s)
    (hpush : push [s.pc + BitVec.ofNat 32 (1 + k)] (s.setReg 15 (s.pc + BitVec.ofNat 32 (1 + k))) = .ok ⟨⟩ s1) :
    execute op (branchSub k d) s = .next (s1.setReg 15 (s.pc + BitVec.ofNat 32 (1 + k) + d.signExtend 32)) := by
  rw [execute_ready hready, branchSub_past hop, bind_of_ok _ hpush]
  rfl

/-- A push that faults leaves the registers, SP and PC among them, as they were, R723. -/
theorem execute_branchSub_exc (hop : op < 256) (hready : Ready op s)
    (hpush : push [s.pc + BitVec.ofNat 32 (1 + k)] (s.setReg 15 (s.pc + BitVec.ofNat 32 (1 + k))) = .error (.exc e) s1) :
    execute op (branchSub k d) s = outcomeOf (enterException e s.pc { s1 with r := s.r, psl := s.psl }) := by
  obtain ⟨hfpd, hfloat, hmode⟩ := hready
  refine execute_exc op (branchSub k d) s s1 e hfpd hfloat hmode ?_
  exact (branchSub_past hop).trans (bind_of_error _ hpush)
end

/-- Settles O40. -/
theorem jumpAndSubroutineResults : Obligations.JumpAndSubroutineResults := by
  refine ⟨?_, ?_, ?_, ?_, ?_, ?_⟩
  · intro dst s s1 a hready hdst
    show execute 0x17 (jump dst) s = _
    rw [execute_ready hready, jump_ok hdst]
    rfl
  · intro dst s s1 s2 a hready hdst hpush
    show execute 0x16 (jsb dst) s = _
    rw [execute_ready hready, jsb_ok hdst hpush]
    rfl
  · exact fun d s s1 hready hpush => execute_branchSub (k := 1) (by decide) hready hpush
  · exact fun d s s1 hready hpush => execute_branchSub (k := 2) (by decide) hready hpush
  · intro s s1 x hready hpop
    show execute 0x05 rsb s = _
    rw [execute_ready hready, rsb_ok hpop]
    rfl
  · exact fun s t e => ⟨fun d hready hpush => execute_branchSub_exc (k := 1) (by decide) hready hpush,
      fun d hready hpush => execute_branchSub_exc (k := 2) (by decide) hready hpush⟩

end Sys2Proof.Machine
end

section
/-! Branches on a bit, 42_control.md R695 to R703: the bit of a register or of memory is read and, in some, exchanged. -/
namespace Sys2Proof.Machine

section
variable {op : Nat} {mk : Opnd → Opnd → Byte → Instr} {want new old : Bool} {u : Use} {pos base : Opnd} {d : Byte}
  {s s1 s2 s3 s4 : State} {p v : Long} {b : FieldBase} {f : FieldPlace}

theorem branchBit_ok (hpos : rdPlain .l pos s = .ok p s1) (hbase : fld base s1 = .ok b s2)
    (hplace : fieldPlace p 1 b (s2.setReg 15 (s2.pc + 1)) = .ok f s3) (hread : fieldRead f s3 = .ok v s4) :
    branchBit want pos base d s = .ok none (s4.branched (v.getLsbD 0 = want) (s2.pc + 1 + d.signExtend 32)) := by
  unfold branchBit
  rw [bind_of_ok _ hpos, bind_of_ok _ hbase, bind_of_ok _ (branchTarget_ok 1 d s2)]
  refine (bind_of_ok _ hplace).trans ((bind_of_ok _ hread).trans ?_)
  rw [bind_of_ok _ (branchIf_ok beq_iff_eq)]
  rfl

theorem branchBitSet_ok (hpos : rdPlain .l pos s = .ok p s1) (hbase : fld base s1 = .ok b s2)
    (hplace : fieldPlace p 1 b (s2.setReg 15 (s2.pc + 1)) = .ok f s3) (hexchange : exchangeBit u f new s3 = .ok old s4) :
    branchBitSet u want new pos base d s = .ok none (s4.branched (old = want) (s2.pc + 1 + d.signExtend 32)) := by
  unfold branchBitSet
  rw [bind_of_ok _ hpos, bind_of_ok _ hbase, bind_of_ok _ (branchTarget_ok 1 d s2)]
  refine (bind_of_ok _ hplace).trans ((bind_of_ok _ hexchange).trans ?_)
  rw [bind_of_ok _ (branchIf_ok beq_iff_eq)]
  rfl

/-- How BBS and BBC leave the machine, R696, R697. -/
theorem exec_branchBit (hexec : ∀ pos base d s, exec (mk pos base d) s = execute op (branchBit want pos base d) s)
    (hready : Ready op s) (hpos : rdPlain .l pos (past op s) = .ok p s1) (hbase : fld base s1 = .ok b s2)
    (hplace : fieldPlace p 1 b (s2.setReg 15 (s2.pc + 1)) = .ok f s3) (hread : fieldRead f s3 = .ok v s4) :
    exec (mk pos base d) s = .next (s4.branched (v.getLsbD 0 = want) (s2.pc + 1 + d.signExtend 32)) := by
  rw [hexec, execute_ready hready, branchBit_ok hpos hbase hplace hread]
  rfl
end

theorem bitBranchRows_run : ∀ e ∈ bitBranchRows, ∀ pos base d s,
    exec (e.2.1 pos base d) s = execute e.1 (branchBitSet e.2.2.1 e.2.2.2.1 e.2.2.2.2 pos base d) s := by
  unfold bitBranchRows
  simp only [List.forall_mem_cons]
  exact ⟨fun _ _ _ _ => rfl, fun _ _ _ _ => rfl, fun _ _ _ _ => rfl, fun _ _ _ _ => rfl, fun _ _ _ _ => rfl, fun _ _ _ _ => rfl,
    List.forall_mem_nil _⟩

/-! ### The bit exchanged -/

/-- A bit put in an octaword. -/
theorem putBits_bit_getLsbD (w : Octa) (o : Nat) (new : Bool) {i : Nat} (hi : i < 128) :
    (putBits w o 1 (bitL new)).getLsbD i = if i = o then new else w.getLsbD i := by
  rw [putBits_getLsbD w o (by decide) _ hi, bitL_getLsbD]
  by_cases h : i = o
  · rw [if_pos h, if_pos (by omega), decide_eq_true (by omega), Bool.and_true]
  · rw [if_neg h, if_neg (by omega)]

/-- In a register exactly the one bit changes. -/
theorem exchangeBit_regs (u : Use) (s : State) (r : Reg) {k : Nat} (new : Bool) (hk : k < 32) :
    exchangeBit u (.regs r k 1) new s = .ok ((s.reg r).getLsbD k) (s.setReg r (putField (s.reg r) k 1 (bitL new))) := by
  have hold : (bitsOf (s.regs4 r) k 1).getLsbD 0 = (s.reg r).getLsbD k := by
    rw [bitsOf_getLsbD _ _ _ (by decide), s.regs4_getLsbD_low r (by omega)]
    rfl
  unfold exchangeBit
  dsimp only
  rw [bind_of_ok _ fieldRead_regs, bind_of_ok _ fieldWrite_regs, if_neg (by omega), putBits_regs4_low (by omega), hold]
  rfl

/-- The bytes of a place in memory are checked for write, then read, then written with the bit replaced; where the reference is
interlocked nothing may hold the interlock. -/
theorem exchangeBit_bytes {u : Use} {s s1 s2 s3 : State} {va : Long} {o k n : Nat} {sp : Span} {new : Bool} {w : Octa}
    (hdest : memDest va k s = .ok sp s1) (hram : place s1 sp.a0 = .ram) (h750 : s1.v750.lock = false)
    (h780 : s1.v780.interlock = false) (hread : readSpan u sp k s1 = .ok w s2)
    (hwrite : writeSpan u sp k (putBits w o 1 (bitL new)) s2 = .ok ⟨⟩ s3) :
    exchangeBit u (.bytes va o k n) new s = .ok (w.getLsbD o) s3 := by
  unfold exchangeBit
  dsimp only
  rw [bind_of_ok _ hdest, bind_of_ok _ (run_get s1), hram]
  cases u with
  | interlocked => exact (bind_of_ok _ (awaitInterlock_free h750 h780)).trans ((bind_of_ok _ hread).trans (bind_of_ok _ hwrite))
  | data | modify | table | other => exact (bind_of_ok _ hread).trans (bind_of_ok _ hwrite)

/-- A byte lies in one page. -/
theorem memDest_byte {va : Long} {s s1 : State} {sp : Span} (h : memDest va 1 s = .ok sp s1) : sp.k = 1 := by
  have hleft : 1 ≤ leftInPage va := by
    have : byteInPage va < 512 := BitVec.isLt _
    unfold leftInPage
    omega
  unfold memDest translateSpan at h
  rw [bind_of_ok _ (run_get s)] at h
  dsimp only at h
  rw [if_pos hleft] at h
  obtain ⟨a, t, -, hspan⟩ := bind_ok h
  cases hspan
  rfl

theorem State.ramValue_byte_getLsbD (s : State) (pa : Nat) {i : Nat} (hi : i < 8) :
    (s.ramValue pa 1).getLsbD i = (s.byte pa).getLsbD i := by
  have hvalue : s.ramValue pa 1 = (s.byte pa).setWidth 128 := by
    unfold State.ramValue State.byte ramBytes ramBytes leNat leNat
    rw [Nat.mul_zero, Nat.add_zero, BitVec.ofNat_toNat]
  rw [hvalue, BitVec.getLsbD_setWidth, decide_eq_true (by omega), Bool.true_and]

/-- In a byte of good main memory exactly the one bit changes. -/
theorem exchangeBit_ram (u : Use) {s s1 : State} {va : Long} {o : Nat} {sp : Span} (new : Bool) (ho : o < 8) (hmem : s.MemOk)
    (hdest : memDest va 1 s = .ok sp s1) (hgood : s1.goodRam sp.a0 1) (h750 : s1.v750.lock = false)
    (h780 : s1.v780.interlock = false) :
    ∃ t, exchangeBit u (.bytes va o 1 1) new s = .ok ((s1.byte sp.a0).getLsbD o) t
      ∧ (∀ i < 8, (t.byte sp.a0).getLsbD i = if i = o then new else (s1.byte sp.a0).getLsbD i)
      ∧ (∀ a, a ≠ sp.a0 → t.byte a = s1.byte a) ∧ t.r = s1.r ∧ t.psl = s1.psl := by
  have hspan : 1 ≤ sp.k := (memDest_byte hdest).ge
  have hmem1 : s1.MemOk := ((steady_memDest.keeps s).of_ok hdest (.refl s)).mem hmem
  have hread : readSpan u sp 1 s1 = .ok (s1.ramValue sp.a0 1) s1 := by
    obtain ⟨hram, hbad, hecc, hduring⟩ := hgood
    unfold readSpan
    rw [if_pos hspan, physRead_ram u sp.a0 1 s1 hduring hram hbad hecc]
  obtain ⟨t, hphys, -, -, hthere, helse, hr, hpsl, -, -⟩ :=
    physWrite_physRead_ram u u (putBits (s1.ramValue sp.a0 1) o 1 (bitL new)) hmem1 hgood
  have hwrite : writeSpan u sp 1 (putBits (s1.ramValue sp.a0 1) o 1 (bitL new)) s1 = .ok ⟨⟩ t := by
    unfold writeSpan
    rw [if_pos hspan, hphys]
  refine ⟨t, ?_, fun i hi => ?_, fun a ha => helse a (by omega), hr, hpsl⟩
  · rw [exchangeBit_bytes hdest hgood.1 h750 h780 hread hwrite, s1.ramValue_byte_getLsbD _ ho]
  · have hbyte := hthere 0 (by decide)
    rw [Nat.add_zero] at hbyte
    rw [hbyte, BitVec.getLsbD_setWidth, decide_eq_true hi, Bool.true_and, BitVec.getLsbD_ushiftRight, Nat.mul_zero, Nat.zero_add,
      putBits_bit_getLsbD _ o new (by omega), s1.ramValue_byte_getLsbD _ hi]

/-- Settles O37. -/
theorem bitBranchResults : Obligations.BitBranchResults := by
  refine ⟨?_, ?_, ?_, ?_⟩
  · intro pos base d s s1 s2 s3 s4 p b f v
    exact ⟨exec_branchBit (want := true) fun _ _ _ _ => rfl, exec_branchBit (want := false) fun _ _ _ _ => rfl⟩
  · intro e he pos base d s s1 s2 s3 s4 p b f old hready hpos hbase hplace hexchange
    rw [bitBranchRows_run e he, execute_ready hready, branchBitSet_ok hpos hbase hplace hexchange]
    rfl
  · exact fun u s r k new hk => exchangeBit_regs u s r new hk
  · exact fun u s s1 va o sp new ho hmem hdest hgood h750 h780 => exchangeBit_ram u new ho hmem hdest hgood h750 h780

end Sys2Proof.Machine
end

section
/-! Loop instructions, 42_control.md R708 to R714: the index is stored with its condition codes, then the branch is decided. -/
namespace Sys2Proof.Machine

theorem overflowTrap_ok (s : State) : overflowTrap s = .ok (if s.ccV && s.iv then some 1 else none) s := rfl

/-- A trap that is due is left pending. -/
theorem finish_trapIf (start s : State) (b : Bool) (code : Nat) :
    finish start (.ok (if b then some code else none) s) = .next (s.trappedIf b code) := by
  cases b with
  | false => rfl
  | true => rfl

@[simp] theorem State.flags_ccV {w : Nat} (s : State) (r : BitVec w) (v c : Bool) : (s.flags r v c).ccV = v := s.withCC_ccV _ _ v c
@[simp] theorem State.flags_iv {w : Nat} (s : State) (r : BitVec w) (v c : Bool) : (s.flags r v c).iv = s.iv := s.withCC_iv _ _ v c

section
variable {P : Prop} [Decidable P] {t : DT} {k : Dest} {x : Res t.bits} {taken : Bool} {target : Long} {op : Nat} {s u : State}
  {r : BitVec t.bits} {v : Bool} {c : Bool → Bool}

/-- The state at the end of a loop instruction: the branch, the condition codes of the index, and a trap where it overflowed. -/
theorem finish_loopEnd (start : State) (hx : x.Is r v c none) (htaken : taken = true ↔ P)
    (hstore : storePlain t k r s = .ok ⟨⟩ u) :
    finish start (loopEnd t k x taken target s) = .next ((u.branched P target).settled r v u.ccC none) := by
  obtain ⟨rfl, rfl, -, -⟩ := hx
  have hflags : (u.withCC x.r.msb (decide (x.r = 0)) x.v u.ccC).branched P target = (u.branched P target).flags x.r x.v u.ccC := by
    unfold State.branched
    split <;> rfl
  unfold loopEnd
  rw [bind_of_ok _ hstore, bind_of_ok _ (run_setNZV _ _ _ u), bind_of_ok _ (branchIf_ok htaken), hflags, overflowTrap_ok,
    finish_trapIf, State.flags_ccV, State.flags_iv]
  rfl

/-- The two ways a loop instruction ends, by whether an overflow is enabled. -/
theorem loop_outcomes {out : Out} (h : out = .next ((u.branched P target).settled r v u.ccC none)) :
    ((v && u.iv) = false → out = .next ((u.branched P target).flags r v u.ccC))
    ∧ ((v && u.iv) = true → out = .next (((u.branched P target).flags r true u.ccC).trapped 1)) := by
  have hiv : (u.branched P target).iv = u.iv := by rw [State.iv, State.branched_psl, State.iv]
  refine ⟨fun hquiet => ?_, fun htrap => ?_⟩
  · rw [h, State.settled_quiet (by rwa [hiv])]
  · obtain ⟨hv, hu⟩ := Bool.and_eq_true_iff.mp htrap
    rw [h, State.settled_overflow hv (hiv.trans hu), hv]
end

/-- How ACBx leaves the machine, R708 to R710. -/
theorem exec_acb {op : Nat} {t : DT} {mk : Opnd → Opnd → Opnd → Word16 → Instr}
    (hexec : ∀ limit add idx d s, exec (mk limit add idx d) s = execute op (acb t limit add idx d) s) {limit add idx : Opnd}
    {d : Word16} {s s1 s2 s3 s4 : State} {l a i : BitVec t.bits} {k : Dest} (hready : Ready op s)
    (hlimit : rdPlain t limit (past op s) = .ok l s1)
    (hadd : rdPlain t add s1 = .ok a s2) (hidx : mdAs .other t idx s2 = .ok (k, i) s3)
    (hstore : storePlain t k (i + a) (s3.setReg 15 (s3.pc + 2)) = .ok ⟨⟩ s4) :
    exec (mk limit add idx d) s = .next ((s4.branched
      ((0 ≤ a.toInt ∧ (i + a).toInt ≤ l.toInt) ∨ (a.toInt < 0 ∧ l.toInt ≤ (i + a).toInt)) (s3.pc + 2 + d.signExtend 32)).settled
      (i + a) (decide (i.toInt + a.toInt ≠ (i + a).toInt)) s4.ccC none) := by
  have hsum := Res.add_false_is (bits_pos t) i a
  have htaken : (if a.msb then decide (l.toInt ≤ (Res.add i a false).r.toInt)
      else decide ((Res.add i a false).r.toInt ≤ l.toInt)) = true ↔
      (0 ≤ a.toInt ∧ (i + a).toInt ≤ l.toInt) ∨ (a.toInt < 0 ∧ l.toInt ≤ (i + a).toInt) := by
    rw [hsum.result, BitVec.msb_eq_toInt]
    by_cases h : a.toInt < 0
    · simp [h]
    · simp [h, Int.not_lt.mp h]
  rw [hexec, execute_ready hready]
  unfold acb
  rw [bind_of_ok _ hlimit, bind_of_ok _ hadd, bind_of_ok _ hidx]
  dsimp only
  rw [bind_of_ok _ (branchTarget_ok 2 d s3)]
  exact finish_loopEnd s hsum htaken hstore

/-- How AOBLSS and AOBLEQ leave the machine, R711, R712; `test` says when the one branches. -/
theorem exec_aob {op : Nat} {leq : Bool} {mk : Opnd → Opnd → Byte → Instr} {test : Int → Int → Bool}
    (hexec : ∀ limit idx d s, exec (mk limit idx d) s = execute op (aob leq limit idx d) s)
    (htest : ∀ r l : Long, (decide (r.toInt < l.toInt) || leq && r == l) = test r.toInt l.toInt) {limit idx : Opnd} {d : Byte}
    {s s1 s2 s3 : State} {l i : Long} {k : Dest} (hready : Ready op s) (hlimit : rdPlain .l limit (past op s) = .ok l s1)
    (hidx : mdAs .other .l idx s1 = .ok (k, i) s2) (hstore : storePlain .l k (i + 1) (s2.setReg 15 (s2.pc + 1)) = .ok ⟨⟩ s3) :
    exec (mk limit idx d) s = .next ((s3.branched (test (i + 1).toInt l.toInt = true) (s2.pc + 1 + d.signExtend 32)).settled
      (i + 1) (decide (i = 0x7FFFFFFF)) s3.ccC none) := by
  have hsum := Res.increment_is (w := 32) (by decide) i
  have hlast : decide (i.toInt = 2 ^ (32 - 1) - 1) = decide (i = 0x7FFFFFFF) :=
    decide_eq_decide.mpr (BitVec.toInt_inj (y := 0x7FFFFFFF))
  rw [hlast] at hsum
  have htaken : (decide ((Res.add i 1 false).r.toInt < l.toInt) || leq && (Res.add i 1 false).r == l) = true ↔
      test (i + 1).toInt l.toInt = true := by
    rw [hsum.result, htest]
  rw [hexec, execute_ready hready]
  unfold aob
  rw [bind_of_ok _ hlimit, bind_of_ok _ hidx]
  dsimp only
  rw [bind_of_ok _ (branchTarget_ok 1 d s2)]
  exact finish_loopEnd (t := .l) s hsum htaken hstore

/-- How SOBGEQ and SOBGTR leave the machine, R713, R714; `test` says when the one branches. -/
theorem exec_sob {op : Nat} {geq : Bool} {mk : Opnd → Byte → Instr} {test : Int → Bool}
    (hexec : ∀ idx d s, exec (mk idx d) s = execute op (sob geq idx d) s)
    (htest : ∀ r : Long, (decide (0 < r.toInt) || geq && r == 0) = test r.toInt) {idx : Opnd} {d : Byte} {s s1 s2 : State} {i : Long}
    {k : Dest} (hready : Ready op s) (hidx : mdAs .other .l idx (past op s) = .ok (k, i) s1)
    (hstore : storePlain .l k (i - 1) (s1.setReg 15 (s1.pc + 1)) = .ok ⟨⟩ s2) :
    exec (mk idx d) s = .next ((s2.branched (test (i - 1).toInt = true) (s1.pc + 1 + d.signExtend 32)).settled
      (i - 1) (decide (i = 0x80000000)) s2.ccC none) := by
  have hdif := Res.decrement_is (w := 32) (by decide) i
  have hfirst : decide (i.toInt = -2 ^ (32 - 1)) = decide (i = 0x80000000) :=
    decide_eq_decide.mpr (BitVec.toInt_inj (y := 0x80000000))
  rw [hfirst] at hdif
  have htaken : (decide (0 < (Res.sub i 1 false).r.toInt) || geq && (Res.sub i 1 false).r == 0) = true ↔
      test (i - 1).toInt = true := by
    rw [hdif.result, htest]
  rw [hexec, execute_ready hready]
  unfold sob
  rw [bind_of_ok _ hidx]
  dsimp only
  rw [bind_of_ok _ (branchTarget_ok 1 d s1)]
  exact finish_loopEnd (t := .l) s hdif htaken hstore

/-! ### The instructions of each shape -/

theorem acbRows_run : ∀ e ∈ ([(0x9D, .acbb, .b), (0x3D, .acbw, .w), (0xF1, .acbl, .l)] :
    List (Nat × (Opnd → Opnd → Opnd → Word16 → Instr) × DT)), ∀ limit add idx d s,
    exec (e.2.1 limit add idx d) s = execute e.1 (acb e.2.2 limit add idx d) s := by
  simp only [List.forall_mem_cons]
  exact ⟨fun _ _ _ _ _ => rfl, fun _ _ _ _ _ => rfl, fun _ _ _ _ _ => rfl, List.forall_mem_nil _⟩

theorem lt_or_beq_eq_toInt_le (r l : Long) : (decide (r.toInt < l.toInt) || r == l) = decide (r.toInt ≤ l.toInt) := by
  rw [Bool.eq_iff_iff, Bool.or_eq_true, decide_eq_true_iff, decide_eq_true_iff, beq_iff_eq, ← BitVec.toInt_inj]
  omega

theorem aobRows_run : ∀ e ∈ ([(0xF2, .aoblss, fun i l => decide (i < l)), (0xF3, .aobleq, fun i l => decide (i ≤ l))] :
    List (Nat × (Opnd → Opnd → Byte → Instr) × (Int → Int → Bool))),
    ∃ leq, (∀ limit idx d s, exec (e.2.1 limit idx d) s = execute e.1 (aob leq limit idx d) s)
      ∧ ∀ r l : Long, (decide (r.toInt < l.toInt) || leq && r == l) = e.2.2 r.toInt l.toInt := by
  simp only [List.forall_mem_cons]
  exact ⟨⟨false, fun _ _ _ _ => rfl, fun _ _ => Bool.or_false _⟩, ⟨true, fun _ _ _ _ => rfl, lt_or_beq_eq_toInt_le⟩,
    List.forall_mem_nil _⟩

theorem sobRows_run : ∀ e ∈ ([(0xF4, .sobgeq, fun i => decide (0 ≤ i)), (0xF5, .sobgtr, fun i => decide (0 < i))] :
    List (Nat × (Opnd → Byte → Instr) × (Int → Bool))),
    ∃ geq, (∀ idx d s, exec (e.2.1 idx d) s = execute e.1 (sob geq idx d) s)
      ∧ ∀ r : Long, (decide (0 < r.toInt) || geq && r == 0) = e.2.2 r.toInt := by
  have hgeq (r : Long) : (decide (0 < r.toInt) || r == 0) = decide (0 ≤ r.toInt) := by
    rw [BEq.comm]
    exact lt_or_beq_eq_toInt_le 0 r
  simp only [List.forall_mem_cons]
  exact ⟨⟨true, fun _ _ _ => rfl, hgeq⟩, ⟨false, fun _ _ _ => rfl, fun _ => Bool.or_false _⟩, List.forall_mem_nil _⟩

/-- Settles O38. -/
theorem loopResults : Obligations.LoopResults := by
  refine ⟨?_, ?_, ?_⟩
  · intro e he limit add idx d s s1 s2 s3 s4 l a i k hready hlimit hadd hidx hstore
    exact loop_outcomes (exec_acb (acbRows_run e he) hready hlimit hadd hidx hstore)
  · intro e he limit idx d s s1 s2 s3 l i k hready hlimit hidx hstore
    obtain ⟨leq, hexec, htest⟩ := aobRows_run e he
    exact loop_outcomes (t := .l) (exec_aob hexec htest hready hlimit hidx hstore)
  · intro e he idx d s s1 s2 i k hready hidx hstore
    obtain ⟨geq, hexec, htest⟩ := sobRows_run e he
    exact loop_outcomes (t := .l) (exec_sob hexec htest hready hidx hstore)

end Sys2Proof.Machine
end

section
/-! Case instructions, 42_control.md R715 to R718: into the table after the instruction, or past it. -/
namespace Sys2Proof.Machine

section
variable {op : Nat} {t : DT} {mk : Opnd → Opnd → Opnd → Instr} {selector base limit : Opnd} {s s1 s2 s3 s4 : State}
  {x b l : BitVec t.bits} {d : Word16}

theorem case_within (hsel : rd t selector s = .ok x s1) (hbase : rd t base s1 = .ok b s2) (hlimit : rd t limit s2 = .ok l s3)
    (hin : (x - b).toNat ≤ l.toNat) (hword : streamWord (s3.pc + BitVec.ofNat 32 (2 * (x - b).toNat)) s3 = .ok d s4) :
    case t selector base limit s = .ok none ((s4.setReg 15 (s3.pc + d.signExtend 32)).withCC
      (decide ((x - b).toInt < l.toInt)) (decide (x - b = l)) false (decide ((x - b).toNat < l.toNat))) := by
  unfold case
  rw [bind_of_ok _ hsel, bind_of_ok _ hbase, bind_of_ok _ hlimit]
  dsimp only
  rw [bind_of_ok _ (run_getPC s3), if_pos hin, bind_of_ok _ hword]
  rfl

theorem case_beyond (hsel : rd t selector s = .ok x s1) (hbase : rd t base s1 = .ok b s2) (hlimit : rd t limit s2 = .ok l s3)
    (hout : l.toNat < (x - b).toNat) :
    case t selector base limit s = .ok none ((s3.setReg 15 (s3.pc + BitVec.ofNat 32 (2 * (l.toNat + 1)))).withCC
      (decide ((x - b).toInt < l.toInt)) false false false) := by
  have hne : x - b ≠ l := fun h => absurd hout (by rw [h]; exact Nat.lt_irrefl _)
  unfold case
  rw [bind_of_ok _ hsel, bind_of_ok _ hbase, bind_of_ok _ hlimit]
  dsimp only
  rw [bind_of_ok _ (run_getPC s3), if_neg (by omega), bind_of_ok _ (run_setPC _ s3)]
  unfold compareFlags
  rw [decide_eq_false hne, decide_eq_false (by omega : ¬ (x - b).toNat < l.toNat)]
  rfl
end

theorem caseRows_run : ∀ e ∈ ([(0x8F, .caseb, .b), (0xAF, .casew, .w), (0xCF, .casel, .l)] :
    List (Nat × (Opnd → Opnd → Opnd → Instr) × DT)), ∀ selector base limit s,
    exec (e.2.1 selector base limit) s = execute e.1 (case e.2.2 selector base limit) s := by
  simp only [List.forall_mem_cons]
  exact ⟨fun _ _ _ _ => rfl, fun _ _ _ _ => rfl, fun _ _ _ _ => rfl, List.forall_mem_nil _⟩

/-- Settles O39. -/
theorem caseResults : Obligations.CaseResults := by
  intro e he selector base limit s s1 s2 s3 x b l hready hsel hbase hlimit
  rw [caseRows_run e he, execute_ready hready]
  refine ⟨fun hin d s4 hword => ?_, fun hout => ?_⟩
  · rw [case_within hsel hbase hlimit hin hword]
    rfl
  · rw [case_beyond hsel hbase hlimit hout]
    rfl

end Sys2Proof.Machine
end

section
/-! Procedure calls, 43_procedure.md R744 to R746: the frame a call builds and where it leaves the registers and the PSL. -/
namespace Sys2Proof.Machine

/-! ### The frame -/

theorem frameWord_eq (spa : Long) (calls : Bool) (mask : Word16) (psl : Long) : frameWord spa calls mask psl =
    (spa <<< 30 ||| (if calls then 0x20000000 else 0) ||| (mask.setWidth 32 &&& 0xFFF) <<< 16 ||| (psl &&& 0xFFE0)) := by
  cases calls <;> rfl

/-- The registers of a mask are named the same in the longword and in the word. -/
theorem maskRegs_setWidth (mask : Word16) : maskRegs (mask.setWidth 32) 12 = (List.range 12).filter fun i => mask.getLsbD i := by
  refine List.filter_congr fun i hi => ?_
  rw [BitVec.getLsbD_setWidth, decide_eq_true (by have := List.mem_range.mp hi; omega), Bool.true_and]

/-- What the model pushes is the frame of R744. -/
theorem callFrame_eq_frameLongs (s : State) (spa : Long) (calls : Bool) (mask : Word16) :
    callFrame s spa calls mask = frameLongs s mask calls spa := by
  unfold callFrame frameLongs
  rw [maskRegs_setWidth, frameWord_eq]
  rfl

theorem frameLongs_ne_nil (s : State) (mask : Word16) (calls : Bool) (spa : Long) : frameLongs s mask calls spa ≠ [] := by
  unfold frameLongs
  simp

/-- The last of `n` longwords pushed lies lowest. -/
theorem slots_getLast? (sp : Long) {n : Nat} (hn : 0 < n) : (slots sp n).getLast? = some (sp - BitVec.ofNat 32 (4 * n)) := by
  obtain ⟨m, rfl⟩ := Nat.exists_eq_add_one.mpr hn
  unfold slots
  rw [List.range_succ, List.map_append]
  exact List.getLast?_concat

/-- The PSL of the called procedure, R745. -/
theorem calledPsl_eq_calledStatus (psl : Long) (mask : Word16) : calledPsl psl mask = calledStatus psl mask := by
  unfold calledPsl calledStatus putBit
  refine BitVec.eq_of_getLsbD_eq fun i hi => ?_
  rw [putField_getLsbD _ _ _ _ _ hi, putField_getLsbD _ _ _ _ _ hi, putField_getLsbD _ _ _ _ _ hi, putField_getLsbD _ _ _ _ _ hi]
  cases mask.getLsbD 14 <;> cases mask.getLsbD 15 <;> interval_cases i <;> simp [bitL]

/-! ### Running a call -/

/-- SP once the argument count, where there is one, has been pushed. -/
def callSp (numarg : Option Long) (s : State) : Long := s.reg 14 - BitVec.ofNat 32 (4 * numarg.toList.length)

/-- The frame a call pushes from there on, aligned. -/
def callLongs (numarg : Option Long) (mask : Word16) (s : State) : List Long :=
  frameLongs s mask numarg.isSome (callSp numarg s &&& 3)

/-- Where the argument count and the frame go. -/
def callSlots (numarg : Option Long) (mask : Word16) (s : State) : List Long :=
  slots (s.reg 14) numarg.toList.length ++ slots (callSp numarg s &&& 0xFFFFFFFC) (callLongs numarg mask s).length

/-- Where the frame ends. -/
def callFp (numarg : Option Long) (mask : Word16) (s : State) : Long :=
  (callSp numarg s &&& 0xFFFFFFFC) - BitVec.ofNat 32 (4 * (callLongs numarg mask s).length)

/-- The called procedure is about to run, its frame written: FP and SP at the frame, AP at the arguments, R745. -/
def State.inProcedure (s : State) (fp ap : Long) (mask : Word16) (entry : Long) : State :=
  State.setReg { (((s.setReg 14 fp).setReg 13 fp).setReg 12 ap) with psl := calledStatus s.psl mask } 15 entry

theorem callSlots_getLastD (numarg : Option Long) (mask : Word16) (s : State) :
    (callSlots numarg mask s).getLastD 0 = callFp numarg mask s := by
  have hframe : 0 < (callLongs numarg mask s).length := List.length_pos_iff.mpr (frameLongs_ne_nil s mask _ _)
  rw [List.getLastD_eq_getLast?, callSlots, List.getLast?_append, slots_getLast? _ hframe]
  rfl

section
variable {numarg : Option Long} {ap dst : Long} {s s1 s2 s3 : State} {w : Octa} {mask : Word16} {spans : List Span} {e : Exc}

/-- A call whose mask may be used comes down to its pushes and what follows them. -/
theorem call_pushes (hread : memRead .data dst 2 s = .ok w s1) (hmask : mask = w.setWidth 16) (hclear : field mask 12 2 = 0) :
    call numarg ap dst s = (do
      let spans ← longDests (callSlots numarg mask s1)
      putLongs (spans.zip (numarg.toList ++ callLongs numarg mask s1))
      modify fun t => t.inProcedure (callFp numarg mask s1) (if numarg.isSome then callSp numarg s1 else ap) mask (dst + 2)
      done : Meaning) s1 := by
  subst hmask
  unfold call
  rw [bind_of_ok _ hread]
  dsimp only
  rw [if_neg (not_not.mpr hclear), bind_of_ok _ (run_get s1)]
  rw [callFrame_eq_frameLongs, ← callSlots_getLastD]
  unfold State.inProcedure
  simp only [← calledPsl_eq_calledStatus]
  rfl

theorem call_ok (hread : memRead .data dst 2 s = .ok w s1) (hmask : mask = w.setWidth 16) (hclear : field mask 12 2 = 0)
    (hdests : longDests (callSlots numarg mask s1) s1 = .ok spans s2)
    (hputs : putLongs (spans.zip (numarg.toList ++ callLongs numarg mask s1)) s2 = .ok ⟨⟩ s3) : call numarg ap dst s =
    .ok none (s3.inProcedure (callFp numarg mask s1) (if numarg.isSome then callSp numarg s1 else ap) mask (dst + 2)) := by
  rw [call_pushes hread hmask hclear, bind_of_ok _ hdests, bind_of_ok _ hputs]
  rfl

/-- Where one of the pushes may not be made the call ends before any of them. -/
theorem call_exc (hread : memRead .data dst 2 s = .ok w s1) (hmask : mask = w.setWidth 16) (hclear : field mask 12 2 = 0)
    (hdests : longDests (callSlots numarg mask s1) s1 = .error (.exc e) s2) : call numarg ap dst s = .error (.exc e) s2 := by
  rw [call_pushes hread hmask hclear, bind_of_error _ hdests]

theorem call_reservedMask (hread : memRead .data dst 2 s = .ok w s1) (hset : field (w.setWidth 16 : Word16) 12 2 ≠ 0) :
    call numarg ap dst s = .error (.exc reservedOperand) s1 := by
  unfold call
  rw [bind_of_ok _ hread]
  dsimp only
  rw [if_pos hset]
  rfl
end

section
variable {arglist numarg dst : Opnd} {s s1 s2 : State} {ap n d : Long}

theorem callg_eq (harglist : adr .b arglist s = .ok ap s1) (hdst : adr .b dst s1 = .ok d s2) :
    callg arglist dst s = call none ap d s2 := by
  unfold callg
  rw [bind_of_ok _ harglist, bind_of_ok _ hdst]

theorem calls_eq (hnumarg : rd .l numarg s = .ok n s1) (hdst : adr .b dst s1 = .ok d s2) :
    calls numarg dst s = call (some n) 0 d s2 := by
  unfold calls
  rw [bind_of_ok _ hnumarg, bind_of_ok _ hdst]

/-- CALLG pushes no argument count: its frame begins at the aligned SP. -/
theorem callSp_none (s : State) : callSp none s = s.reg 14 := BitVec.sub_zero _
end

section
variable {op : Nat} {s t : State} {m : Meaning} {e : Exc}

/-- A fault leaves the registers and the PSL as they were, R1031. -/
theorem execute_ready_exc (hready : Ready op s) (hm : m (past op s) = .error (.exc e) t) :
    execute op m s = outcomeOf (enterException e s.pc { t with r := s.r, psl := s.psl }) := by
  obtain ⟨hfpd, hfloat, hmode⟩ := hready
  exact execute_exc op m s t e hfpd hfloat hmode hm
end

/-- Settles O41. -/
theorem callResults : Obligations.CallResults := by
  refine ⟨?_, ?_, ?_, ?_, ?_, ?_⟩
  · intro arglist dst s s1 s2 s3 s4 s5 ap d fp w mask xs ps hready harglist hdst hread hmask hclear hxs hdests hputs hfp
    subst hxs hfp
    rw [← callSp_none] at hdests hputs ⊢
    show execute 0xFA (callg arglist dst) s = _
    rw [execute_ready hready, callg_eq harglist hdst, call_ok (numarg := none) hread hmask hclear hdests hputs]
    rfl
  · intro numarg dst s s1 s2 s3 s4 s5 n d sp fp w mask xs ps hready hnumarg hdst hread hmask hclear hsp hxs hdests hputs hfp
    subst hsp hxs hfp
    show execute 0xFB (calls numarg dst) s = _
    rw [execute_ready hready, calls_eq hnumarg hdst, call_ok (numarg := some n) hread hmask hclear hdests hputs]
    rfl
  · intro arglist dst s s1 s2 s3 s4 ap d w mask e hready harglist hdst hread hmask hclear hdests
    rw [← callSp_none] at hdests
    exact execute_ready_exc hready ((callg_eq harglist hdst).trans (call_exc (numarg := none) hread hmask hclear hdests))
  · intro arglist dst s s1 s2 s3 ap d w hready harglist hdst hread hset
    exact execute_ready_exc hready ((callg_eq harglist hdst).trans (call_reservedMask hread hset))
  · intro numarg dst s s1 s2 s3 s4 n d w mask e hready hnumarg hdst hread hmask hclear hdests
    exact execute_ready_exc hready ((calls_eq hnumarg hdst).trans (call_exc (numarg := some n) hread hmask hclear hdests))
  · intro numarg dst s s1 s2 s3 n d w hready hnumarg hdst hread hset
    exact execute_ready_exc hready ((calls_eq hnumarg hdst).trans (call_reservedMask hread hset))

end Sys2Proof.Machine
end

section
/-! Reads do not look at the general registers: with others they end alike and leave those. It is said of every action that a read of
the processor may set off: device registers, where a page table may lie (21_memory_management.md R361), and the memory cycles of
other agents that fall between its own (20_memory.md R284). -/
namespace Sys2Proof.Machine

/-! ### Actions that do not look at the general registers -/

/-- The state with other general registers. -/
def State.withRegisters (s : State) (r : Vector Long 16) : State := { s with r := r }

/-- An end with other general registers. -/
def onRegisters {α : Type} (r : Vector Long 16) : EStateM.Result Stop State α → EStateM.Result Stop State α
  | .ok a t => .ok a (t.withRegisters r)
  | .error e t => .error e (t.withRegisters r)

/-- With other general registers `x` ends alike, and leaves them as they are. -/
structure Blind {α : Type} (x : M α) : Prop where
  run : ∀ s r, x (s.withRegisters r) = onRegisters r (x s)

section
variable {α β : Type}

theorem Blind.pure {a : α} : Blind (Pure.pure a : M α) := ⟨fun _ _ => rfl⟩
theorem Blind.throw {e : Stop} : Blind (throw e : M α) := ⟨fun _ _ => rfl⟩
theorem Blind.raise {e : Exc} : Blind (raise e : M α) := .throw
theorem Blind.refuse {e : Refusal} : Blind (refuse e : M α) := .throw

/-- An update of other fields. -/
theorem Blind.modify {f : State → State} (hf : ∀ s r, f (s.withRegisters r) = (f s).withRegisters r) :
    Blind (modify f : M PUnit) := by
  refine ⟨fun s r => ?_⟩
  rw [run_modify, hf]
  rfl

theorem Blind.bind {x : M α} {f : α → M β} (hx : Blind x) (hf : ∀ a, Blind (f a)) : Blind (x >>= f) := by
  refine ⟨fun s r => ?_⟩
  have hother := hx.run s r
  cases hr : x s with
  | ok a t =>
    rw [hr] at hother
    rw [bind_of_ok f hr, bind_of_ok f hother]
    exact (hf a).run t r
  | error e t =>
    rw [hr] at hother
    rw [bind_of_error f hr, bind_of_error f hother]
    rfl

/-- An action that looks at other fields of the state. -/
theorem Blind.get {f : State → M α} (hsame : ∀ s r, f (s.withRegisters r) = f s) (hf : ∀ s, Blind (f s)) :
    Blind (MonadState.get >>= f) := by
  refine ⟨fun s r => ?_⟩
  rw [bind_of_ok f (run_get s), bind_of_ok f (run_get _), hsame]
  exact (hf s).run s r

/-- An action that looks at the state and replaces other fields of it. -/
theorem Blind.update {g : State → State} {f : State → M α} (hg : ∀ s r, g (s.withRegisters r) = (g s).withRegisters r)
    (hsame : ∀ s r, f (s.withRegisters r) = f s) (hf : ∀ s, Blind (f s)) :
    Blind (MonadState.get >>= fun s => MonadStateOf.set (g s) >>= fun _ => f s) := by
  refine ⟨fun s r => ?_⟩
  rw [bind_of_ok _ (run_get s), bind_of_ok _ (run_get _), bind_of_ok _ (run_set _ s), bind_of_ok _ (run_set _ _), hg, hsame]
  exact (hf s).run (g s) r

theorem Blind.ite {c : Prop} {_ : Decidable c} {x y : M α} (hx : Blind x) (hy : Blind y) : Blind (if c then x else y) := by
  split
  · exact hx
  · exact hy

/-- `if c then x`, and what comes after it. -/
theorem Blind.when {c : Prop} {_ : Decidable c} {x : M PUnit} {k : PUnit → M α} (hx : Blind x) (hk : ∀ a, Blind (k a)) :
    Blind (if c then x >>= fun a => k a else k ⟨⟩) := .ite (.bind hx hk) (hk _)

/-- `let a ← if c then x else y`, and what comes after it. -/
theorem Blind.choose {c : Prop} {_ : Decidable c} {x y : M β} {k : β → M α} (hx : Blind x) (hy : Blind y)
    (hk : ∀ a, Blind (k a)) : Blind (if c then x >>= fun a => k a else y >>= fun a => k a) := .ite (.bind hx hk) (.bind hy hk)

theorem Blind.attempt {x : M α} (hx : Blind x) : Blind (attempt x) := by
  refine ⟨fun s r => ?_⟩
  unfold Sys2Proof.Machine.attempt
  rw [hx.run s r]
  cases x s <;> rfl

theorem Blind.forM {l : List β} {f : β → M PUnit} (hf : ∀ b, Blind (f b)) : Blind (l.forM f) := by
  induction l with
  | nil => exact .pure
  | cons b rest ih => exact .bind (hf b) fun _ => ih
end

/-! ### Parts of the state, free values and bus errors -/

section
variable {α : Type} {k n pa cause tr : Nat} {v : Octa}

theorem blind_draw : Blind draw := ⟨fun _ _ => rfl⟩
theorem blind_drawBits : Blind (drawBits n) := .bind blind_draw fun _ => .pure
theorem blind_drawBool : Blind drawBool := .bind blind_draw fun _ => .pure
theorem blind_modV750 {f : V750 → V750} : Blind (modV750 f) := .modify fun _ _ => rfl
theorem blind_modV780 {f : V780 → V780} : Blind (modV780 f) := .modify fun _ _ => rfl
theorem blind_modPend {f : Pending → Pending} : Blind (modPend f) := .modify fun _ _ => rfl
theorem blind_send {x : Sent} : Blind (send x) := .modify fun _ _ => rfl
theorem blind_modUba {f : Uba → Uba} : Blind (modUba k f) := .modify fun _ _ => rfl
theorem blind_modMba {f : Mba → Mba} : Blind (modMba k f) := .modify fun _ _ => rfl
theorem blind_modMemCtl {f : MemCtl → MemCtl} : Blind (modMemCtl k f) := .modify fun _ _ => rfl

theorem blind_raiseFault {bits : BitVec 6} : Blind (raiseFault tr bits) := by
  refine .modify fun s r => ?_
  cases hfault : s.v780.fault <;> simp [State.withRegisters, hfault]

theorem blind_pick {l : List α} : Blind (pick l) := by
  unfold pick
  split
  exacts [.pure, .pure, .bind blind_draw fun _ => .pure]

theorem blind_freeLongs : Blind (freeLongs n) := by
  induction n with
  | zero => exact .pure
  | succ n ih => exact .bind blind_drawBits fun _ => .bind ih fun _ => .pure

theorem blind_machineCheck : Blind (machineCheck : M α) := .get (fun _ _ => rfl) fun _ => .bind blind_freeLongs fun _ => .raise

theorem blind_busReadError : Blind (busReadError cause : M α) :=
  .get (fun _ _ => rfl) fun _ => .when blind_modV750 fun _ => blind_machineCheck

theorem blind_busWriteError : Blind busWriteError := .get (fun _ _ => rfl) fun _ => blind_modPend

/-! ### Main memory -/

theorem blind_logUncorrectable : Blind (logUncorrectable pa) :=
  .get (fun _ _ => rfl) fun _ => .bind blind_drawBits fun _ =>
    .ite (.ite .pure blind_modV750) (by split; exacts [.pure, blind_modMemCtl])

theorem blind_logCorrected : Blind (logCorrected pa) :=
  .get (fun _ _ => rfl) fun _ => .ite (.bind blind_drawBits fun _ => blind_modV750) blind_logUncorrectable

theorem blind_loggedError : Blind (loggedError : M α) :=
  .get (fun _ _ => rfl) fun _ => .when blind_modV780 fun _ => blind_busReadError

theorem blind_uncorrectable : Blind (uncorrectable pa : M α) := .bind blind_logUncorrectable fun _ => blind_loggedError

theorem blind_forcedCycle : Blind (forcedCycle pa n) :=
  .get (fun _ _ => rfl) fun _ => .ite .pure <| .bind blind_drawBits fun _ => by
    split
    exacts [.pure, .bind blind_logCorrected fun _ => .pure, .bind blind_logUncorrectable fun _ => .pure]

theorem blind_forcedData {f : Forced} : Blind (forcedData f n v) := by
  unfold forcedData
  split
  exacts [.bind blind_draw fun _ => .pure, .pure]

theorem blind_adapterRead : Blind (adapterRead pa n) :=
  .get (fun _ _ => rfl) fun _ => .bind (.modify fun _ _ => rfl) fun _ => .when blind_logUncorrectable fun _ =>
    .bind (.modify fun _ _ => rfl) fun _ => .bind blind_forcedCycle fun _ =>
    .ite .pure (.bind blind_forcedData fun _ => .pure)

theorem blind_forcedRead : Blind (forcedRead pa n) :=
  .get (fun _ _ => rfl) fun _ => .bind blind_forcedCycle fun _ => .ite .pure (.when blind_loggedError fun _ => blind_forcedData)

theorem blind_ramReadParts {l : List (Nat × Nat)} : Blind (ramReadParts l) := by
  induction l with
  | nil => exact .pure
  | cons part rest ih =>
    exact .get (fun _ _ => rfl) fun _ => .when blind_uncorrectable fun _ => .when blind_logUncorrectable fun _ =>
      .choose blind_forcedRead .pure fun _ => .bind ih fun _ => .pure

theorem blind_ramRead : Blind (ramRead pa n) :=
  .get (fun _ _ => rfl) fun _ => .ite (.bind (.modify fun _ _ => rfl) fun _ => blind_ramReadParts) .pure

theorem blind_writeTaken : Blind (writeTaken pa n) :=
  .get (fun _ _ => rfl) fun _ => .ite (.ite .pure (.bind blind_drawBits fun _ => .pure)) (.bind blind_forcedCycle fun _ => .pure)

theorem blind_storeParts {l : List (Nat × Nat)} : Blind (storeParts l v) := by
  induction l generalizing v with
  | nil => exact .pure
  | cons part rest ih => exact .bind blind_writeTaken fun _ => .when (.modify fun _ _ => rfl) fun _ => ih

theorem blind_storeAt : Blind (storeAt pa n v) := .get (fun _ _ => rfl) fun _ => .ite blind_storeParts (.modify fun _ _ => rfl)

theorem blind_freeRam : Blind (freeRam pa n) := by
  induction n generalizing pa with
  | zero => exact .pure
  | succ n ih => exact .bind blind_drawBits fun _ => .bind (.modify fun _ _ => rfl) fun _ => ih

theorem blind_freeAllRam : Blind freeAllRam := .update (fun _ _ => rfl) (fun _ _ => rfl) fun _ => by
  split
  exacts [blind_freeRam, .forM fun _ => blind_freeRam]
end

/-! ### MASSBUS adapters -/

section
variable {k n off pa : Nat} {w bits : Long} {x : M Unit}

theorem blind_mbaSet : Blind (mbaSet k bits) := blind_modMba

theorem blind_mbaError : Blind (mbaError k bits) := .get (fun _ _ => rfl) fun _ => blind_modMba

theorem blind_mbaInit : Blind (mbaInit k) := .get (fun _ _ => rfl) fun _ => .bind blind_modMba fun _ => blind_send

theorem blind_mbaWriteCr : Blind (mbaWriteCr k w) :=
  .get (fun _ _ => rfl) fun _ => .ite blind_mbaSet (.ite (.bind blind_mbaInit fun _ => blind_modMba) blind_modMba)

theorem blind_mbaControlParity : Blind (mbaControlParity k) :=
  .get (fun _ _ => rfl) fun _ => .ite (.bind blind_drawBool fun _ => .ite blind_mbaSet .pure) .pure

theorem blind_mbaRead : Blind (mbaRead k off n) :=
  .get (fun _ _ => rfl) fun _ => .ite blind_busReadError <| .ite
    (.ite (.bind blind_mbaControlParity fun _ => .bind blind_mbaSet fun _ => .pure)
      (.bind blind_send fun _ => by split; exacts [.pure, .bind blind_mbaSet fun _ => .pure])) <| .ite .pure <| by
    split
    exacts [.ite blind_busReadError .pure, .pure, .pure, .pure, .pure, .ite .pure (.bind blind_drawBits fun _ => .pure),
      .ite blind_busReadError (.ite .pure blind_drawBits), .bind blind_drawBits fun _ => .pure, blind_busReadError]

theorem blind_mbaWriteDrive : Blind (mbaWriteDrive k off w) :=
  .get (fun _ _ => rfl) fun s => .ite blind_mbaSet <| .choose blind_drawBool .pure fun _ => by
    generalize s.driveCmds.lookup _ = kind
    cases kind with
    | none => exact .bind blind_mbaControlParity fun _ => .when blind_mbaSet fun _ => .ite blind_send .pure
    | some x =>
      exact .when blind_modMba fun _ => .bind blind_mbaControlParity fun _ => .when blind_mbaSet fun _ => .ite blind_send .pure

theorem blind_mbaIn {data : List Byte} : Blind (mbaIn k data) :=
  .get (fun _ _ => rfl) fun _ => .ite .pure <| by
    split
    exacts [.ite blind_mbaError blind_modMba,
      .ite blind_mbaError (by split; exacts [.bind blind_modMba fun _ => blind_mbaError, blind_modMba]), .pure]

theorem blind_mbaTake : Blind (mbaTake k n) :=
  .get (fun _ _ => rfl) fun _ => .ite .pure (.ite blind_mbaError (.when blind_send fun _ => blind_modMba))

theorem blind_mbaFetch : Blind (mbaFetch k pa n) := .get (fun _ _ => rfl) fun _ => .bind blind_adapterRead fun _ => by
  split
  exacts [blind_mbaError, .when blind_mbaSet fun _ => blind_modMba]

theorem blind_mbaCycle : Blind (mbaCycle k pa n) :=
  .get (fun _ _ => rfl) fun _ => .ite blind_mbaError <|
    .ite (.ite blind_mbaError (.choose (.modify fun _ _ => rfl) blind_storeAt fun _ => blind_modMba)) blind_mbaFetch

theorem blind_mbaMemory {rest : Bool} : Blind (mbaMemory k rest) := .get (fun _ _ => rfl) fun _ => .ite .pure blind_mbaCycle

theorem blind_mbaEnd : Blind (mbaEnd k) :=
  .get (fun _ _ => rfl) fun _ => .ite (.when (.forM fun _ => blind_mbaMemory) fun _ => blind_modMba) .pure

theorem blind_mbaClock : Blind (mbaClock k) :=
  .get (fun _ _ => rfl) fun _ => .ite (.ite (.bind blind_modMba fun _ => .ite blind_mbaError blind_mbaTake)
    (.bind blind_drawBits fun _ => .bind blind_modMba fun _ => .ite blind_mbaError blind_mbaIn)) .pure

theorem blind_mbaDiagnose : Blind (mbaDiagnose k w) :=
  .get (fun _ _ => rfl) fun _ => .bind blind_modMba fun _ => .when blind_mbaError fun _ => .when blind_mbaClock fun _ =>
    .ite blind_mbaEnd .pure

theorem blind_mbaWrite : Blind (mbaWrite k off n w) :=
  .get (fun _ _ => rfl) fun _ => .ite blind_busWriteError <| .ite blind_mbaWriteDrive <|
    .ite (.ite blind_mbaSet blind_modMba) <| by
    split
    exacts [.ite blind_busWriteError blind_modMba, blind_mbaWriteCr, blind_modMba, .ite blind_mbaSet blind_modMba,
      .ite blind_mbaSet blind_modMba, .ite blind_mbaDiagnose .pure, .ite blind_busWriteError .pure, .pure, blind_busWriteError]

theorem blind_unlessDetached (hx : Blind x) : Blind (unlessDetached k x) := .get (fun _ _ => rfl) fun _ => .ite .pure hx
end

/-! ### Registers and UNIBUS of the VAX-11/750 -/

section
variable {k n p pa ua : Nat} {w : Long} {bytes : List Byte} {apart : Bool} {l : List (Nat × Nat)}

theorem blind_csr750Read : Blind (csr750Read k) := .get (fun _ _ => rfl) fun _ => by
  split
  exacts [.pure, .ite (.bind blind_drawBits fun _ => .pure) .pure, .pure]

theorem blind_csr750Write : Blind (csr750Write k w) := by
  unfold csr750Write
  split
  exacts [blind_modV750, blind_modV750, .pure]

theorem blind_modBdp {f : Bdp750 → Bdp750} : Blind (modBdp p f) := blind_modV750

theorem blind_writeMarked {mask : BitVec 4} : Blind (writeMarked pa w mask) :=
  .get (fun _ _ => rfl) fun _ => .ite .pure <| .ite (.bind (.modify fun _ _ => rfl) fun _ => .pure) <|
    .bind blind_writeTaken fun _ =>
    .when (.forM fun _ => .ite (.modify fun _ _ => rfl) .pure) fun _ => .pure

theorem blind_ubiRead : Blind (ubiRead pa n) := .bind blind_adapterRead fun _ => by
  split
  exacts [.pure, .get (fun _ _ => rfl) fun _ => .pure]

theorem blind_bdpFlush : Blind (bdpFlush p) :=
  .get (fun _ _ => rfl) fun _ => .ite (.bind blind_writeMarked fun _ =>
    .ite blind_modBdp (.bind blind_modBdp fun _ => blind_modBdp)) blind_modBdp

theorem blind_bdpRead : Blind (bdpRead p) := .get (fun _ _ => rfl) fun _ => .bind blind_drawBits fun _ => .pure

theorem blind_bdpWrite : Blind (bdpWrite p w) := .when blind_bdpFlush fun _ => blind_modBdp

theorem blind_unibus750Read {u : Use} : Blind (unibus750Read ua n u) := by
  unfold unibus750Read
  exact .when .refuse fun _ => .get (fun _ _ => rfl) fun _ => .bind blind_send fun _ => by
    split
    exacts [blind_busReadError, .ite blind_busReadError .pure]

theorem blind_unibus750Write : Blind (unibus750Write ua n w) := by
  unfold unibus750Write
  exact .when .refuse fun _ => .get (fun _ _ => rfl) fun _ => .bind blind_send fun _ => by
    split
    exacts [blind_busWriteError, .ite blind_busReadError .pure]

theorem blind_bdpReadPart : Blind (bdpReadPart p ua n) :=
  .get (fun _ _ => rfl) fun _ => .when blind_bdpFlush fun _ => .get (fun _ _ => rfl) fun _ => .ite .pure <|
    .ite (.bind blind_modBdp fun _ => .pure) <|
    .choose .pure blind_ubiRead fun _ => .when blind_modBdp fun _ => .pure

theorem blind_bdpWritePart : Blind (bdpWritePart p ua bytes apart) :=
  .get (fun _ _ => rfl) fun _ => .when blind_bdpFlush fun _ => .get (fun _ _ => rfl) fun _ => .ite .pure <|
    .bind blind_modBdp fun _ =>
    .get (fun _ _ => rfl) fun _ => .when blind_bdpFlush fun _ => .get (fun _ _ => rfl) fun _ => .pure

theorem blind_directReadPart : Blind (directReadPart ua n) :=
  .get (fun _ _ => rfl) fun _ => .ite .pure (.bind blind_ubiRead fun _ => .pure)

theorem blind_directWritePart : Blind (directWritePart ua bytes) :=
  .get (fun _ _ => rfl) fun _ => .get (fun _ _ => rfl) fun _ => .ite .pure (.bind blind_storeAt fun _ => .pure)

theorem blind_dmaReadParts : Blind (dmaReadParts l) := by
  induction l with
  | nil => exact .pure
  | cons part rest ih =>
    have hrest (x : Option (List Byte × Bool)) : Blind (match x with
        | none => return none
        | some (bytes, pb) => do
          match ← dmaReadParts rest with
          | none => return none
          | some (more, pb') => return some (bytes ++ more, pb || pb') : M _) := by
      split
      exacts [.pure, .bind ih fun _ => by split; exacts [.pure, .pure]]
    exact .get (fun _ _ => rfl) fun _ => by
      split
      exacts [hrest none, .bind blind_directReadPart hrest,
        .get (fun _ _ => rfl) fun _ => .ite (hrest none) (.bind blind_bdpReadPart hrest)]

theorem blind_dmaWriteParts : Blind (dmaWriteParts apart bytes l) := by
  induction l generalizing bytes with
  | nil => exact .pure
  | cons part rest ih =>
    have hrest (n : Nat) (ok : Bool) : Blind (do return ok && (← dmaWriteParts apart (bytes.drop n) rest)) :=
      .bind ih fun _ => .pure
    exact .get (fun _ _ => rfl) fun _ => by
      split
      exacts [hrest _ _, .bind blind_directWritePart (hrest _),
        .get (fun _ _ => rfl) fun _ => .ite (hrest _ _) (.bind blind_bdpWritePart (hrest _))]

theorem blind_dma750 {c : UbCycle} {d : Word16} : Blind (dma750 c ua d) :=
  .get (fun _ _ => rfl) fun _ => .ite .pure <| by
    cases c with
    | dati | datip =>
      exact .when .throw fun _ => .bind blind_dmaReadParts fun _ => by split; exacts [.pure, .when blind_modV750 fun _ => .pure]
    | dato | datob => exact .bind blind_dmaWriteParts fun _ => .when blind_modV750 fun _ => .pure
end

/-! ### Registers of the VAX-11/780 adapters and memory controllers -/

/-- What a purge writes to I/O space with does not look at the general registers. -/
def BlindIo (io : IoWrite) : Prop := ∀ pa data mask, Blind (io pa data mask)

section
variable {k i n p off pa ua bit : Nat} {w : Long} {u : Use} {io : IoWrite}

theorem blind_ubaPowerSequence : Blind (ubaPowerSequence k) := .bind blind_modUba fun _ => blind_send

theorem blind_ubaReleaseInterlock : Blind (ubaReleaseInterlock k) :=
  .get (fun _ _ => rfl) fun _ => .when blind_modV780 fun _ => blind_modUba

theorem blind_ubaAdapterInit : Blind (ubaAdapterInit k) :=
  .bind blind_ubaReleaseInterlock fun _ => .bind blind_modUba fun _ => blind_ubaPowerSequence

theorem blind_modPath {f : Bdp780 → Bdp780} : Blind (modPath k p f) := blind_modUba

theorem blind_storeMasked {data : Quad} {mask : Byte} : Blind (storeMasked pa data mask) := .get (fun _ _ => rfl) fun _ => by
  split
  exacts [.ite (.bind (.modify fun _ _ => rfl) fun _ => .pure)
    (.bind blind_forcedCycle fun _ => .when (.forM fun _ => .ite (.modify fun _ _ => rfl) .pure) fun _ => .pure), .pure, .pure]

theorem blind_pathError : Blind (pathError k p bit ua) := .bind blind_modUba fun _ => blind_modPath

theorem blind_purgeLongwords (hio : BlindIo io) {b : Bdp780} {l : List Nat} : Blind (purgeLongwords io k p ua pa b l) := by
  induction l with
  | nil => exact .pure
  | cons j rest ih =>
    exact .ite (.bind (hio _ _ _) fun _ => by split; exacts [.bind blind_pathError fun _ => ih, ih]) ih

theorem blind_purgeWrite (hio : BlindIo io) {b : Bdp780} : Blind (purgeWrite io k p b) :=
  .get (fun _ _ => rfl) fun _ => .ite blind_pathError <| .ite .pure <| .ite blind_pathError <| .ite blind_pathError <|
    .ite blind_pathError <|
    .ite (blind_purgeLongwords hio) <| .bind blind_storeMasked fun _ => by split; exacts [blind_pathError, .pure]

theorem blind_ubaPurge (hio : BlindIo io) : Blind (ubaPurge io k p) :=
  .get (fun _ _ => rfl) fun _ => .ite (.bind blind_modPath fun _ => .ite (blind_purgeWrite hio) .pure) blind_modPath

theorem blind_brrvrRead : Blind (brrvrRead k i) :=
  .get (fun _ _ => rfl) fun _ => .ite (.bind blind_pick fun _ => by
    split
    exacts [.bind blind_modUba fun _ => .bind blind_send fun _ => .pure, .pure]) (.bind blind_modUba fun _ => .pure)

theorem blind_ubaRegister : Blind (ubaRegister k off) :=
  .get (fun _ _ => rfl) fun _ => .ite .pure <| .ite .pure <| .ite blind_brrvrRead <| .ite .pure <| by
    split
    exacts [.pure, .pure, .pure, .pure, .pure, .pure, .pure, .pure, blind_busReadError]

theorem blind_ubaRead : Blind (ubaRead k off n) := .bind blind_ubaRegister fun _ => .pure

theorem blind_ubaWriteCr : Blind (ubaWriteCr k w) :=
  .ite blind_ubaAdapterInit <| .get (fun _ _ => rfl) fun _ => .bind blind_modUba fun _ => .ite blind_ubaPowerSequence .pure

theorem blind_ubaWrite (hio : BlindIo io) : Blind (ubaWrite io k off n w) :=
  .ite blind_busWriteError <| .ite blind_modUba <|
    .ite (.when (blind_ubaPurge hio) fun _ => .ite blind_modPath .pure) <| .ite blind_modUba <| by
      split
      exacts [blind_modUba, blind_ubaWriteCr, blind_modUba, blind_modUba, blind_busWriteError]

theorem blind_ubaReadCycle : Blind (ubaReadCycle k ua n u) :=
  .get (fun _ _ => rfl) fun _ => .bind blind_modUba fun _ => .when blind_modUba fun _ => .bind blind_send fun _ => by
    split
    exacts [.bind blind_modUba fun _ => .pure, .ite blind_busReadError .pure]

theorem blind_ubaWriteCycle : Blind (ubaWriteCycle k ua n w u) :=
  .get (fun _ _ => rfl) fun _ => .ite blind_raiseFault <| .bind blind_modUba fun _ => .when blind_modUba fun _ =>
    .bind blind_send fun _ =>
    .ite blind_modUba .pure

theorem blind_unibus780Read : Blind (unibus780Read k ua n u) :=
  .get (fun _ _ => rfl) fun _ => .when .refuse fun _ => .ite blind_ubaReadCycle blind_busReadError

theorem blind_unibus780Write : Blind (unibus780Write k ua n w u) :=
  .get (fun _ _ => rfl) fun _ => .when .refuse fun _ => .ite blind_ubaWriteCycle blind_busWriteError

theorem blind_memCtlRead : Blind (memCtlRead k off n) := .ite blind_busReadError <| .get (fun _ _ => rfl) fun _ => by
  split
  exacts [.pure, .bind blind_drawBits fun _ => .pure, .pure]

theorem blind_memCtlWrite : Blind (memCtlWrite k off n w) :=
  have hmove {f g : MemCtl → MemCtl} {c : Prop} [Decidable c] : Blind (do
      modMemCtl k f
      if c then
        modMemCtl k g
        freeAllRam) :=
    .bind blind_modMemCtl fun _ => .ite (.bind blind_modMemCtl fun _ => blind_freeAllRam) .pure
  .ite blind_busWriteError <| .get (fun _ _ => rfl) fun _ => by
    split
    exacts [hmove, hmove, blind_modMemCtl]

/-! ### Devices -/

theorem blind_longwordOnly {α : Type} {x : M α} (hx : Blind x) : Blind (longwordOnly pa n x) := .ite hx .refuse

theorem blind_alignedOnly {α : Type} {x : M α} (hx : Blind x) : Blind (alignedOnly pa n x) := .ite hx .refuse

theorem blind_readDevice {d : Device} : Blind (readDevice d pa n u) := .get (fun _ _ => rfl) fun _ => by
  cases d with
  | memoryCsr750 k => exact blind_longwordOnly blind_csr750Read
  | rom750 off => exact blind_alignedOnly .pure
  | bdp750 p => exact blind_longwordOnly blind_bdpRead
  | ubMap750 i => exact blind_longwordOnly .pure
  | memory780 k off => exact blind_memCtlRead
  | rom780 off => exact .pure
  | uba k off => exact blind_ubaRead
  | mba k off => exact blind_mbaRead
  | unibus k ua => exact .ite blind_unibus750Read blind_unibus780Read
  | unknown => exact .refuse

theorem blind_writeDeviceBy (hio : BlindIo io) {d : Device} : Blind (writeDeviceBy io d pa n w u) :=
  .get (fun _ _ => rfl) fun _ => by
    cases d with
    | memoryCsr750 k => exact blind_longwordOnly blind_csr750Write
    | rom750 off => exact blind_busWriteError
    | bdp750 p => exact blind_longwordOnly blind_bdpWrite
    | ubMap750 i => exact blind_longwordOnly blind_modV750
    | memory780 k off => exact blind_memCtlWrite
    | rom780 off => exact blind_busWriteError
    | uba k off => exact blind_ubaWrite hio
    | mba k off => exact blind_mbaWrite
    | unibus k ua => exact .ite blind_unibus750Write blind_unibus780Write
    | unknown => exact .refuse

theorem blind_sbiDeviceWriteBy (hio : BlindIo io) {d : Device} : Blind (sbiDeviceWriteBy io d u pa n w) :=
  .ite .pure <| .get (fun _ _ => rfl) fun _ => .bind blind_modPend fun _ => .bind (blind_writeDeviceBy hio) fun _ =>
    .get (fun _ _ => rfl) fun _ =>
    .bind blind_modPend fun _ => .pure

theorem blind_sbiWriteBy (hio : BlindIo io) : Blind (sbiWriteBy io u pa n w) := .get (fun _ _ => rfl) fun _ => by
  split
  exacts [.bind blind_storeAt fun _ => .pure, blind_sbiDeviceWriteBy hio, .pure]

theorem blind_sbiWriteMaskedBy (hio : BlindIo io) {mask : BitVec 4} : Blind (sbiWriteMaskedBy io pa w mask) :=
  .get (fun _ _ => rfl) fun _ => by
    split
    exacts [.pure, .pure, blind_sbiWriteBy hio, .pure]

theorem blind_purgeOut : BlindIo (purgeOut n) := by
  induction n with
  | zero => exact fun _ _ _ => .pure
  | succ more ih => exact fun _ _ _ => blind_sbiWriteMaskedBy ih

theorem blind_sbiWrite : Blind (sbiWrite u pa n w) := blind_sbiWriteBy blind_purgeOut

theorem blind_sbiWriteMasked {mask : BitVec 4} : Blind (sbiWriteMasked pa w mask) := blind_sbiWriteMaskedBy blind_purgeOut

theorem blind_physReadPart : Blind (physReadPart u pa n) := .get (fun _ _ => rfl) fun _ => by
  split
  exacts [blind_ramRead, .ite (.bind blind_readDevice fun _ => .pure) .refuse, blind_busReadError]

theorem blind_physReadWhole : Blind (physReadWhole u pa n) :=
  .get (fun _ _ => rfl) fun _ => .ite (.bind blind_physReadPart fun _ =>
    .bind blind_physReadPart fun _ => .pure) blind_physReadPart
end

/-! ### UNIBUS devices' cycles through an adapter of the VAX-11/780 -/

section
variable {k n p off pa ua unit : Nat} {w : Long} {u : Use} {c : UbCycle} {data : Word16}

theorem blind_sbiRead : Blind (sbiRead k u pa n) := .get (fun _ _ => rfl) fun _ => by
  split
  exacts [.bind blind_adapterRead fun _ => by split; exacts [.pure, .when blind_modUba fun _ => .pure],
    .ite .pure <| .ite .pure <| .bind (.attempt blind_readDevice) fun _ => by split; exacts [.pure, .pure, .throw], .pure]

theorem blind_ubaDirectRead {lock : Bool} : Blind (ubaDirectRead k ua pa lock) :=
  have hread {v : Use} : Blind (do
      match ← sbiRead k v pa 2 with
      | .ok x => return some ⟨BitVec.ofNat 16 x, false⟩
      | .error bit => do
        ubaDmaError k bit (ua / 512)
        return none : M (Option Reply)) :=
    .bind blind_sbiRead fun _ => by split; exacts [.pure, .bind blind_modUba fun _ => .pure]
  .get (fun _ _ => rfl) fun _ => .ite (by
    split
    exacts [.when .throw fun _ => .bind blind_modV780 fun _ => .bind blind_modUba fun _ => hread,
      .bind blind_modUba fun _ => hread, hread]) hread

theorem blind_ubaDirectWrite : Blind (ubaDirectWrite k ua pa n w) :=
  .get (fun _ _ => rfl) fun _ => .ite (.bind blind_modUba fun _ => .bind blind_raiseFault fun _ => .pure) <|
    .bind blind_ubaReleaseInterlock fun _ => .bind blind_sbiWrite fun _ => by
      split
      exacts [.pure, .bind blind_modUba fun _ => .pure]

theorem blind_ubaDirect : Blind (ubaDirect k ua pa c data) := by
  cases c with
  | dati | datip => exact blind_ubaDirectRead
  | dato | datob => exact blind_ubaDirectWrite

theorem blind_pathSpill : Blind (pathSpill k p ua pa unit) :=
  have hfailed {bit : Nat} {f : Bdp780 → Bdp780} : Blind (do
      pathError k p bit ua
      modPath k p f) :=
    .bind blind_pathError fun _ => blind_modPath
  .get (fun _ _ => rfl) fun _ => .ite hfailed <| .ite hfailed <| .choose blind_storeMasked blind_sbiWriteMasked fun _ => by
    split
    exacts [hfailed, blind_modPath]

theorem blind_pathPut {x : Byte} : Blind (pathPut k p ua pa unit x) := .bind blind_modPath fun _ => .ite blind_pathSpill .pure

theorem blind_pathFill : Blind (pathFill k p ua pa unit) :=
  .get (fun _ _ => rfl) fun _ => .ite .pure <| .bind blind_sbiRead fun _ => by
    split
    exacts [.pure, .bind blind_modPath fun _ => .pure]

theorem blind_pathPrefetch : Blind (pathPrefetch k p ua) :=
  .get (fun _ _ => rfl) fun _ => .ite (.bind blind_adapterRead fun _ => by split; exacts [blind_modPath, .pure]) .pure

theorem blind_pathGet : Blind (pathGet k p ua pa unit) :=
  .get (fun _ _ => rfl) fun _ => .ite (.bind blind_pathFill fun _ => by
    split
    exacts [.bind blind_modUba fun _ => .pure, .get (fun _ _ => rfl) fun _ => .when blind_modPath fun _ => .pure])
    (.get (fun _ _ => rfl) fun _ => .when blind_modPath fun _ => .pure)

theorem blind_freeQuads {l : List Nat} : Blind (freeQuads l) := by
  induction l with
  | nil => exact .pure
  | cons q rest ih => exact .get (fun _ _ => rfl) fun _ => .when blind_freeRam fun _ => ih

theorem blind_pathScramble : Blind (pathScramble k p) :=
  .get (fun _ _ => rfl) fun _ => .ite (.bind blind_freeQuads fun _ => .bind blind_drawBits fun _ => blind_modPath) .pure

theorem blind_pathWord : Blind (pathWord k p ua pa unit) := .bind blind_pathGet fun _ => by
  split
  exacts [.pure, .when blind_pathError fun _ => .get (fun _ _ => rfl) fun _ => .ite .pure <| .bind blind_pathGet fun _ => by
    split
    exacts [.pure, .when blind_pathError fun _ => .pure]]

theorem blind_pathRead : Blind (pathRead k p ua pa unit) :=
  .get (fun _ _ => rfl) fun _ => .bind blind_modPath fun _ => .get (fun _ _ => rfl) fun _ =>
    .ite (.bind blind_pathScramble fun _ => .when blind_modPath fun _ => .bind blind_drawBits fun _ => .pure) <|
      .bind blind_pathWord fun _ => by
        split
        exacts [.bind blind_modPath fun _ => .pure, .when blind_pathPrefetch fun _ => .pure]

theorem blind_pathWrite {v : Nat} : Blind (pathWrite k p v pa off n unit w) :=
  .bind blind_modPath fun _ => .bind (.forM fun _ => blind_pathPut) fun _ => blind_pathScramble

theorem blind_pathLongword : Blind (pathLongword k p ua pa c data) := .get (fun _ _ => rfl) fun _ => by
  cases c with
  | datip => exact .pure
  | dati =>
    exact .ite (.bind blind_pathFill fun _ => by
      split
      exacts [.bind blind_modUba fun _ => .pure, .bind blind_modPath fun _ => .get (fun _ _ => rfl) fun _ =>
        .when blind_pathError fun _ => .pure])
      (.bind blind_modPath fun _ => .get (fun _ _ => rfl) fun _ => .when blind_pathError fun _ => .pure)
  | dato | datob =>
    have hend (r : Option Nat) : Blind (match r with
        | some bit => do
          pathError k p bit ua
          modPath k p fun b => { b with bs := 0, bne := false }
          return some ⟨0, false⟩
        | none => do
          modPath k p fun b => { b with bs := 0, bne := false }
          return some ⟨0, false⟩ : M (Option Reply)) := by
      split
      exacts [.bind blind_pathError fun _ => .bind blind_modPath fun _ => .pure, .bind blind_modPath fun _ => .pure]
    exact .bind (.forM fun _ => blind_modPath) fun _ => .ite (.get (fun _ _ => rfl) fun _ => .get (fun _ _ => rfl) fun _ =>
      .get (fun _ _ => rfl) fun _ => .get (fun _ _ => rfl) fun _ =>
      .ite (hend (some 3)) <| .ite (hend (some 5)) <| .choose blind_sbiWriteMasked blind_storeMasked hend) .pure

theorem blind_ubaDma : Blind (ubaDma k c ua data) :=
  have hfailed {bit m : Nat} : Blind (do
      ubaDmaError k bit m
      return none : M (Option Reply)) :=
    .bind blind_modUba fun _ => .pure
  .get (fun _ _ => rfl) fun _ => .ite .pure <| .ite hfailed <| .ite hfailed <| .ite hfailed <| .ite .pure <|
    .ite blind_ubaDirect <| .ite .pure <|
    .ite blind_pathLongword <| .ite blind_pathRead <| .bind blind_pathWrite fun _ => .pure
end

/-! ### Memory cycles of other agents -/

section
variable {k n pa : Nat} {x : M Unit} {e : Event} {u : Use}

theorem blind_only780 (hx : Blind x) : Blind (only780 x) := .get (fun _ _ => rfl) fun _ => .ite .refuse hx
theorem blind_needUnibus (hx : Blind x) : Blind (needUnibus k x) := .get (fun _ _ => rfl) fun _ => .ite hx .refuse
theorem blind_needMba (hx : Blind x) : Blind (needMba k x) := .get (fun _ _ => rfl) fun _ => .ite hx .refuse

theorem blind_orRetry (hx : Blind x) : Blind (orRetry e x) := .bind (.attempt hx) fun _ => by
  split
  exacts [.pure, .modify fun _ _ => rfl, .throw]

theorem blind_unibusDma {c : UbCycle} {ua : BitVec 18} {data : Word16} : Blind (unibusDma k c ua data) :=
  blind_needUnibus <| .get (fun _ _ => rfl) fun _ => .choose blind_dma750 blind_ubaDma fun _ => blind_send

theorem blind_agentWrite {b : Byte} : Blind (agentWrite pa b) := .get (fun _ _ => rfl) fun _ => .ite blind_storeAt .pure

theorem blind_agentWrites {l : List Byte} : Blind (agentWrites pa l) := by
  induction l generalizing pa with
  | nil => exact .pure
  | cons b rest ih => exact .bind blind_agentWrite fun _ => ih

theorem blind_agentInterlock {l : List Byte} : Blind (agentInterlock pa (some l)) :=
  blind_only780 <| .get (fun _ _ => rfl) fun _ => .ite .pure <|
    .ite (.bind blind_modV780 fun _ => blind_agentWrites) blind_raiseFault

theorem blind_busMove (h : busMove e = some x) : Blind x := by
  unfold busMove at h
  split at h
  case h_1 => exact nomatch h
  case h_2 => exact Option.some.inj h ▸ blind_orRetry blind_unibusDma
  case h_3 => exact Option.some.inj h ▸ blind_needMba (blind_unlessDetached blind_mbaIn)
  case h_4 => exact Option.some.inj h ▸ blind_needMba blind_mbaMemory
  case h_5 => exact Option.some.inj h ▸ blind_needMba (blind_unlessDetached blind_mbaTake)
  case h_6 => exact Option.some.inj h ▸ blind_agentWrite
  case h_7 => exact Option.some.inj h ▸ blind_agentInterlock
  case h_8 => exact nomatch h

theorem blind_busMoves {l : List Event} : Blind (busMoves l) := by
  induction l with
  | nil => exact .pure
  | cons e rest ih =>
    unfold busMoves
    cases hmove : busMove e with
    | none => exact ih
    | some x => exact .bind (blind_busMove hmove) fun _ => ih

theorem blind_meanwhile {held : Option Nat} : Blind (meanwhile held) := by
  refine ⟨fun s r => ?_⟩
  unfold meanwhile
  rw [bind_of_ok _ (run_get s), bind_of_ok _ (run_get _)]
  by_cases hidle : s.during = []
  · have hother : ¬ (s.withRegisters r).during ≠ [] := not_not.mpr hidle
    rw [if_neg (not_not.mpr hidle), if_neg hother]
    rfl
  · have hother : (s.withRegisters r).during ≠ [] := hidle
    rw [if_pos hidle, if_pos hother, bind_of_ok _ (run_set _ s), bind_of_ok _ (run_set _ (s.withRegisters r))]
    exact blind_busMoves.run { s with during := _ } r

/-! ### Reads of the processor -/

theorem blind_readCycles {l : List Cycle} : Blind (readCycles u n l) := by
  induction n generalizing l with
  | zero => exact .pure
  | succ more ih =>
    exact .bind blind_pick fun _ => by
      split
      exacts [.pure, .bind blind_meanwhile fun _ => .bind blind_physReadWhole fun _ => .bind ih fun _ => .pure]

theorem blind_physRead : Blind (physRead u pa n) := .get (fun _ _ => rfl) fun _ => .ite blind_physReadWhole blind_readCycles
end

section
variable {va base report : Long} {write ptref tooLong : Bool} {mode n : Nat} {u : Use} {sp : Span}

theorem blind_readPte {pa : Nat} : Blind (readPte pa) := .bind blind_physRead fun _ => .pure

theorem blind_sysPte : Blind (sysPte va write ptref report) :=
  .get (fun _ _ => rfl) fun _ => .when .raise fun _ => .bind blind_readPte fun _ => .pure

theorem blind_procPte : Blind (procPte va base tooLong write) := by
  unfold procPte
  exact .when .raise fun _ => .when .raise fun _ => .bind blind_sysPte fun _ => .when .refuse fun _ => .when .raise fun _ =>
    .when .raise fun _ => .get (fun _ _ => rfl) fun _ => .bind blind_readPte fun _ => .pure

theorem blind_walk : Blind (walk va write) := .get (fun _ _ => rfl) fun _ => by
  split
  exacts [blind_procPte, blind_procPte, .bind blind_sysPte fun _ => .pure, .raise]

theorem blind_check : Blind (check va write mode) :=
  .get (fun _ _ => rfl) fun _ => .ite .pure <| .when .refuse fun _ => .bind blind_walk fun _ => .when .refuse fun _ =>
    .when .raise fun _ =>
    .when .raise fun _ => .pure

theorem blind_translateSpan : Blind (translateSpan va n false mode) :=
  .ite (.bind (.bind blind_check fun _ => .pure) fun _ => .pure) <| .bind (.attempt blind_check) fun _ => by
    split
    exacts [.throw, .bind (.attempt blind_check) fun _ => by split; exacts [.throw, .pure]]

theorem blind_noSplitDevice : Blind (noSplitDevice u sp) := .get (fun _ _ => rfl) fun _ => .ite (by
  split
  exacts [.pure, .refuse, .refuse, .pure]) .pure

theorem blind_readSpan : Blind (readSpan u sp n) :=
  .ite blind_physRead <| .bind blind_noSplitDevice fun _ => .get (fun _ _ => rfl) fun _ =>
    .ite (.bind blind_physReadWhole fun _ => .bind blind_physReadWhole fun _ => .pure) blind_readCycles

theorem blind_memRead : Blind (memRead u va n) := .get (fun _ _ => rfl) fun _ => .bind blind_translateSpan fun _ => blind_readSpan

theorem blind_readLong : Blind (readLong va) := .bind blind_memRead fun _ => .pure
end

end Sys2Proof.Machine
end

section
/-! Procedure return, 43_procedure.md R747: the frame is popped while the registers change that it restores, which no pop
looks at but SP. -/
namespace Sys2Proof.Machine

/-! ### Pops and the other registers -/

section
variable {s t : State} {x : Long} {xs : List Long} {k : Nat} {n : Reg} (v : Long)

theorem readLong_withRegisters {va : Long} (h : readLong va s = .ok x t) (r : Vector Long 16) :
    readLong va (s.withRegisters r) = .ok x (t.withRegisters r) := by
  rw [blind_readLong.run s r, h]
  rfl

/-- A read leaves the registers: with those it began with it would end alike. -/
theorem readLong_keeps_registers {va : Long} (h : readLong va s = .ok x t) : t.r = s.r := by
  have hsame : readLong va s = .ok x (t.withRegisters s.r) := readLong_withRegisters h s.r
  rw [h] at hsame
  injection hsame with _ hstate
  exact (congrArg State.r hstate :)

theorem State.setReg_comm (s : State) {n m : Reg} (v w : Long) (h : n ≠ m) :
    (s.setReg n v).setReg m w = (s.setReg m w).setReg n v := by
  have hne : n.val ≠ m.val := fun e => h (Fin.ext e)
  unfold State.setReg
  congr 1
  exact Vector.set_comm _ _ hne

theorem State.setReg_r_congr {s t : State} (h : s.r = t.r) (n : Reg) (v : Long) : (s.setReg n v).r = (t.setReg n v).r := by
  unfold State.setReg
  rw [h]

/-- The last write to a register counts, whatever state the registers were taken into. -/
theorem State.withRegisters_setReg_r (u s : State) (n : Reg) (v w : Long) :
    ((u.withRegisters (s.setReg n v).r).setReg n w).r = (s.setReg n w).r :=
  (congrArg State.r (s.setReg_twice n v w) :)

theorem pop_ok (h : pop s = .ok x t) : ∃ u, readLong (s.reg 14) s = .ok x u ∧ t = u.setReg 14 (s.reg 14 + 4) := by
  unfold pop at h
  rw [bind_of_ok _ (run_getR 14 s)] at h
  obtain ⟨y, u, hread, hend⟩ := bind_ok h
  rw [bind_of_ok _ (run_setR _ _ u)] at hend
  cases hend
  exact ⟨u, hread, rfl⟩

theorem pop_of_readLong {u : State} (h : readLong (s.reg 14) s = .ok x u) : pop s = .ok x (u.setReg 14 (s.reg 14 + 4)) := by
  unfold pop
  rw [bind_of_ok _ (run_getR 14 s), bind_of_ok _ h]
  rfl

/-- A pop does not look at another register than SP. -/
theorem pop_setReg (hn : n ≠ 14) (h : pop s = .ok x t) : pop (s.setReg n v) = .ok x (t.setReg n v) := by
  obtain ⟨u, hread, rfl⟩ := pop_ok h
  have hu : u.setReg n v = u.withRegisters (s.setReg n v).r := by
    unfold State.setReg State.withRegisters
    rw [readLong_keeps_registers hread]
  have hother : readLong ((s.setReg n v).reg 14) (s.setReg n v) = .ok x (u.setReg n v) := by
    rw [s.setReg_reg_ne v hn, hu]
    exact readLong_withRegisters hread _
  rw [pop_of_readLong hother, s.setReg_reg_ne v hn, u.setReg_comm v _ hn]

theorem pop_reg_ne (hn : n ≠ 14) (h : pop s = .ok x t) : t.reg n = s.reg n := by
  obtain ⟨u, hread, rfl⟩ := pop_ok h
  rw [u.setReg_reg_ne _ hn.symm, State.reg, readLong_keeps_registers hread, State.reg]

theorem pops_succ (h : pops (k + 1) s = .ok xs t) :
    ∃ y u ys, pop s = .ok y u ∧ pops k u = .ok ys t ∧ xs = y :: ys := by
  unfold pops at h
  obtain ⟨y, u, hpop, hrest⟩ := bind_ok h
  obtain ⟨ys, u', hpops, hend⟩ := bind_ok hrest
  cases hend
  exact ⟨y, u, ys, hpop, hpops, rfl⟩

theorem pops_length (h : pops k s = .ok xs t) : xs.length = k := by
  induction k generalizing s xs with
  | zero =>
    cases h
    rfl
  | succ k ih =>
    obtain ⟨y, u, ys, _, hpops, rfl⟩ := pops_succ h
    exact congrArg (· + 1) (ih hpops)

theorem pops_setReg (hn : n ≠ 14) (h : pops k s = .ok xs t) : pops k (s.setReg n v) = .ok xs (t.setReg n v) := by
  induction k generalizing s xs with
  | zero =>
    cases h
    rfl
  | succ k ih =>
    obtain ⟨y, u, ys, hpop, hpops, rfl⟩ := pops_succ h
    unfold pops
    rw [bind_of_ok _ (pop_setReg v hn hpop), bind_of_ok _ (ih hpops)]
    rfl

theorem pops_reg_ne (hn : n ≠ 14) (h : pops k s = .ok xs t) : t.reg n = s.reg n := by
  induction k generalizing s xs with
  | zero =>
    cases h
    rfl
  | succ k ih =>
    obtain ⟨y, u, ys, hpop, hpops, rfl⟩ := pops_succ h
    exact (ih hpops).trans (pop_reg_ne hn hpop)
end

/-! ### The registers of the mask -/

/-- The registers that numbers name take the values beside them, one after the other. -/
def State.loaded (s : State) : List (Nat × Long) → State
  | [] => s
  | (i, x) :: rest => (s.setReg (maskReg i) x).loaded rest

section
variable {s t : State} {l : List Nat} {xs : List Long} {n : Reg}

theorem maskReg_ne {i : Nat} {n : Reg} (hi : i < 12) (hn : 12 ≤ n.val) : maskReg i ≠ n := by
  intro h
  have hval : i % 16 = n.val := congrArg Fin.val h
  omega

theorem maskReg_inj {i j : Nat} (hi : i < 12) (hj : j < 12) (h : maskReg i = maskReg j) : i = j := by
  have hval : i % 16 = j % 16 := congrArg Fin.val h
  omega

theorem State.loaded_eq_withRegisters (s : State) (l : List (Nat × Long)) : s.loaded l = s.withRegisters (s.loaded l).r := by
  induction l generalizing s with
  | nil => rfl
  | cons p rest ih => exact ih (s.setReg (maskReg p.1) p.2)

theorem State.loaded_reg_ne (s : State) (l : List (Nat × Long)) (h : ∀ p ∈ l, maskReg p.1 ≠ n) :
    (s.loaded l).reg n = s.reg n := by
  induction l generalizing s with
  | nil => rfl
  | cons p rest ih =>
    obtain ⟨hp, hrest⟩ := List.forall_mem_cons.mp h
    exact (ih (s.setReg (maskReg p.1) p.2) hrest).trans (s.setReg_reg_ne p.2 hp)

/-- A register loaded once holds its value. -/
theorem State.loaded_reg_mem (s : State) {l : List (Nat × Long)} (hsmall : ∀ p ∈ l, p.1 < 12) (hnodup : (l.map Prod.fst).Nodup)
    {p : Nat × Long} (hp : p ∈ l) : (s.loaded l).reg (maskReg p.1) = p.2 := by
  induction l generalizing s with
  | nil => exact nomatch hp
  | cons q rest ih =>
    obtain ⟨hq, hrest⟩ := List.forall_mem_cons.mp hsmall
    obtain ⟨hnot, hnodup'⟩ := List.nodup_cons.mp hnodup
    rcases List.mem_cons.mp hp with rfl | hp
    · refine (State.loaded_reg_ne _ rest fun p' hp' heq => hnot ?_).trans (s.setReg_reg_same _ _)
      rw [← maskReg_inj (hrest p' hp') hq heq]
      exact List.mem_map_of_mem hp'
    · exact ih _ hrest hnodup' hp

/-- Popping into registers below R12 pops the same longwords as popping them all first. -/
theorem forM_pop_ok (hsmall : ∀ i ∈ l, i < 12) (h : pops l.length s = .ok xs t) :
    (l.forM fun i => do setR (maskReg i) (← pop)) s = .ok ⟨⟩ (t.loaded (l.zip xs)) := by
  induction l generalizing s t xs with
  | nil =>
    cases h
    rfl
  | cons i rest ih =>
    obtain ⟨hi, hrest⟩ := List.forall_mem_cons.mp hsmall
    obtain ⟨x, u, ys, hpop, hpops, rfl⟩ := pops_succ h
    have hfirst : (do setR (maskReg i) (← pop) : M Unit) s = .ok ⟨⟩ (u.setReg (maskReg i) x) := by
      rw [bind_of_ok _ hpop]
      rfl
    exact (bind_of_ok _ hfirst).trans (ih hrest (pops_setReg x (maskReg_ne hi (by decide)) hpops))
end

/-! ### Running a return -/

/-- The registers below R12 that the frame's first longword says are saved. -/
def savedRegs (tmp : Long) : List Nat := (List.range 12).filter fun i => tmp.getLsbD (16 + i)

theorem maskRegs_saved (tmp : Long) : maskRegs (tmp >>> 16) 12 = savedRegs tmp :=
  List.filter_congr fun i _ => by rw [BitVec.getLsbD_ushiftRight]

theorem mem_savedRegs {tmp : Long} {i : Nat} : i ∈ savedRegs tmp ↔ i < 12 ∧ tmp.getLsbD (16 + i) = true := by
  unfold savedRegs
  rw [List.mem_filter, List.mem_range]

theorem savedRegs_nodup (tmp : Long) : (savedRegs tmp).Nodup := List.nodup_range.filter _

/-- AP, FP and the saved registers are restored. -/
def State.restored (s : State) (tmp ap fp : Long) (xs : List Long) : State :=
  ((s.setReg 12 ap).setReg 13 fp).loaded ((savedRegs tmp).zip xs)

/-- SP where the frame ends, its alignment undone. -/
def unalignedSp (s : State) (tmp : Long) : Long := (s.reg 14 &&& 0xFFFFFFFC) ||| tmp >>> 30

/-- The PSL with the saved PSW. -/
def returnedPsl (s : State) (tmp : Long) : Long := (s.psl &&& 0xFFFF0000) ||| (tmp &&& 0xFFFF)

/-- SP and the PSL after the frame: the alignment undone, the PSW restored. -/
def State.unwound (s : State) (tmp : Long) : State :=
  { s.setReg 14 ((s.reg 14 &&& 0xFFFFFFFC) ||| tmp >>> 30) with psl := putField s.psl 0 16 tmp }

/-- RET once the frame has been popped: the arguments of CALLS go, and the PC is restored. -/
def retEnd (tmp pc : Long) : Meaning := do
  if tmp.getLsbD 29 then
    let sp ← getR 14
    let n ← readLong sp
    setR 14 (sp + 4 + 4 * (n &&& 0xFF))
  setPC pc
  done

theorem putField_psw (psl tmp : Long) : putField psl 0 16 tmp = (psl &&& 0xFFFF0000) ||| (tmp &&& 0xFFFF) := by
  unfold putField
  rw [BitVec.shiftLeft_zero]
  rfl

section
variable {s s1 s2 : State} {tmp ap fp pc : Long} {xs : List Long}

theorem State.restored_reg_high (s : State) {n : Reg} (hn : 12 ≤ n.val) :
    (s.restored tmp ap fp xs).reg n = ((s.setReg 12 ap).setReg 13 fp).reg n :=
  State.loaded_reg_ne _ _ fun _ hp => maskReg_ne (mem_savedRegs.mp (List.of_mem_zip hp).1).1 hn

theorem State.restored_unwound (s : State) : (s.restored tmp ap fp xs).unwound tmp =
    { ((s.setReg 12 ap).setReg 13 fp) with
      r := ((s.restored tmp ap fp xs).setReg 14 (unalignedSp s tmp)).r, psl := returnedPsl s tmp } := by
  have hsp : (s.restored tmp ap fp xs).reg 14 = s.reg 14 := by
    rw [s.restored_reg_high (by decide), State.setReg_reg_ne _ _ (by decide), State.setReg_reg_ne _ _ (by decide)]
  unfold State.unwound
  rw [putField_psw, hsp]
  unfold State.restored
  rw [State.loaded_eq_withRegisters]
  rfl

theorem State.restored_unwound_r (s : State) :
    ((s.restored tmp ap fp xs).unwound tmp).r = ((s.restored tmp ap fp xs).setReg 14 (unalignedSp s tmp)).r := by
  rw [s.restored_unwound]

theorem State.restored_unwound_psl (s : State) : ((s.restored tmp ap fp xs).unwound tmp).psl = returnedPsl s tmp := by
  rw [s.restored_unwound]

theorem State.restored_unwound_mem (s : State) : ((s.restored tmp ap fp xs).unwound tmp).mem = s.mem := by
  rw [s.restored_unwound]
  rfl

theorem State.restored_unwound_sp (s : State) : ((s.restored tmp ap fp xs).unwound tmp).reg 14 = unalignedSp s tmp := by
  rw [State.reg, s.restored_unwound_r]
  exact State.setReg_reg_same _ 14 _

/-- A frame that does not restore a reserved PSW is popped whole. -/
theorem ret_pops (hframe : pops 4 (s.setReg 14 (s.reg 13 + 4)) = .ok [tmp, ap, fp, pc] s1) (hclear : field tmp 8 8 = 0)
    (hregs : pops (savedRegs tmp).length s1 = .ok xs s2) : ret s = retEnd tmp pc ((s2.restored tmp ap fp xs).unwound tmp) := by
  obtain ⟨_, u1, _, htmp, hframe, heq⟩ := pops_succ hframe
  obtain ⟨rfl, rfl⟩ := List.cons.inj heq
  obtain ⟨_, u2, _, hap, hframe, heq⟩ := pops_succ hframe
  obtain ⟨rfl, rfl⟩ := List.cons.inj heq
  obtain ⟨_, u3, _, hfp, hframe, heq⟩ := pops_succ hframe
  obtain ⟨rfl, rfl⟩ := List.cons.inj heq
  obtain ⟨_, u4, _, hpc, hframe, heq⟩ := pops_succ hframe
  obtain ⟨rfl, rfl⟩ := List.cons.inj heq
  cases hframe
  have hfp' := pop_setReg ap (n := 12) (by decide) hfp
  have hpc' := pop_setReg fp (n := 13) (by decide) (pop_setReg ap (n := 12) (by decide) hpc)
  have hregs' := forM_pop_ok (fun i hi => (mem_savedRegs.mp hi).1)
    (pops_setReg fp (n := 13) (by decide) (pops_setReg ap (n := 12) (by decide) hregs))
  unfold ret
  refine (bind_of_ok _ (run_getR 13 s)).trans <| (bind_of_ok _ (run_setR 14 _ s)).trans <| (bind_of_ok _ htmp).trans ?_
  dsimp only
  rw [if_neg (not_not.mpr hclear), maskRegs_saved]
  exact (bind_of_ok _ hap).trans <| (bind_of_ok _ (run_setR 12 ap u2)).trans <| (bind_of_ok _ hfp').trans <|
    (bind_of_ok _ (run_setR 13 fp _)).trans <| (bind_of_ok _ hpc').trans <| bind_of_ok _ hregs'

/-- A frame whose PSW has any of bits 15:8 set is not restored. -/
theorem ret_reservedPsw (htmp : pop (s.setReg 14 (s.reg 13 + 4)) = .ok tmp s1) (hset : field tmp 8 8 ≠ 0) :
    ret s = .error (.exc reservedOperand) s1 := by
  unfold ret
  refine (bind_of_ok _ (run_getR 13 s)).trans <| (bind_of_ok _ (run_setR 14 _ s)).trans <| (bind_of_ok _ htmp).trans ?_
  dsimp only
  rw [if_pos hset]
  rfl

theorem retEnd_callg (hcallg : tmp.getLsbD 29 = false) : retEnd tmp pc s = .ok none (s.setReg 15 pc) := by
  unfold retEnd
  rw [hcallg]
  rfl

theorem retEnd_calls {sp n : Long} (hcalls : tmp.getLsbD 29 = true) (hsp : s.reg 14 = sp) (hcount : readLong sp s = .ok n s1) :
    retEnd tmp pc s = .ok none ((s1.setReg 14 (sp + 4 + 4 * (n &&& 0xFF))).setReg 15 pc) := by
  subst hsp
  unfold retEnd
  rw [hcalls, if_pos rfl, bind_of_ok _ (run_getR 14 s), bind_of_ok _ hcount]
  rfl

/-- A read of the argument count does not look at the registers restored before it. -/
theorem readLong_unwound {va n : Long}
    (h : readLong va { ((s.setReg 12 ap).setReg 13 fp) with psl := returnedPsl s tmp } = .ok n s1) :
    readLong va ((s.restored tmp ap fp xs).unwound tmp) =
      .ok n (s1.withRegisters ((s.restored tmp ap fp xs).setReg 14 (unalignedSp s tmp)).r) := by
  rw [State.restored_unwound]
  exact readLong_withRegisters h _

/-! ### The state after a return -/

/-- What a return makes of the general registers: the frame's are back, those it does not save stay. -/
structure ReturnedRegs (s t : State) (tmp ap fp pc sp : Long) (xs : List Long) : Prop where
  pc : t.pc = pc
  ap : t.reg 12 = ap
  fp : t.reg 13 = fp
  sp : t.reg 14 = sp
  unsaved : ∀ i < 12, tmp.getLsbD (16 + i) = false → t.reg (maskReg i) = s.reg (maskReg i)
  saved : ∀ (k i : Nat) (x : Long), xs[k]? = some x → (savedRegs tmp)[k]? = some i → t.reg (maskReg i) = x

theorem State.restored_reg_unsaved (s : State) {i : Nat} (hi : i < 12) (hclear : tmp.getLsbD (16 + i) = false) :
    (s.restored tmp ap fp xs).reg (maskReg i) = s.reg (maskReg i) := by
  have hne : ∀ p ∈ (savedRegs tmp).zip xs, maskReg p.1 ≠ maskReg i := by
    intro p hp heq
    obtain ⟨hsmall, hset⟩ := mem_savedRegs.mp (List.of_mem_zip hp).1
    rw [maskReg_inj hsmall hi heq, hclear] at hset
    exact nomatch hset
  unfold State.restored
  rw [State.loaded_reg_ne _ _ hne, State.setReg_reg_ne _ _ (maskReg_ne hi (by decide)).symm,
    State.setReg_reg_ne _ _ (maskReg_ne hi (by decide)).symm]

theorem State.restored_reg_saved (s : State) {k i : Nat} {x : Long} (hx : xs[k]? = some x) (hi : (savedRegs tmp)[k]? = some i)
    (hlength : xs.length = (savedRegs tmp).length) : (s.restored tmp ap fp xs).reg (maskReg i) = x := by
  have hmem : (i, x) ∈ (savedRegs tmp).zip xs :=
    List.mem_of_getElem? (i := k) (List.getElem?_zip_eq_some.mpr ⟨hi, hx⟩)
  have hsmall : ∀ p ∈ (savedRegs tmp).zip xs, p.1 < 12 := fun p hp => (mem_savedRegs.mp (List.of_mem_zip hp).1).1
  have hnodup : (((savedRegs tmp).zip xs).map Prod.fst).Nodup := by
    rw [List.map_fst_zip hlength.ge]
    exact savedRegs_nodup tmp
  exact State.loaded_reg_mem _ hsmall hnodup hmem

theorem returnedRegs_of_restored {t : State} {sp : Long}
    (hkept : ∀ i < 12, s2.reg (maskReg i) = s.reg (maskReg i)) (hlength : xs.length = (savedRegs tmp).length)
    (hregs : t.r = (((s2.restored tmp ap fp xs).setReg 14 sp).setReg 15 pc).r) : ReturnedRegs s t tmp ap fp pc sp xs := by
  have hreg (n : Reg) : t.reg n = (((s2.restored tmp ap fp xs).setReg 14 sp).setReg 15 pc).reg n := by
    unfold State.reg
    rw [hregs]
  have hlow {i : Nat} (hi : i < 12) : t.reg (maskReg i) = (s2.restored tmp ap fp xs).reg (maskReg i) := by
    rw [hreg, State.setReg_reg_ne _ _ (maskReg_ne hi (by decide)).symm, State.setReg_reg_ne _ _ (maskReg_ne hi (by decide)).symm]
  refine ⟨?_, ?_, ?_, ?_, fun i hi hclear => ?_, fun k i x hx hi => ?_⟩
  · exact (hreg 15).trans (State.setReg_reg_same _ _ _)
  · rw [hreg, State.setReg_reg_ne _ _ (by decide), State.setReg_reg_ne _ _ (by decide), State.restored_reg_high _ (by decide),
      State.setReg_reg_ne _ _ (by decide), State.setReg_reg_same]
  · rw [hreg, State.setReg_reg_ne _ _ (by decide), State.setReg_reg_ne _ _ (by decide), State.restored_reg_high _ (by decide),
      State.setReg_reg_same]
  · rw [hreg, State.setReg_reg_ne _ _ (by decide), State.setReg_reg_same]
  · rw [hlow hi, State.restored_reg_unsaved s2 hi hclear, hkept i hi]
  · rw [hlow (mem_savedRegs.mp (List.mem_of_getElem? hi)).1, State.restored_reg_saved s2 hx hi hlength]

/-- Pops of the frame leave the registers below R12. -/
theorem pops_frame_reg {k j : Nat} {ys : List Long} {sp : Long} {op : Nat}
    (hframe : pops k ((past op s).setReg 14 sp) = .ok ys s1) (hregs : pops j s1 = .ok xs s2) (i : Nat) (hi : i < 12) :
    s2.reg (maskReg i) = s.reg (maskReg i) := by
  have hsp : maskReg i ≠ 14 := maskReg_ne hi (by decide)
  have hpc : maskReg i ≠ 15 := maskReg_ne hi (by decide)
  rw [pops_reg_ne hsp hregs, pops_reg_ne hsp hframe, State.setReg_reg_ne _ _ hsp.symm, past, State.setReg_reg_ne _ _ hpc.symm]

/-- Reads leave the PSL, whatever other agents do meanwhile. -/
theorem psl_busClosed (p : Long) : BusClosed fun s => s.psl = p :=
  StoreClosed.toBus ⟨⟨fun _ _ _ _ _ _ h => h⟩, fun _ _ _ _ h => h, fun _ _ h => h⟩ fun _ _ _ h => h

theorem readLong_psl {va x : Long} (h : readLong va s = .ok x s1) : s1.psl = s.psl :=
  (keeps_readLong va (psl_busClosed s.psl)).of_ok h rfl
end

/-- Settles O42. -/
theorem returnResults : Obligations.ReturnResults := by
  intro s s1 s2 tmp ap fp pc xs
  have hfp : (past 0x04 s).reg 13 = s.reg 13 := s.setReg_reg_ne _ (by decide)
  rw [← hfp]
  refine ⟨fun hset hready htmp => execute_ready_exc hready (ret_reservedPsw htmp hset),
    fun hready hframe hclear hregs => ?_⟩
  have hkept := pops_frame_reg hframe hregs
  have hlength := pops_length hregs
  have hret {t : State} (hend : retEnd tmp pc ((s2.restored tmp ap fp xs).unwound tmp) = .ok none t) : exec .ret s = .next t := by
    show execute 0x04 ret s = _
    rw [execute_ready hready, ret_pops hframe hclear hregs, hend]
    rfl
  refine ⟨fun hcallg => ?_, fun hcalls n s3 hcount => ?_⟩
  · have hregs' := State.setReg_r_congr (s2.restored_unwound_r (tmp := tmp) (ap := ap) (fp := fp) (xs := xs)) 15 pc
    obtain ⟨hpc, hap, hfp, hsp, hunsaved, hsaved⟩ := returnedRegs_of_restored hkept hlength hregs'
    exact ⟨_, hret (retEnd_callg hcallg), hpc, hap, hfp, s2.restored_unwound_psl, hsp, s2.restored_unwound_mem, hunsaved,
      hsaved⟩
  · have hend := retEnd_calls (pc := pc) hcalls s2.restored_unwound_sp (readLong_unwound (xs := xs) hcount)
    have hregs' := State.setReg_r_congr (s3.withRegisters_setReg_r (s2.restored tmp ap fp xs) 14 (unalignedSp s2 tmp)
      (unalignedSp s2 tmp + 4 + 4 * (n &&& 0xFF))) 15 pc
    obtain ⟨hpc, hap, hfp, hsp, hunsaved, hsaved⟩ := returnedRegs_of_restored hkept hlength hregs'
    exact ⟨_, hret hend, hpc, hap, hfp, readLong_psl hcount, hsp, rfl, hunsaved, hsaved⟩

end Sys2Proof.Machine
end

section
/-! Absolute queues, 44_queue.md R764, R765: the links are read, all places are checked, then the links are written. -/
namespace Sys2Proof.Machine

/-! ### Running an action step by step -/

section
variable {α β : Type} {x y : M α} {f : α → M β} {s t : State} {a : α} {r : EStateM.Result Stop State α}
  {q : EStateM.Result Stop State β} {P : Prop} [Decidable P]

/-- What follows a completed action decides the answer. -/
theorem bind_run (hx : x s = .ok a t) (hf : f a t = q) : (x >>= f) s = q := (bind_of_ok f hx).trans hf

theorem ite_run_pos (h : P) (hx : x s = r) : (if P then x else y) s = r := by rwa [if_pos h]

theorem ite_run_neg (h : ¬ P) (hy : y s = r) : (if P then x else y) s = r := by rwa [if_neg h]
end

section
variable {entry pred addr : Opnd} {s s1 s2 s3 s4 s5 s6 s7 s8 s9 sA sB : State} {e p q : Long} {d k : Dest} {dp ds de de4 : Span}

theorem insque_ok (hentry : adrPlain .b entry s = .ok e s1) (hpred : adrPlain .b pred s1 = .ok p s2)
    (hsucc : readLong p s2 = .ok q s3) (hdp : longDest p s3 = .ok dp s4) (hds : longDest (q + 4) s4 = .ok ds s5)
    (hde : longDest e s5 = .ok de s6) (hde4 : longDest (e + 4) s6 = .ok de4 s7) (hforward : putLong de q s7 = .ok ⟨⟩ s8)
    (hback : putLong de4 p s8 = .ok ⟨⟩ s9) (hsuccBack : putLong ds e s9 = .ok ⟨⟩ sA)
    (hpredForward : putLong dp e sA = .ok ⟨⟩ sB) : insque entry pred s =
    .ok none (sB.withCC (decide (q.toInt < p.toInt)) (decide (q = p)) false (decide (q.toNat < p.toNat))) := by
  unfold insque
  exact bind_run hentry <| bind_run hpred <| bind_run hsucc <| bind_run hdp <| bind_run hds <| bind_run hde <| bind_run hde4 <|
    bind_run hforward <| bind_run hback <| bind_run hsuccBack <| bind_run hpredForward rfl

/-- A header that names itself holds no entry: its address is stored alone. -/
theorem remque_empty (hentry : adrPlain .b entry s = .ok e s1) (haddr : wr .l addr s1 = .ok d s2)
    (hsucc : readLong e s2 = .ok q s3) (hpred : readLong (e + 4) s3 = .ok p s4) (hself : e = p)
    (hstore : store .l d e s4 = .ok ⟨⟩ s5) : remque entry addr s =
    .ok none (s5.withCC (decide (q.toInt < p.toInt)) (decide (q = p)) true (decide (q.toNat < p.toNat))) := by
  unfold remque
  exact bind_run hentry <| bind_run haddr <| bind_run hsucc <| bind_run hpred <| ite_run_neg (not_not.mpr hself) <|
    bind_run hstore rfl

theorem remque_entry (hentry : adrPlain .b entry s = .ok e s1) (haddr : wr .l addr s1 = .ok d s2)
    (hsucc : readLong e s2 = .ok q s3) (hpred : readLong (e + 4) s3 = .ok p s4) (hne : e ≠ p)
    (hds : longDest (q + 4) s4 = .ok ds s5) (hdp : longDest p s5 = .ok dp s6) (hdest : prepare .l d s6 = .ok k s7)
    (hpredForward : putLong dp q s7 = .ok ⟨⟩ s8) (hsuccBack : putLong ds p s8 = .ok ⟨⟩ s9)
    (hstore : store .l k e s9 = .ok ⟨⟩ sA) : remque entry addr s =
    .ok none (sA.withCC (decide (q.toInt < p.toInt)) (decide (q = p)) false (decide (q.toNat < p.toNat))) := by
  unfold remque
  exact bind_run hentry <| bind_run haddr <| bind_run hsucc <| bind_run hpred <| ite_run_pos hne <| bind_run hds <|
    bind_run hdp <| bind_run hdest <| bind_run hpredForward <| bind_run hsuccBack <| bind_run hstore rfl

theorem execute_ready_next {op : Nat} {m : Meaning} {s t : State} (hready : Ready op s) (hm : m (past op s) = .ok none t) :
    execute op m s = .next t := by
  rw [execute_ready hready, hm]
  rfl
end

/-- Settles O43. -/
theorem queueResults : Obligations.QueueResults := by
  refine ⟨?_, ?_⟩
  · intro entry pred s s1 s2 s3 s4 s5 s6 s7 s8 s9 sA sB e p q dp ds de de4 hready hentry hpred hsucc hdp hds hde hde4 hforward
      hback hsuccBack hpredForward
    exact execute_ready_next hready
      (insque_ok hentry hpred hsucc hdp hds hde hde4 hforward hback hsuccBack hpredForward)
  · intro entry addr s s1 s2 s3 s4 e q p d hready hentry haddr hsucc hpred
    refine ⟨fun hself s5 hstore => ?_, fun hne ds dp k s5 s6 s7 s8 s9 sA hds hdp hdest hpredForward hsuccBack hstore => ?_⟩
    · exact execute_ready_next hready (remque_empty hentry haddr hsucc hpred hself hstore)
    · exact execute_ready_next hready
        (remque_entry hentry haddr hsucc hpred hne hds hdp hdest hpredForward hsuccBack hstore)

end Sys2Proof.Machine
end

section
/-! Self-relative queues, 44_queue.md R763, R770 to R773: the tests of the header, what is done under the secondary interlock, and
the links of an insertion and of a removal at either end. -/
namespace Sys2Proof.Machine

/-! ### The low bits of a link -/

/-- A link that is quadword aligned passes both tests of a forward link. -/
theorem link_aligned {a : Long} (h : field a 0 3 = 0) : field a 1 2 = 0 ∧ a.getLsbD 0 = false := by
  have hlow : a.toNat % 8 = 0 := by simpa [field, BitVec.extractLsb'_toNat] using h
  have hpair : field a 1 2 = a.toNat / 2 % 4 := by simp [field, BitVec.extractLsb'_toNat, Nat.shiftRight_eq_div_pow]
  refine ⟨by omega, ?_⟩
  rw [BitVec.getLsbD, Nat.testBit_zero, decide_eq_false_iff_not]
  omega

theorem quadAligned_of_field {a : Long} (h : field a 0 3 = 0) : quadAligned a = true := beq_iff_eq.mpr h

theorem not_quadAligned_of_field {a : Long} (h : field a 0 3 ≠ 0) : ¬ quadAligned a = true := fun ha => h (beq_iff_eq.mp ha)

/-! ### How the instruction ends -/

/-- `out` is how an instruction that started at `s` ends, its part after the operands having answered `r`. -/
structure EndsWith (out : Out) (s : State) (r : EStateM.Result Stop State Unit) : Prop where
  next : ∀ t, r = .ok ⟨⟩ t → out = .next t
  turnedAway : ∀ t, r = .error (.exc reservedOperand) t → out = s.turnedAway t

/-- An instruction that is done once `x` is ends as `x` does. -/
theorem execute_endsWith {op : Nat} {m : Meaning} {x : M Unit} {s t : State} (hready : Ready op s)
    (hm : m (past op s) = (x >>= fun _ => done) t) : EndsWith (execute op m s) s (x t) where
  next _ hx := execute_ready_next hready (hm.trans (bind_run hx rfl))
  turnedAway _ hx := execute_ready_exc hready (hm.trans (bind_of_error _ hx))

/-! ### Under the secondary interlock, R763 -/

section
variable {α : Type} {x : M α} {hs : Span} {a : Long} {s s1 s2 s3 : State} {v : α} {e : Stop}

theorem withLock_ok (hlock : putLong hs (a ||| 1) s = .ok ⟨⟩ s1) (hx : x s1 = .ok v s2) : withLock hs a x s = .ok v s2 := by
  unfold withLock
  exact bind_run hlock <| bind_run (attempt_of_ok hx) rfl

/-- Where what is done under the interlock stops, the header is put back. -/
theorem withLock_error (hlock : putLong hs (a ||| 1) s = .ok ⟨⟩ s1) (hx : x s1 = .error e s2)
    (hunlock : putLong hs a s2 = .ok ⟨⟩ s3) : withLock hs a x s = .error e s3 := by
  unfold withLock
  exact bind_run hlock <| bind_run (attempt_of_error hx) <| bind_run hunlock rfl
end

/-! ### Insertion, R770, R771 -/

section
variable {out : Out} {x : M Unit} {s s1 s2 s3 s4 s5 s6 s7 s8 s9 sA sB sC sD : State} {h n a c : Long} {es hs d dl dh : Span}

theorem unlessLocked_badLink (hbits : field a 1 2 ≠ 0) (hput : putLong hs a s = .ok ⟨⟩ s1) :
    unlessLocked hs a x s = .error (.exc reservedOperand) s1 := by
  unfold unlessLocked
  exact ite_run_pos hbits <| bind_run hput rfl

theorem unlessLocked_locked (hbits : field a 1 2 = 0) (hlocked : a.getLsbD 0 = true) (hput : putLong hs a s = .ok ⟨⟩ s1) :
    unlessLocked hs a x s = .ok ⟨⟩ (s1.withCC false false false true) := by
  unfold unlessLocked
  exact ite_run_neg (not_not.mpr hbits) <| ite_run_pos hlocked <| bind_run hput rfl

theorem unlessLocked_free (hfree : field a 0 3 = 0) : unlessLocked hs a x s = x s := by
  obtain ⟨hbits, hunlocked⟩ := link_aligned hfree
  unfold unlessLocked
  exact ite_run_neg (not_not.mpr hbits) <| ite_run_neg (Bool.eq_false_iff.mp hunlocked) rfl

/-- The tests of an insertion; an empty queue's header fails none. -/
theorem insertionTests (hends : a ≠ 0 → EndsWith out s (unlessLocked hs a x s4)) : InsertionTests out s hs a s4 := by
  refine ⟨fun hbits s5 hput => ?_, fun hbits hlocked s5 hput => ?_⟩
  · have hne : a ≠ 0 := fun hzero => hbits (hzero ▸ rfl)
    exact (hends hne).turnedAway s5 (unlessLocked_badLink hbits hput)
  · have hne : a ≠ 0 := fun hzero => by simp [hzero] at hlocked
    exact (hends hne).next _ (unlessLocked_locked hbits hlocked hput)

theorem insertHead_ok (hlock : putLong hs (a ||| 1) s4 = .ok ⟨⟩ s5) (hd : longDest (h + a + 4) s5 = .ok d s6)
    (hfirst : putLong d (n - (h + a)) s6 = .ok ⟨⟩ s7) (hforward : putLong (es.sub 0 4) (h + a - n) s7 = .ok ⟨⟩ s8)
    (hback : putLong (es.sub 4 4) (h - n) s8 = .ok ⟨⟩ s9) (hheader : putLong hs (n - h) s9 = .ok ⟨⟩ sA) :
    insertHead h hs n es a s4 = .ok ⟨⟩ (sA.withCC false (decide (a = 0)) false false) := by
  have hempty : h + a = h ↔ a = 0 := by simp
  rw [← decide_eq_decide.mpr hempty]
  unfold insertHead
  exact bind_run (withLock_ok hlock hd) <| bind_run hfirst <| bind_run hforward <| bind_run hback <| bind_run hheader rfl

theorem headInsertion (hends : EndsWith out s (unlessLocked hs a (insertHead h hs n es a) s4)) :
    HeadInsertion out h n es hs a s4 := by
  intro hfree s5 s6 s7 s8 s9 sA d hlock hd hfirst hforward hback hheader
  rw [unlessLocked_free hfree] at hends
  exact hends.next _ (insertHead_ok hlock hd hfirst hforward hback hheader)

theorem insertTail_ok (hlock : putLong hs (a ||| 1) s4 = .ok ⟨⟩ s5) (hlink : readLong (h + 4) s5 = .ok c s6)
    (haligned : field (h + c) 0 3 = 0) (hdl : longDest (h + c) s6 = .ok dl s7) (hdh : longDest (h + 4) s7 = .ok dh s8)
    (hlast : putLong dl (n - (h + c)) s8 = .ok ⟨⟩ s9) (hforward : putLong (es.sub 0 4) (h - n) s9 = .ok ⟨⟩ sA)
    (hback : putLong (es.sub 4 4) (h + c - n) sA = .ok ⟨⟩ sB) (hheader : putLong dh (n - h) sB = .ok ⟨⟩ sC)
    (hunlock : putLong hs a sC = .ok ⟨⟩ sD) :
    insertTail h hs n es a s4 = .ok ⟨⟩ (sD.withCC false false false false) := by
  unfold insertTail
  refine bind_run (a := (h + c, dl, dh)) (withLock_ok hlock ?_) <| bind_run hlast <| bind_run hforward <| bind_run hback <|
    bind_run hheader <| bind_run hunlock rfl
  exact bind_run hlink <| ite_run_neg (not_not.mpr (quadAligned_of_field haligned)) <| bind_run hdl <| bind_run hdh rfl

theorem insertTail_badLink (hlock : putLong hs (a ||| 1) s4 = .ok ⟨⟩ s5) (hlink : readLong (h + 4) s5 = .ok c s6)
    (hbad : field (h + c) 0 3 ≠ 0) (hunlock : putLong hs a s6 = .ok ⟨⟩ s7) :
    insertTail h hs n es a s4 = .error (.exc reservedOperand) s7 := by
  unfold insertTail
  refine bind_of_error _ (withLock_error hlock ?_ hunlock)
  exact bind_run hlink <| ite_run_pos (not_quadAligned_of_field hbad) rfl

/-- INSQHI and INSQTI after their operands. -/
def insertion (tail : Bool) (n h : Long) : M Unit := if tail then insqti n h else insqhi n h

theorem beginInsert_ok (hne : h ≠ n) (hh : field h 0 3 = 0) (hn : field n 0 3 = 0) (hes : memDest n 8 s2 = .ok es s3)
    (hread : lockedRead h s3 = .ok (hs, a) s4) : beginInsert n h s2 = .ok (es, hs, a) s4 := by
  have hplaced : ¬ (h = n ∨ ¬ quadAligned h ∨ ¬ quadAligned n) := by
    simp [hne, quadAligned_of_field hh, quadAligned_of_field hn]
  unfold beginInsert
  exact ite_run_neg hplaced <| bind_run hes <| bind_run hread rfl

theorem insertion_misplaced (tail : Bool) (hbad : h = n ∨ field h 0 3 ≠ 0 ∨ field n 0 3 ≠ 0) :
    insertion tail n h s = .error (.exc reservedOperand) s := by
  have hbegin : beginInsert n h s = .error (.exc reservedOperand) s := by
    unfold beginInsert
    exact ite_run_pos (hbad.imp_right (.imp not_quadAligned_of_field not_quadAligned_of_field)) rfl
  cases tail <;> exact bind_of_error _ hbegin

theorem insqhi_begun (hbegin : beginInsert n h s2 = .ok (es, hs, a) s4) :
    insqhi n h s2 = unlessLocked hs a (insertHead h hs n es a) s4 := bind_run hbegin rfl

theorem insqti_begun (hbegin : beginInsert n h s2 = .ok (es, hs, a) s4) (hne : a ≠ 0) :
    insqti n h s2 = unlessLocked hs a (insertTail h hs n es a) s4 := bind_run hbegin <| ite_run_neg hne rfl

/-- An empty queue's header is given up, and the insertion starts anew. -/
theorem insqti_empty (hbegin : beginInsert n h s2 = .ok (es, hs, 0) s4) (hput : putLong hs 0 s4 = .ok ⟨⟩ s5) :
    insqti n h s2 = insqhi n h s5 := bind_run hbegin <| ite_run_pos rfl <| bind_run hput rfl
end

theorem insertRows_run : ∀ e ∈ ([(0x5C, .insqhi), (0x5D, .insqti)] : List (Nat × (Opnd → Opnd → Instr))),
    ∃ tail, (∀ entry header s, exec (e.2 entry header) s = execute e.1 (insqi tail entry header) s)
      ∧ e.1 = if tail then 0x5D else 0x5C := by
  simp only [List.forall_mem_cons]
  exact ⟨⟨false, fun _ _ _ => rfl, rfl⟩, ⟨true, fun _ _ _ => rfl, rfl⟩, List.forall_mem_nil _⟩

theorem insqi_endsWith {op : Nat} {tail : Bool} {entry header : Opnd} {s s1 s2 : State} {n h : Long} (hready : Ready op s)
    (hentry : adrPlain .b entry (past op s) = .ok n s1) (hheader : adrPlain .q header s1 = .ok h s2) :
    EndsWith (execute op (insqi tail entry header) s) s (insertion tail n h s2) := by
  refine execute_endsWith hready (bind_run hentry <| bind_run hheader ?_)
  cases tail <;> rfl

/-! ### Removal, R772, R773 -/

/-- What a removal does with the forward link `a` it has read of the header: the tests, and `x` where there is an entry. -/
def unlessLockedOrEmpty (h : Long) (k : Dest) (hs : Span) (a : Long) (x : M Unit) : M Unit := do
  if field a 1 2 ≠ 0 then
    putLong hs a
    raise reservedOperand
  if a.getLsbD 0 then
    putLong hs a
    setCC false false true true
  else if a = 0 then
    putLong hs a
    storePlain .l k h
    setCC false true true false
  else x

section
variable {out : Out} {x : M Unit} {y : Span → Dest → Long → M Unit} {s s1 s2 s3 s4 s5 s6 s7 s8 s9 sA sB sC sD : State}
  {h a b c : Long} {d k : Dest} {hs dn dp dh : Span}

theorem unlessLockedOrEmpty_badLink (hbits : field a 1 2 ≠ 0) (hput : putLong hs a s = .ok ⟨⟩ s1) :
    unlessLockedOrEmpty h k hs a x s = .error (.exc reservedOperand) s1 :=
  ite_run_pos hbits <| bind_run hput rfl

theorem unlessLockedOrEmpty_locked (hbits : field a 1 2 = 0) (hlocked : a.getLsbD 0 = true)
    (hput : putLong hs a s = .ok ⟨⟩ s1) : unlessLockedOrEmpty h k hs a x s = .ok ⟨⟩ (s1.withCC false false true true) :=
  ite_run_neg (not_not.mpr hbits) <| ite_run_pos hlocked <| bind_run hput rfl

theorem unlessLockedOrEmpty_empty (hput : putLong hs 0 s = .ok ⟨⟩ s1) (hstore : storePlain .l k h s1 = .ok ⟨⟩ s2) :
    unlessLockedOrEmpty h k hs 0 x s = .ok ⟨⟩ (s2.withCC false true true false) := by
  obtain ⟨hbits, hunlocked⟩ := link_aligned (a := 0) rfl
  unfold unlessLockedOrEmpty
  exact ite_run_neg (not_not.mpr hbits) <| ite_run_neg (Bool.eq_false_iff.mp hunlocked) <| ite_run_pos rfl <| bind_run hput <|
    bind_run hstore rfl

theorem unlessLockedOrEmpty_free (hne : a ≠ 0) (hfree : field a 0 3 = 0) : unlessLockedOrEmpty h k hs a x s = x s := by
  obtain ⟨hbits, hunlocked⟩ := link_aligned hfree
  exact ite_run_neg (not_not.mpr hbits) <| ite_run_neg (Bool.eq_false_iff.mp hunlocked) <| ite_run_neg hne rfl

theorem removalTests (hends : EndsWith out s (unlessLockedOrEmpty h k hs a x s4)) : RemovalTests out s h k hs a s4 := by
  refine ⟨fun hbits s5 hput => ?_, fun hbits hlocked s5 hput => ?_, ?_⟩
  · exact hends.turnedAway s5 (unlessLockedOrEmpty_badLink hbits hput)
  · exact hends.next _ (unlessLockedOrEmpty_locked hbits hlocked hput)
  · rintro rfl s5 s6 hput hstore
    exact hends.next _ (unlessLockedOrEmpty_empty hput hstore)

theorem removeHead_ok (hlock : putLong hs (a ||| 1) s4 = .ok ⟨⟩ s5) (hlink : readLong (h + a) s5 = .ok b s6)
    (haligned : field (h + a + b) 0 3 = 0) (hdn : longDest (h + a + b + 4) s6 = .ok dn s7)
    (hback : putLong dn (h - (h + a + b)) s7 = .ok ⟨⟩ s8) (hheader : putLong hs (h + a + b - h) s8 = .ok ⟨⟩ s9)
    (hstore : storePlain .l k (h + a) s9 = .ok ⟨⟩ sA) :
    removeHead h hs k a s4 = .ok ⟨⟩ (sA.withCC false (decide (h + a + b = h)) false false) := by
  unfold removeHead
  refine bind_run (a := (h + a + b, dn)) (withLock_ok hlock ?_) <| bind_run hback <| bind_run hheader <| bind_run hstore rfl
  exact bind_run hlink <| ite_run_neg (not_not.mpr (quadAligned_of_field haligned)) <| bind_run hdn rfl

theorem removeHead_badLink (hlock : putLong hs (a ||| 1) s4 = .ok ⟨⟩ s5) (hlink : readLong (h + a) s5 = .ok b s6)
    (hbad : field (h + a + b) 0 3 ≠ 0) (hunlock : putLong hs a s6 = .ok ⟨⟩ s7) :
    removeHead h hs k a s4 = .error (.exc reservedOperand) s7 := by
  unfold removeHead
  refine bind_of_error _ (withLock_error hlock ?_ hunlock)
  exact bind_run hlink <| ite_run_pos (not_quadAligned_of_field hbad) rfl

theorem headRemoval (hends : EndsWith out s (unlessLockedOrEmpty h k hs a (removeHead h hs k a) s4)) :
    HeadRemoval out s h k hs a s4 := by
  intro hne hfree s5 s6 b hlock hlink
  rw [unlessLockedOrEmpty_free hne hfree] at hends
  refine ⟨fun hbad s7 hunlock => ?_, fun haligned s7 s8 s9 sA dn hdn hback hheader hstore => ?_⟩
  · exact hends.turnedAway s7 (removeHead_badLink hlock hlink hbad hunlock)
  · exact hends.next _ (removeHead_ok hlock hlink haligned hdn hback hheader hstore)

theorem lastEntry_badLink (hbad : field c 0 3 ≠ 0) : lastEntry h c s = .error (.exc reservedOperand) s := by
  unfold lastEntry
  exact ite_run_pos (not_quadAligned_of_field hbad) rfl

theorem lastEntry_badPrevious (haligned : field c 0 3 = 0) (hlink : readLong (h + c + 4) s = .ok b s1)
    (hbad : field (h + c + b) 0 3 ≠ 0) : lastEntry h c s = .error (.exc reservedOperand) s1 := by
  unfold lastEntry
  exact ite_run_neg (not_not.mpr (quadAligned_of_field haligned)) <| bind_run hlink <|
    ite_run_pos (not_quadAligned_of_field hbad) rfl

theorem lastEntry_ok (haligned : field c 0 3 = 0) (hlink : readLong (h + c + 4) s = .ok b s1)
    (hprevious : field (h + c + b) 0 3 = 0) (hdp : longDest (h + c + b) s1 = .ok dp s2)
    (hdh : longDest (h + 4) s2 = .ok dh s3) : lastEntry h c s = .ok (h + c, h + c + b, dp, dh) s3 := by
  unfold lastEntry
  exact ite_run_neg (not_not.mpr (quadAligned_of_field haligned)) <| bind_run hlink <|
    ite_run_neg (not_not.mpr (quadAligned_of_field hprevious)) <| bind_run hdp <| bind_run hdh rfl

/-- The only entry is its header's last too: the header is given up, and the removal starts anew. -/
theorem removeTail_single (hlock : putLong hs (a ||| 1) s4 = .ok ⟨⟩ s5) (hlink : readLong (h + 4) s5 = .ok a s6)
    (hunlock : putLong hs a s6 = .ok ⟨⟩ s7) : removeTail h x hs k a s4 = x s7 := by
  unfold removeTail
  refine bind_run (a := none) (withLock_ok hlock ?_) <| bind_run hunlock rfl
  exact bind_run hlink <| ite_run_pos rfl rfl

theorem removeTail_badEntry (hlock : putLong hs (a ||| 1) s4 = .ok ⟨⟩ s5) (hlink : readLong (h + 4) s5 = .ok c s6)
    (hne : c ≠ a) (hlast : lastEntry h c s6 = .error (.exc reservedOperand) s7) (hunlock : putLong hs a s7 = .ok ⟨⟩ s8) :
    removeTail h x hs k a s4 = .error (.exc reservedOperand) s8 := by
  unfold removeTail
  refine bind_of_error _ (withLock_error hlock ?_ hunlock)
  exact bind_run hlink <| ite_run_neg hne <| bind_of_error _ hlast

theorem removeTail_ok {last prev : Long} (hlock : putLong hs (a ||| 1) s4 = .ok ⟨⟩ s5)
    (hlink : readLong (h + 4) s5 = .ok c s6) (hne : c ≠ a) (hlast : lastEntry h c s6 = .ok (last, prev, dp, dh) s9)
    (hforward : putLong dp (h - prev) s9 = .ok ⟨⟩ sA) (hback : putLong dh (prev - h) sA = .ok ⟨⟩ sB)
    (hunlock : putLong hs a sB = .ok ⟨⟩ sC) (hstore : storePlain .l k last sC = .ok ⟨⟩ sD) :
    removeTail h x hs k a s4 = .ok ⟨⟩ (sD.withCC false false false false) := by
  unfold removeTail
  refine bind_run (a := some (last, prev, dp, dh)) (withLock_ok hlock ?_) <| bind_run hforward <| bind_run hback <|
    bind_run hunlock <| bind_run hstore rfl
  exact bind_run hlink <| ite_run_neg hne <| bind_run hlast rfl

theorem removal_begun (hh : field h 0 3 = 0) (hdest : d ≠ .mem h) (hprepare : prepare .l d s2 = .ok k s3)
    (hread : lockedRead h s3 = .ok (hs, a) s4) : removal h d y s2 = unlessLockedOrEmpty h k hs a (y hs k a) s4 := by
  have hplaced : notHeader h d s2 = .ok ⟨⟩ s2 := by
    cases d with
    | mem va => exact ite_run_neg (fun hva => hdest (congrArg Dest.mem hva)) rfl
    | reg _ | place _ => rfl
  unfold removal
  exact ite_run_neg (not_not.mpr (quadAligned_of_field hh)) <| bind_run hplaced <| bind_run hprepare <| bind_run hread rfl

theorem removal_misplaced (hbad : field h 0 3 ≠ 0 ∨ d = .mem h) : removal h d y s = .error (.exc reservedOperand) s := by
  unfold removal
  by_cases hh : field h 0 3 = 0
  · have hd : notHeader h d s = .error (.exc reservedOperand) s := by
      rw [hbad.resolve_left (not_not.mpr hh)]
      exact ite_run_pos rfl rfl
    exact ite_run_neg (not_not.mpr (quadAligned_of_field hh)) <| bind_of_error _ hd
  · exact ite_run_pos (not_quadAligned_of_field hh) rfl
end

/-- What REMQHI and REMQTI do where there is an entry. -/
def removeEntry (tail : Bool) (h : Long) (d : Dest) : Span → Dest → Long → M Unit :=
  if tail then removeTail h (remqhi h d) else removeHead h

theorem removeRows_run : ∀ e ∈ ([(0x5E, .remqhi), (0x5F, .remqti)] : List (Nat × (Opnd → Opnd → Instr))),
    ∃ tail, (∀ header addr s, exec (e.2 header addr) s = execute e.1 (remqi tail header addr) s)
      ∧ e.1 = if tail then 0x5F else 0x5E := by
  simp only [List.forall_mem_cons]
  exact ⟨⟨false, fun _ _ _ => rfl, rfl⟩, ⟨true, fun _ _ _ => rfl, rfl⟩, List.forall_mem_nil _⟩

theorem remqi_endsWith {op : Nat} {tail : Bool} {header addr : Opnd} {s s1 s2 : State} {h : Long} {d : Dest} (hready : Ready op s)
    (hheader : adrPlain .q header (past op s) = .ok h s1) (haddr : wrPlain .l addr s1 = .ok d s2) :
    EndsWith (execute op (remqi tail header addr) s) s (removal h d (removeEntry tail h d) s2) := by
  refine execute_endsWith hready (bind_run hheader <| bind_run haddr ?_)
  cases tail <;> rfl

/-! ### The statement -/

/-- Settles O44: each way an insertion or a removal can go, with the state its last write leaves. -/
theorem selfRelativeQueueResults : Obligations.SelfRelativeQueueResults := by
  refine ⟨?_, ?_⟩
  · intro e he entry header s s1 s2 n h hready hentry hheader
    obtain ⟨tail, hexec, hop⟩ := insertRows_run e he
    have hends := insqi_endsWith (tail := tail) hready hentry hheader
    rw [hexec]
    refine ⟨fun hbad => hends.turnedAway s2 (insertion_misplaced tail hbad), fun hne hh hn s3 s4 a es hs hes hread => ?_⟩
    have hbegin := beginInsert_ok hne hh hn hes hread
    cases tail with
    | false =>
      replace hends : EndsWith _ s (insqhi n h s2) := hends
      rw [insqhi_begun hbegin] at hends
      exact ⟨insertionTests fun _ => hends, fun _ => headInsertion hends, fun htail => absurd (hop.symm.trans htail) (by decide),
        fun htail => absurd (hop.symm.trans htail) (by decide)⟩
    | true =>
      replace hends : EndsWith _ s (insqti n h s2) := hends
      have hnonempty (hne : a ≠ 0) : EndsWith _ s (unlessLocked hs a (insertTail h hs n es a) s4) :=
        insqti_begun hbegin hne ▸ hends
      refine ⟨insertionTests hnonempty, fun hhead => absurd (hop.symm.trans hhead) (by decide), ?_, ?_⟩
      · rintro - rfl s5 s6 s7 a' es' hs' hput hes' hread'
        rw [insqti_empty hbegin hput, insqhi_begun (beginInsert_ok hne hh hn hes' hread')] at hends
        exact ⟨insertionTests fun _ => hends, headInsertion hends⟩
      · intro _ hne hfree s5 s6 c hlock hlink
        replace hends := hnonempty hne
        rw [unlessLocked_free hfree] at hends
        refine ⟨fun hbad s7 hunlock => hends.turnedAway s7 (insertTail_badLink hlock hlink hbad hunlock), ?_⟩
        intro haligned s7 s8 s9 sA sB sC sD dl dh hdl hdh hlast hforward hback hheader hunlock
        exact hends.next _ (insertTail_ok hlock hlink haligned hdl hdh hlast hforward hback hheader hunlock)
  · intro e he header addr s s1 s2 h d hready hheader haddr
    obtain ⟨tail, hexec, hop⟩ := removeRows_run e he
    have hends := remqi_endsWith (tail := tail) hready hheader haddr
    rw [hexec]
    refine ⟨fun hbad => hends.turnedAway s2 (removal_misplaced hbad), fun hh hdest s3 s4 a k hs hprepare hread => ?_⟩
    rw [removal_begun hh hdest hprepare hread] at hends
    refine ⟨removalTests hends, ?_⟩
    cases tail with
    | false => exact ⟨fun _ => headRemoval hends, fun htail => absurd (hop.symm.trans htail) (by decide)⟩
    | true =>
      refine ⟨fun hhead => absurd (hop.symm.trans hhead) (by decide), fun _ hne hfree s5 s6 c hlock hlink => ?_⟩
      replace hends : EndsWith _ s (removeTail h (remqhi h d) hs k a s4) := unlessLockedOrEmpty_free hne hfree ▸ hends
      refine ⟨?_, fun hca hbad s7 hunlock => ?_, fun hca haligned s7 b hprevious => ⟨fun hbad s8 hunlock => ?_, ?_⟩⟩
      · rintro rfl s7 s8 s9 a' k' hs' hunlock hprepare' hread'
        have hhead : remqhi h d s7 = unlessLockedOrEmpty h k' hs' a' (removeHead h hs' k' a') s9 :=
          removal_begun hh hdest hprepare' hread'
        rw [removeTail_single hlock hlink hunlock, hhead] at hends
        exact ⟨removalTests hends, headRemoval hends⟩
      · exact hends.turnedAway s7 (removeTail_badEntry hlock hlink hca (lastEntry_badLink hbad) hunlock)
      · exact hends.turnedAway s8
          (removeTail_badEntry hlock hlink hca (lastEntry_badPrevious haligned hprevious hbad) hunlock)
      · intro hprev s8 s9 sA sB sC sD dp dh hdp hdh hforward hback hunlock hstore
        have hlast := lastEntry_ok haligned hprevious hprev hdp hdh
        exact hends.next _ (removeTail_ok hlock hlink hca hlast hforward hback hunlock hstore)

end Sys2Proof.Machine
end

section
/-! Floating data, 45_floating.md R782, R785: the words of a datum in reverse order, its sign, exponent and fraction, and the value
they give. -/
namespace Sys2Proof.Machine

/-! ### The words in reverse order -/

/-- The bits of a number put together from 16-bit words, the first one highest. -/
theorem foldl_words_testBit {f : Nat → Nat} (hf : ∀ i, f i < 65536) (k j : Nat) :
    ((List.range k).foldl (fun acc i => acc * 65536 + f i) 0).testBit j =
      (decide (j < 16 * k) && (f (k - 1 - j / 16)).testBit (j % 16)) := by
  induction k generalizing j with
  | zero => simp
  | succ k ih =>
    rw [List.range_succ, List.foldl_append, List.foldl_cons, List.foldl_nil, Nat.mul_comm _ 65536]
    refine (Nat.testBit_two_pow_mul_add (i := 16) _ (hf k) j).trans ?_
    by_cases hj : j < 16
    · rw [if_pos hj, decide_eq_true (by omega), Nat.div_eq_of_lt hj, Nat.mod_eq_of_lt hj]
      rfl
    · have hword : k - 1 - (j - 16) / 16 = k + 1 - 1 - j / 16 := by omega
      have hbit : (j - 16) % 16 = j % 16 := by omega
      rw [if_neg hj, ih, hword, hbit, decide_eq_decide.mpr (by omega : j - 16 < 16 * k ↔ j < 16 * (k + 1))]

section
variable {w : Nat}

theorem swapWords_getLsbD (hw : 16 ∣ w) (v : BitVec w) {i : Nat} (hi : i < w) :
    (swapWords v).getLsbD i = v.getLsbD (16 * (w / 16 - 1 - i / 16) + i % 16) := by
  have hword (k j : Nat) (hj : j < 16) : (v.toNat / 65536 ^ k % 65536).testBit j = v.getLsbD (16 * k + j) := by
    rw [show 65536 ^ k = 2 ^ (16 * k) from (pow_mul 2 16 k).symm, show 65536 = 2 ^ 16 from rfl, Nat.testBit_mod_two_pow,
      decide_eq_true hj, Bool.true_and, Nat.testBit_div_two_pow, Nat.add_comm]
    rfl
  unfold swapWords
  rw [BitVec.getLsbD_ofNat, foldl_words_testBit fun k => Nat.mod_lt _ (by decide), hword _ _ (Nat.mod_lt _ (by decide)),
    decide_eq_true hi, decide_eq_true (by omega : i < 16 * (w / 16)), Bool.true_and, Bool.true_and]

theorem swapWords_swapWords (hw : 16 ∣ w) (v : BitVec w) : swapWords (swapWords v) = v := by
  refine BitVec.eq_of_getLsbD_eq fun i hi => ?_
  rw [swapWords_getLsbD hw _ hi, swapWords_getLsbD hw v (by omega)]
  congr 1
  omega

theorem swapWords_xor (hw : 16 ∣ w) (v x : BitVec w) : swapWords (v ^^^ x) = swapWords v ^^^ swapWords x := by
  refine BitVec.eq_of_getLsbD_eq fun i hi => ?_
  rw [BitVec.getLsbD_xor, swapWords_getLsbD hw _ hi, swapWords_getLsbD hw _ hi, swapWords_getLsbD hw _ hi, BitVec.getLsbD_xor]
end

/-! ### Sign, exponent and fraction -/

/-- What the four floating types have in common. -/
structure IsFloat (t : DT) : Prop where
  words : 16 ∣ t.bits
  sign : t.bits - 1 = expLen t + fracLen t
  exponent : 8 ≤ expLen t
  signBit : swapWords (0x8000 : BitVec t.bits) = BitVec.ofNat t.bits (2 ^ (t.bits - 1))

theorem isFloat_of_mem {t : DT} (h : t ∈ [DT.f, DT.d, DT.g, DT.h]) : IsFloat t := by
  have hf : IsFloat .f := ⟨by decide, rfl, by decide, by decide⟩
  have hd : IsFloat .d := ⟨by decide, rfl, by decide, by decide⟩
  have hg : IsFloat .g := ⟨by decide, rfl, by decide, by decide⟩
  have hh : IsFloat .h := ⟨by decide, rfl, by decide, by decide⟩
  simp only [List.mem_cons, List.not_mem_nil, or_false] at h
  rcases h with rfl | rfl | rfl | rfl
  exacts [hf, hd, hg, hh]

/-- Reading back the three parts of a number. -/
theorem parts_of_sum {X P s ex frac : Nat} (hex : ex < X) (hfrac : frac < P) :
    (s * (X * P) + ex * P + frac) / P = s * X + ex ∧ (s * (X * P) + ex * P + frac) % P = frac
      ∧ (s * (X * P) + ex * P + frac) / (X * P) = s := by
  have hP : 0 < P := Nat.zero_lt_of_lt hfrac
  have hsum : s * (X * P) + ex * P + frac = frac + P * (s * X + ex) := by ring
  have hdiv : (s * (X * P) + ex * P + frac) / P = s * X + ex := by
    rw [hsum, Nat.add_mul_div_left _ _ hP, Nat.div_eq_of_lt hfrac, Nat.zero_add]
  refine ⟨hdiv, ?_, ?_⟩
  · rw [hsum, Nat.add_mul_mod_self_left, Nat.mod_eq_of_lt hfrac]
  · rw [Nat.mul_comm X P, ← Nat.div_div_eq_div_mul, Nat.mul_comm P X, hdiv, Nat.add_comm,
      Nat.add_mul_div_right _ _ (Nat.zero_lt_of_lt hex), Nat.div_eq_of_lt hex, Nat.zero_add]

section
variable {t : DT} {neg : Bool} {ex frac : Nat}

theorem IsFloat.two_pow_sign (ht : IsFloat t) : 2 ^ (t.bits - 1) = 2 ^ expLen t * 2 ^ fracLen t := by rw [ht.sign, pow_add]

theorem IsFloat.two_pow_bits (ht : IsFloat t) : 2 ^ t.bits = 2 * (2 ^ expLen t * 2 ^ fracLen t) := by
  rw [← ht.two_pow_sign, ← pow_succ', Nat.sub_add_cancel (bits_pos t)]

theorem IsFloat.parts_lt (ht : IsFloat t) (hex : ex < 2 ^ expLen t) (hfrac : frac < 2 ^ fracLen t) :
    neg.toNat * 2 ^ (t.bits - 1) + ex * 2 ^ fracLen t + frac < 2 ^ t.bits := by
  have hmul : (ex + 1) * 2 ^ fracLen t ≤ 2 ^ expLen t * 2 ^ fracLen t := Nat.mul_le_mul_right _ hex
  rw [Nat.add_mul] at hmul
  rw [ht.two_pow_bits, ht.two_pow_sign]
  cases neg
  · rw [Bool.toNat_false]
    omega
  · rw [Bool.toNat_true]
    omega

theorem swapWords_packFloat (ht : IsFloat t) (hex : ex < 2 ^ expLen t) (hfrac : frac < 2 ^ fracLen t) :
    (swapWords (packFloat t neg ex frac)).toNat = neg.toNat * (2 ^ expLen t * 2 ^ fracLen t) + ex * 2 ^ fracLen t + frac := by
  unfold packFloat
  rw [swapWords_swapWords ht.words, BitVec.toNat_ofNat, Nat.mod_eq_of_lt (ht.parts_lt hex hfrac), ht.two_pow_sign]

/-- Only the sign is set in a reserved operand's sign and exponent, R785. -/
theorem reservedFloat_packFloat (ht : IsFloat t) (hex : ex < 2 ^ expLen t) (hfrac : frac < 2 ^ fracLen t) :
    reservedFloat t (packFloat t neg ex frac) = (neg && decide (ex = 0)) := by
  have hiff : neg.toNat * 2 ^ expLen t + ex = 2 ^ expLen t ↔ neg = true ∧ ex = 0 := by
    cases neg
    · simpa using hex.ne
    · simp
  unfold reservedFloat
  rw [swapWords_packFloat ht hex hfrac, (parts_of_sum hex hfrac).1, Bool.eq_iff_iff]
  simpa using hiff

theorem floatValue_packFloat (ht : IsFloat t) (hex : ex < 2 ^ expLen t) (hfrac : frac < 2 ^ fracLen t) :
    floatValue t (packFloat t neg ex frac) =
      if ex = 0 then ⟨false, 0, 0⟩ else ⟨neg, 2 ^ fracLen t + frac, (ex : Int) - bias t - (fracLen t + 1)⟩ := by
  obtain ⟨hdiv, hmod, hsign⟩ := parts_of_sum (s := neg.toNat) hex hfrac
  have hneg : (neg.toNat % 2 == 1) = neg := by cases neg <;> rfl
  unfold floatValue
  dsimp only
  rw [swapWords_packFloat ht hex hfrac, hdiv, hmod, ht.two_pow_sign, hsign, hneg, Nat.add_comm (_ * _) ex, Nat.add_mul_mod_self_right,
    Nat.mod_eq_of_lt hex]

/-- Every datum has a sign, an exponent and a fraction. -/
theorem exists_packFloat (ht : IsFloat t) (v : BitVec t.bits) :
    ∃ neg ex frac, ex < 2 ^ expLen t ∧ frac < 2 ^ fracLen t ∧ v = packFloat t neg ex frac := by
  obtain ⟨w, hw⟩ : ∃ w, (swapWords v).toNat = w := ⟨_, rfl⟩
  have hlt : w < 2 * (2 ^ expLen t * 2 ^ fracLen t) := by
    rw [← hw, ← ht.two_pow_bits]
    exact (swapWords v).isLt
  have htop : w / 2 ^ fracLen t / 2 ^ expLen t < 2 := by
    rw [Nat.div_div_eq_div_mul, Nat.mul_comm, Nat.div_lt_iff_lt_mul (by positivity)]
    exact hlt
  have hbit : (w / 2 ^ fracLen t / 2 ^ expLen t == 1).toNat = w / 2 ^ fracLen t / 2 ^ expLen t := by
    generalize w / 2 ^ fracLen t / 2 ^ expLen t = b at htop ⊢
    interval_cases b <;> rfl
  refine ⟨w / 2 ^ fracLen t / 2 ^ expLen t == 1, w / 2 ^ fracLen t % 2 ^ expLen t, w % 2 ^ fracLen t,
    Nat.mod_lt _ (by positivity), Nat.mod_lt _ (by positivity), ?_⟩
  have hsum : (w / 2 ^ fracLen t / 2 ^ expLen t) * 2 ^ (t.bits - 1) + w / 2 ^ fracLen t % 2 ^ expLen t * 2 ^ fracLen t
      + w % 2 ^ fracLen t = w := by
    calc _ = 2 ^ fracLen t * (2 ^ expLen t * (w / 2 ^ fracLen t / 2 ^ expLen t) + w / 2 ^ fracLen t % 2 ^ expLen t)
          + w % 2 ^ fracLen t := by rw [ht.two_pow_sign]; ring
      _ = w := by rw [Nat.div_add_mod, Nat.div_add_mod]
  unfold packFloat
  rw [hbit, hsum, ← hw, BitVec.ofNat_toNat, BitVec.setWidth_eq, swapWords_swapWords ht.words]

/-- A datum that is not reserved is zero or has an exponent that is not. -/
theorem datum_cases (ht : IsFloat t) {v : BitVec t.bits} (hv : reservedFloat t v = false) :
    floatValue t v = ⟨false, 0, 0⟩ ∨ ∃ neg ex frac, 0 < ex ∧ ex < 2 ^ expLen t ∧ frac < 2 ^ fracLen t
      ∧ v = packFloat t neg ex frac ∧ floatValue t v = ⟨neg, 2 ^ fracLen t + frac, (ex : Int) - bias t - (fracLen t + 1)⟩ := by
  obtain ⟨neg, ex, frac, hex, hfrac, rfl⟩ := exists_packFloat ht v
  rw [floatValue_packFloat ht hex hfrac]
  rcases Nat.eq_zero_or_pos ex with hzero | hpos
  · exact .inl (if_pos hzero)
  · exact .inr ⟨neg, ex, frac, hpos, hex, hfrac, rfl, if_neg hpos.ne'⟩

/-- The zero datum. -/
theorem zero_eq_packFloat (ht : IsFloat t) : (0 : BitVec t.bits) = packFloat t false 0 0 := by
  rw [← swapWords_swapWords ht.words 0]
  unfold packFloat
  congr 1
  refine BitVec.eq_of_getLsbD_eq fun i hi => ?_
  rw [swapWords_getLsbD ht.words _ hi]
  simp

theorem floatValue_zero (ht : IsFloat t) : floatValue t 0 = ⟨false, 0, 0⟩ := by
  rw [zero_eq_packFloat ht, floatValue_packFloat ht (by positivity) (by positivity), if_pos rfl]

theorem reservedFloat_zero (ht : IsFloat t) : reservedFloat t 0 = false := by
  rw [zero_eq_packFloat ht, reservedFloat_packFloat ht (by positivity) (by positivity), Bool.false_and]

theorem reservedFloat_floatReserved (ht : IsFloat t) : reservedFloat t (floatReserved t) = true := by
  rw [floatReserved, reservedFloat_packFloat ht (by positivity) (by positivity)]
  rfl

/-- Bit 15 of a datum is its sign, R782. -/
theorem packFloat_xor_sign (ht : IsFloat t) (hex : ex < 2 ^ expLen t) (hfrac : frac < 2 ^ fracLen t) :
    packFloat t neg ex frac ^^^ 0x8000 = packFloat t (!neg) ex frac := by
  have hset : packFloat t false ex frac ^^^ 0x8000 = packFloat t true ex frac := by
    have hlow : ex * 2 ^ fracLen t + frac < 2 ^ (t.bits - 1) := by
      rw [ht.two_pow_sign]
      calc _ < (ex + 1) * 2 ^ fracLen t := by linarith
        _ ≤ _ := Nat.mul_le_mul_right _ hex
    have hadd := Nat.two_pow_add_eq_or_of_lt hlow 1
    rw [Nat.mul_one] at hadd
    rw [← swapWords_swapWords ht.words 0x8000, ht.signBit]
    unfold packFloat
    rw [← swapWords_xor ht.words, Bool.toNat_false, Bool.toNat_true, Nat.zero_mul, Nat.zero_add, Nat.one_mul, Nat.add_assoc, hadd]
    congr 1
    refine BitVec.eq_of_getLsbD_eq fun i hi => ?_
    rw [BitVec.getLsbD_xor, BitVec.getLsbD_ofNat, BitVec.getLsbD_ofNat, BitVec.getLsbD_ofNat, Nat.testBit_or, Nat.testBit_two_pow]
    by_cases hb : t.bits - 1 = i
    · rw [Nat.testBit_lt_two_pow (hb ▸ hlow)]
      simp
    · simp [hb]
  cases neg
  · exact hset
  · rw [← hset, BitVec.xor_assoc, BitVec.xor_self, BitVec.xor_zero]
    rfl
end

end Sys2Proof.Machine
end

section
/-! Exact numbers, 45_floating.md R784, R862, R881: what the operations of the model on a sign, a mantissa and an exponent do to the
rational number they stand for. -/
namespace Sys2Proof.Machine

/-- The magnitude of a number. -/
def ExactNum.mag (a : ExactNum) : ℚ := a.m * 2 ^ a.e

/-- A magnitude with a sign. -/
def signed (neg : Bool) (x : ℚ) : ℚ := if neg then -x else x

theorem abs_signed {x : ℚ} (neg : Bool) (hx : 0 ≤ x) : |signed neg x| = x := by
  cases neg
  · exact abs_of_nonneg hx
  · exact (abs_neg x).trans (abs_of_nonneg hx)

theorem signed_sub (neg : Bool) (x y : ℚ) : |signed neg x - signed neg y| = |x - y| := by
  cases neg
  · rfl
  · rw [signed, signed, if_pos rfl, if_pos rfl, neg_sub_neg, abs_sub_comm]

theorem two_zpow_pos (e : Int) : (0 : ℚ) < 2 ^ e := zpow_pos (by norm_num) e

namespace ExactNum

variable (a b : ExactNum)

theorem mag_nonneg : 0 ≤ a.mag := mul_nonneg (Nat.cast_nonneg _) (two_zpow_pos _).le

theorem mag_pos (h : a.m ≠ 0) : 0 < a.mag := mul_pos (Nat.cast_pos.mpr (Nat.pos_of_ne_zero h)) (two_zpow_pos _)

theorem mag_of_zero (h : a.m = 0) : a.mag = 0 := by rw [mag, h, Nat.cast_zero, zero_mul]

theorem rat_eq_signed : a.rat = signed a.neg a.mag := by
  rw [rat, signed, mag]
  split <;> ring

theorem abs_rat : |a.rat| = a.mag := by rw [rat_eq_signed, abs_signed _ a.mag_nonneg]

theorem rat_eq_zero_iff : a.rat = 0 ↔ a.m = 0 := by
  rw [← abs_eq_zero, abs_rat]
  exact ⟨fun h => by_contra fun hm => (a.mag_pos hm).ne' h, a.mag_of_zero⟩

/-- A number's sign says whether it is negative, unless it is zero. -/
theorem rat_neg_iff (h : a.m ≠ 0) : a.rat < 0 ↔ a.neg = true := by
  have hpos := a.mag_pos h
  rw [rat_eq_signed, signed]
  split
  next hneg => exact iff_of_true (neg_neg_of_pos hpos) hneg
  next hneg => exact iff_of_false hpos.le.not_gt hneg

/-! ### Sums, differences and products -/

theorem rat_ofInt (z e : Int) : (ofInt z e).rat = z * 2 ^ e := by
  rw [rat, ofInt]
  by_cases hz : z < 0
  · have habs : ((z.natAbs : Nat) : ℚ) = -z := by rw [Nat.cast_natAbs, abs_of_neg hz, Int.cast_neg]
    simp [hz, habs]
  · have habs : ((z.natAbs : Nat) : ℚ) = z := by rw [Nat.cast_natAbs, abs_of_nonneg (not_lt.mp hz)]
    simp [hz, habs]

theorem scaled_rat {e : Int} (h : e ≤ a.e) : (a.scaled e : ℚ) * 2 ^ e = a.rat := by
  have hpow : (2 : ℚ) ^ (a.e - e).toNat * 2 ^ e = 2 ^ a.e := by
    rw [← zpow_natCast, Int.toNat_of_nonneg (by omega), ← zpow_add₀ (by norm_num), Int.sub_add_cancel]
  rw [rat, scaled, ← hpow]
  split <;> push_cast <;> ring

theorem rat_add : (a.add b).rat = a.rat + b.rat := by
  rw [add, rat_ofInt, Int.cast_add, add_mul, scaled_rat a (min_le_left _ _), scaled_rat b (min_le_right _ _)]

theorem rat_negate : a.negate.rat = -a.rat := by
  by_cases hm : a.m = 0
  · rw [(rat_eq_zero_iff a).mpr hm, neg_zero]
    exact (rat_eq_zero_iff a.negate).mpr hm
  · simp only [rat, negate, bne_iff_ne.mpr hm, Bool.and_true]
    cases a.neg <;> simp

theorem rat_sub : (a.sub b).rat = a.rat - b.rat := by rw [sub, rat_add, rat_negate, sub_eq_add_neg]

theorem rat_mul : (a.mul b).rat = a.rat * b.rat := by
  by_cases hm : a.m = 0 ∨ b.m = 0
  · rw [(rat_eq_zero_iff _).mpr (show a.m * b.m = 0 from Nat.mul_eq_zero.mpr hm), eq_comm, mul_eq_zero, rat_eq_zero_iff, rat_eq_zero_iff]
    exact hm
  · obtain ⟨ha, hb⟩ := not_or.mp hm
    simp only [rat, mul, bne_iff_ne.mpr ha, bne_iff_ne.mpr hb, Bool.and_true, Nat.cast_mul, zpow_add₀ (two_ne_zero (α := ℚ))]
    cases a.neg <;> cases b.neg <;> simp <;> ring

theorem ofInt_neg_eq (z e : Int) : (ofInt z e).neg = decide ((ofInt z e).rat < 0) := by
  rw [rat_ofInt]
  refine decide_eq_decide.mpr ?_
  have hpos := two_zpow_pos e
  exact ⟨fun h => mul_neg_of_neg_of_pos (Int.cast_lt_zero.mpr h) hpos,
    fun h => Int.cast_lt_zero.mp (neg_of_mul_neg_left h hpos.le)⟩

/-- The comparison of the model is that of the exact values. -/
theorem lt_eq : a.lt b = decide (a.rat < b.rat) := by
  have h := rat_sub a b
  rw [lt]
  unfold sub add at h ⊢
  rw [ofInt_neg_eq, h]
  exact decide_eq_decide.mpr sub_neg

theorem eq_eq : a.eq b = decide (a.rat = b.rat) := by
  have hiff : (a.sub b).m = 0 ↔ a.rat = b.rat := by rw [← rat_eq_zero_iff, rat_sub, sub_eq_zero]
  rw [eq, Bool.eq_iff_iff, beq_iff_eq, decide_eq_true_iff, hiff]

/-! ### Integer part and fraction -/

theorem mag_of_nonneg (h : 0 ≤ a.e) : a.mag = ((a.m * 2 ^ a.e.toNat : Nat) : ℚ) := by
  rw [mag]
  push_cast
  rw [← zpow_natCast, Int.toNat_of_nonneg h]

theorem mag_of_neg (h : a.e < 0) : a.mag = (a.m : ℚ) / ((2 ^ (-a.e).toNat : Nat) : ℚ) := by
  rw [mag, div_eq_mul_inv]
  push_cast
  rw [← zpow_natCast, Int.toNat_of_nonneg (by omega), zpow_neg, inv_inv]

theorem trunc_eq : a.trunc = if a.neg then -⌊a.mag⌋ else ⌊a.mag⌋ := by
  have hfloor : (if 0 ≤ a.e then ((a.m * 2 ^ a.e.toNat : Nat) : Int) else (a.m / 2 ^ (-a.e).toNat : Nat)) = ⌊a.mag⌋ := by
    split
    next h => rw [mag_of_nonneg a h, Int.floor_natCast]
    next h =>
      rw [mag_of_neg a (by omega), ← Int.natCast_floor_eq_floor (by positivity), Nat.floor_div_eq_div]
  rw [trunc, ← hfloor]
  push_cast
  rfl

theorem round_eq : a.round = if a.neg then -⌊a.mag + 1 / 2⌋ else ⌊a.mag + 1 / 2⌋ := by
  rw [round]
  split
  next h =>
    have hfloor : ⌊a.mag + 1 / 2⌋ = ⌊a.mag⌋ := by
      rw [mag_of_nonneg a h, ← Int.cast_natCast, Int.floor_intCast_add, Int.floor_intCast]
      norm_num
    rw [hfloor, trunc_eq]
  next h =>
    obtain ⟨k, hk⟩ : ∃ k, (-a.e).toNat = k + 1 := ⟨(-a.e).toNat - 1, by omega⟩
    have hhalf : a.mag + 1 / 2 = ((a.m + 2 ^ k : Nat) : ℚ) / ((2 ^ (k + 1) : Nat) : ℚ) := by
      rw [mag_of_neg a (by omega), hk]
      push_cast
      field_simp
      ring
    rw [hk, Nat.add_sub_cancel, hhalf, ← Int.natCast_floor_eq_floor (by positivity), Nat.floor_div_eq_div]

theorem mag_fract : a.fract.mag = Int.fract a.mag := by
  rw [fract]
  split
  next h => rw [mag_of_nonneg a h, ← Int.cast_natCast, Int.fract_intCast, mag, Nat.cast_zero, zero_mul]
  next h =>
    have hpos : ((2 ^ (-a.e).toNat : Nat) : ℚ) ≠ 0 := by positivity
    have hdiv : ((a.m % 2 ^ (-a.e).toNat : Nat) : ℚ) =
        a.m - ((2 ^ (-a.e).toNat : Nat) : ℚ) * ((a.m / 2 ^ (-a.e).toNat : Nat) : ℚ) := by
      rw [eq_sub_iff_add_eq']
      exact_mod_cast Nat.div_add_mod _ _
    rw [mag_of_neg ⟨a.neg, a.m % 2 ^ (-a.e).toNat, a.e⟩ (not_le.mp h), Int.fract, mag_of_neg a (not_le.mp h),
      ← Int.natCast_floor_eq_floor (by positivity), Nat.floor_div_eq_div, hdiv, Int.cast_natCast]
    field_simp

theorem rat_fract : a.fract.rat = signed a.neg (Int.fract a.mag) := by
  rw [rat_eq_signed, mag_fract]
  rw [fract]
  split
  next h => rw [mag_of_nonneg a h, ← Int.cast_natCast, Int.fract_intCast, signed, signed, neg_zero, ite_self, ite_self]
  next h => rfl

/-- Integer part and fraction are the parts of the number, with its sign. -/
theorem parts_exact : a.rat = a.trunc + a.fract.rat ∧ |a.fract.rat| < 1 ∧ 0 ≤ a.fract.rat * a.rat := by
  have hparts := Int.floor_add_fract a.mag
  have hnonneg := Int.fract_nonneg a.mag
  refine ⟨?_, ?_, ?_⟩
  · rw [rat_fract, rat_eq_signed, trunc_eq, signed, signed]
    split <;> push_cast <;> linarith
  · rw [rat_fract, abs_signed _ hnonneg]
    exact Int.fract_lt_one _
  · rw [rat_fract, rat_eq_signed, signed, signed]
    split
    · rw [neg_mul_neg]
      exact mul_nonneg hnonneg a.mag_nonneg
    · exact mul_nonneg hnonneg a.mag_nonneg

end ExactNum

end Sys2Proof.Machine
end

section
/-! Rounding, 45_floating.md R784, R786: the rounded result is the datum nearest to the exact one, and what overflows or underflows lies
beyond every datum. -/
namespace Sys2Proof.Machine

/-! ### Rounding a magnitude to a number of bits -/

/-- `m * 2 ^ E` is the magnitude `y` rounded to `n + 1` bits, halves up. -/
structure Rounds (n : Nat) (y : ℚ) (m : Nat) (E : Int) : Prop where
  lower : 2 ^ n * 2 ^ E ≤ y
  upper : y < 2 ^ (n + 1) * 2 ^ E
  halfBelow : (m - 1 / 2) * 2 ^ E ≤ y
  halfAbove : y < (m + 1 / 2) * 2 ^ E

section
variable {n m : Nat} {y : ℚ} {E : Int}

theorem Rounds.two_pow_le (h : Rounds n y m E) : 2 ^ n ≤ m := by
  have hlt : ((2 ^ n : Nat) : ℚ) < m + 1 / 2 := by
    push_cast
    exact lt_of_mul_lt_mul_right (h.lower.trans_lt h.halfAbove) (two_zpow_pos E).le
  by_contra hm
  have : (m : ℚ) + 1 ≤ (2 ^ n : Nat) := by exact_mod_cast not_le.mp hm
  linarith

theorem Rounds.le_two_pow (h : Rounds n y m E) : m ≤ 2 ^ (n + 1) := by
  have hlt : (m : ℚ) - 1 / 2 < ((2 ^ (n + 1) : Nat) : ℚ) := by
    push_cast
    exact lt_of_mul_lt_mul_right (h.halfBelow.trans_lt h.upper) (two_zpow_pos E).le
  by_contra hm
  have : ((2 ^ (n + 1) : Nat) : ℚ) + 1 ≤ m := by exact_mod_cast not_le.mp hm
  linarith

/-- Among the multiples of the last place the rounded one is nearest, the larger of two equally near ones. -/
theorem Rounds.nearest_multiple (h : Rounds n y m E) (K : Nat) :
    |m * 2 ^ E - y| ≤ |K * 2 ^ E - y| ∧ (|m * 2 ^ E - y| = |K * 2 ^ E - y| → (K : ℚ) * 2 ^ E ≤ m * 2 ^ E) := by
  have hpos := two_zpow_pos E
  have hbelow := h.halfBelow
  have habove := h.halfAbove
  have hnear : |m * 2 ^ E - y| ≤ 1 / 2 * 2 ^ E := abs_le.mpr ⟨by linarith, by linarith⟩
  rcases Nat.lt_or_ge m K with hK | hK
  · have hstep : ((m : ℚ) + 1) * 2 ^ E ≤ K * 2 ^ E := mul_le_mul_of_nonneg_right (by exact_mod_cast hK) hpos.le
    have hfar : 1 / 2 * 2 ^ E < |K * 2 ^ E - y| := lt_of_lt_of_le (by linarith) (le_abs_self _)
    exact ⟨(hnear.trans_lt hfar).le, fun he => absurd he (hnear.trans_lt hfar).ne⟩
  · refine ⟨?_, fun _ => mul_le_mul_of_nonneg_right (by exact_mod_cast hK) hpos.le⟩
    rcases Nat.eq_or_lt_of_le hK with rfl | hK
    · exact le_rfl
    · have hstep : ((K : ℚ) + 1) * 2 ^ E ≤ m * 2 ^ E := mul_le_mul_of_nonneg_right (by exact_mod_cast hK) hpos.le
      exact hnear.trans ((by linarith : 1 / 2 * 2 ^ E ≤ -(K * 2 ^ E - y)).trans (neg_le_abs _))

/-- The same among all magnitudes of at most `n + 1` bits. -/
theorem Rounds.nearest (h : Rounds n y m E) {M : Nat} {F : Int} (hM : M < 2 ^ (n + 1)) :
    |m * 2 ^ E - y| ≤ |M * 2 ^ F - y| ∧ (|m * 2 ^ E - y| = |M * 2 ^ F - y| → (M : ℚ) * 2 ^ F ≤ m * 2 ^ E) := by
  rcases lt_or_ge F E with hF | hF
  · have hpow : (2 : ℚ) ^ (n + 1) * 2 ^ F ≤ 2 ^ n * 2 ^ E := by
      rw [pow_succ, mul_assoc, ← zpow_one_add₀ two_ne_zero]
      exact mul_le_mul_of_nonneg_left (zpow_le_zpow_right₀ one_le_two (by omega)) (by positivity)
    have hsmall : (M : ℚ) * 2 ^ F < 2 ^ n * 2 ^ E :=
      (mul_lt_mul_of_pos_right (by exact_mod_cast hM) (two_zpow_pos F)).trans_le hpow
    have hlower := h.lower
    have hlast := (h.nearest_multiple (2 ^ n)).1
    push_cast at hlast
    have hlt : |m * 2 ^ E - y| < |M * 2 ^ F - y| := by
      refine hlast.trans_lt ?_
      rw [abs_of_nonpos (by linarith), abs_of_nonpos (by linarith)]
      linarith
    exact ⟨hlt.le, fun he => absurd he hlt.ne⟩
  · have hmultiple : (M : ℚ) * 2 ^ F = ((M * 2 ^ (F - E).toNat : Nat) : ℚ) * 2 ^ E := by
      push_cast
      rw [← zpow_natCast, Int.toNat_of_nonneg (by omega), mul_assoc, ← zpow_add₀ two_ne_zero, Int.sub_add_cancel]
    rw [hmultiple]
    exact h.nearest_multiple _
end

/-! ### The mantissa of a rounded result -/

/-- The mantissa that rounding to `n + 1` bits gives. -/
def roundedMantissa (n m : Nat) : Nat :=
  if Nat.log2 m + 1 ≤ n + 1 then m * 2 ^ (n + 1 - (Nat.log2 m + 1))
  else (m + 2 ^ (Nat.log2 m + 1 - n - 2)) / 2 ^ (Nat.log2 m + 1 - n - 1)

/-- The weight of its last place. -/
def ExactNum.lastPlace (n : Nat) (a : ExactNum) : Int := a.e + (Nat.log2 a.m + 1 : Nat) - (n + 1)

/-- The biased exponent of a rounded result. -/
def roundedExponent (t : DT) (a : ExactNum) : Int :=
  a.e + (Nat.log2 a.m + 1 : Nat) + (if roundedMantissa (fracLen t) a.m = 2 ^ (fracLen t + 1) then 1 else 0) + bias t

theorem roundTo_zero (t : DT) {a : ExactNum} (h : a.m = 0) : roundTo t a = .value 0 := if_pos h

theorem roundTo_eq (t : DT) {a : ExactNum} (h : a.m ≠ 0) : roundTo t a =
    if 2 ^ expLen t ≤ roundedExponent t a then .overflow
    else if roundedExponent t a ≤ 0 then .underflow
    else .value (packFloat t a.neg (roundedExponent t a).toNat (roundedMantissa (fracLen t) a.m % 2 ^ fracLen t)) := if_neg h

/-- A number is between two powers of two. -/
theorem ExactNum.log2_bounds (a : ExactNum) (h : a.m ≠ 0) :
    ((2 ^ Nat.log2 a.m : Nat) : ℚ) * 2 ^ a.e ≤ a.mag
      ∧ ((a.m : ℚ) + 1) * 2 ^ a.e ≤ ((2 ^ (Nat.log2 a.m + 1) : Nat) : ℚ) * 2 ^ a.e := by
  have hpos := (two_zpow_pos a.e).le
  exact ⟨mul_le_mul_of_nonneg_right (by exact_mod_cast Nat.log2_self_le h) hpos,
    mul_le_mul_of_nonneg_right (by exact_mod_cast Nat.lt_log2_self (n := a.m)) hpos⟩

theorem ExactNum.two_pow_lastPlace (n : Nat) (a : ExactNum) :
    (2 : ℚ) ^ n * 2 ^ a.lastPlace n = ((2 ^ Nat.log2 a.m : Nat) : ℚ) * 2 ^ a.e := by
  push_cast
  rw [lastPlace, ← zpow_natCast, ← zpow_natCast, ← zpow_add₀ two_ne_zero, ← zpow_add₀ two_ne_zero]
  congr 1
  push_cast
  ring

/-- A magnitude that is `a` cut after its last bit is between the powers of two that `a` is between. -/
theorem ExactNum.cut_bounds (n : Nat) (a : ExactNum) (h : a.m ≠ 0) {y : ℚ} (hlo : a.mag ≤ y) (hhi : y < (a.m + 1) * 2 ^ a.e) :
    (2 : ℚ) ^ n * 2 ^ a.lastPlace n ≤ y ∧ y < 2 ^ (n + 1) * 2 ^ a.lastPlace n := by
  obtain ⟨hlower, hupper⟩ := a.log2_bounds h
  have hplace := a.two_pow_lastPlace n
  have hdouble : (2 : ℚ) ^ (n + 1) * 2 ^ a.lastPlace n = ((2 ^ (Nat.log2 a.m + 1) : Nat) : ℚ) * 2 ^ a.e := by
    rw [pow_succ', mul_assoc, hplace]
    push_cast
    ring
  exact ⟨hplace.trans_le (hlower.trans hlo), hhi.trans_le (hupper.trans hdouble.ge)⟩

/-- A mantissa of few bits is exact. -/
theorem rounds_short (n : Nat) (a : ExactNum) (h : a.m ≠ 0) (hlen : Nat.log2 a.m + 1 ≤ n + 1) :
    Rounds n a.mag (roundedMantissa n a.m) (a.lastPlace n) := by
  have hexact : (roundedMantissa n a.m : ℚ) * 2 ^ a.lastPlace n = a.mag := by
    have hexp : ((n + 1 - (Nat.log2 a.m + 1) : Nat) : Int) + a.lastPlace n = a.e := by
      rw [ExactNum.lastPlace]
      omega
    rw [roundedMantissa, if_pos hlen, ExactNum.mag, Nat.cast_mul, Nat.cast_pow, Nat.cast_ofNat, mul_assoc, ← zpow_natCast,
      ← zpow_add₀ two_ne_zero, hexp]
  have hpos := two_zpow_pos (a.lastPlace n)
  have hstep : a.mag < (a.m + 1) * 2 ^ a.e := by
    rw [ExactNum.mag, add_mul, one_mul]
    exact lt_add_of_pos_right _ (two_zpow_pos _)
  obtain ⟨hlower, hupper⟩ := a.cut_bounds n h le_rfl hstep
  exact ⟨hlower, hupper, by linarith, by linarith⟩

/-- A longer one is rounded, and what is cut after its last bit does not matter. -/
theorem rounds_long (n : Nat) (a : ExactNum) (h : a.m ≠ 0) (hlen : n + 1 < Nat.log2 a.m + 1) {y : ℚ} (hlo : a.mag ≤ y)
    (hhi : y < (a.m + 1) * 2 ^ a.e) : Rounds n y (roundedMantissa n a.m) (a.lastPlace n) := by
  obtain ⟨k, hk⟩ : ∃ k, Nat.log2 a.m + 1 = n + 1 + (k + 1) := ⟨Nat.log2 a.m - n - 1, by omega⟩
  obtain ⟨m, hm⟩ : ∃ m, roundedMantissa n a.m = m := ⟨_, rfl⟩
  have hdiv : (a.m + 2 ^ k) / 2 ^ (k + 1) = m := by
    rw [← hm, roundedMantissa, if_neg (by omega), hk]
    congr 2 <;> congr 1 <;> omega
  have hbelow : m * 2 ^ (k + 1) ≤ a.m + 2 ^ k := hdiv ▸ Nat.div_mul_le_self _ _
  have habove : a.m + 1 + 2 ^ k ≤ (m + 1) * 2 ^ (k + 1) := by
    rw [← hdiv, Nat.add_right_comm, Nat.mul_comm]
    exact Nat.lt_mul_div_succ _ (by positivity)
  have hplace : (2 : ℚ) ^ a.lastPlace n = 2 ^ (k + 1) * 2 ^ a.e := by
    rw [ExactNum.lastPlace, hk, ← zpow_natCast, ← zpow_add₀ two_ne_zero]
    congr 1
    push_cast
    ring
  have hpos := two_zpow_pos a.e
  have hbelow' : ((m : ℚ) * 2 ^ (k + 1)) * 2 ^ a.e ≤ (a.m + 2 ^ k) * 2 ^ a.e :=
    mul_le_mul_of_nonneg_right (by exact_mod_cast hbelow) hpos.le
  have habove' : ((a.m : ℚ) + 1 + 2 ^ k) * 2 ^ a.e ≤ ((m + 1) * 2 ^ (k + 1)) * 2 ^ a.e :=
    mul_le_mul_of_nonneg_right (by exact_mod_cast habove) hpos.le
  obtain ⟨hlower, hupper⟩ := a.cut_bounds n h hlo hhi
  rw [ExactNum.mag] at hlo
  rw [hm]
  refine ⟨hlower, hupper, ?_, ?_⟩
  · rw [hplace]
    rw [pow_succ] at hbelow' ⊢
    linarith
  · rw [hplace]
    rw [pow_succ] at habove' ⊢
    linarith

theorem rounds_mag (n : Nat) (a : ExactNum) (h : a.m ≠ 0) : Rounds n a.mag (roundedMantissa n a.m) (a.lastPlace n) := by
  by_cases hlen : Nat.log2 a.m + 1 ≤ n + 1
  · exact rounds_short n a h hlen
  · refine rounds_long n a h (not_le.mp hlen) le_rfl ?_
    rw [ExactNum.mag, add_mul, one_mul]
    exact lt_add_of_pos_right _ (two_zpow_pos _)

end Sys2Proof.Machine
end

section
/-! The data of a floating type, 45_floating.md R782, R784, R786: the range of their magnitudes, which datum a rounded result is, and
that only one datum is nearest to a number. -/
namespace Sys2Proof.Machine

variable {t : DT}

/-! ### Magnitudes of data -/

theorem rat_floatValue_zero (ht : IsFloat t) : (floatValue t 0).rat = 0 := by
  rw [floatValue_zero ht]
  exact (ExactNum.rat_eq_zero_iff _).mpr rfl

/-- The weight of the last place of a datum with the biased exponent `ex`. -/
def datumPlace (t : DT) (ex : Int) : Int := ex - bias t - (fracLen t + 1)

/-- A datum that is not zero has `fracLen t + 1` bits and an exponent in the range of the type. -/
theorem datum_mag (ht : IsFloat t) {v : BitVec t.bits} (hv : reservedFloat t v = false) (hne : (floatValue t v).m ≠ 0) :
    ∃ (M : Nat) (ex : Int), (floatValue t v).mag = M * 2 ^ datumPlace t ex ∧ 2 ^ fracLen t ≤ M ∧ M < 2 ^ (fracLen t + 1)
      ∧ 1 ≤ ex ∧ ex + 1 ≤ 2 ^ expLen t := by
  rcases datum_cases ht hv with hzero | ⟨neg, ex, frac, hpos, hex, hfrac, -, hvalue⟩
  · exact absurd (by rw [hzero]) hne
  · refine ⟨2 ^ fracLen t + frac, ex, by rw [hvalue]; rfl, Nat.le_add_right _ _, ?_, by omega, by exact_mod_cast hex⟩
    rw [pow_succ]
    omega

/-- Zero included, a datum has at most `fracLen t + 1` bits. -/
theorem datum_mag_bits (ht : IsFloat t) {v : BitVec t.bits} (hv : reservedFloat t v = false) :
    ∃ (M : Nat) (F : Int), (floatValue t v).mag = M * 2 ^ F ∧ M < 2 ^ (fracLen t + 1) := by
  by_cases hzero : (floatValue t v).m = 0
  · exact ⟨0, 0, by rw [ExactNum.mag_of_zero _ hzero, Nat.cast_zero, zero_mul], by positivity⟩
  · obtain ⟨M, ex, hmag, -, hM, -, -⟩ := datum_mag ht hv hzero
    exact ⟨M, _, hmag, hM⟩

/-- No datum reaches the power of two above the largest exponent, less half of the last place there. -/
theorem datum_mag_lt (ht : IsFloat t) {v : BitVec t.bits} (hv : reservedFloat t v = false) :
    (floatValue t v).mag < (2 ^ (fracLen t + 1) - 1 / 2) * 2 ^ datumPlace t (2 ^ expLen t - 1) := by
  have hplace := two_zpow_pos (datumPlace t (2 ^ expLen t - 1))
  by_cases hzero : (floatValue t v).m = 0
  · have hone : (1 : ℚ) ≤ 2 ^ (fracLen t + 1) := one_le_pow₀ one_le_two
    rw [ExactNum.mag_of_zero _ hzero]
    exact mul_pos (by linarith) hplace
  · obtain ⟨M, ex, hmag, -, hM, -, hex⟩ := datum_mag ht hv hzero
    have hM' : (M : ℚ) + 1 ≤ 2 ^ (fracLen t + 1) := by exact_mod_cast hM
    have hpow : (2 : ℚ) ^ datumPlace t ex ≤ 2 ^ datumPlace t (2 ^ expLen t - 1) :=
      zpow_le_zpow_right₀ one_le_two (by unfold datumPlace; omega)
    rw [hmag]
    calc (M : ℚ) * 2 ^ datumPlace t ex ≤ M * 2 ^ datumPlace t (2 ^ expLen t - 1) :=
          mul_le_mul_of_nonneg_left hpow (Nat.cast_nonneg _)
      _ < _ := mul_lt_mul_of_pos_right (by linarith) hplace

/-- No datum but zero is below the least power of two. -/
theorem le_datum_mag (ht : IsFloat t) {v : BitVec t.bits} (hv : reservedFloat t v = false) (hne : (floatValue t v).m ≠ 0) :
    (2 : ℚ) ^ fracLen t * 2 ^ datumPlace t 1 ≤ (floatValue t v).mag := by
  obtain ⟨M, ex, hmag, hM, -, hex, -⟩ := datum_mag ht hv hne
  have hpow : (2 : ℚ) ^ datumPlace t 1 ≤ 2 ^ datumPlace t ex := zpow_le_zpow_right₀ one_le_two (by unfold datumPlace; omega)
  rw [hmag]
  exact mul_le_mul (by exact_mod_cast hM) hpow (two_zpow_pos _).le (Nat.cast_nonneg _)

/-- Magnitude and sign determine a datum that is not zero. -/
theorem datum_ext (ht : IsFloat t) {v w : BitVec t.bits} (hv : reservedFloat t v = false) (hw : reservedFloat t w = false)
    (hne : (floatValue t v).rat ≠ 0) (h : (floatValue t v).rat = (floatValue t w).rat) : v = w := by
  have hmag : (floatValue t v).mag = (floatValue t w).mag := by rw [← ExactNum.abs_rat, ← ExactNum.abs_rat, h]
  have hvm : (floatValue t v).m ≠ 0 := fun e => hne ((ExactNum.rat_eq_zero_iff _).mpr e)
  have hwm : (floatValue t w).m ≠ 0 := fun e => hne (h.trans ((ExactNum.rat_eq_zero_iff _).mpr e))
  have hneg : (floatValue t v).neg = (floatValue t w).neg := by
    rw [Bool.eq_iff_iff, ← ExactNum.rat_neg_iff _ hvm, ← ExactNum.rat_neg_iff _ hwm, h]
  rcases datum_cases ht hv with hzero | ⟨neg, ex, frac, -, -, hfrac, rfl, hvalue⟩
  · exact absurd (by rw [hzero]) hvm
  rcases datum_cases ht hw with hzero | ⟨neg', ex', frac', -, -, hfrac', rfl, hvalue'⟩
  · exact absurd (by rw [hzero]) hwm
  have hbelow {a b c d : Nat} (hb : b < 2 ^ fracLen t) (hac : a < c) :
      ((2 ^ fracLen t + b : Nat) : ℚ) * 2 ^ datumPlace t a < ((2 ^ fracLen t + d : Nat) : ℚ) * 2 ^ datumPlace t c := by
    have hbits : ((2 ^ fracLen t + b : Nat) : ℚ) < 2 * 2 ^ fracLen t := by
      push_cast
      have : (b : ℚ) < 2 ^ fracLen t := by exact_mod_cast hb
      linarith
    have hdouble : (2 : ℚ) * 2 ^ datumPlace t a ≤ 2 ^ datumPlace t c := by
      rw [← zpow_one_add₀ two_ne_zero]
      exact zpow_le_zpow_right₀ one_le_two (by unfold datumPlace; omega)
    calc _ < 2 * 2 ^ fracLen t * 2 ^ datumPlace t a := mul_lt_mul_of_pos_right hbits (two_zpow_pos _)
      _ = 2 ^ fracLen t * (2 * 2 ^ datumPlace t a) := by ring
      _ ≤ ((2 ^ fracLen t + d : Nat) : ℚ) * 2 ^ datumPlace t c := by
        push_cast
        exact mul_le_mul (by linarith [(Nat.cast_nonneg d : (0 : ℚ) ≤ d)]) hdouble (by positivity) (by positivity)
  rw [hvalue, hvalue'] at hmag
  replace hmag : ((2 ^ fracLen t + frac : Nat) : ℚ) * 2 ^ datumPlace t ex
    = ((2 ^ fracLen t + frac' : Nat) : ℚ) * 2 ^ datumPlace t ex' := hmag
  have hex : ex = ex' := by
    rcases Nat.lt_trichotomy ex ex' with hlt | heq | hgt
    · exact absurd hmag (hbelow hfrac hlt).ne
    · exact heq
    · exact absurd hmag (hbelow hfrac' hgt).ne'
  have hfrac : frac = frac' := by
    rw [hex] at hmag
    have := mul_right_cancel₀ (two_zpow_pos (datumPlace t ex')).ne' hmag
    have : 2 ^ fracLen t + frac = 2 ^ fracLen t + frac' := by exact_mod_cast this
    omega
  rw [hvalue, hvalue'] at hneg
  replace hneg : neg = neg' := hneg
  rw [hneg, hex, hfrac]

/-! ### The datum that is the rounded result -/

/-- The weight of the last place of the result, before a carry out of it, by its exponent. -/
theorem lastPlace_eq (t : DT) (a : ExactNum) : a.lastPlace (fracLen t) = datumPlace t (roundedExponent t a)
    - if roundedMantissa (fracLen t) a.m = 2 ^ (fracLen t + 1) then 1 else 0 := by
  unfold ExactNum.lastPlace datumPlace roundedExponent
  ring

section
variable {a : ExactNum} {r : BitVec t.bits}

/-- A result in range is a datum with the sign and the rounded magnitude. -/
theorem roundTo_value (ht : IsFloat t) (hm : a.m ≠ 0) (hr : roundTo t a = .value r) :
    reservedFloat t r = false ∧ (floatValue t r).neg = a.neg
      ∧ (floatValue t r).mag = roundedMantissa (fracLen t) a.m * 2 ^ a.lastPlace (fracLen t) := by
  have hrounds := rounds_mag (fracLen t) a hm
  rw [roundTo_eq t hm] at hr
  split at hr
  · exact nomatch hr
  next hover =>
    split at hr
    · exact nomatch hr
    next hunder =>
      cases hr
      obtain ⟨k, hk⟩ : ∃ k : Nat, roundedExponent t a = k := ⟨_, (Int.toNat_of_nonneg (by omega)).symm⟩
      have hkpos : k ≠ 0 := by omega
      have hklt : k < 2 ^ expLen t := by
        rw [hk, not_le] at hover
        exact_mod_cast hover
      have hfrac := Nat.mod_lt (roundedMantissa (fracLen t) a.m) (Nat.two_pow_pos (fracLen t))
      rw [hk, Int.toNat_natCast, reservedFloat_packFloat ht hklt hfrac, floatValue_packFloat ht hklt hfrac, if_neg hkpos,
        decide_eq_false hkpos, Bool.and_false]
      refine ⟨rfl, rfl, ?_⟩
      rw [lastPlace_eq, hk]
      unfold ExactNum.mag
      split
      next hcarry =>
        have hplace : (2 : ℚ) ^ datumPlace t k = 2 * 2 ^ (datumPlace t k - 1) := by
          rw [← zpow_one_add₀ two_ne_zero, add_sub_cancel]
        rw [hcarry, pow_succ, Nat.mul_mod_right, Nat.add_zero, Nat.cast_mul, mul_assoc, Nat.cast_ofNat, ← hplace]
        rfl
      next hcarry =>
        have hlower := hrounds.two_pow_le
        have hlt := lt_of_le_of_ne hrounds.le_two_pow hcarry
        rw [pow_succ] at hlt
        rw [Nat.mod_eq_sub_mod hlower, Nat.mod_eq_of_lt (by omega), Nat.add_sub_cancel' hlower, sub_zero]
        rfl

theorem reservedFloat_of_roundTo (ht : IsFloat t) (hr : roundTo t a = .value r) : reservedFloat t r = false := by
  by_cases hm : a.m = 0
  · rw [roundTo_zero t hm] at hr
    cases hr
    exact reservedFloat_zero ht
  · exact (roundTo_value ht hm hr).1

/-- The rounded result is nearest to each number that its mantissa rounds. -/
theorem isNearest_of_rounds (ht : IsFloat t) (hm : a.m ≠ 0) (hr : roundTo t a = .value r) {y : ℚ}
    (hy : Rounds (fracLen t) y (roundedMantissa (fracLen t) a.m) (a.lastPlace (fracLen t))) : IsNearest t (signed a.neg y) r := by
  obtain ⟨hfree, hneg, hmag⟩ := roundTo_value ht hm hr
  refine ⟨hfree, fun v hv => ?_⟩
  obtain ⟨M, F, hvmag, hM⟩ := datum_mag_bits ht hv
  obtain ⟨hnear, htie⟩ := hy.nearest (F := F) hM
  have hypos : 0 ≤ y := le_trans (by positivity) hy.lower
  have hresult : |(floatValue t r).rat - signed a.neg y| = |(floatValue t r).mag - y| := by
    rw [ExactNum.rat_eq_signed, hneg, signed_sub]
  have hother : |(floatValue t v).mag - y| ≤ |(floatValue t v).rat - signed a.neg y| := by
    have h := abs_abs_sub_abs_le (floatValue t v).rat (signed a.neg y)
    rwa [ExactNum.abs_rat, abs_signed _ hypos] at h
  rw [← hvmag, ← hmag] at hnear htie
  rw [hresult, ExactNum.abs_rat, ExactNum.abs_rat]
  exact ⟨hnear.trans hother, fun he => htie (le_antisymm hnear (he ▸ hother))⟩

/-- The rounded result of an exact number is the datum nearest to it, R784. -/
theorem roundTo_isNearest (ht : IsFloat t) (hr : roundTo t a = .value r) : IsNearest t a.rat r := by
  by_cases hm : a.m = 0
  · rw [roundTo_zero t hm] at hr
    cases hr
    refine ⟨reservedFloat_zero ht, fun v _ => ?_⟩
    rw [rat_floatValue_zero ht, (ExactNum.rat_eq_zero_iff a).mpr hm, sub_zero, sub_zero, abs_zero]
    exact ⟨abs_nonneg _, fun h => h.ge⟩
  · rw [ExactNum.rat_eq_signed]
    exact isNearest_of_rounds ht hm hr (rounds_mag _ a hm)

/-- What overflows is larger in magnitude than every datum, R786. -/
theorem datum_lt_of_overflow (ht : IsFloat t) (hr : roundTo t a = .overflow) {v : BitVec t.bits} (hv : reservedFloat t v = false) :
    |(floatValue t v).rat| < |a.rat| := by
  have hm : a.m ≠ 0 := fun h => nomatch (roundTo_zero t h).symm.trans hr
  have hrounds := rounds_mag (fracLen t) a hm
  rw [roundTo_eq t hm] at hr
  have hover : 2 ^ expLen t ≤ roundedExponent t a := by
    split at hr
    next h => exact h
    next => split at hr <;> exact nomatch hr
  have hplace := lastPlace_eq t a
  rw [ExactNum.abs_rat, ExactNum.abs_rat]
  refine (datum_mag_lt ht hv).trans_le ?_
  split at hplace
  next hcarry =>
    refine le_trans ?_ hrounds.halfBelow
    rw [hcarry]
    push_cast
    have hone : (1 : ℚ) ≤ 2 ^ (fracLen t + 1) := one_le_pow₀ one_le_two
    refine mul_le_mul_of_nonneg_left (zpow_le_zpow_right₀ one_le_two ?_) (by linarith)
    unfold datumPlace at hplace ⊢
    omega
  next =>
    refine le_trans ?_ hrounds.lower
    have hpow : (2 : ℚ) * 2 ^ datumPlace t (2 ^ expLen t - 1) ≤ 2 ^ a.lastPlace (fracLen t) := by
      rw [← zpow_one_add₀ two_ne_zero]
      refine zpow_le_zpow_right₀ one_le_two ?_
      unfold datumPlace at hplace ⊢
      omega
    calc _ ≤ (2 : ℚ) ^ (fracLen t + 1) * 2 ^ datumPlace t (2 ^ expLen t - 1) :=
          mul_le_mul_of_nonneg_right (by linarith) (two_zpow_pos _).le
      _ = 2 ^ fracLen t * (2 * 2 ^ datumPlace t (2 ^ expLen t - 1)) := by rw [pow_succ, mul_assoc]
      _ ≤ _ := mul_le_mul_of_nonneg_left hpow (by positivity)

/-- What underflows is not zero and smaller in magnitude than every datum that is not zero, R786. -/
theorem lt_datum_of_underflow (ht : IsFloat t) (hr : roundTo t a = .underflow) : a.rat ≠ 0 ∧ ∀ v : BitVec t.bits,
    reservedFloat t v = false → (floatValue t v).rat ≠ 0 → |a.rat| < |(floatValue t v).rat| := by
  have hm : a.m ≠ 0 := fun h => nomatch (roundTo_zero t h).symm.trans hr
  have hrounds := rounds_mag (fracLen t) a hm
  rw [roundTo_eq t hm] at hr
  have hunder : roundedExponent t a ≤ 0 := by
    split at hr
    · exact nomatch hr
    · split at hr
      next h => exact h
      next => exact nomatch hr
  refine ⟨fun h => hm ((ExactNum.rat_eq_zero_iff a).mp h), fun v hv hne => ?_⟩
  rw [ExactNum.abs_rat, ExactNum.abs_rat]
  refine hrounds.upper.trans_le (le_trans ?_ (le_datum_mag ht hv fun h => hne ((ExactNum.rat_eq_zero_iff _).mpr h)))
  rw [pow_succ, mul_assoc, ← zpow_one_add₀ two_ne_zero]
  refine mul_le_mul_of_nonneg_left (zpow_le_zpow_right₀ one_le_two ?_) (by positivity)
  have hplace := lastPlace_eq t a
  have hcarry : (0 : Int) ≤ if roundedMantissa (fracLen t) a.m = 2 ^ (fracLen t + 1) then 1 else 0 := by split <;> decide
  unfold datumPlace at hplace ⊢
  omega
end

/-! ### The nearest datum is one -/

theorem IsNearest.unique (ht : IsFloat t) {x : ℚ} {r q : BitVec t.bits} (hr : IsNearest t x r) (hq : IsNearest t x q)
    (hrzero : (floatValue t r).rat = 0 → r = 0) (hqzero : (floatValue t q).rat = 0 → q = 0) : r = q := by
  obtain ⟨hrfree, hrnear⟩ := hr
  obtain ⟨hqfree, hqnear⟩ := hq
  obtain ⟨hrq, hrtie⟩ := hrnear q hqfree
  obtain ⟨hqr, hqtie⟩ := hqnear r hrfree
  have hdist := le_antisymm hrq hqr
  have hmag := le_antisymm (hqtie hdist.symm) (hrtie hdist)
  have hrat : (floatValue t r).rat = (floatValue t q).rat := by
    rcases abs_eq_abs.mp hmag with heq | hopp
    · exact heq
    · rcases abs_eq_abs.mp hdist with heq | hsum
      · exact sub_left_inj.mp heq
      · have hx : x = 0 := by linarith
        obtain ⟨hle, -⟩ := hrnear 0 (reservedFloat_zero ht)
        rw [hx, rat_floatValue_zero ht, sub_zero, sub_zero, abs_zero] at hle
        have hzero : (floatValue t r).rat = 0 := abs_nonpos_iff.mp hle
        linarith
  by_cases hzero : (floatValue t r).rat = 0
  · rw [hrzero hzero, hqzero (hrat ▸ hzero)]
  · exact datum_ext ht hrfree hqfree hzero hrat

end Sys2Proof.Machine
end

section
/-! Quotients, 45_floating.md R784, R830: the bits the model keeps of a quotient are enough to round it. -/
namespace Sys2Proof.Machine

theorem signed_div_signed (p q : Bool) (x y : ℚ) : signed p x / signed q y = signed (p != q) (x / y) := by
  cases p <;> cases q <;> simp [signed, neg_div, div_neg]

variable {t : DT}

/-- The mantissa of a datum has `fracLen t + 1` bits. -/
theorem datum_mantissa (ht : IsFloat t) {v : BitVec t.bits} (hv : reservedFloat t v = false) (hne : (floatValue t v).m ≠ 0) :
    2 ^ fracLen t ≤ (floatValue t v).m ∧ (floatValue t v).m < 2 ^ (fracLen t + 1) := by
  rcases datum_cases ht hv with hzero | ⟨neg, ex, frac, -, -, hfrac, -, hvalue⟩
  · exact absurd (by rw [hzero]) hne
  · rw [hvalue, pow_succ]
    dsimp only
    exact ⟨Nat.le_add_right _ _, by omega⟩

section
variable {n : Nat} {a b : ExactNum}

/-- The quotient that the model keeps is the exact one, cut after its last bit. -/
theorem ExactNum.div_cut (n : Nat) (a b : ExactNum) (hb : b.m ≠ 0) :
    (a.div n b).mag ≤ a.mag / b.mag ∧ a.mag / b.mag < ((a.div n b).m + 1) * 2 ^ (a.div n b).e := by
  obtain ⟨k, hk⟩ : ∃ k, n + 4 + Nat.log2 b.m = k := ⟨_, rfl⟩
  obtain ⟨q, hq⟩ : ∃ q, a.m * 2 ^ k / b.m = q := ⟨_, rfl⟩
  have hbpos : (0 : ℚ) < b.m := Nat.cast_pos.mpr (Nat.pos_of_ne_zero hb)
  have hexact : a.mag / b.mag = (a.m * 2 ^ k / b.m : ℚ) * 2 ^ (a.e - b.e - k) := by
    rw [mag, mag, zpow_sub₀ two_ne_zero, zpow_sub₀ two_ne_zero, zpow_natCast]
    field_simp
  have hlo : (q : ℚ) ≤ a.m * 2 ^ k / b.m := by
    rw [le_div_iff₀ hbpos, ← hq]
    exact_mod_cast Nat.div_mul_le_self _ _
  have hhi : (a.m * 2 ^ k / b.m : ℚ) < q + 1 := by
    rw [div_lt_iff₀ hbpos, ← hq, mul_comm (_ + _)]
    exact_mod_cast Nat.lt_mul_div_succ _ (Nat.pos_of_ne_zero hb)
  have hdiv : a.div n b = ⟨a.neg != b.neg && a.m != 0, q, a.e - b.e - k⟩ := by rw [← hq, ← hk]; rfl
  have hpos := two_zpow_pos (a.e - b.e - k)
  rw [hexact, hdiv]
  exact ⟨mul_le_mul_of_nonneg_right hlo hpos.le, mul_lt_mul_of_pos_right hhi hpos⟩

/-- It has more bits than a rounded result. -/
theorem ExactNum.div_long (ha : a.m ≠ 0) (hb : b.m ≠ 0) (hlt : b.m < 2 ^ (n + 1)) (hge : 2 ^ n ≤ b.m) :
    (a.div n b).m ≠ 0 ∧ n + 1 < Nat.log2 (a.div n b).m + 1 := by
  have hlog : Nat.log2 b.m = n := (Nat.log2_eq_iff hb).mpr ⟨hge, hlt⟩
  have hm : 2 ^ (n + 1) ≤ (a.div n b).m := by
    show 2 ^ (n + 1) ≤ a.m * 2 ^ (n + 4 + Nat.log2 b.m) / b.m
    rw [hlog, Nat.le_div_iff_mul_le (Nat.pos_of_ne_zero hb)]
    calc 2 ^ (n + 1) * b.m ≤ 2 ^ (n + 1) * 2 ^ (n + 1) := Nat.mul_le_mul_left _ hlt.le
      _ = 2 ^ (n + 1 + (n + 1)) := (pow_add 2 _ _).symm
      _ ≤ 2 ^ (n + 4 + n) := Nat.pow_le_pow_right (by decide) (by omega)
      _ ≤ a.m * 2 ^ (n + 4 + n) := Nat.le_mul_of_pos_left _ (Nat.pos_of_ne_zero ha)
  have hne : (a.div n b).m ≠ 0 := (lt_of_lt_of_le (by positivity) hm).ne'
  exact ⟨hne, Nat.add_lt_add_right ((Nat.le_log2 hne).mpr hm) 1⟩
end

theorem roundTo_div_isNearest (ht : IsFloat t) {v w r : BitVec t.bits} (hv : reservedFloat t v = false)
    (hne : (floatValue t v).rat ≠ 0) (hr : roundTo t ((floatValue t w).div (fracLen t) (floatValue t v)) = .value r) :
    IsNearest t ((floatValue t w).rat / (floatValue t v).rat) r := by
  have hvm : (floatValue t v).m ≠ 0 := fun h => hne ((ExactNum.rat_eq_zero_iff _).mpr h)
  by_cases hwm : (floatValue t w).m = 0
  · have hquot : ((floatValue t w).div (fracLen t) (floatValue t v)).m = 0 := by
      show (floatValue t w).m * _ / _ = 0
      rw [hwm, Nat.zero_mul, Nat.zero_div]
    have hnear := roundTo_isNearest ht hr
    rwa [(ExactNum.rat_eq_zero_iff _).mpr hquot, ← zero_div (floatValue t v).rat, ← (ExactNum.rat_eq_zero_iff _).mpr hwm] at hnear
  · obtain ⟨hge, hlt⟩ := datum_mantissa ht hv hvm
    obtain ⟨hqm, hlen⟩ := ExactNum.div_long hwm hvm hlt hge
    obtain ⟨hlo, hhi⟩ := ExactNum.div_cut (fracLen t) (floatValue t w) (floatValue t v) hvm
    have hneg : ((floatValue t w).div (fracLen t) (floatValue t v)).neg = ((floatValue t w).neg != (floatValue t v).neg) := by
      show ((floatValue t w).neg != (floatValue t v).neg && (floatValue t w).m != 0) = _
      rw [bne_iff_ne.mpr hwm, Bool.and_true]
    rw [ExactNum.rat_eq_signed, ExactNum.rat_eq_signed, signed_div_signed, ← hneg]
    exact isNearest_of_rounds ht hqm hr (rounds_long _ _ hqm hlen hlo hhi)

/-- Settles O47: the mantissa kept is the exact magnitude rounded to the bits of the type, and among all data that one is nearest. -/
theorem floatResultsAreNearest : Obligations.FloatResultsAreNearest := by
  intro t hmem
  have ht := isFloat_of_mem hmem
  exact ⟨fun a r hr => roundTo_isNearest ht hr, fun a hr v hv => datum_lt_of_overflow ht hr hv,
    fun a hr => lt_datum_of_underflow ht hr, fun a b => ⟨b.rat_add a, b.rat_sub a, b.rat_mul a⟩,
    fun v w r hv _ hne hr => roundTo_div_isNearest ht hv hne hr⟩

end Sys2Proof.Machine
end

section
/-! What the shared floating operations answer, 45_floating.md R785 to R789: sources, results in range and out of it, the store. -/
namespace Sys2Proof.Machine

variable {t : DT} {s u : State}

/-! ### Sources, R785 -/

/-- The state an error notes in ACCS, where the accelerator executes the operation. -/
def State.noted (u : State) (acc : Bool) (t : DT) (bit : BitVec 3) : State := if acc then u.accNoted t bit else u

theorem accNote_ok (t : DT) (bit : BitVec 3) (u : State) : accNote t bit u = .ok ⟨⟩ (u.accNoted t bit) := by
  unfold accNote State.accNoted
  rw [bind_of_ok _ (run_get u)]
  by_cases h : u.is750 = false ∧ u.v780.accEnb = true ∧ (t = .f ∨ t = .d)
  · rw [if_pos (by simpa using h), if_pos h]
    rfl
  · rw [if_neg (by simpa using h), if_neg h]
    rfl

theorem State.accNoted_is750 (u : State) (t : DT) (bit : BitVec 3) : (u.accNoted t bit).is750 = u.is750 := by
  unfold State.accNoted
  split <;> rfl

theorem State.accNoted_fu (u : State) (t : DT) (bit : BitVec 3) : (u.accNoted t bit).fu = u.fu := by
  unfold State.accNoted
  split <;> rfl

/-- The VAX-11/750 has no accelerator. -/
theorem State.accNoted_750 (h : u.is750 = true) (bit : BitVec 3) : u.accNoted t bit = u :=
  if_neg fun hacc => Bool.false_ne_true (hacc.1.symm.trans h)

theorem floatOf_ok {v : BitVec t.bits} (h : reservedFloat t v = false) (u : State) : floatOf t v u = .ok (floatValue t v) u :=
  ite_run_neg (Bool.eq_false_iff.mp h) rfl

theorem floatOf_reserved {v : BitVec t.bits} (h : reservedFloat t v = true) (u : State) :
    floatOf t v u = .error (.exc reservedOperand) u := ite_run_pos h rfl

theorem accOf_ok {v : BitVec t.bits} (h : reservedFloat t v = false) (u : State) : accOf t v u = .ok (floatValue t v) u := by
  unfold accOf
  rw [if_neg (Bool.eq_false_iff.mp h)]
  exact floatOf_ok h u

theorem accOf_reserved {v : BitVec t.bits} (h : reservedFloat t v = true) (u : State) :
    accOf t v u = .error (.exc reservedOperand) (u.accNoted t 1) := by
  unfold accOf
  rw [if_pos h]
  exact bind_run (accNote_ok t 1 u) (floatOf_reserved h _)

/-! ### Results, R786 -/

/-- What a V780 trap stores for an overflow or a zero divisor. -/
def FloatRes.outOfRange (t : DT) (code : Nat) : FloatRes t.bits := ⟨floatReserved t, true, some code, true⟩

/-- What is stored for an underflow. -/
def FloatRes.underflowed (t : DT) (fu : Bool) : FloatRes t.bits := ⟨0, false, if fu then some 5 else none, true⟩

/-- A result that the accelerator executes, or not. -/
def settleAs (acc : Bool) (t : DT) (x : Rounded t.bits) : M (FloatRes t.bits) := if acc then accSettle t x else settle t x

section
variable {acc : Bool}

/-- The accelerator's note comes first. -/
theorem settleAs_noted {x : Rounded t.bits} {bit : BitVec 3} (hx : accSettle t x = accNote t bit >>= fun _ => settle t x) (u : State) :
    settleAs acc t x u = settle t x (u.noted acc t bit) := by
  cases acc with
  | false => rfl
  | true =>
    show accSettle t x u = _
    rw [hx, bind_of_ok _ (accNote_ok t bit u)]
    rfl

theorem State.noted_is750 (u : State) (bit : BitVec 3) : (u.noted acc t bit).is750 = u.is750 := by
  cases acc
  · rfl
  · exact u.accNoted_is750 t bit

theorem State.noted_fu (u : State) (bit : BitVec 3) : (u.noted acc t bit).fu = u.fu := by
  cases acc
  · rfl
  · exact u.accNoted_fu t bit

theorem State.noted_750 (h : u.is750 = true) (bit : BitVec 3) : u.noted acc t bit = u := by
  cases acc
  · rfl
  · exact State.accNoted_750 h bit

theorem settleAs_value (r : BitVec t.bits) (u : State) : settleAs acc t (.value r) u = .ok { v := r } u := by
  cases acc <;> rfl

theorem settleAs_overflow_750 (h : u.is750 = true) : settleAs acc t .overflow u = .error (.exc (arithFault 8)) u := by
  rw [settleAs_noted (bit := 2) rfl, State.noted_750 h]
  unfold settle
  rw [bind_of_ok _ (run_get u)]
  dsimp only
  rw [if_pos h]
  rfl

theorem settleAs_overflow_780 (h : u.is750 = false) :
    settleAs acc t .overflow u = .ok (.outOfRange t 3) (u.noted acc t 2) := by
  rw [settleAs_noted (bit := 2) rfl]
  unfold settle
  rw [bind_of_ok _ (run_get _)]
  dsimp only
  rw [if_neg (by rw [State.noted_is750, h]; exact Bool.false_ne_true)]
  rfl

theorem settleAs_underflow_fault (hfu : u.fu = true) (h : u.is750 = true) :
    settleAs acc t .underflow u = .error (.exc (arithFault 0xA)) u := by
  rw [settleAs_noted (bit := 4) rfl, State.noted_750 h]
  unfold settle
  rw [bind_of_ok _ (run_get u)]
  dsimp only
  rw [if_pos hfu, if_pos h]
  rfl

theorem settleAs_underflow (h : u.fu = false ∨ u.is750 = false) :
    settleAs acc t .underflow u = .ok (.underflowed t u.fu) (u.noted acc t 4) := by
  rw [settleAs_noted (bit := 4) rfl]
  unfold settle
  rw [bind_of_ok _ (run_get _)]
  dsimp only
  rw [State.noted_fu, State.noted_is750]
  cases hfu : u.fu with
  | false => rfl
  | true =>
    rw [h.resolve_left (by rw [hfu]; exact Bool.noConfusion)]
    rfl
end

theorem divideByZero_750 (h : u.is750 = true) : divideByZero t u = .error (.exc (arithFault 9)) u := by
  unfold divideByZero
  rw [bind_of_ok _ (run_get u), if_pos h]
  rfl

theorem divideByZero_780 (h : u.is750 = false) : divideByZero t u = .ok (.outOfRange t 4) u := by
  unfold divideByZero
  rw [bind_of_ok _ (run_get u), if_neg (by rw [h]; exact Bool.false_ne_true)]
  rfl

/-! ### The store and the condition codes, R786, R787 -/

theorem floatFlags_ok {w : Nat} (x : FloatRes w) (keepC : Bool) (u : State) : floatFlags x keepC u =
    .ok ⟨⟩ (u.withCC (x.v.getLsbD 15) (decide (x.v = 0)) x.ovf (keepC && !x.special && u.ccC)) := rfl

theorem storeFloat_ok {d : Dest} {x : FloatRes t.bits} (h : store t d x.v s = .ok ⟨⟩ u) :
    storeFloat t d x s = .ok x.trap (u.withCC (x.v.getLsbD 15) (decide (x.v = 0)) x.ovf false) := bind_run h rfl

theorem zero_sign (t : DT) : (0 : BitVec t.bits).getLsbD 15 = false := BitVec.getLsbD_zero

/-- The reserved operand a V780 trap stores is negative and not zero. -/
theorem floatReserved_sign (ht : IsFloat t) : (floatReserved t).getLsbD 15 = true ∧ floatReserved t ≠ 0 := by
  have hres : floatReserved t = 0 ^^^ 0x8000 := by
    rw [zero_eq_packFloat ht, packFloat_xor_sign ht (by positivity) (by positivity)]
    rfl
  have hbit : (floatReserved t).getLsbD 15 = true := by
    have hwidth : 15 < t.bits := by
      have := ht.words
      have := bits_pos t
      omega
    rw [hres, BitVec.getLsbD_xor]
    show ((0 : BitVec t.bits).getLsbD 15 ^^ (BitVec.ofNat t.bits 0x8000).getLsbD 15) = true
    rw [zero_sign, BitVec.getLsbD_ofNat, decide_eq_true hwidth]
    rfl
  refine ⟨hbit, fun h => ?_⟩
  rw [h] at hbit
  exact Bool.false_ne_true ((zero_sign t).symm.trans hbit)

section
variable {d : Dest}

theorem storeFloat_outOfRange (ht : IsFloat t) (code : Nat) (h : store t d (floatReserved t) s = .ok ⟨⟩ u) :
    storeFloat t d (.outOfRange t code) s = .ok (some code) (u.withCC true false true false) := by
  obtain ⟨hsign, hne⟩ := floatReserved_sign ht
  refine (storeFloat_ok (x := .outOfRange t code) h).trans ?_
  rw [FloatRes.outOfRange, hsign, decide_eq_false hne]

theorem storeFloat_underflowed (fu : Bool) (h : store t d 0 s = .ok ⟨⟩ u) :
    storeFloat t d (.underflowed t fu) s = .ok (if fu then some 5 else none) (u.withCC false true false false) := by
  refine (storeFloat_ok (x := .underflowed t fu) h).trans ?_
  rw [FloatRes.underflowed, zero_sign, decide_eq_true rfl]
end

/-! ### How the instruction ends -/

section
variable {out : Out} {e : Exc}

theorem finish_exc (hready : s.fpd = false) (e : Exc) (u : State) :
    finish s (.error (.exc e) u) = outcomeOf (enterException e s.pc { u with r := s.r, psl := s.psl }) := by
  simp [finish, hready]

theorem finish_reserved (hready : s.fpd = false) (u : State) : finish s (.error (.exc reservedOperand) u) = s.turnedAway u :=
  finish_exc hready _ u

/-- How an instruction ends whose result `x` is out of range: `k` is what it does with a result, which has to store it, and after an
underflow goes on as `rest` says. -/
theorem outOfRange {acc : Bool} {d : Dest} {x : Rounded t.bits} {rest : State → State} {k : FloatRes t.bits → Meaning}
    (hready : s.fpd = false) (hrun : out = finish s ((settleAs acc t x >>= k) u))
    (hover : ∀ u' v, store t d (floatReserved t) u' = .ok ⟨⟩ v →
      k (.outOfRange t 3) u' = .ok (some 3) (v.withCC true false true false))
    (hunder : ∀ u' v, store t d 0 u' = .ok ⟨⟩ v →
      k (.underflowed t u.fu) u' = .ok (if u.fu then some 5 else none) (rest (v.withCC false true false false))) :
    OutOfRange out s u t acc d x rest := by
  refine ⟨?_, ?_⟩
  · rintro rfl
    refine ⟨fun h => ?_, fun h v hstore => ?_⟩
    · rw [hrun, bind_of_error _ (settleAs_overflow_750 h), finish_exc hready]
    · rw [hrun, bind_of_ok _ (settleAs_overflow_780 h), hover (u.noted acc t 2) v hstore]
      rfl
  · rintro rfl
    refine ⟨fun hfu h => ?_, fun h v hstore => ?_⟩
    · rw [hrun, bind_of_error _ (settleAs_underflow_fault hfu h), finish_exc hready]
    · rw [hrun, bind_of_ok _ (settleAs_underflow h), hunder (u.noted acc t 4) v hstore, finish_trapIf]

/-- The same where the instruction only stores its result. -/
theorem outOfRange_store (ht : IsFloat t) {acc : Bool} {d : Dest} {x : Rounded t.bits} (hready : s.fpd = false)
    (hrun : out = finish s ((settleAs acc t x >>= storeFloat t d) u)) : OutOfRange out s u t acc d x id :=
  outOfRange hready hrun (fun _ _ h => storeFloat_outOfRange ht 3 h) fun _ _ h => storeFloat_underflowed u.fu h
end

end Sys2Proof.Machine
end

section
/-! Floating moves, tests, compares and arithmetic, 45_floating.md R790 to R837: what each shape comes to once its operands are
evaluated, and its results. -/
namespace Sys2Proof.Machine

variable {t : DT} {neg : Bool} {src src1 src2 dst : Opnd} {s s1 s2 s3 u : State} {v w : BitVec t.bits} {d : Dest}

/-! ### Moves, R790, R794 -/

/-- The datum that MOVx and MNEGx store. -/
def movedFloat (t : DT) (neg : Bool) (v : BitVec t.bits) : BitVec t.bits :=
  if (floatValue t v).m = 0 then 0 else if neg then v ^^^ 0x8000 else v

theorem moveFloat_begun (hsrc : rd t src s = .ok v s1) (hdst : wr t dst s1 = .ok d s2) :
    moveFloat t neg src dst s = (do
      let _ ← floatOf t v
      store t d (movedFloat t neg v)
      floatFlags { v := movedFloat t neg v } (!neg)
      done : Meaning) s2 := by
  unfold moveFloat
  refine bind_run hsrc <| bind_run hdst ?_
  cases hv : reservedFloat t v with
  | true => rw [bind_of_error _ (floatOf_reserved hv s2), bind_of_error _ (floatOf_reserved hv s2)]
  | false =>
    rw [bind_of_ok _ (floatOf_ok hv s2), bind_of_ok _ (floatOf_ok hv s2)]
    rfl

/-- It is the source or its negative. -/
theorem movedFloat_value (ht : IsFloat t) (neg : Bool) (hv : reservedFloat t v = false) :
    reservedFloat t (movedFloat t neg v) = false
      ∧ (floatValue t (movedFloat t neg v)).rat = if neg then -(floatValue t v).rat else (floatValue t v).rat := by
  unfold movedFloat
  split
  next hm =>
    refine ⟨reservedFloat_zero ht, ?_⟩
    rw [rat_floatValue_zero ht, (ExactNum.rat_eq_zero_iff _).mpr hm, neg_zero, ite_self]
  next hm =>
    cases neg with
    | false => exact ⟨hv, rfl⟩
    | true =>
      rcases datum_cases ht hv with hz | ⟨sign, ex, frac, hpos, hex, hfrac, rfl, hvalue⟩
      · exact absurd (by rw [hz]) hm
      · rw [if_pos rfl, if_pos rfl, packFloat_xor_sign ht hex hfrac, reservedFloat_packFloat ht hex hfrac, hvalue,
          floatValue_packFloat ht hex hfrac, if_neg hpos.ne', decide_eq_false hpos.ne', Bool.and_false]
        refine ⟨rfl, ?_⟩
        rw [ExactNum.rat_eq_signed, ExactNum.rat_eq_signed]
        cases sign with
        | false => rfl
        | true => exact (neg_neg _).symm

/-! ### Tests and compares, R798, R802 -/

theorem testFloat_begun (hsrc : rd t src s = .ok v s1) : testFloat t src s = (do
    let a ← floatOf t v
    setCC a.neg (decide (a.m = 0)) false false
    done : Meaning) s1 := bind_run hsrc rfl

theorem compareFloat_begun (hsrc1 : rd t src1 s = .ok v s1) (hsrc2 : rd t src2 s1 = .ok w s2) :
    compareFloat t src1 src2 s = (do
      let a ← floatOf t v
      let b ← floatOf t w
      setCC (a.lt b) (a.eq b) false false
      done : Meaning) s2 := bind_run hsrc1 <| bind_run hsrc2 rfl

/-- The sign of a datum says whether it is negative. -/
theorem datum_neg (ht : IsFloat t) (hv : reservedFloat t v = false) : (floatValue t v).neg = decide ((floatValue t v).rat < 0) := by
  by_cases hm : (floatValue t v).m = 0
  · have hpos : (floatValue t v).neg = false := by
      rcases datum_cases ht hv with hzero | ⟨_, _, _, _, _, _, _, hvalue⟩
      · rw [hzero]
      · have := Nat.two_pow_pos (fracLen t)
        rw [hvalue] at hm
        dsimp only at hm
        omega
    rw [hpos, (ExactNum.rat_eq_zero_iff _).mpr hm]
    rfl
  · rw [Bool.eq_iff_iff, ← ExactNum.rat_neg_iff _ hm, decide_eq_true_iff]

/-! ### The instructions of these shapes -/

theorem moveFloatRows_run : ∀ e ∈ moveFloatRows, IsFloat e.2.2.1
    ∧ ∀ src dst s, exec (e.2.1 src dst) s = execute e.1 (moveFloat e.2.2.1 e.2.2.2 src dst) s := by
  unfold moveFloatRows
  simp only [List.forall_mem_cons]
  refine ⟨?_, ?_, ?_, ?_, ?_, ?_, ?_, ?_, List.forall_mem_nil _⟩
  all_goals exact ⟨isFloat_of_mem (by decide), fun _ _ _ => rfl⟩

theorem testFloatRows_run : ∀ e ∈ testFloatRows, IsFloat e.2.2
    ∧ ∀ src s, exec (e.2.1 src) s = execute e.1 (testFloat e.2.2 src) s := by
  unfold testFloatRows
  simp only [List.forall_mem_cons]
  refine ⟨?_, ?_, ?_, ?_, List.forall_mem_nil _⟩
  all_goals exact ⟨isFloat_of_mem (by decide), fun _ _ => rfl⟩

theorem compareFloatRows_run : ∀ e ∈ compareFloatRows, ∀ src1 src2 s,
    exec (e.2.1 src1 src2) s = execute e.1 (compareFloat e.2.2 src1 src2) s := by
  unfold compareFloatRows
  simp only [List.forall_mem_cons]
  exact ⟨fun _ _ _ => rfl, fun _ _ _ => rfl, fun _ _ _ => rfl, fun _ _ _ => rfl, List.forall_mem_nil _⟩

/-- Settles O45: the sign bit of a datum that is not zero is that of its value, and the comparison of the model is exact. -/
theorem floatMoveTestCompareResults : Obligations.FloatMoveTestCompareResults := by
  refine ⟨?_, ?_, ?_⟩
  · rintro e he src dst s s1 s2 s3 v r d hready hsrc hdst hv rfl hstore
    obtain ⟨ht, hexec⟩ := moveFloatRows_run e he
    refine ⟨?_, movedFloat_value ht _ hv⟩
    rw [hexec]
    refine execute_ready_next hready ((moveFloat_begun hsrc hdst).trans ?_)
    refine bind_run (floatOf_ok hv s2) <| bind_run hstore <| bind_run (floatFlags_ok _ _ s3) ?_
    rw [Bool.not_false, Bool.and_true]
    rfl
  · intro e he src s s1 v hready hsrc hv
    obtain ⟨ht, hexec⟩ := testFloatRows_run e he
    rw [hexec, ← datum_neg ht hv, decide_eq_decide.mpr (ExactNum.rat_eq_zero_iff _)]
    exact execute_ready_next hready ((testFloat_begun hsrc).trans <| bind_run (floatOf_ok hv s1) rfl)
  · intro e he src1 src2 s s1 s2 v w hready hsrc1 hsrc2 hv hw
    rw [compareFloatRows_run e he, ← ExactNum.lt_eq, ← ExactNum.eq_eq]
    refine execute_ready_next hready ((compareFloat_begun hsrc1 hsrc2).trans ?_)
    exact bind_run (floatOf_ok hv s2) <| bind_run (floatOf_ok hw s2) rfl

/-! ### Add, subtract, multiply, divide, R806 to R837 -/

/-- The row's operation on the values of its sources. -/
def FloatRow.operate (e : FloatRow) (a b : ExactNum) : M (FloatRes e.t.bits) :=
  if e.ok a then accSettle e.t (roundTo e.t (e.f a b)) else divideByZero e.t

/-- What the row's instructions do with their sources and the destination. -/
def FloatRow.combine (e : FloatRow) (v w : BitVec e.t.bits) (d : Dest) : Meaning := do
  let a ← accOf e.t v
  let b ← accOf e.t w
  storeFloat e.t d (← e.operate a b)

/-- The row's instructions come to its operation, with two and with three operands. -/
structure FloatRow.Runs (e : FloatRow) : Prop where
  isFloat : IsFloat e.t
  two : ∀ (src dst : Opnd) (s s1 s2 : State) (v w : BitVec e.t.bits) (d : Dest), Ready e.op2 s →
    rd e.t src (past e.op2 s) = .ok v s1 → md e.t dst s1 = .ok (d, w) s2 → exec (e.mk2 src dst) s = finish s (e.combine v w d s2)
  three : ∀ (src1 src2 dst : Opnd) (s s1 s2 s3 : State) (v w : BitVec e.t.bits) (d : Dest), Ready e.op3 s →
    rd e.t src1 (past e.op3 s) = .ok v s1 → rd e.t src2 s1 = .ok w s2 → wr e.t dst s2 = .ok d s3 →
    exec (e.mk3 src1 src2 dst) s = finish s (e.combine v w d s3)

theorem floatRow_runs {e : FloatRow} {f : ExactNum → ExactNum → M (FloatRes e.t.bits)} (hmem : e.t ∈ [DT.f, DT.d, DT.g, DT.h])
    (h2 : ∀ src dst s, exec (e.mk2 src dst) s = execute e.op2 (float2 e.t f src dst) s)
    (h3 : ∀ src1 src2 dst s, exec (e.mk3 src1 src2 dst) s = execute e.op3 (float3 e.t f src1 src2 dst) s)
    (hf : ∀ a b, f a b = e.operate a b) : e.Runs := by
  obtain rfl : f = e.operate := funext fun a => funext fun b => hf a b
  refine ⟨isFloat_of_mem hmem, ?_, ?_⟩
  · intro src dst s s1 s2 v w d hready hsrc hdst
    rw [h2, execute_ready hready]
    exact congrArg (finish s) (bind_run hsrc <| bind_run hdst rfl)
  · intro src1 src2 dst s s1 s2 s3 v w d hready hsrc1 hsrc2 hdst
    rw [h3, execute_ready hready]
    exact congrArg (finish s) (bind_run hsrc1 <| bind_run hsrc2 <| bind_run hdst rfl)

/-- A division looks for a zero divisor first. -/
theorem divF_eq (t : DT) (a b : ExactNum) :
    divF t a b = if a.m != 0 then accSettle t (roundTo t (b.div (fracLen t) a)) else divideByZero t := by
  unfold divF
  by_cases h : a.m = 0
  · rw [if_pos h, if_neg (by simp [h])]
  · rw [if_neg h, if_pos (bne_iff_ne.mpr h)]

theorem floatRows_run : ∀ e ∈ floatRows, e.Runs := by
  unfold floatRows
  simp only [List.forall_mem_cons]
  refine ⟨?_, ?_, ?_, ?_, ?_, ?_, ?_, ?_, ?_, ?_, ?_, ?_, ?_, ?_, ?_, ?_, List.forall_mem_nil _⟩
  iterate 12 · exact floatRow_runs (by decide) (fun _ _ _ => rfl) (fun _ _ _ _ => rfl) fun _ _ => rfl
  iterate 4 · exact floatRow_runs (by decide) (fun _ _ _ => rfl) (fun _ _ _ _ => rfl) (divF_eq _)

/-- A result in range is stored, with the condition codes of R787. -/
theorem FloatRow.combine_value {e : FloatRow} {v w r : BitVec e.t.bits} {d : Dest} {start s u : State}
    (hv : reservedFloat e.t v = false) (hw : reservedFloat e.t w = false) (hok : e.ok (floatValue e.t v) = true)
    (hr : roundTo e.t (e.f (floatValue e.t v) (floatValue e.t w)) = .value r) (hstore : store e.t d r s = .ok ⟨⟩ u) :
    finish start (e.combine v w d s) = .next (u.withCC (r.getLsbD 15) (decide (r = 0)) false false) := by
  have hrun : e.combine v w d s = .ok none (u.withCC (r.getLsbD 15) (decide (r = 0)) false false) := by
    unfold FloatRow.combine
    refine bind_run (accOf_ok hv s) <| bind_run (accOf_ok hw s) <| bind_run (ite_run_pos hok ?_) <|
      storeFloat_ok (x := { v := r }) hstore
    rw [hr]
    exact settleAs_value (acc := true) r s
  rw [hrun]
  rfl

/-- Settles O46: with two and with three operands the instruction comes to its row's operation. -/
theorem floatArithmeticResults : Obligations.FloatArithmeticResults := by
  intro e he
  have hruns := floatRows_run e he
  refine ⟨?_, ?_⟩
  · intro src dst s s1 s2 s3 v w r d hready hsrc hdst hv hw hok hr hstore
    rw [hruns.two src dst s s1 s2 v w d hready hsrc hdst, FloatRow.combine_value hv hw hok hr hstore]
  · intro src1 src2 dst s s1 s2 s3 s4 v w r d hready hsrc1 hsrc2 hdst hv hw hok hr hstore
    rw [hruns.three src1 src2 dst s s1 s2 s3 v w d hready hsrc1 hsrc2 hdst, FloatRow.combine_value hv hw hok hr hstore]

end Sys2Proof.Machine
end

section
/-! Floating conversions, 45_floating.md R838 to R875. -/
namespace Sys2Proof.Machine

variable {t ts td : DT} {src dst : Opnd} {s s1 s2 : State} {d : Dest}

/-! ### From integers, R838 -/

theorem intToFloat_begun {v : BitVec ts.bits} (hsrc : rd ts src s = .ok v s1) (hdst : wr td dst s1 = .ok d s2) :
    intToFloat ts td src dst s = (settleAs true td (roundTo td (ExactNum.ofInt v.toInt 0)) >>= storeFloat td d) s2 :=
  bind_run hsrc <| bind_run hdst rfl

theorem zero_of_roundTo {a : ExactNum} {r : BitVec t.bits} (ht : IsFloat t) (hr : roundTo t a = .value r)
    (hzero : (floatValue t r).rat = 0) : r = 0 := by
  by_cases hm : a.m = 0
  · rw [roundTo_zero t hm] at hr
    cases hr
    rfl
  · obtain ⟨-, -, hmag⟩ := roundTo_value ht hm hr
    have hpos := Nat.lt_of_lt_of_le (Nat.two_pow_pos _) (rounds_mag (fracLen t) a hm).two_pow_le
    rw [← ExactNum.abs_rat, hzero, abs_zero] at hmag
    exact absurd hmag (mul_pos (Nat.cast_pos.mpr hpos) (two_zpow_pos _)).ne

/-- An integer of 32 bits is in the range of every floating type. -/
theorem roundTo_ofInt (ht : IsFloat t) {w : Nat} (hw : w ≤ 32) (x : BitVec w) :
    ∃ r, roundTo t (ExactNum.ofInt x.toInt 0) = .value r := by
  obtain ⟨a, ha⟩ : ∃ a, ExactNum.ofInt x.toInt 0 = a := ⟨_, rfl⟩
  rw [ha]
  by_cases hm : a.m = 0
  · exact ⟨0, roundTo_zero t hm⟩
  · have hlen : Nat.log2 a.m < 32 := by
      have hbound : a.m < 2 ^ 32 := by
        have hx := x.isLt
        have hle : 2 ^ w ≤ 2 ^ 32 := Nat.pow_le_pow_right (by decide) hw
        have habs : x.toInt.natAbs ≤ 2 ^ 32 - 1 := by
          rw [BitVec.toInt_eq_toNat_cond]
          split <;> omega
        rw [← ha]
        show x.toInt.natAbs < 2 ^ 32
        omega
      exact (Nat.log2_lt hm).mpr hbound
    have hexp := ht.exponent
    have hbias : 2 ^ 7 ≤ bias t := Nat.pow_le_pow_right (by decide) (by omega)
    have hrange : (2 : Int) ^ expLen t = 2 * bias t := by
      unfold bias
      push_cast
      rw [← pow_succ', Nat.sub_add_cancel (by omega)]
    have hexponent : 0 < roundedExponent t a ∧ roundedExponent t a < 2 ^ expLen t := by
      have he : a.e = 0 := by rw [← ha]; rfl
      unfold roundedExponent
      split <;> omega
    exact ⟨_, (roundTo_eq t hm).trans <| (if_neg hexponent.2.not_ge).trans (if_neg hexponent.1.not_ge)⟩

/-- The datum nearest to an integer is its rounded value. -/
theorem roundTo_of_isNearest (ht : IsFloat t) {w : Nat} (hw : w ≤ 32) {x : BitVec w} {r : BitVec t.bits} (hr : IsNearest t x.toInt r)
    (hzero : (floatValue t r).rat = 0 → r = 0) : roundTo t (ExactNum.ofInt x.toInt 0) = .value r := by
  obtain ⟨q, hq⟩ := roundTo_ofInt ht hw x
  have hnear := roundTo_isNearest ht hq
  rw [ExactNum.rat_ofInt, zpow_zero, mul_one] at hnear
  rw [hq, IsNearest.unique ht hr hnear hzero (zero_of_roundTo ht hq)]

/-! ### To integers, R850, R862 -/

theorem floatToInt_begun {rounded : Bool} {v : BitVec ts.bits} (hsrc : rd ts src s = .ok v s1) (hdst : wr td dst s1 = .ok d s2) :
    floatToInt ts td rounded src dst s = (do
      let a ← accOf ts v
      storeRes td d (.ofInt (if rounded then a.round else a.trunc)) : Meaning) s2 :=
  bind_run hsrc <| bind_run hdst rfl

/-- The integer a datum is truncated or rounded to. -/
theorem toInteger_eq {a : ExactNum} (ha : a.neg = decide (a.rat < 0)) (rounded : Bool) :
    (if rounded then a.round else a.trunc) =
      if a.rat < 0 then -⌊|a.rat| + (if rounded then 1 / 2 else 0)⌋ else ⌊|a.rat| + (if rounded then 1 / 2 else 0)⌋ := by
  rw [a.round_eq, a.trunc_eq, a.abs_rat, ha]
  cases rounded <;> simp

/-! ### Between floating types, R866 -/

theorem floatToFloat_begun {v : BitVec ts.bits} (hsrc : rd ts src s = .ok v s1) (hdst : wr td dst s1 = .ok d s2) :
    floatToFloat ts td src dst s = (do
      let a ← floatOf ts v
      storeFloat td d (← settleAs false td (roundTo td a)) : Meaning) s2 :=
  bind_run hsrc <| bind_run hdst rfl

/-! ### The instructions of these shapes -/

theorem intToFloatRows_run : ∀ e ∈ intToFloatRows, IsFloat e.2.2.2 ∧ e.2.2.1.bits ≤ 32
    ∧ ∀ src dst s, exec (e.2.1 src dst) s = execute e.1 (intToFloat e.2.2.1 e.2.2.2 src dst) s := by
  unfold intToFloatRows
  simp only [List.forall_mem_cons]
  refine ⟨?_, ?_, ?_, ?_, ?_, ?_, ?_, ?_, ?_, ?_, ?_, ?_, List.forall_mem_nil _⟩
  all_goals exact ⟨isFloat_of_mem (by decide), by decide, fun _ _ _ => rfl⟩

theorem floatToIntRows_run : ∀ e ∈ floatToIntRows, IsFloat e.2.2.1
    ∧ ∀ src dst s, exec (e.2.1 src dst) s = execute e.1 (floatToInt e.2.2.1 e.2.2.2.1 e.2.2.2.2 src dst) s := by
  unfold floatToIntRows
  simp only [List.forall_mem_cons]
  refine ⟨?_, ?_, ?_, ?_, ?_, ?_, ?_, ?_, ?_, ?_, ?_, ?_, ?_, ?_, ?_, ?_, List.forall_mem_nil _⟩
  all_goals exact ⟨isFloat_of_mem (by decide), fun _ _ _ => rfl⟩

theorem floatToFloatRows_run : ∀ e ∈ floatToFloatRows, IsFloat e.2.2.2
    ∧ ∀ src dst s, exec (e.2.1 src dst) s = execute e.1 (floatToFloat e.2.2.1 e.2.2.2 src dst) s := by
  unfold floatToFloatRows
  simp only [List.forall_mem_cons]
  refine ⟨?_, ?_, ?_, ?_, ?_, ?_, ?_, ?_, ?_, ?_, List.forall_mem_nil _⟩
  all_goals exact ⟨isFloat_of_mem (by decide), fun _ _ _ => rfl⟩

/-- Settles O49: the datum nearest to an integer is unique, and the integer of a datum is the floor of its magnitude, signed. -/
theorem floatConversionResults : Obligations.FloatConversionResults := by
  refine ⟨?_, ?_, ?_⟩
  · intro e he src dst s s1 s2 s3 x r d hready hsrc hdst hnear hzero hstore
    obtain ⟨ht, hbits, hexec⟩ := intToFloatRows_run e he
    rw [hexec]
    refine execute_ready_next hready ((intToFloat_begun hsrc hdst).trans ?_)
    rw [roundTo_of_isNearest ht hbits hnear hzero]
    exact bind_run (settleAs_value r s2) (storeFloat_ok (x := { v := r }) hstore)
  · rintro e he src dst s s1 s2 s3 v z d hready hsrc hdst hv hz hstore o rfl
    obtain ⟨ht, hexec⟩ := floatToIntRows_run e he
    rw [← toInteger_eq (datum_neg ht hv)] at hz
    have hres := Res.ofInt_is (w := e.2.2.2.1.bits) z
    have hrun : floatToInt e.2.2.1 e.2.2.2.1 e.2.2.2.2 src dst (past e.1 s) = setRes (Res.ofInt z : Res e.2.2.2.1.bits) s3 := by
      rw [floatToInt_begun hsrc hdst, bind_of_ok _ (accOf_ok hv s2), ← hz]
      exact storeRes_ok _ d _ hstore
    rw [hexec, execute_ready hready, hrun, finish_setRes hres, decide_eq_decide.mpr ne_comm]
    rfl
  · intro e he src dst s s1 s2 s3 v r d hready hsrc hdst hv hr hstore
    obtain ⟨-, hexec⟩ := floatToFloatRows_run e he
    rw [hexec]
    refine execute_ready_next hready ((floatToFloat_begun hsrc hdst).trans <| bind_run (floatOf_ok hv s2) ?_)
    rw [hr]
    exact bind_run (settleAs_value r s2) (storeFloat_ok (x := { v := r }) hstore)

end Sys2Proof.Machine
end

section
/-! ACBx and EMODx of floating types, 45_floating.md R877, R881. -/
namespace Sys2Proof.Machine

/-! ### ACBx, R877 -/

section
variable {t : DT} {limit add idx : Opnd} {s s1 s2 s3 u : State} {lv av iv : BitVec t.bits} {d : Dest} {l a : ExactNum} {target : Long}
  {x : FloatRes t.bits}

/-- What ACBx does with the sum: the store, the condition codes, the branch. -/
def acbEnd (t : DT) (l a : ExactNum) (d : Dest) (target : Long) (x : FloatRes t.bits) : Meaning := do
  store t d x.v
  floatFlags x true
  branchIf (!reservedFloat t x.v && (if a.neg then !(floatValue t x.v).lt l else !l.lt (floatValue t x.v))) target
  return x.trap

theorem acbFloat_begun {displ : Word16} (hlimit : rd t limit s = .ok lv s1) (hadd : rd t add s1 = .ok av s2)
    (hidx : md t idx s2 = .ok (d, iv) s3) : acbFloat t limit add idx displ s = (do
      let l ← floatOf t lv
      let a ← floatOf t av
      let i ← floatOf t iv
      settleAs false t (roundTo t (i.add a)) >>= acbEnd t l a d (s3.pc + 2 + displ.signExtend 32) : Meaning)
        (s3.setReg 15 (s3.pc + 2)) :=
  bind_run hlimit <| bind_run hadd <| bind_run hidx <| bind_run (branchTarget_ok 2 displ s3) rfl

/-- The test of the model is that of R877 on the exact values. -/
theorem loopGoesOn_iff (ha : a.neg = decide (a.rat < 0)) (r l : ExactNum) :
    (if a.neg then !r.lt l else !l.lt r) = true ↔ loopGoesOn a.rat r.rat l.rat := by
  rw [ExactNum.lt_eq, ExactNum.lt_eq, ha, loopGoesOn]
  by_cases h : a.rat < 0
  · simp [h, h.not_ge]
  · simp [h, not_lt.mp h]

/-- A datum that is not reserved decides the branch. -/
theorem acbEnd_datum (ha : a.neg = decide (a.rat < 0)) {go : Bool} (hres : reservedFloat t x.v = false)
    (hgo : go = true ↔ loopGoesOn a.rat (floatValue t x.v).rat l.rat) (hstore : store t d x.v s = .ok ⟨⟩ u) :
    acbEnd t l a d target x s = .ok x.trap
      ((u.withCC (x.v.getLsbD 15) (decide (x.v = 0)) x.ovf (!x.special && u.ccC)).branched (go = true) target) := by
  have htest : (!reservedFloat t x.v && (if a.neg then !(floatValue t x.v).lt l else !l.lt (floatValue t x.v))) = true ↔ go = true := by
    rw [hres, Bool.not_false, Bool.true_and, loopGoesOn_iff ha, hgo]
  exact bind_run hstore <| bind_run (floatFlags_ok x true u) <| bind_run (branchIf_ok htest) rfl

/-- The zero that an underflow stores decides it too, R786. -/
theorem acbEnd_underflowed (ht : IsFloat t) (ha : a.neg = decide (a.rat < 0)) {go : Bool} (fu : Bool)
    (hgo : go = true ↔ loopGoesOn a.rat 0 l.rat) (hstore : store t d 0 s = .ok ⟨⟩ u) :
    acbEnd t l a d target (.underflowed t fu) s =
      .ok (if fu then some 5 else none) ((u.withCC false true false false).branched (go = true) target) := by
  rw [← rat_floatValue_zero ht] at hgo
  refine (acbEnd_datum (x := .underflowed t fu) ha (reservedFloat_zero ht) hgo hstore).trans ?_
  rw [FloatRes.underflowed, zero_sign, decide_eq_true rfl]
  rfl

/-- The reserved operand that a trap stores never branches. -/
theorem acbEnd_outOfRange (ht : IsFloat t) (code : Nat) (hstore : store t d (floatReserved t) s = .ok ⟨⟩ u) :
    acbEnd t l a d target (.outOfRange t code) s = .ok (some code) (u.withCC true false true false) := by
  obtain ⟨hsign, hne⟩ := floatReserved_sign ht
  refine bind_run hstore <| bind_run (floatFlags_ok (.outOfRange t code) true u) ?_
  rw [FloatRes.outOfRange, reservedFloat_floatReserved ht, hsign, decide_eq_false hne]
  rfl

theorem acbFloatRows_run : ∀ e ∈ acbFloatRows, IsFloat e.2.2
    ∧ ∀ limit add idx d s, exec (e.2.1 limit add idx d) s = execute e.1 (acbFloat e.2.2 limit add idx d) s := by
  unfold acbFloatRows
  simp only [List.forall_mem_cons]
  refine ⟨?_, ?_, ?_, ?_, List.forall_mem_nil _⟩
  all_goals exact ⟨isFloat_of_mem (by decide), fun _ _ _ _ _ => rfl⟩
end

/-! ### EMODx, R881 -/

section
variable {t tx : DT} {mulr mulrx muld intg fract : Opnd} {s s1 s2 s3 s4 s5 s6 s7 s8 s9 : State} {v w : BitVec t.bits}
  {x : BitVec tx.bits} {di df ki kf : Dest} {p : ExactNum} {f : FloatRes t.bits}

/-- What EMOD does with the fraction `f` of the product `p`: both destinations are checked, then stored. -/
def emodEnd (t : DT) (di df : Dest) (p : ExactNum) (f : FloatRes t.bits) : Meaning := do
  let di ← prepare .l di
  let df ← prepare t df
  let clash := destsOverlap .l di t df
  let iv ← if clash then drawBits 32 else pure (BitVec.ofInt 32 p.trunc)
  let fv ← if clash then drawBits t.bits else pure f.v
  storePlain .l di iv
  store t df fv
  setCC (floatNeg fv) (decide (fv = 0)) (decide ((BitVec.ofInt 32 p.trunc).toInt ≠ p.trunc)) false
  match f.trap with
  | some k => return some k
  | none => overflowTrap

theorem emod_begun (hmulr : rd t mulr s = .ok v s1) (hmulrx : rdPlain tx mulrx s1 = .ok x s2) (hmuld : rd t muld s2 = .ok w s3)
    (hintg : wrPlain .l intg s3 = .ok di s4) (hfract : wr t fract s4 = .ok df s5) :
    emod t tx mulr mulrx muld intg fract s = (do
      let a ← accOf t v
      let b ← accOf t w
      let p := ((extended t tx a x).mul b).chop (fracLen t + 1)
      settleAs true t (roundTo t p.fract) >>= emodEnd t di df p : Meaning) s5 :=
  bind_run hmulr <| bind_run hmulrx <| bind_run hmuld <| bind_run hintg <| bind_run hfract rfl

/-- Sources that are not reserved come to the fraction of the product kept. -/
theorem emod_product (hmulr : rd t mulr s = .ok v s1) (hmulrx : rdPlain tx mulrx s1 = .ok x s2) (hmuld : rd t muld s2 = .ok w s3)
    (hintg : wrPlain .l intg s3 = .ok di s4) (hfract : wr t fract s4 = .ok df s5) (hv : reservedFloat t v = false)
    (hw : reservedFloat t w = false) (hp : p = emodProduct t tx (emodExt t) v x w) :
    emod t tx mulr mulrx muld intg fract s = (settleAs true t (roundTo t p.fract) >>= emodEnd t di df p) s5 := by
  rw [emod_begun hmulr hmulrx hmuld hintg hfract, hp]
  exact bind_run (accOf_ok hv s5) <| bind_run (accOf_ok hw s5) rfl

theorem emodEnd_ok {z : Bool} (hki : prepare .l di s5 = .ok ki s6) (hkf : prepare t df s6 = .ok kf s7)
    (hclash : destsOverlap .l ki t kf = false) (hint : storePlain .l ki (BitVec.ofInt 32 p.trunc) s7 = .ok ⟨⟩ s8)
    (hstore : store t kf f.v s8 = .ok ⟨⟩ s9) (hz : z = decide ((BitVec.ofInt 32 p.trunc).toInt ≠ p.trunc)) :
    emodEnd t di df p f s5 = .ok (f.trap.or (if z && s9.iv then some 1 else none))
      (s9.withCC (f.v.getLsbD 15) (decide (f.v = 0)) z false) := by
  unfold emodEnd
  refine bind_run hki <| bind_run hkf ?_
  dsimp only
  rw [hclash, ← hz]
  refine bind_run (run_pure _ s7) <| bind_run (run_pure _ s7) <| bind_run hint <| bind_run hstore <| bind_run (run_setCC _ _ _ _ s9) ?_
  cases f.trap with
  | some k => rfl
  | none =>
    refine (overflowTrap_ok _).trans ?_
    rw [State.withCC_ccV, State.withCC_iv]
    rfl

theorem emodRows_run : ∀ e ∈ emodRows, IsFloat e.2.2.1 ∧ e.2.2.2.2 = emodExt e.2.2.1 ∧ ∀ mulr mulrx muld intg fract s,
    exec (e.2.1 mulr mulrx muld intg fract) s = execute e.1 (emod e.2.2.1 e.2.2.2.1 mulr mulrx muld intg fract) s := by
  unfold emodRows
  simp only [List.forall_mem_cons]
  refine ⟨?_, ?_, ?_, ?_, List.forall_mem_nil _⟩
  all_goals exact ⟨isFloat_of_mem (by decide), rfl, fun _ _ _ _ _ _ => rfl⟩
end

end Sys2Proof.Machine
end

section
/-! POLYx, 45_floating.md R886 to R890: the evaluation step by step, and the registers it leaves. -/
namespace Sys2Proof.Machine

variable {t : DT} {s u : State} {tbl : Long} {n i m : Nat} {a : ExactNum} {r q : BitVec t.bits} {trap : Option Nat}

/-! ### Coefficients -/

theorem coefficient_reserved {w : Octa} (hread : memRead .other (tbl + BitVec.ofNat 32 (i * t.len)) t.len s = .ok w u)
    (hw : reservedFloat t (w.setWidth _) = true) : coefficient t tbl i s = .error (.exc reservedOperand) (u.accNoted t 1) := by
  unfold coefficient
  exact (bind_of_ok _ hread).trans (accOf_reserved hw u)

theorem coefficients_succ {cs : List ExactNum} (h : coefficients t tbl i (m + 1) s = .ok cs u) :
    ∃ c ds s', cs = c :: ds ∧ coefficient t tbl i s = .ok c s' ∧ coefficients t tbl (i + 1) m s' = .ok ds u := by
  obtain ⟨c, s', hc, hrest⟩ := bind_ok h
  obtain ⟨ds, s'', hds, heq⟩ := bind_ok hrest
  cases heq
  exact ⟨c, ds, s', rfl, hc, hds⟩

/-! ### The evaluation from a step on -/

/-- The address past the last coefficient. -/
def tablePast (t : DT) (tbl : Long) (n : Nat) : Long := tbl + BitVec.ofNat 32 (t.len * (n + 1))

/-- The registers that POLY leaves beside the result: the address past the table, the others it uses cleared. -/
def State.polyRegs (s : State) (t : DT) (past : Long) : State :=
  match t with
  | .f => ((s.setReg 1 0).setReg 2 0).setReg 3 past
  | .h => (s.setReg 4 0).setReg 5 past
  | _ => (((s.setReg 2 0).setReg 3 past).setReg 4 0).setReg 5 0

/-- What POLY does when its evaluation stands at `p`. -/
def polyEnd (t : DT) (tbl : Long) (n : Nat) (p : Poly t.bits) : Meaning := do
  modify fun s => (s.putRegs t 0 p.r).polyRegs t (tablePast t tbl n)
  setCC (floatNeg p.r) (decide (p.r = 0)) p.ovf false
  return p.trap

/-- The evaluation from step `i` on. -/
def polyFrom (t : DT) (a : ExactNum) (tbl : Long) (n i : Nat) (p : Poly t.bits) : Meaning := do
  polyEnd t tbl n (← (List.range' i (n - i)).foldlM (fun p i => polyStep t a tbl p (i + 1)) p)

/-- Operands that are not reserved, and a degree in range, come to the first coefficient. -/
theorem poly_begun {arg degree tbladdr : Opnd} {s1 s2 s3 : State} {v : BitVec t.bits} {n : Word16}
    (harg : rd t arg s = .ok v s1) (hdegree : rdPlain .w degree s1 = .ok n s2) (htbl : adrPlain .b tbladdr s2 = .ok tbl s3) :
    poly t arg degree tbladdr s = (do
      let a ← accOf t v
      if 31 < n.toNat then raise reservedOperand
      let c ← coefficient t tbl 0
      let first ← settleAs true t (roundTo t c)
      polyFrom t a tbl n.toNat 0 ⟨first.v, none, false⟩ : Meaning) s3 := by
  unfold poly
  refine bind_run harg <| bind_run hdegree <| bind_run htbl ?_
  unfold polyFrom polyEnd
  rw [Nat.sub_zero, ← List.range_eq_range']
  cases t <;> rfl

theorem polyFrom_end (p : Poly t.bits) : polyFrom t a tbl n n p = polyEnd t tbl n p := by
  unfold polyFrom
  rw [Nat.sub_self]
  rfl

theorem polyFrom_step (hi : i < n) (p : Poly t.bits) :
    polyFrom t a tbl n i p = polyStep t a tbl p (i + 1) >>= polyFrom t a tbl n (i + 1) := by
  unfold polyFrom
  rw [show n - i = n - (i + 1) + 1 by omega, List.range'_succ, List.foldlM_cons, bind_assoc]

/-- An overflow has ended the evaluation. -/
theorem polyFrom_ovf {p : Poly t.bits} (hp : p.ovf = true) (hi : i ≤ n) (s : State) :
    polyFrom t a tbl n i p s = polyEnd t tbl n p s := by
  induction hk : n - i generalizing i with
  | zero =>
    obtain rfl : i = n := by omega
    rw [polyFrom_end]
  | succ k ih =>
    rw [polyFrom_step (by omega)]
    refine (bind_of_ok _ (?_ : polyStep t a tbl p (i + 1) s = .ok p s)).trans (ih (by omega) (by omega))
    exact ite_run_pos hp rfl

/-! ### One step -/

theorem hornerStep_eq_some {p : BitVec t.bits} {c : ExactNum} (h : hornerStep t a p c = some r) :
    hornerRound t a p c = .value r := by
  unfold hornerStep at h
  split at h
  next hround => rw [hround, Option.some.inj h]
  next => exact nomatch h

section
variable {c : ExactNum}

/-- A step reads its coefficient and settles the rounded sum. -/
theorem polyStep_begun (hc : coefficient t tbl i s = .ok c u) : polyStep t a tbl ⟨r, trap, false⟩ i s = (do
    let x ← settleAs true t (hornerRound t a r c)
    return ⟨x.v, if x.ovf then x.trap else if x.trap.isSome then x.trap else trap, x.ovf⟩ : M (Poly t.bits)) u := by
  unfold polyStep
  exact ite_run_neg Bool.false_ne_true <| bind_run hc rfl

theorem polyStep_value (hc : coefficient t tbl i s = .ok c u) (hround : hornerRound t a r c = .value q) :
    polyStep t a tbl ⟨r, trap, false⟩ i s = .ok ⟨q, trap, false⟩ u := by
  rw [polyStep_begun hc, hround]
  exact bind_run (settleAs_value q u) rfl

theorem polyStep_error {e : Stop} (hc : coefficient t tbl i s = .error e u) :
    polyStep t a tbl ⟨r, trap, false⟩ i s = .error e u := by
  unfold polyStep
  exact ite_run_neg Bool.false_ne_true <| bind_of_error _ hc
end

/-- The steps whose results are in range. -/
theorem polyFrom_values {cs : List ExactNum} (hn : i + m ≤ n) (hcs : coefficients t tbl (i + 1) m s = .ok cs u)
    (hfold : cs.foldlM (hornerStep t a) r = some q) :
    polyFrom t a tbl n i ⟨r, trap, false⟩ s = polyFrom t a tbl n (i + m) ⟨q, trap, false⟩ u := by
  induction m generalizing i r s cs with
  | zero =>
    cases hcs
    cases hfold
    rfl
  | succ m ih =>
    obtain ⟨c, ds, s', rfl, hc, hds⟩ := coefficients_succ hcs
    rw [List.foldlM_cons] at hfold
    obtain ⟨p, hp, hrest⟩ := Option.bind_eq_some_iff.mp hfold
    rw [polyFrom_step (by omega), bind_of_ok _ (polyStep_value hc (hornerStep_eq_some hp)), ih (by omega) hds hrest,
      show i + 1 + m = i + (m + 1) by omega]

/-- The evaluation up to step `i`. -/
theorem poly_values {arg degree tbladdr : Opnd} {s1 s2 s3 s4 : State} {v r0 : BitVec t.bits} {n : Word16} {c0 : ExactNum}
    {cs : List ExactNum} (harg : rd t arg s = .ok v s1) (hdegree : rdPlain .w degree s1 = .ok n s2)
    (htbl : adrPlain .b tbladdr s2 = .ok tbl s3) (hv : reservedFloat t v = false) (hn : n.toNat ≤ 31) (hi : i ≤ n.toNat)
    (hcs : coefficients t tbl 0 (i + 1) s3 = .ok (c0 :: cs) s4) (hr0 : roundTo t c0 = .value r0)
    (hfold : cs.foldlM (hornerStep t (floatValue t v)) r0 = some r) :
    poly t arg degree tbladdr s = polyFrom t (floatValue t v) tbl n.toNat i ⟨r, none, false⟩ s4 := by
  obtain ⟨c, ds, s', heq, hc, hds⟩ := coefficients_succ hcs
  cases heq
  rw [poly_begun harg hdegree htbl]
  refine bind_run (accOf_ok hv s3) <| ite_run_neg (by omega) <| bind_run hc <| ?_
  rw [hr0]
  refine bind_run (settleAs_value r0 s') ?_
  rw [polyFrom_values (i := 0) (by omega) hds hfold, Nat.zero_add]

/-! ### The registers at the end -/

/-- The registers above R5 stay. -/
theorem State.setReg_reg_of_low (s : State) {n k : Reg} (v : Long) (hn : n.val < 6) (hk : 6 ≤ k.val) :
    (s.setReg n v).reg k = s.reg k := s.setReg_reg_ne v fun h => by rw [h] at hn; omega

/-- What POLY's registers hold at the end, R887 to R890. -/
structure PolyRegs (t : DT) (r : BitVec t.bits) (past : Long) (s z : State) : Prop where
  result : ∀ k < t.regs, z.reg (Fin.ofNat 16 k) = (r.setWidth 128 >>> (32 * k)).setWidth 32
  table : z.reg (if t = .h then 5 else 3) = past
  clearF : t = .f → z.reg 1 = 0 ∧ z.reg 2 = 0
  clearH : t = .h → z.reg 4 = 0
  clearDG : t = .d ∨ t = .g → z.reg 2 = 0 ∧ z.reg 4 = 0 ∧ z.reg 5 = 0
  high : ∀ k : Reg, 6 ≤ k.val → z.reg k = s.reg k
  keptF : t = .f → z.reg 4 = s.reg 4 ∧ z.reg 5 = s.reg 5

theorem polyRegs_f (s : State) (r : BitVec (DT.f).bits) (past : Long) : PolyRegs .f r past s ((s.putRegs .f 0 r).polyRegs .f past) := by
  unfold State.putRegs State.polyRegs
  refine ⟨fun k hk => ?_, ?_, ?_, ?_, ?_, fun k hk => ?_, ?_⟩
  · obtain rfl : k = 0 := by have : k < 1 := hk; omega
    simp [State.setReg_reg, ← BitVec.setWidth_ushiftRight_eq_extractLsb]
  · simp
  · simp [State.setReg_reg]
  · simp
  · simp
  · simp [State.setReg_reg_of_low, hk]
  · simp [State.setReg_reg]

theorem polyRegs_dg (ht : t = .d ∨ t = .g) (s : State) (r : BitVec t.bits) (past : Long) :
    PolyRegs t r past s ((s.putRegs t 0 r).polyRegs t past) := by
  rcases ht with rfl | rfl
  all_goals
    unfold State.putRegs State.polyRegs
    refine ⟨fun k hk => ?_, ?_, ?_, ?_, ?_, fun k hk => ?_, ?_⟩
    · obtain rfl | rfl : k = 0 ∨ k = 1 := by have : k < 2 := hk; omega
      · simp [State.setReg_reg, ← BitVec.setWidth_ushiftRight_eq_extractLsb, Reg.plus]
      · show State.reg _ 1 = _
        simp [State.setReg_reg, ← BitVec.setWidth_ushiftRight_eq_extractLsb, Reg.plus]
    · simp [State.setReg_reg]
    · simp
    · simp
    · simp [State.setReg_reg]
    · simp [State.setReg_reg_of_low, hk, Reg.plus]
    · simp

theorem polyRegs_h (s : State) (r : BitVec (DT.h).bits) (past : Long) : PolyRegs .h r past s ((s.putRegs .h 0 r).polyRegs .h past) := by
  unfold State.putRegs State.polyRegs
  refine ⟨fun k hk => ?_, ?_, ?_, ?_, ?_, fun k hk => ?_, ?_⟩
  · obtain rfl | rfl | rfl | rfl : k = 0 ∨ k = 1 ∨ k = 2 ∨ k = 3 := by have : k < 4 := hk; omega
    · simp [State.setReg_reg, ← BitVec.setWidth_ushiftRight_eq_extractLsb, Reg.plus]
    · show State.reg _ 1 = _
      simp [State.setReg_reg, ← BitVec.setWidth_ushiftRight_eq_extractLsb, Reg.plus]
    · simp [State.setReg_reg, ← BitVec.setWidth_ushiftRight_eq_extractLsb, Reg.plus]
    · simp [State.setReg_reg, ← BitVec.setWidth_ushiftRight_eq_extractLsb, Reg.plus]
  · simp
  · simp
  · simp [State.setReg_reg]
  · simp
  · simp [State.setReg_reg_of_low, hk, Reg.plus]
  · simp

theorem polyRegs_hold (hmem : t ∈ [DT.f, DT.d, DT.g, DT.h]) (s : State) (r : BitVec t.bits) (past : Long) :
    PolyRegs t r past s ((s.putRegs t 0 r).polyRegs t past) := by
  simp only [List.mem_cons, List.not_mem_nil, or_false] at hmem
  rcases hmem with rfl | rfl | rfl | rfl
  · exact polyRegs_f s r past
  · exact polyRegs_dg (.inl rfl) s r past
  · exact polyRegs_dg (.inr rfl) s r past
  · exact polyRegs_h s r past

/-- Nothing but registers changes. -/
theorem polyRegs_rest (s : State) (past : Long) : s.polyRegs t past = { s with r := (s.polyRegs t past).r } := by
  cases t <;> rfl

/-- A trap that an instruction leaves replaces one that is due. -/
theorem finish_ok (start u : State) (trap : Option Nat) :
    finish start (.ok trap u) = .next { u with pend := { u.pend with trap := trap.orElse fun _ => u.pend.trap } } := by
  cases trap <;> rfl

/-- How POLY ends when its evaluation has come to `p`. -/
theorem polyEnds (hmem : t ∈ [DT.f, DT.d, DT.g, DT.h]) (start u : State) (tbl : Long) (n : Nat) (p : Poly t.bits) :
    PolyEnds (finish start (polyEnd t tbl n p u)) t p.r (tablePast t tbl n) p.ovf p.trap u := by
  have hregs := polyRegs_hold hmem u p.r (tablePast t tbl n)
  obtain ⟨x, hx⟩ : ∃ x, (u.putRegs t 0 p.r).polyRegs t (tablePast t tbl n) = x := ⟨_, rfl⟩
  have hrest : x = { u with r := x.r } := by
    have hput : u.putRegs t 0 p.r = { u with r := (u.putRegs t 0 p.r).r } := by cases t <;> rfl
    rw [← hx, polyRegs_rest, hput]
  have hrun : polyEnd t tbl n p u = .ok p.trap (x.withCC (p.r.getLsbD 15) (decide (p.r = 0)) p.ovf false) := by
    rw [← hx]
    rfl
  rw [hx] at hregs
  rw [hrun, finish_ok]
  refine ⟨_, rfl, ?_, hregs.high 15 (by decide), ?_, ?_, hregs.result, hregs.table, hregs.clearF, hregs.clearH, hregs.clearDG,
    fun k hk _ => hregs.high k hk, hregs.keptF⟩
  · rw [hrest]
    rfl
  · rw [hrest]
    rfl
  · rw [hrest]
    rfl

/-- What the accelerator has noted does not show in it. -/
theorem PolyEnds.of_accNoted {out : Out} {past : Long} {v : Bool} {bit : BitVec 3}
    (h : PolyEnds out t r past v trap (u.accNoted t bit)) : PolyEnds out t r past v trap u := by
  unfold State.accNoted at h
  split at h <;> exact h

theorem polyRows_run : ∀ e ∈ polyRows, e.2.2 ∈ [DT.f, DT.d, DT.g, DT.h]
    ∧ ∀ arg degree tbladdr s, exec (e.2.1 arg degree tbladdr) s = execute e.1 (poly e.2.2 arg degree tbladdr) s := by
  unfold polyRows
  simp only [List.forall_mem_cons]
  refine ⟨?_, ?_, ?_, ?_, List.forall_mem_nil _⟩
  all_goals exact ⟨by decide, fun _ _ _ _ => rfl⟩

end Sys2Proof.Machine
end

section
/-! ACBx, EMODx and POLYx whose results are in range, 45_floating.md R877 to R890. -/
namespace Sys2Proof.Machine

/-- Settles O50: the sum, the product and each step of the polynomial are settled in range, so that what follows them completes. -/
theorem floatLoopEmodAndPolyResults : Obligations.FloatLoopEmodAndPolyResults := by
  refine ⟨?_, ?_, ExactNum.parts_exact, ?_⟩
  · intro e he limit add idx d s s1 s2 s3 s4 l a i r k hready hlimit hadd hidx hl ha hi hr hstore go hgo
    obtain ⟨ht, hexec⟩ := acbFloatRows_run e he
    have hres := reservedFloat_of_roundTo ht hr
    have hend := acbEnd_datum (target := s3.pc + 2 + d.signExtend 32) (x := { v := r }) (datum_neg ht ha) hres hgo hstore
    have hrun := (acbFloat_begun (displ := d) hlimit hadd hidx).trans <| bind_run (floatOf_ok hl _) <| bind_run (floatOf_ok ha _) <|
      bind_run (floatOf_ok hi _) <| bind_run (hr ▸ settleAs_value r _) hend
    rw [hexec, execute_ready_next hready hrun]
    cases go <;> rfl
  · intro e he mulr mulrx muld intg fract s s1 s2 s3 s4 s5 s6 s7 s8 s9 v w f x di df ki kf p z hready hmulr hmulrx hmuld hintg hfract hv
      hw hp hr hki hkf hclash hint hstore hz
    obtain ⟨-, hext, hexec⟩ := emodRows_run e he
    rw [hext] at hp
    rw [hexec, execute_ready hready, emod_product hmulr hmulrx hmuld hintg hfract hv hw hp, hr, bind_of_ok _ (settleAs_value f s5),
      emodEnd_ok (f := { v := f }) hki hkf hclash hint hstore hz]
    exact finish_trapIf s _ _ 1
  · intro e he arg degree tbladdr s s1 s2 s3 s4 v r0 r n tbl c0 cs hready harg hdegree htbl hv hn hcs hr0 hfold
    obtain ⟨hmem, hexec⟩ := polyRows_run e he
    rw [hexec, execute_ready hready, poly_values harg hdegree htbl hv hn le_rfl hcs hr0 hfold, polyFrom_end]
    exact polyEnds hmem s s4 tbl n.toNat ⟨r, none, false⟩

end Sys2Proof.Machine
end

section
/-! Exceptions of the floating instructions, 45_floating.md R785, R786, R789: which one an instruction meets, and what it leaves. -/
namespace Sys2Proof.Machine

/-! ### Arithmetic -/

/-- ADDx, SUBx, MULx and DIVx in what R785 and R786 except. -/
theorem FloatRow.combine_excepts {e : FloatRow} (ht : IsFloat e.t) {v w : BitVec e.t.bits} {d : Dest} {s u : State}
    (hready : s.fpd = false) : e.Excepts (finish s (e.combine v w d u)) s u v w d := by
  refine ⟨fun hres => ?_, fun hv hw => ⟨fun hzero => ⟨fun h750 => ?_, fun h780 z hstore => ?_⟩, fun hok => ?_⟩⟩
  · have hrun : e.combine v w d u = .error (.exc reservedOperand) (u.accNoted e.t 1) := by
      unfold FloatRow.combine
      by_cases hv : reservedFloat e.t v = true
      · exact bind_of_error _ (accOf_reserved hv u)
      · exact bind_run (accOf_ok (Bool.eq_false_iff.mpr hv) u) <| bind_of_error _ (accOf_reserved (hres.resolve_left hv) u)
    rw [hrun, finish_reserved hready]
  · have hrun : e.combine v w d u = .error (.exc (arithFault 9)) u := bind_run (accOf_ok hv u) <| bind_run (accOf_ok hw u) <|
      bind_of_error _ <| ite_run_neg (Bool.eq_false_iff.mp hzero) (divideByZero_750 h750)
    rw [hrun, finish_exc hready]
  · have hrun : e.combine v w d u = .ok (some 4) (z.withCC true false true false) := bind_run (accOf_ok hv u) <|
      bind_run (accOf_ok hw u) <| bind_run (ite_run_neg (Bool.eq_false_iff.mp hzero) (divideByZero_780 h780))
        (storeFloat_outOfRange ht 4 hstore)
    rw [hrun]
    rfl
  · have hrun : e.combine v w d u =
        (settleAs true e.t (roundTo e.t (e.f (floatValue e.t v) (floatValue e.t w))) >>= storeFloat e.t d) u := by
      unfold FloatRow.combine FloatRow.operate
      refine bind_run (accOf_ok hv u) <| bind_run (accOf_ok hw u) ?_
      rw [if_pos hok]
      rfl
    exact outOfRange_store ht hready (congrArg (finish s) hrun)

/-! ### ACBx and EMODx -/

section
variable {t tx : DT} {s s1 s2 s3 s4 s5 u : State} {v w l i : BitVec t.bits}

/-- A reserved operand of ACBx is met before its sum. -/
theorem acbFloat_reserved {limit add idx : Opnd} {d : Word16} {k : Dest} {a : BitVec t.bits} (hlimit : rd t limit s = .ok l s1)
    (hadd : rd t add s1 = .ok a s2) (hidx : md t idx s2 = .ok (k, i) s3)
    (hres : reservedFloat t l = true ∨ reservedFloat t a = true ∨ reservedFloat t i = true) :
    acbFloat t limit add idx d s = .error (.exc reservedOperand) (s3.setReg 15 (s3.pc + 2)) := by
  rw [acbFloat_begun hlimit hadd hidx]
  by_cases hl : reservedFloat t l = true
  · exact bind_of_error _ (floatOf_reserved hl _)
  refine bind_run (floatOf_ok (Bool.eq_false_iff.mpr hl) _) ?_
  by_cases ha : reservedFloat t a = true
  · exact bind_of_error _ (floatOf_reserved ha _)
  refine bind_run (floatOf_ok (Bool.eq_false_iff.mpr ha) _) ?_
  exact bind_of_error _ (floatOf_reserved ((hres.resolve_left hl).resolve_left ha) _)

/-- A reserved multiplier or multiplicand of EMODx. -/
theorem emod_reserved {mulr mulrx muld intg fract : Opnd} {x : BitVec tx.bits} {di df : Dest} (hmulr : rd t mulr s = .ok v s1)
    (hmulrx : rdPlain tx mulrx s1 = .ok x s2) (hmuld : rd t muld s2 = .ok w s3) (hintg : wrPlain .l intg s3 = .ok di s4)
    (hfract : wr t fract s4 = .ok df s5) (hres : reservedFloat t v = true ∨ reservedFloat t w = true) :
    emod t tx mulr mulrx muld intg fract s = .error (.exc reservedOperand) (s5.accNoted t 1) := by
  rw [emod_begun hmulr hmulrx hmuld hintg hfract]
  by_cases hv : reservedFloat t v = true
  · exact bind_of_error _ (accOf_reserved hv _)
  · exact bind_run (accOf_ok (Bool.eq_false_iff.mpr hv) _) <| bind_of_error _ (accOf_reserved (hres.resolve_left hv) _)

/-- An underflow of the fraction is reported ahead of an overflow of the integer part. -/
theorem finish_emod_underflow (s u : State) (fu b : Bool) :
    finish s (.ok ((if fu then some 5 else none : Option Nat).or (if b then some 1 else none)) u) =
      .next ((u.trappedIf b 1).trappedIf fu 5) := by
  cases fu <;> cases b <;> rfl
end

/-! ### POLYx ahead of its steps -/

section
variable {t : DT} {arg degree tbladdr : Opnd} {s s1 s2 s3 s4 : State} {v : BitVec t.bits} {n : Word16} {tbl : Long}

theorem poly_reservedArgument (harg : rd t arg s = .ok v s1) (hdegree : rdPlain .w degree s1 = .ok n s2)
    (htbl : adrPlain .b tbladdr s2 = .ok tbl s3) (hv : reservedFloat t v = true) :
    poly t arg degree tbladdr s = .error (.exc reservedOperand) (s3.accNoted t 1) :=
  (poly_begun harg hdegree htbl).trans <| bind_of_error _ (accOf_reserved hv s3)

theorem poly_degreeAbove (harg : rd t arg s = .ok v s1) (hdegree : rdPlain .w degree s1 = .ok n s2)
    (htbl : adrPlain .b tbladdr s2 = .ok tbl s3) (hv : reservedFloat t v = false) (hn : 31 < n.toNat) :
    poly t arg degree tbladdr s = .error (.exc reservedOperand) s3 :=
  (poly_begun harg hdegree htbl).trans <| bind_run (accOf_ok hv s3) <| ite_run_pos hn rfl

theorem poly_reservedFirst {w : Octa} (harg : rd t arg s = .ok v s1) (hdegree : rdPlain .w degree s1 = .ok n s2)
    (htbl : adrPlain .b tbladdr s2 = .ok tbl s3) (hv : reservedFloat t v = false) (hn : n.toNat ≤ 31)
    (hread : memRead .other tbl t.len s3 = .ok w s4) (hw : reservedFloat t (w.setWidth _) = true) :
    poly t arg degree tbladdr s = .error (.exc reservedOperand) (s4.accNoted t 1) := by
  have hread' : memRead .other (tbl + BitVec.ofNat 32 (0 * t.len)) t.len s3 = .ok w s4 := by rwa [Nat.zero_mul, BitVec.add_zero]
  exact (poly_begun harg hdegree htbl).trans <| bind_run (accOf_ok hv s3) <| ite_run_neg (Nat.not_lt.mpr hn) <|
    bind_of_error _ (coefficient_reserved hread' hw)
end

/-! ### A step of POLYx -/

section
variable {t : DT} {s u : State} {a : ExactNum} {tbl : Long} {n j : Nat} {r : BitVec t.bits} {c : ExactNum}

/-- A step that stops ends the evaluation. -/
theorem polyFrom_error {e : Stop} (hj : j < n) (hstep : polyStep t a tbl ⟨r, none, false⟩ (j + 1) s = .error e u) :
    polyFrom t a tbl n j ⟨r, none, false⟩ s = .error e u := by
  rw [polyFrom_step hj]
  exact bind_of_error _ hstep

theorem polyFrom_overflow_750 (hj : j < n) (hc : coefficient t tbl (j + 1) s = .ok c u) (hround : hornerRound t a r c = .overflow)
    (h750 : u.is750 = true) : polyFrom t a tbl n j ⟨r, none, false⟩ s = .error (.exc (arithFault 8)) u := by
  refine polyFrom_error hj ((polyStep_begun hc).trans ?_)
  rw [hround]
  exact bind_of_error _ (settleAs_overflow_750 h750)

/-- On the V780 the reserved operand is the result, and the evaluation has ended. -/
theorem polyFrom_overflow_780 (hj : j < n) (hc : coefficient t tbl (j + 1) s = .ok c u) (hround : hornerRound t a r c = .overflow)
    (h780 : u.is750 = false) : polyFrom t a tbl n j ⟨r, none, false⟩ s =
      polyEnd t tbl n ⟨floatReserved t, some 3, true⟩ (u.accNoted t 2) := by
  have hstep : polyStep t a tbl ⟨r, none, false⟩ (j + 1) s = .ok ⟨floatReserved t, some 3, true⟩ (u.accNoted t 2) := by
    rw [polyStep_begun hc, hround]
    exact bind_run (settleAs_overflow_780 h780) rfl
  rw [polyFrom_step hj, bind_of_ok _ hstep, polyFrom_ovf rfl hj]

theorem polyFrom_underflow_fault (hj : j < n) (hc : coefficient t tbl (j + 1) s = .ok c u)
    (hround : hornerRound t a r c = .underflow) (hfu : u.fu = true) (h750 : u.is750 = true) :
    polyFrom t a tbl n j ⟨r, none, false⟩ s = .error (.exc (arithFault 0xA)) u := by
  refine polyFrom_error hj ((polyStep_begun hc).trans ?_)
  rw [hround]
  exact bind_of_error _ (settleAs_underflow_fault hfu h750)

/-- Where an underflow does not fault the evaluation goes on from zero, with the trap that is due at its end. -/
theorem polyFrom_underflow (hj : j < n) (hc : coefficient t tbl (j + 1) s = .ok c u) (hround : hornerRound t a r c = .underflow)
    (h : u.fu = false ∨ u.is750 = false) : polyFrom t a tbl n j ⟨r, none, false⟩ s =
      polyFrom t a tbl n (j + 1) ⟨0, if u.fu then some 5 else none, false⟩ (u.accNoted t 4) := by
  have hstep : polyStep t a tbl ⟨r, none, false⟩ (j + 1) s = .ok ⟨0, if u.fu then some 5 else none, false⟩ (u.accNoted t 4) := by
    rw [polyStep_begun hc, hround]
    refine bind_run (settleAs_underflow h) ?_
    cases u.fu <;> rfl
  rw [polyFrom_step hj, bind_of_ok _ hstep]
end

/-! ### The statement -/

/-- Settles O48: a source that is reserved ends the instruction ahead of its result; a result out of range, and a zero divisor, end it
by a fault on the V750 and by a store and a trap on the V780. -/
theorem floatExceptionReports : Obligations.FloatExceptionReports := by
  refine ⟨?_, ?_, ?_, ?_, ?_, ?_, ?_, ?_, ?_⟩
  · intro e he
    have hruns := floatRows_run e he
    refine ⟨fun src dst s s1 s2 v w d hready hsrc hdst => ?_, fun src1 src2 dst s s1 s2 s3 v w d hready hsrc1 hsrc2 hdst => ?_⟩
    · rw [hruns.two src dst s s1 s2 v w d hready hsrc hdst]
      exact FloatRow.combine_excepts hruns.isFloat hready.1
    · rw [hruns.three src1 src2 dst s s1 s2 s3 v w d hready hsrc1 hsrc2 hdst]
      exact FloatRow.combine_excepts hruns.isFloat hready.1
  · intro e he src dst s s1 s2 v d hready hsrc hdst hv
    obtain ⟨-, hexec⟩ := moveFloatRows_run e he
    rw [hexec, execute_ready hready, moveFloat_begun hsrc hdst, bind_of_error _ (floatOf_reserved hv s2), finish_reserved hready.1]
  · intro e he src s s1 v hready hsrc hv
    obtain ⟨-, hexec⟩ := testFloatRows_run e he
    rw [hexec, execute_ready hready, testFloat_begun hsrc, bind_of_error _ (floatOf_reserved hv s1), finish_reserved hready.1]
  · intro e he src1 src2 s s1 s2 v w hready hsrc1 hsrc2 hres
    rw [compareFloatRows_run e he, execute_ready hready, compareFloat_begun hsrc1 hsrc2]
    by_cases hv : reservedFloat e.2.2 v = true
    · rw [bind_of_error _ (floatOf_reserved hv s2), finish_reserved hready.1]
    · rw [bind_of_ok _ (floatOf_ok (Bool.eq_false_iff.mpr hv) s2), bind_of_error _ (floatOf_reserved (hres.resolve_left hv) s2),
        finish_reserved hready.1]
  · intro e he src dst s s1 s2 v d hready hsrc hdst hv
    obtain ⟨-, hexec⟩ := floatToIntRows_run e he
    rw [hexec, execute_ready hready, floatToInt_begun hsrc hdst, bind_of_error _ (accOf_reserved hv s2), finish_reserved hready.1]
  · intro e he src dst s s1 s2 v d hready hsrc hdst
    obtain ⟨ht, hexec⟩ := floatToFloatRows_run e he
    rw [hexec, execute_ready hready, floatToFloat_begun hsrc hdst]
    refine ⟨fun hv => ?_, fun hv => ?_⟩
    · rw [bind_of_error _ (floatOf_reserved hv s2), finish_reserved hready.1]
    · exact outOfRange_store ht hready.1 (congrArg (finish s) (bind_of_ok _ (floatOf_ok hv s2)))
  · intro e he limit add idx d s s1 s2 s3 l a i k hready hlimit hadd hidx
    obtain ⟨ht, hexec⟩ := acbFloatRows_run e he
    rw [hexec, execute_ready hready]
    refine ⟨fun hres => ?_, fun hl ha hi go hgo => ?_⟩
    · rw [acbFloat_reserved hlimit hadd hidx hres, finish_reserved hready.1]
      rfl
    · have hrun := (acbFloat_begun (displ := d) hlimit hadd hidx).trans <| bind_run (floatOf_ok hl _) <|
        bind_run (floatOf_ok ha _) <| bind_of_ok _ (floatOf_ok hi _)
      refine outOfRange hready.1 (congrArg (finish s) hrun) (fun _ _ h => acbEnd_outOfRange ht 3 h) fun u v hstore => ?_
      rw [acbEnd_underflowed ht (datum_neg ht ha) _ hgo hstore]
      rfl
  · intro e he mulr mulrx muld intg fract s s1 s2 s3 s4 s5 v w x di df hready hmulr hmulrx hmuld hintg hfract
    obtain ⟨ht, hext, hexec⟩ := emodRows_run e he
    rw [hexec, execute_ready hready]
    refine ⟨fun hres => ?_, fun hv hw p hp hround => ?_⟩
    · rw [emod_reserved hmulr hmulrx hmuld hintg hfract hres, finish_reserved hready.1]
    · rw [hext] at hp
      rw [emod_product hmulr hmulrx hmuld hintg hfract hv hw hp, hround]
      refine ⟨fun hfu h750 => ?_, fun h ki kf s6 s7 s8 s9 z hki hkf hclash hint hstore hz => ?_⟩
      · rw [bind_of_error _ (settleAs_underflow_fault hfu h750), finish_exc hready.1]
      · have hend := emodEnd_ok (f := .underflowed e.2.2.1 s5.fu) hki hkf hclash hint hstore hz
        rw [FloatRes.underflowed, zero_sign, decide_eq_true rfl] at hend
        rw [bind_run (settleAs_underflow h) hend, finish_emod_underflow]
  · intro e he arg degree tbladdr s s1 s2 s3 v n tbl hready harg hdegree htbl
    obtain ⟨hmem, hexec⟩ := polyRows_run e he
    rw [hexec, execute_ready hready]
    refine ⟨fun hv => ?_, fun hv hn => ?_, fun hv hn => ⟨fun w s4 hread hw => ?_, ?_⟩⟩
    · rw [poly_reservedArgument harg hdegree htbl hv, finish_reserved hready.1]
    · rw [poly_degreeAbove harg hdegree htbl hv hn, finish_reserved hready.1]
    · rw [poly_reservedFirst harg hdegree htbl hv hn hread hw, finish_reserved hready.1]
    · intro j s4 s5 c0 cs r0 r hj hcs hr0 hfold
      rw [poly_values harg hdegree htbl hv hn hj.le hcs hr0 hfold]
      refine ⟨fun w hread hw => ?_, fun c hc => ⟨fun hround => ⟨fun h750 => ?_, fun h780 => ?_⟩,
        fun hround => ⟨fun hfu h750 => ?_, fun h s6 ds q hds hrest => ?_⟩⟩⟩
      · rw [polyFrom_error hj (polyStep_error (coefficient_reserved hread hw)), finish_reserved hready.1]
      · rw [polyFrom_overflow_750 hj hc hround h750, finish_exc hready.1]
      · rw [polyFrom_overflow_780 hj hc hround h780]
        exact (polyEnds hmem s _ tbl n.toNat ⟨floatReserved e.2.2, some 3, true⟩).of_accNoted
      · rw [polyFrom_underflow_fault hj hc hround hfu h750, finish_exc hready.1]
      · rw [polyFrom_underflow hj hc hround h, polyFrom_values (by omega) hds hrest, show j + 1 + (n.toNat - j - 1) = n.toNat by omega,
          polyFrom_end]
        exact polyEnds hmem s s6 tbl n.toNat ⟨q, if s5.fu then some 5 else none, false⟩

end Sys2Proof.Machine
end

section
/-! Names of one opcode, and instructions that are turned away at their opcode or whose meaning is a fault, 60_exceptions.md R1054,
R1055, R1059, 49_system.md R981, R982, R1012. -/
namespace Sys2Proof.Machine

/-- Settles O4: the other name of an opcode has the meaning of its first name. -/
theorem sharedOpcodesAgree : Obligations.SharedOpcodesAgree := by
  intro i s
  cases i <;> rfl

/-- Outside kernel mode a privileged opcode goes no further, R981. -/
theorem checkOpcode_privileged {op : Nat} {s : State} (hop : op ∈ privilegedOps) (hcur : s.cur ≠ 0) :
    checkOpcode op s = .error (.exc reservedInstruction) s.clearedFpd := by
  have hclasses : ∀ op ∈ privilegedOps, ¬ 256 ≤ op ∧ op ∉ suspendableOps := by decide
  obtain ⟨hshort, hwhole⟩ := hclasses op hop
  unfold checkOpcode
  rw [bind_of_ok _ (run_get s)]
  simp only [hshort, hwhole, hop, hcur, decide_false, Bool.false_and, Bool.and_false, Bool.not_false, Bool.and_true, ne_eq,
    not_false_eq_true, and_self, if_true]
  cases hf : s.fpd with
  | false =>
    rw [State.clearedFpd_of_not_fpd hf]
    rfl
  | true =>
    rw [if_pos rfl]
    exact bind_of_ok _ (run_ignoreFpd s)

/-- Settles O12: each of the five stops at the checks of its opcode. -/
theorem privilegedInstructionsTrap : Obligations.PrivilegedInstructionsTrap := by
  intro s a b hcur i hi
  have hop : i.opcode ∈ privilegedOps := by
    simp only [List.mem_cons, List.not_mem_nil, or_false] at hi
    rcases hi with rfl | rfl | rfl | rfl | rfl
    exacts [(by decide : 0x00 ∈ privilegedOps), (by decide : 0x06 ∈ privilegedOps), (by decide : 0x07 ∈ privilegedOps),
      (by decide : 0xDA ∈ privilegedOps), (by decide : 0xDB ∈ privilegedOps)]
  obtain ⟨m, hm⟩ := exec_eq_execute i
  rw [hm, execute_of_checkOpcode (checkOpcode_privileged hop hcur)]

/-- An instruction that only raises a fault raises it in the state it starts in, R1031. -/
theorem execute_raise {op : Nat} {s : State} (e : Exc) (hready : Ready op s) :
    execute op (raise e) s = outcomeOf (enterException e s.pc s) := by
  rw [execute_ready_exc hready (run_raise e (past op s))]
  rfl

/-- Settles O11: what completes the entry of the fault completes the instruction. -/
theorem breakpointAndCustomerFault : Obligations.BreakpointAndCustomerFault := by
  intro s hfpd
  have hready : Ready 0x03 s ∧ Ready 0xFC s := by
    exact ⟨⟨hfpd, .inl (by decide), .inl (by decide)⟩, ⟨hfpd, .inl (by decide), .inl (by decide)⟩⟩
  have hbpt : exec .bpt s = outcomeOf (enterException breakpoint s.pc s) := execute_raise breakpoint hready.1
  have hxfc : exec .xfc s = outcomeOf (enterException customerReserved s.pc s) := execute_raise customerReserved hready.2
  refine ⟨hbpt, hxfc, ?_, ?_⟩
  · rintro ⟨t, ht⟩
    exact ⟨t, by rw [hbpt]; exact congrArg outcomeOf ht⟩
  · rintro ⟨t, ht⟩
    exact ⟨t, by rw [hxfc]; exact congrArg outcomeOf ht⟩

end Sys2Proof.Machine
end

section
/-! The boundary between two instructions, 60_exceptions.md R1100: what is recognized, in its order, and the instruction. -/
namespace Sys2Proof.Machine

variable {s : State} {c : CheckCause}

theorem step_boundary (hevents : s.events = []) (hrun : s.run = .running) : step s = boundary s := by
  unfold step oneStep advance
  rw [hevents]
  dsimp only
  rw [hrun]

/-- Nothing stands before an arithmetic trap. -/
def State.Clean (s : State) : Prop := s.pend.doubleWrite = false ∧ s.pend.machineCheck = none

theorem boundary_doubleWrite (h : s.pend.doubleWrite = true) : boundary s = doubleWriteHalt s := by
  unfold boundary
  rw [if_pos h]

theorem boundary_machineCheck (hdouble : s.pend.doubleWrite = false) (h : s.pend.machineCheck = some c) :
    boundary s = injectedCheck c s := by
  unfold boundary
  rw [hdouble, h]
  rfl

theorem boundary_trap {code : Nat} (hclean : s.Clean) (h : s.pend.trap = some code) :
    boundary s = outcomeOf (enterTrap code s) := by
  unfold boundary
  rw [hclean.1, hclean.2, h]
  rfl

theorem boundary_consoleHalt (hclean : s.Clean) (htrap : s.pend.trap = none) (h : s.pend.consoleHalt = true) :
    boundary s = consoleHalt s := by
  unfold boundary
  rw [hclean.1, hclean.2, htrap, h]
  rfl

theorem boundary_interrupt (hclean : s.Clean) (htrap : s.pend.trap = none) (hhalt : s.pend.consoleHalt = false)
    (h : deliverable s ≠ []) : boundary s = outcomeOf (takeInterrupt (deliverable s) s) := by
  unfold boundary
  rw [hclean.1, hclean.2, htrap, hhalt]
  cases hd : deliverable s with
  | nil => exact absurd hd h
  | cons r rest => rfl

theorem boundary_idle (hclean : s.Clean) (htrap : s.pend.trap = none) (hhalt : s.pend.consoleHalt = false)
    (h : deliverable s = []) : boundary s = if s.tp then outcomeOf (enterTrace s) else startInstruction s := by
  unfold boundary
  rw [hclean.1, hclean.2, htrap, hhalt, h]
  rfl

/-- Settles O5: with nothing to recognize the boundary starts the instruction that is decoded. -/
theorem stepRunsDecodedInstruction : Obligations.StepRunsDecodedInstruction := by
  rintro s i n hevents hrun hdouble hcheck htrap hhalt hdeliver htp hcm hlegal u rfl hdecode
  refine ⟨?_, fun hquiet => ?_, State.fetched_logsOnly _ n⟩
  · rw [step_boundary hevents hrun, boundary_idle ⟨hdouble, hcheck⟩ htrap hhalt hdeliver, htp]
    unfold startInstruction runInstruction
    rw [hcm, hlegal]
    unfold State.started
    simp only [Bool.false_eq_true, if_false, if_true, hdecode]
  · unfold State.fetched
    rw [if_pos hquiet]

/-- What a halt where the processor stands leaves as it was. -/
structure State.HaltedHere (s t : State) (why : HaltCause) : Prop where
  run : t.run = .halted why
  regs : t.r = s.r
  psl : t.psl = s.psl
  mem : t.mem = s.mem

theorem setReg_pc_self (s : State) : (s.setReg 15 s.pc).r = s.r := Vector.set_getElem_self _

theorem consoleHalt_halts (s : State) : ∃ t, consoleHalt s = .next t ∧ s.HaltedHere t .consoleHalt := by
  unfold consoleHalt
  split
  · exact ⟨_, rfl, rfl, setReg_pc_self s, rfl, rfl⟩
  · exact ⟨_, rfl, rfl, setReg_pc_self s, rfl, rfl⟩

theorem run_drawBits (n : Nat) (s : State) :
    drawBits n s = .ok ((Config.unpred s.draw).setWidth n) (s.withDraw (s.draw + 1)) := rfl

theorem run_freeLongs (n : Nat) (s : State) : ∃ xs k, freeLongs n s = .ok xs (s.withDraw k) := by
  induction n generalizing s with
  | zero => exact ⟨[], s.draw, rfl⟩
  | succ n ih =>
    obtain ⟨xs, k, h⟩ := ih (s.withDraw (s.draw + 1))
    exact ⟨_, k, bind_run (run_drawBits 32 s) (bind_of_ok _ h)⟩

/-- A machine check draws its error longwords and ends in its abort, R1045. -/
theorem run_machineCheck {α : Type} (s : State) :
    ∃ xs k, (machineCheck : M α) s = .error (.exc ⟨true, 0x04, xs⟩) (s.withDraw k) := by
  obtain ⟨xs, k, h⟩ := run_freeLongs s.cfg.mchkLongwords s
  exact ⟨_, k, bind_run (run_get s) (bind_of_ok _ h)⟩

theorem run_noteCause (c : CheckCause) (s : State) : ∃ v, noteCause c s = .ok ⟨⟩ { s with v750 := v } := by
  cases c <;> exact ⟨_, rfl⟩

/-- What an injected machine check has come to before its exception is taken. -/
theorem injectedCheck_raises (c : CheckCause) (s : State) : ∃ xs k v,
    (do
      if s.is750 then noteCause c
      machineCheck : Meaning) s = .error (.exc ⟨true, 0x04, xs⟩) (State.withDraw { s with v750 := v } k) := by
  cases hcpu : s.is750 with
  | true =>
    obtain ⟨v, hv⟩ := run_noteCause c s
    obtain ⟨xs, k, h⟩ := run_machineCheck (α := Option Nat) { s with v750 := v }
    exact ⟨xs, k, v, bind_run hv h⟩
  | false =>
    obtain ⟨xs, k, h⟩ := run_machineCheck (α := Option Nat) s
    exact ⟨xs, k, s.v750, h⟩

/-- A machine check that comes before an earlier one is handled halts, R1095 (g). -/
theorem enterException_doubleCheck {s : State} {x : Exc} (pc : Long) (hx : x.offset = 0x04) (h : s.doubleCheck = true) :
    ∃ t, enterException x pc s = .ok ⟨⟩ t ∧ t.run = .halted .doubleError ∧ t.pc = pc ∧ t.mem = s.mem := by
  unfold enterException
  rw [bind_of_ok _ (run_get s), bind_of_ok _ (run_drawBits 32 s), if_pos ⟨hx, h⟩]
  exact ⟨_, rfl, rfl, State.setReg_pc _ pc, rfl⟩

/-- An exception puts back the PSL where the instruction has left FPD alone. -/
theorem finish_exc_sameFpd {s u : State} {e : Exc} (h : u.fpd = s.fpd) :
    finish s (.error (.exc e) u) = outcomeOf (enterException e s.pc { u with r := s.r, psl := s.psl }) := by
  simp [finish, h]

theorem finish_doubleCheck {s : State} (c : CheckCause) (h : s.doubleCheck = true) :
    ∃ t, finish s ((do
        if s.is750 then noteCause c
        machineCheck : Meaning) s) = .next t ∧ t.run = .halted .doubleError ∧ t.pc = s.pc ∧ t.mem = s.mem := by
  obtain ⟨xs, k, v, hraise⟩ := injectedCheck_raises c s
  obtain ⟨t, ht, hhalt⟩ := enterException_doubleCheck (s := State.withDraw { s with v750 := v } k) (x := ⟨true, 0x04, xs⟩) s.pc rfl h
  refine ⟨t, (congrArg (finish s) hraise).trans (.trans (finish_exc_sameFpd ?_) (congrArg outcomeOf ht)), hhalt⟩
  rfl

theorem State.doubleCheck_of {s : State} (hearlier : s.pend.inMachineCheck ≠ 0) (hipl : s.ipl = 31) : s.doubleCheck = true := by
  simp [State.doubleCheck, hearlier, hipl]

theorem haltedHere_of_next {s : State} {why : HaltCause} {x : Out} (h : ∃ t, x = .next t ∧ s.HaltedHere t why) :
    ∃ t, x = .next t ∧ t.run = .halted why ∧ t.r = s.r ∧ t.psl = s.psl ∧ t.mem = s.mem := by
  obtain ⟨t, hx, hrun, hregs, hpsl, hmem⟩ := h
  exact ⟨t, hx, hrun, hregs, hpsl, hmem⟩

/-- Settles O6: each clause is a branch of the boundary. -/
theorem boundaryOrder : Obligations.BoundaryOrder := by
  intro s hevents hrun
  rw [step_boundary hevents hrun]
  refine ⟨fun hdouble => ?_, fun c hdouble hcheck => ?_, fun c hdouble hcheck hearlier hipl => ?_, fun hdouble hcheck => ?_⟩
  · rw [boundary_doubleWrite hdouble]
    exact haltedHere_of_next ⟨_, rfl, rfl, setReg_pc_self s, rfl, rfl⟩
  · exact boundary_machineCheck hdouble hcheck
  · rw [boundary_machineCheck hdouble hcheck]
    exact finish_doubleCheck (s := { s with pend := { s.pend with machineCheck := none } }) c (State.doubleCheck_of hearlier hipl)
  · have hclean : s.Clean := ⟨hdouble, hcheck⟩
    refine ⟨fun k htrap => boundary_trap hclean htrap, fun htrap => ⟨fun hhalt => ?_, fun hhalt hdeliver => ?_,
      fun hhalt hdeliver htp => ?_⟩⟩
    · rw [boundary_consoleHalt hclean htrap hhalt]
      exact haltedHere_of_next (consoleHalt_halts s)
    · exact boundary_interrupt hclean htrap hhalt hdeliver
    · rw [boundary_idle hclean htrap hhalt hdeliver, if_pos htp]

end Sys2Proof.Machine
end

section
/-! Taking exceptions and interrupts, 60_exceptions.md R1030 to R1034, R1052, R1070, R1075: the state in which a handler is entered. -/
namespace Sys2Proof.Machine

/-! ### The PSL of a handler -/

theorem field_ofNat_low {k n : Nat} (hn : n ≤ 32) : field (BitVec.ofNat 32 k) 0 n = k % 2 ^ n := by
  unfold field
  rw [BitVec.extractLsb'_toNat, Nat.shiftRight_zero, BitVec.toNat_ofNat, Nat.mod_mod_of_dvd _ (Nat.pow_dvd_pow 2 hn)]

section
variable (keep : Long) (newMode prevMode : Nat) (ipl : Option Nat) (onIS : Bool)

/-- A field of a handler's PSL below the bit that says which stack is used. -/
theorem field_entryPsl {lo n : Nat} (h : lo + n ≤ 26) : field (entryPsl keep newMode prevMode ipl onIS) lo n =
    field (match ipl with
      | some l => putField (putField (putField (keep &&& 0x041F0000) 24 2 (BitVec.ofNat 32 newMode)) 22 2
          (BitVec.ofNat 32 prevMode)) 16 5 (BitVec.ofNat 32 l)
      | none => putField (putField (keep &&& 0x041F0000) 24 2 (BitVec.ofNat 32 newMode)) 22 2 (BitVec.ofNat 32 prevMode)) lo n := by
  unfold entryPsl
  cases onIS with
  | false => rfl
  | true => exact field_putField_ne _ _ _ _ _ _ (.inl h)

theorem entryPsl_cur (h : newMode < 4) : field (entryPsl keep newMode prevMode ipl onIS) 24 2 = newMode := by
  have hmode : field (putField (putField (keep &&& 0x041F0000) 24 2 (BitVec.ofNat 32 newMode)) 22 2
      (BitVec.ofNat 32 prevMode)) 24 2 = newMode := by
    rw [field_putField_ne _ _ _ _ _ _ (.inr (by decide)), field_putField _ _ 24 2 (by decide), field_ofNat_low (by decide)]
    exact Nat.mod_eq_of_lt h
  rw [field_entryPsl _ _ _ _ _ (by decide)]
  cases ipl with
  | none => exact hmode
  | some l => exact (field_putField_ne _ _ _ _ _ _ (.inr (by decide))).trans hmode

theorem entryPsl_prv (h : prevMode < 4) : field (entryPsl keep newMode prevMode ipl onIS) 22 2 = prevMode := by
  have hmode : field (putField (putField (keep &&& 0x041F0000) 24 2 (BitVec.ofNat 32 newMode)) 22 2
      (BitVec.ofNat 32 prevMode)) 22 2 = prevMode := by
    rw [field_putField _ _ 22 2 (by decide), field_ofNat_low (by decide)]
    exact Nat.mod_eq_of_lt h
  rw [field_entryPsl _ _ _ _ _ (by decide)]
  cases ipl with
  | none => exact hmode
  | some l => exact (field_putField_ne _ _ _ _ _ _ (.inr (by decide))).trans hmode

theorem entryPsl_ipl_some {l : Nat} (h : l < 32) : field (entryPsl keep newMode prevMode (some l) onIS) 16 5 = l := by
  rw [field_entryPsl _ _ _ _ _ (by decide)]
  dsimp only
  rw [field_putField _ _ 16 5 (by decide), field_ofNat_low (by decide)]
  exact Nat.mod_eq_of_lt h

theorem entryPsl_ipl_none : field (entryPsl keep newMode prevMode none onIS) 16 5 = field keep 16 5 := by
  rw [field_entryPsl _ _ _ _ _ (by decide)]
  dsimp only
  rw [field_putField_ne _ _ _ _ _ _ (.inl (by decide)), field_putField_ne _ _ _ _ _ _ (.inl (by decide)), field_and (by decide)]

theorem entryPsl_is : (entryPsl keep newMode prevMode ipl onIS).getLsbD 26 = (keep.getLsbD 26 || onIS) := by
  have hkeep : (keep &&& 0x041F0000).getLsbD 26 = keep.getLsbD 26 := by
    rw [BitVec.getLsbD_and]
    exact Bool.and_true _
  unfold entryPsl putBit
  cases onIS with
  | true =>
    rw [if_pos rfl, putField_getLsbD _ _ _ _ _ (by decide), if_pos (by decide), Bool.or_true]
    rfl
  | false =>
    cases ipl <;>
      simp only [Bool.false_eq_true, if_false, Bool.or_false, putField_getLsbD _ _ _ _ 26 (by decide : 26 < 32), hkeep] <;> rfl

/-- The PSW, the must-be-zero bits above it, FPD, TP and CM are clear. -/
theorem entryPsl_clear : entryPsl keep newMode prevMode ipl onIS &&& 0xF800FFFF = 0 := by
  have hbase : putField (putField (keep &&& 0x041F0000) 24 2 (BitVec.ofNat 32 newMode)) 22 2 (BitVec.ofNat 32 prevMode)
      &&& 0xF800FFFF = 0 := by
    rw [putField_and _ _ _ (by decide), putField_and _ _ _ (by decide), BitVec.and_assoc]
    exact BitVec.and_zero
  unfold entryPsl putBit
  cases onIS <;> cases ipl <;>
    simp only [Bool.false_eq_true, if_false, if_true, putField_and _ _ _ (by decide : fieldMask 26 1 &&& 0xF800FFFF = 0),
      putField_and _ _ _ (by decide : fieldMask 16 5 &&& 0xF800FFFF = 0), hbase]
end

/-! ### Entering a handler, R1030 -/

/-- The stack a handler gets, before anything is pushed there: the interrupt stack where `code` is 1. -/
def State.onHandlerStack (s : State) (code : Nat) : State :=
  if s.is then s else
    State.setReg { s with sp := s.sp.put s.cur (s.reg 14) } 14 (if code = 1 then s.sp.isp else (s.sp.put s.cur (s.reg 14)).ksp)

/-- A vector that may be taken: code 1, or code 0 for what is serviced on the current stack. -/
def Enterable (offset : Nat) (v : Long) : Prop := field v 0 2 = 1 ∨ (field v 0 2 = 0 ∧ seriousOffset offset = false)

/-- The handler's context stands. -/
def State.inHandler (t : State) (e : Entry) (old v : Long) : State :=
  { (t.setReg 15 (v &&& 0xFFFFFFFC)) with
    psl := entryPsl old 0 (if e.ipl.isSome then 0 else field old 24 2)
      (match e.ipl with
        | some l => some l
        | none => if field v 0 2 = 1 then some 31 else none) (field v 0 2 == 1)
    pend := t.pend.entered e.offset }

section
variable {s s1 s2 s3 t : State} {e : Entry} {v : Long} {x : Exc} {r : EStateM.Result Stop State Unit}

theorem Stacks.put_isp (k : Stacks) (mode : Nat) (v : Long) : (k.put mode v).isp = k.isp := by
  unfold Stacks.put
  split <;> rfl

theorem saveSp_off (h : s.is = false) : s.saveSp = { s with sp := s.sp.put s.cur (s.reg 14) } := by
  unfold State.saveSp
  rw [h]
  rfl

/-- What taking an event does once its vector is read and may be taken: the frame is pushed on the handler's stack. -/
theorem enter_pushes (hv : readVector e.offset s = .ok (some v) s1) (h : Enterable e.offset v) :
    enter e s = (do
      match ← attempt (pushHandler (s1.is || field v 0 2 == 1) ([e.saved, e.pc] ++ e.params)) with
      | .ok _ => do
        modify fun t => t.inHandler e s.psl v
        return true
      | .error (.exc x) => do
        if s1.is || field v 0 2 == 1 then haltInterruptStack e.pc e.saved
        else if x.offset = 0x04 ∧ s1.doubleCheck then haltAt .doubleError e.pc e.saved
        else if x.offset = 0x04 then enterSerious 0x04 x.params e s.psl
        else enterSerious 0x08 [] e s.psl
        return false
      | .error x => throw x : M Bool) (s1.onHandlerStack (field v 0 2)) := by
  have hcode : ¬ field v 0 2 = 3 ∧ ¬ (field v 0 2 = 0 ∧ seriousOffset e.offset) ∧ ¬ field v 0 2 = 2 := by
    rcases h with h | ⟨h, hplain⟩
    · omega
    · simp [h, hplain]
  obtain ⟨hcode3, hcode0, hcode2⟩ := hcode
  unfold enter State.onHandlerStack
  rw [bind_of_ok _ (run_get s)]
  refine (bind_of_ok _ hv).trans ?_
  dsimp only
  rw [if_neg hcode3, if_neg hcode0, if_neg hcode2, bind_of_ok _ (run_get s1)]
  cases his : s1.is with
  | true => rfl
  | false =>
    rw [saveSp_off his]
    dsimp only
    rw [Stacks.put_isp]
    rfl

/-- The frame can be pushed: the handler's context stands. -/
theorem enter_ok (hv : readVector e.offset s = .ok (some v) s1) (h : Enterable e.offset v)
    (hpush : pushHandler (s1.is || field v 0 2 == 1) ([e.saved, e.pc] ++ e.params) (s1.onHandlerStack (field v 0 2)) = .ok ⟨⟩ s3) :
    enter e s = .ok true (s3.inHandler e s.psl v) := by
  rw [enter_pushes hv h, bind_of_ok _ (attempt_of_ok hpush)]
  rfl

/-- The kernel stack cannot take the frame: kernel stack not valid is entered instead, R1052. -/
theorem enter_kernelStackNotValid (hv : readVector e.offset s = .ok (some v) s1) (hcode : field v 0 2 = 0)
    (hplain : seriousOffset e.offset = false) (his : s1.is = false)
    (hpush : pushHandler false ([e.saved, e.pc] ++ e.params) (s1.onHandlerStack 0) = .error (.exc x) s3) (hx : x.offset ≠ 4)
    (hserious : enterSerious 0x08 [] e s.psl s3 = .ok ⟨⟩ t) : enter e s = .ok false t := by
  have hstack : (s1.is || field v 0 2 == 1) = false := by rw [his, hcode]; rfl
  rw [enter_pushes hv (.inr ⟨hcode, hplain⟩), hstack, hcode, bind_of_ok _ (attempt_of_error hpush)]
  dsimp only
  rw [if_neg Bool.false_ne_true, if_neg (fun h => hx h.1), if_neg hx, bind_of_ok _ hserious]
  rfl

/-- What the handler of kernel stack not valid, or of a machine check met there, finds: `s` is the state once its frame is pushed.
After kernel stack not valid FP and KSP are free. -/
structure State.SeriousEntered (s : State) (offset : Nat) (old v : Long) (t : State) : Prop where
  pc : t.pc = v &&& 0xFFFFFFFC
  psl : t.psl = entryPsl old 0 (field old 24 2) (some 31) true
  mem : t.mem = s.mem
  regs : ∀ n : Reg, n ≠ 15 → n ≠ 13 → t.reg n = s.reg n
  rest : offset ≠ 8 → t.reg 13 = s.reg 13 ∧ t.sp = s.sp

theorem enterSerious_ok {offset : Nat} {params : List Long} {old : Long} (hv : readVector offset s = .ok (some v) s1)
    (hcode : field v 0 2 = 1) (hpush : pushHandler true ([e.saved, e.pc] ++ params) (s1.setReg 14 s1.sp.isp) = .ok ⟨⟩ s2) :
    ∃ t, enterSerious offset params e old s = .ok ⟨⟩ t ∧ s2.SeriousEntered offset old v t := by
  unfold enterSerious
  rw [bind_of_ok _ hv]
  dsimp only
  rw [hcode]
  show ∃ t, (attempt (pushHandler true ([e.saved, e.pc] ++ params)) >>= _) (s1.setReg 14 s1.sp.isp) = _ ∧ _
  rw [bind_of_ok _ (attempt_of_ok hpush)]
  have hkeep (n : Reg) (hn : n ≠ 15) : (s2.setReg 15 (v &&& 0xFFFFFFFC)).reg n = s2.reg n := s2.setReg_reg_ne _ (Ne.symm hn)
  by_cases hksp : offset = 8
  · subst hksp
    exact ⟨_, rfl, (State.setReg_reg_ne _ _ (by decide)).trans (s2.setReg_pc _), rfl, rfl, fun n hn hfp => (State.setReg_reg_ne _ _ (Ne.symm hfp)).trans (hkeep n hn),
      fun h => absurd rfl h⟩
  · exact ⟨_, ite_run_neg hksp rfl, s2.setReg_pc _, rfl, rfl, fun n hn _ => hkeep n hn, fun _ => ⟨hkeep 13 (by decide), rfl⟩⟩

end

section
variable (s : State) (e : Entry) (old v : Long)

theorem State.inHandler_pc : (s.inHandler e old v).pc = v &&& 0xFFFFFFFC := s.setReg_pc _
theorem State.inHandler_reg {n : Reg} (hn : n ≠ 15) : (s.inHandler e old v).reg n = s.reg n := s.setReg_reg_ne _ (Ne.symm hn)
theorem State.inHandler_cur : (s.inHandler e old v).cur = 0 := entryPsl_cur old 0 _ _ _ (by decide)
theorem State.inHandler_is : (s.inHandler e old v).is = (old.getLsbD 26 || field v 0 2 == 1) := entryPsl_is _ _ _ _ _
theorem State.inHandler_clear : (s.inHandler e old v).psl &&& 0xF800FFFF = 0 := entryPsl_clear _ _ _ _ _

/-- An interrupt comes to kernel mode from kernel mode. -/
theorem State.inHandler_prv_interrupt {l : Nat} (he : e.ipl = some l) : (s.inHandler e old v).prv = 0 := by
  unfold State.inHandler State.prv
  rw [he]
  exact entryPsl_prv old 0 0 _ _ (by decide)

theorem State.inHandler_prv_exception (he : e.ipl = none) : (s.inHandler e old v).prv = field old 24 2 := by
  unfold State.inHandler State.prv
  rw [he]
  exact entryPsl_prv old 0 _ _ _ (BitVec.isLt _)

theorem State.inHandler_ipl_interrupt {l : Nat} (he : e.ipl = some l) (hl : l < 32) : (s.inHandler e old v).ipl = l := by
  unfold State.inHandler State.ipl
  rw [he]
  exact entryPsl_ipl_some old 0 _ _ hl

theorem State.inHandler_ipl_exception (he : e.ipl = none) :
    (s.inHandler e old v).ipl = if field v 0 2 = 1 then 31 else field old 16 5 := by
  unfold State.inHandler State.ipl
  rw [he]
  dsimp only
  by_cases hcode : field v 0 2 = 1
  · rw [if_pos hcode, if_pos hcode]
    exact entryPsl_ipl_some old 0 _ _ (by decide)
  · rw [if_neg hcode, if_neg hcode]
    exact entryPsl_ipl_none old 0 _ _
end

theorem enterInterrupt_eq {offset ipl : Nat} (s : State) :
    enterInterrupt offset ipl s = enter ⟨offset, [], s.pc, s.psl, some ipl⟩ s := bind_of_ok _ (run_get s)

/-- Settles O8: the vector is read, the stack is taken up, the frame is pushed, and the new PSL is read off field by field. -/
theorem interruptEntry : Obligations.InterruptEntry := by
  intro s s1 s2 s3 offset ipl v hipl hv hcode hs2 hpush
  subst hs2
  refine ⟨_, (enterInterrupt_eq s).trans (enter_ok hv hcode hpush), State.inHandler_pc _ _ _ _,
    State.inHandler_ipl_interrupt _ _ _ _ rfl hipl, State.inHandler_cur _ _ _ _, State.inHandler_prv_interrupt _ _ _ _ rfl,
    State.inHandler_is _ _ _ _, State.inHandler_clear _ _ _ _, rfl, rfl, fun _ => State.inHandler_reg _ _ _ _⟩

section
variable {s t : State} {b : Bool}

theorem discard_ok {α : Type} {x : M α} {a : α} (h : x s = .ok a t) : discard x s = .ok ⟨⟩ t := by
  show EStateM.map _ x s = _
  unfold EStateM.map
  rw [h]

/-- The PSL saved by a fault or abort: free condition codes, and TP only of an abort, R1031, R1034. -/
def savedPsl (x : Exc) (s : State) : Long :=
  putBit (putField s.psl 0 4 ((Config.unpred s.draw).setWidth 32)) 30 (x.abort && s.tp)

theorem putBit_tp (p : Long) : putBit p 30 false = p &&& 0xBFFFFFFF := by
  unfold putBit putField
  rw [show (bitL false <<< 30) &&& fieldMask 30 1 = 0#32 from rfl, BitVec.or_zero]
  rfl

theorem savedPsl_tp (x : Exc) (s : State) : (savedPsl x s).getLsbD 30 = (x.abort && s.tp) := by
  unfold savedPsl putBit
  rw [putField_getLsbD _ _ _ _ _ (by decide), if_pos (by decide)]
  cases x.abort && s.tp <;> rfl

theorem savedPsl_rest (x : Exc) (s : State) : savedPsl x s &&& 0xBFFFFFF0 = s.psl &&& 0xBFFFFFF0 := by
  unfold savedPsl putBit
  rw [putField_and _ _ _ (by decide), putField_and _ _ _ (by decide)]

theorem enterException_ok {x : Exc} {pc : Long} (hx : x.offset ≠ 4 ∨ s.doubleCheck = false)
    (h : enter ⟨x.offset, x.params, pc, savedPsl x s, none⟩ (s.withDraw (s.draw + 1)) = .ok b t) :
    enterException x pc s = .ok ⟨⟩ t := by
  have hsingle : ¬ (x.offset = 0x04 ∧ s.doubleCheck) := by
    rintro ⟨hoffset, hdouble⟩
    rcases hx with hx | hx
    · exact hx hoffset
    · rw [hx] at hdouble
      exact Bool.false_ne_true hdouble
  unfold enterException
  rw [bind_of_ok _ (run_get s), bind_of_ok _ (run_drawBits 32 s), if_neg hsingle]
  exact discard_ok h
end

/-- Settles O9: the run of an entry, and what kernel stack not valid and each kind of exception make of it. -/
theorem exceptionEntry : Obligations.ExceptionEntry := by
  refine ⟨?_, ?_, ?_, ?_, ?_, ?_⟩
  · intro s s1 s2 s3 e v hipl hv hcode hs2 hpush
    subst hs2
    exact ⟨_, enter_ok hv hcode hpush, State.inHandler_pc _ _ _ _, State.inHandler_cur _ _ _ _,
      State.inHandler_prv_exception _ _ _ _ hipl, State.inHandler_ipl_exception _ _ _ _ hipl, State.inHandler_is _ _ _ _,
      State.inHandler_clear _ _ _ _, rfl, rfl, fun _ => State.inHandler_reg _ _ _ _⟩
  · intro s s1 s3 t e v x hv hcode hplain his hpush hx hserious
    refine enter_kernelStackNotValid hv hcode hplain his ?_ hx hserious
    rw [State.onHandlerStack, his]
    exact hpush
  · intro s s1 s2 offset params e old v hv hcode hpush
    obtain ⟨t, ht, hpc, hpsl, hmem, hregs, hrest⟩ := enterSerious_ok hv hcode hpush
    refine ⟨t, ht, hpc, ?_, ?_, ?_, ?_, ?_, hmem, hregs, hrest⟩
    · exact (congrArg (field · 24 2) hpsl).trans (entryPsl_cur old 0 _ _ _ (by decide))
    · exact (congrArg (field · 22 2) hpsl).trans (entryPsl_prv old 0 _ _ _ (BitVec.isLt _))
    · exact (congrArg (field · 16 5) hpsl).trans (entryPsl_ipl_some old 0 _ _ (by decide))
    · exact (congrArg (·.getLsbD 26) hpsl).trans ((entryPsl_is old 0 _ _ _).trans (Bool.or_true _))
    · exact (congrArg (· &&& 0xF800FFFF) hpsl).trans (entryPsl_clear old 0 _ _ _)
  · exact fun s x pc hx => ⟨savedPsl x s, s.draw + 1, savedPsl_rest x s, savedPsl_tp x s, fun b t h => enterException_ok hx h⟩
  · exact fun s t code b h => discard_ok h
  · intro s t b h
    rw [← putBit_tp] at h
    exact discard_ok h

end Sys2Proof.Machine
end

section
/-! Frames pushed into main memory, 60_exceptions.md R1030, 20_memory.md R270: parts of good memory are good, longwords that are
written downwards stand there, the last one lowest. -/
namespace Sys2Proof.Machine

variable {s t : State} {pa n p k : Nat}

/-! ### Parts of good memory -/

theorem State.inCtl_congr (h : p / 8 = pa / 8) (c : Nat) : s.inCtl p c = s.inCtl pa c := by
  have hmul (j : Nat) : 0x10000 * j = 8 * (0x2000 * j) := by omega
  unfold State.inCtl State.ctlRange State.ctlSize
  dsimp only
  rw [decide_eq_decide]
  split <;> omega

theorem State.ctlOf_congr (h : p / 8 = pa / 8) : s.ctlOf p = s.ctlOf pa := by
  have hin : s.inCtl p = s.inCtl pa := funext fun c => State.inCtl_congr h c
  have hturn : s.ctlTurn p = s.ctlTurn pa := by
    funext c
    unfold State.ctlTurn
    rw [h]
  unfold State.ctlOf
  rw [hin, hturn]

/-- Check bits are substituted for whole quadwords. -/
theorem State.forcedAt_congr (h : p / 8 = pa / 8) : s.forcedAt p = s.forcedAt pa := by
  have h32 : p / 32 = pa / 32 := by omega
  have h512 : p / 512 = pa / 512 := by omega
  have h16384 : p / 16384 = pa / 16384 := by omega
  unfold State.forcedAt State.checkMode
  rw [State.ctlOf_congr h, h32, h512, h16384]

theorem State.forcedAt_of_forced (h : s.forced pa n = false) (hlo : pa ≤ p) (hhi : p < pa + n) : s.forcedAt p = false := by
  unfold State.forced at h
  rw [Bool.or_eq_false_iff, List.any_eq_false] at h
  obtain ⟨hlast, hsteps⟩ := h
  by_cases hp : p / 8 = (pa + n - 1) / 8
  · exact (State.forcedAt_congr hp).trans hlast
  · have hstep := hsteps (p / 8 - pa / 8) (List.mem_range.mpr (by omega))
    rw [decide_eq_true (by omega), Bool.true_and, Bool.not_eq_true] at hstep
    exact (State.forcedAt_congr (by omega)).trans hstep

/-- What is plain for a span of bytes is plain for a part of it. -/
theorem State.bad_part (h : s.bad pa n = false) (hlo : pa ≤ p) (hhi : p + k ≤ pa + n) (hk : 0 < k) : s.bad p k = false := by
  obtain ⟨hspoiled, hforced, hinit⟩ := (s.good_iff pa n).mp h
  refine (s.good_iff p k).mpr ⟨?_, ?_, ?_⟩
  · unfold State.spoiled touches at hspoiled ⊢
    rw [List.any_eq_false] at hspoiled ⊢
    intro e he hbad
    refine hspoiled e he ?_
    rw [Bool.and_eq_true, decide_eq_true_eq] at hbad ⊢
    exact ⟨by omega, hbad.2⟩
  · unfold State.forced
    rw [Bool.or_eq_false_iff, List.any_eq_false]
    refine ⟨State.forcedAt_of_forced hforced (by omega) (by omega), fun j _ hbad => ?_⟩
    rw [Bool.and_eq_true, decide_eq_true_eq] at hbad
    rw [State.forcedAt_of_forced hforced (by omega) (by omega)] at hbad
    exact Bool.false_ne_true hbad.2
  · unfold State.initializing at hinit ⊢
    rw [Bool.and_eq_false_iff] at hinit ⊢
    refine hinit.imp_right fun hnone => ?_
    rw [List.any_eq_false] at hnone ⊢
    intro j hj
    have hj := List.mem_range.mp hj
    rw [show p + j = pa + (p + j - pa) by omega]
    exact hnone (p + j - pa) (List.mem_range.mpr (by omega))

/-! ### Writes to good memory -/

/-- `n` bytes of main memory from `pa` on that take a write whole, no cycle of another agent being to come between. -/
structure State.Writable (s : State) (pa n : Nat) : Prop where
  memOk : s.MemOk
  idle : s.during = []
  ram : ∀ k < n, place s (pa + k) = .ram
  good : s.bad pa n = false

theorem State.Writable.part (h : s.Writable pa n) (hlo : pa ≤ p) (hhi : p + k ≤ pa + n) (hk : 0 < k) : s.Writable p k where
  memOk := h.memOk
  idle := h.idle
  ram j hj := by rw [show p + j = pa + (p + j - pa) by omega]; exact h.ram _ (by omega)
  good := State.bad_part h.good hlo hhi hk

/-- A write to good memory leaves good what was good. -/
theorem State.Writable.storeRam (h : s.Writable pa n) (v : Octa) (hp : s.Writable p k) : (s.storeRam pa n v).Writable p k where
  memOk := s.storeRam_wf pa n v h.memOk
  idle := h.idle
  ram j hj := (s.storeRam_place pa n v _).trans (hp.ram j hj)
  good := by
    obtain ⟨-, -, hinit⟩ := (s.good_iff pa n).mp h.good
    exact State.bad_of_sublist (s := s) rfl (s.storeRam_csr1 pa n v)
      ((s.storeRam_v780 pa n v).trans (by rw [State.answered_of_initialized hinit])) (s.storeRam_badMem_sublist pa n v) hp.good

theorem State.Writable.physWrite (h : s.Writable pa n) (hn : 0 < n) (u : Use) (v : Octa) :
    physWrite u pa n v s = .ok ⟨⟩ (s.storeRam pa n v) :=
  physWrite_ram u pa n v s h.idle (h.ram 0 hn) ((s.good_iff pa n).mp h.good).2.1

/-! ### Longwords written downwards -/

/-- The longwords stand from `pa` on, the first of the list highest. -/
def State.Holds (t : State) (pa : Nat) (ws : List Long) : Prop :=
  ∀ k < ws.length, leNat (ramBytes t.mem (pa + 4 * k) 4) = (ws.getD (ws.length - 1 - k) 0).toNat

/-- Another longword is in order: those above it stand, and it stands below them. -/
theorem State.Holds.cons {ws : List Long} {x : Long} (h : t.Holds pa ws)
    (hx : leNat (ramBytes t.mem (pa + 4 * ws.length) 4) = x.toNat) : t.Holds pa (x :: ws) := by
  intro k hk
  rw [List.length_cons] at hk ⊢
  obtain hlt | rfl : k < ws.length ∨ k = ws.length := by omega
  · rw [h k hlt, show ws.length + 1 - 1 - k = ws.length - 1 - k + 1 by omega, List.getD_cons_succ]
  · rw [hx, show ws.length + 1 - 1 - ws.length = 0 by omega, List.getD_cons_zero]

/-- A longword stored stands there as long as its bytes stay. -/
theorem State.Writable.longword {x : Long} (h : s.Writable pa 4)
    (hkept : ∀ a, pa ≤ a → a < pa + 4 → t.byte a = (s.storeRam pa 4 (x.setWidth 128)).byte a) :
    leNat (ramBytes t.mem pa 4) = x.toNat := by
  rw [ramBytes_congr (m' := (s.storeRam pa 4 (x.setWidth 128)).mem) fun a hlo hhi => hkept a hlo hhi,
    s.storeRam_good pa 4 _ h.good, ramBytes_ramWrite s.mem pa 4 _ h.memOk, BitVec.toNat_setWidth_of_le (by decide)]
  exact Nat.mod_eq_of_lt x.isLt

theorem writeLongsDown_ok {sp : Span} {ws : List Long} (hfit : 4 * ws.length ≤ sp.k)
    (h : ws ≠ [] → s.Writable sp.a0 (4 * ws.length)) :
    ∃ t, writeLongsDown sp ws s = .ok ⟨⟩ t ∧ t.r = s.r ∧ t.psl = s.psl ∧ t.Holds sp.a0 ws
      ∧ ∀ a, ¬ (sp.a0 ≤ a ∧ a < sp.a0 + 4 * ws.length) → t.byte a = s.byte a := by
  induction ws generalizing s with
  | nil => exact ⟨s, rfl, rfl, rfl, fun k hk => absurd hk (Nat.not_lt_zero k), fun _ _ => rfl⟩
  | cons x rest ih =>
    have hall := h (List.cons_ne_nil x rest)
    rw [List.length_cons] at hfit hall
    have hx : s.Writable (sp.a0 + 4 * rest.length) 4 := hall.part (by omega) (by omega) (by decide)
    have hwrite : writeSpan .other (sp.sub (4 * rest.length) 4) 4 (x.setWidth 128) s =
        .ok ⟨⟩ (s.storeRam (sp.a0 + 4 * rest.length) 4 (x.setWidth 128)) := by
      unfold writeSpan Span.sub
      rw [if_pos (by omega : 4 * rest.length + 4 ≤ sp.k)]
      dsimp only
      rw [if_pos (Nat.le_refl 4)]
      exact hx.physWrite (by decide) .other _
    have hrest (hne : rest ≠ []) :
        (s.storeRam (sp.a0 + 4 * rest.length) 4 (x.setWidth 128)).Writable sp.a0 (4 * rest.length) :=
      hx.storeRam _ (hall.part (Nat.le_refl _) (by omega) (Nat.mul_pos (by decide) (List.length_pos_of_ne_nil hne)))
    obtain ⟨t, hrun, hr, hpsl, hholds, hbytes⟩ := ih (by omega) hrest
    refine ⟨t, (bind_of_ok _ hwrite).trans hrun, hr, hpsl,
      hholds.cons (hx.longword fun a hlo _ => hbytes a (by omega)), fun a ha => ?_⟩
    rw [List.length_cons] at ha
    exact (hbytes a (by omega)).trans (s.storeRam_outside _ 4 _ a hall.memOk (by omega))

/-- Settles O10: the frame is one span of good memory, its longwords are written downwards, and SP is set to the lowest. -/
theorem framePushedOnStack : Obligations.FramePushedOnStack := by
  unfold Obligations.FramePushedOnStack
  intro s mode ws hoff hs hpos hfit hidle hram hgood
  have hspan := (translateSpan_off (s.reg 14 - BitVec.ofNat 32 (4 * ws.length)) (4 * ws.length) true mode s hoff).trans
    (congrArg (EStateM.Result.ok · s) (if_pos hfit))
  obtain ⟨t, hrun, hr, hpsl, hholds, hbytes⟩ := writeLongsDown_ok (s := s) (ws := ws)
    (sp := ⟨(s.reg 14 - BitVec.ofNat 32 (4 * ws.length)).toNat % 2 ^ s.cfg.paw, 4 * ws.length, 0⟩) (Nat.le_refl _)
    fun _ => ⟨hs, hidle, hram, hgood⟩
  refine ⟨t.setReg 14 (s.reg 14 - BitVec.ofNat 32 (4 * ws.length)), ?_, State.setReg_reg_same _ _ _, fun n hn => ?_, hpsl, ?_, ?_⟩
  · unfold pushFrame
    rw [bind_of_ok _ (run_getR 14 s), bind_of_ok _ hspan, bind_of_ok _ hrun, run_setR]
  · rw [State.setReg_reg_ne _ _ hn.symm]
    exact congrArg (fun r : Vector Long 16 => r[n]) hr
  · rw [State.setReg_reg_same]
    exact hholds
  · rw [State.setReg_reg_same]
    exact hbytes

end Sys2Proof.Machine
end

section
/-! The bytes of a destination string, 46_string.md R902: checking them, storing them to good main memory, and that a store to main
memory completes. -/
namespace Sys2Proof.Machine

variable {s t : State} {pa p n : Nat} {α β : Type}

/-! ### Checked addresses -/

/-- What a write may change while no cycle of another agent comes: the registers and the PSL stay. -/
def State.Wrote (s t : State) : Prop :=
  t = { s with
    mem := t.mem, badMem := t.badMem, v750 := t.v750, v780 := t.v780, mbas := t.mbas, sent := t.sent, draw := t.draw, pend := t.pend }

theorem State.Wrote.refl (s : State) : s.Wrote s := rfl

theorem State.Wrote.during (h : s.Wrote t) : t.during = s.during := by rw [h]

theorem wrote_busClosed (hidle : s.during = []) : BusClosed s.Wrote where
  devices t _ _ _ _ _ h := by unfold State.Wrote at h ⊢; rw [h]
  memory t _ _ _ h := by unfold State.Wrote at h ⊢; rw [h]
  bus t _ h := by unfold State.Wrote at h ⊢; rw [h]
  moves held := keeps_meanwhile_idle held fun _ h => h.during.trans hidle

/-- What no bus cycle changes, whatever other agents do meanwhile. -/
theorem status_busClosed (s : State) : BusClosed fun t => t.r = s.r ∧ t.psl = s.psl :=
  StoreClosed.toBus ⟨⟨fun _ _ _ _ _ _ h => h⟩, fun _ _ _ _ h => h, fun _ _ h => h⟩ fun _ _ _ h => h

theorem keeps_destByte {P : State → Prop} (va : Long) (h : BusClosed P) : Keeps P (destByte va) :=
  .bind (keeps_memDest va 1 h) fun _ => .pure _

theorem keeps_destBytes {P : State → Prop} (va : Long) (n : Nat) (h : BusClosed P) : Keeps P (destBytes va n) := by
  induction n generalizing va with
  | zero => exact .pure _
  | succ n ih => exact .bind (keeps_destByte va h) fun _ => .bind (ih (va + 1)) fun _ => .pure _

theorem State.WriteFrame.of_wrote (h : s.during = [] → s.Wrote t) (hr : t.r = s.r) (hpsl : t.psl = s.psl) : s.WriteFrame t [] := by
  intro hidle
  refine ⟨?_, fun k _ _ => congrArg (fun r : Vector Long 16 => r[k]) hr, congrArg (· &&& 0xFFFFFFF0) hpsl⟩
  rw [h hidle]

theorem destBytes_length {va : Long} {dest : List Nat} (h : destBytes va n s = .ok dest t) : dest.length = n := by
  induction n generalizing va s dest with
  | zero => cases h; rfl
  | succ n ih =>
    obtain ⟨pa, s1, -, h⟩ := bind_ok h
    obtain ⟨rest, s2, hrest, h⟩ := bind_ok h
    cases h
    exact congrArg (· + 1) (ih hrest)

theorem destByte_off (va : Long) (h : s.mm.mapen = false) : destByte va s = .ok (va.toNat % 2 ^ s.cfg.paw) s := by
  have hpage : 1 ≤ leftInPage va := by
    have hlt : byteInPage va < 512 := BitVec.isLt _
    unfold leftInPage
    omega
  unfold destByte
  rw [bind_of_ok _ (memDest_off va 1 s h hpage)]
  rfl

/-- Consecutive bytes: the first one and those after it. -/
theorem add_long_succ (va : Long) (k : Nat) : va + 1 + long k = va + long (k + 1) := by
  unfold long
  rw [BitVec.add_assoc, show (1 : Long) = BitVec.ofNat 32 1 from rfl, ← BitVec.ofNat_add, Nat.add_comm]

theorem add_long_zero (va : Long) : va + long 0 = va := BitVec.add_zero va

theorem destBytes_off (va : Long) (n : Nat) (h : s.mm.mapen = false) :
    destBytes va n s = .ok ((List.range n).map fun k => (va + long k).toNat % 2 ^ s.cfg.paw) s := by
  induction n generalizing va with
  | zero => rfl
  | succ n ih =>
    unfold destBytes
    rw [bind_of_ok _ (destByte_off va h), bind_of_ok _ (ih (va + 1)), run_pure, List.range_succ_eq_map, List.map_cons, List.map_map,
      add_long_zero]
    simp only [add_long_succ]
    rfl

/-! ### One byte of good memory -/

/-- The byte shares no check bits with an error. -/
theorem State.untouched_of_good (h : s.bad pa 1 = false) (h750 : s.is750 = true) {e : Nat × BitVec 1} (he : e ∈ s.badMem) :
    touches 4 pa 1 e.1 = false := by
  obtain ⟨hspoiled, hforced, -⟩ := (s.good_iff pa 1).mp h
  have hunit : s.unit = 4 := by unfold State.unit; rw [if_pos h750]
  have hnone : s.forcedAt pa = false := State.forcedAt_of_forced hforced (Nat.le_refl _) (by omega)
  unfold State.spoiled at hspoiled
  rw [List.any_eq_false, hunit] at hspoiled
  unfold State.forcedAt at hnone
  rw [if_pos h750] at hnone
  refine Bool.eq_false_iff.mpr fun htouch => hspoiled e he ?_
  have hpage : 4 * e.1 / 512 = pa / 512 := by
    unfold touches at htouch
    rw [decide_eq_true_eq] at htouch
    omega
  have hmode : s.checkMode (4 * e.1) = false := by
    rw [← hnone]
    unfold State.checkMode
    rw [hpage]
  rw [htouch, hmode]
  rfl

/-- A store of one byte to good memory changes that byte alone. -/
theorem State.storeRam_byte_eq (h : s.goodRam pa 1) (v : Octa) :
    s.storeRam pa 1 v = { s with mem := ramWrite s.mem pa 1 v } := by
  obtain ⟨-, hbad, hecc, -⟩ := h
  obtain ⟨-, -, hinit⟩ := (s.good_iff pa 1).mp hbad
  have hkeep : (if s.is750 then s.badMem.filter fun e => !(covers 4 pa 1 e.1 || touches 4 pa 1 e.1 && s.checksAside (4 * e.1))
      else s.badMem) = s.badMem := by
    split
    next h750 =>
      refine List.filter_eq_self.mpr fun e he => ?_
      have hcovers : covers 4 pa 1 e.1 = false := by unfold covers; exact decide_eq_false (by omega)
      rw [hcovers, State.untouched_of_good hbad h750 he]
      rfl
    · rfl
  have hlong : coversLongword pa 1 = false := by unfold coversLongword; exact decide_eq_false (by omega)
  have hcopy : (s.v750.copyCheck false) = s.v750 := by unfold V750.copyCheck; rw [Bool.or_false]
  unfold State.storeRam
  rw [hkeep, hlong, hecc, Bool.and_false, if_neg Bool.false_ne_true, hcopy, hbad,
    if_neg Bool.false_ne_true, State.answered_of_initialized hinit]

theorem State.byte_ramWrite_one (h : s.MemOk) (b : Byte) (a : Nat) :
    Sparse.get (ramWrite s.mem pa 1 (b.setWidth 128)) a = if pa == a then b else s.byte a := by
  rw [get_ramWrite s.mem pa 1 _ a h]
  by_cases ha : pa = a
  · subst ha
    rw [if_pos (by omega), if_pos (beq_self_eq_true pa), Nat.sub_self]
    exact BitVec.setWidth_setWidth_of_le b (by decide)
  · rw [if_neg (by omega), if_neg (by simpa using ha)]
    rfl

theorem physWrite_goodByte (h : s.goodRam pa 1) (b : Byte) :
    physWrite .other pa 1 (b.setWidth 128) s = .ok ⟨⟩ { s with mem := ramWrite s.mem pa 1 (b.setWidth 128) } := by
  rw [← State.storeRam_byte_eq h]
  obtain ⟨hram, hbad, -, hidle⟩ := h
  exact physWrite_ram .other pa 1 _ s hidle hram ((s.good_iff pa 1).mp hbad).2.1

/-- The last byte stored at an address stays there. -/
theorem find?_reverse_cons (out : List (Nat × Byte)) (p : Nat × Byte) (a : Nat) (b : Byte) :
    (((p :: out).reverse.find? fun q => q.1 == a).map Prod.snd).getD b =
      ((out.reverse.find? fun q => q.1 == a).map Prod.snd).getD (if p.1 == a then p.2 else b) := by
  rw [List.reverse_cons, List.find?_append]
  cases out.reverse.find? fun q => q.1 == a with
  | some q => rfl
  | none =>
    rw [List.find?_singleton]
    split <;> rfl

theorem putBytes_good {out : List (Nat × Byte)} (hs : s.MemOk) (hgood : ∀ p ∈ out, s.goodRam p.1 1)
    (h : putBytes out s = .ok ⟨⟩ t) :
    t = { s with mem := t.mem } ∧ t.MemOk
      ∧ ∀ a, t.byte a = ((out.reverse.find? fun p => p.1 == a).map Prod.snd).getD (s.byte a) := by
  induction out generalizing s with
  | nil => cases h; exact ⟨rfl, hs, fun _ => rfl⟩
  | cons p out ih =>
    have hp : s.goodRam p.1 1 := hgood p List.mem_cons_self
    let u : State := { s with mem := ramWrite s.mem p.1 1 (p.2.setWidth 128) }
    have hstore : s.storeRam p.1 1 (p.2.setWidth 128) = u := State.storeRam_byte_eq hp _
    have hrest : putBytes out u = .ok ⟨⟩ t := (bind_of_ok _ (physWrite_goodByte hp p.2)).symm.trans h
    have hgood' (q : Nat × Byte) (hq : q ∈ out) : u.goodRam q.1 1 := hstore ▸ hp.storeRam _ (hgood q (List.mem_cons_of_mem _ hq))
    obtain ⟨hframe, hok, hbytes⟩ := ih (s := u) (ramWrite_wf _ _ _ _ hs) hgood' hrest
    refine ⟨hframe, hok, fun a => ?_⟩
    rw [hbytes, find?_reverse_cons]
    exact congrArg _ (State.byte_ramWrite_one hs p.2 a)

/-! ### A store to main memory completes, whatever its check bits -/

/-- The same addresses are main memory, and other agents have as much to do. -/
structure State.SameMap (s t : State) : Prop where
  cfg : t.cfg = s.cfg
  during : t.during = s.during
  length : t.v780.mems.length = s.v780.mems.length
  ctl : ∀ k, (t.memCtl? k).start = (s.memCtl? k).start ∧ (t.memCtl? k).interleave = (s.memCtl? k).interleave

theorem State.SameMap.refl (s : State) : s.SameMap s := ⟨rfl, rfl, rfl, fun _ => ⟨rfl, rfl⟩⟩

theorem State.SameMap.trans {u : State} (h : s.SameMap t) (k : t.SameMap u) : s.SameMap u :=
  ⟨k.cfg.trans h.cfg, k.during.trans h.during, k.length.trans h.length,
    fun j => ⟨(k.ctl j).1.trans (h.ctl j).1, (k.ctl j).2.trans (h.ctl j).2⟩⟩

theorem State.SameMap.ctlOf (h : s.SameMap t) (a : Nat) : t.ctlOf a = s.ctlOf a := by
  have hin : t.inCtl a = s.inCtl a := by
    funext k
    obtain ⟨hstart, hinterleave⟩ := h.ctl k
    unfold State.inCtl State.ctlRange State.ctlSize
    dsimp only
    rw [hstart, hinterleave, h.cfg]
  have hturn : t.ctlTurn a = s.ctlTurn a := by
    funext k
    unfold State.ctlTurn State.ctlTr State.nexusTr
    rw [(h.ctl k).2, h.cfg]
  unfold State.ctlOf
  rw [hin, hturn, h.length]

theorem State.SameMap.hasRam (h : s.SameMap t) (a : Nat) : t.hasRam a = s.hasRam a := by
  have hlength := h.length
  unfold State.hasRam
  rw [h.cfg, h.ctlOf a]
  cases hm : s.v780.mems with
  | nil => rw [List.eq_nil_of_length_eq_zero (hlength.trans (by rw [hm]; rfl))]
  | cons c rest =>
    cases hn : t.v780.mems with
    | nil => rw [hm, hn] at hlength; exact nomatch hlength
    | cons c' rest' => rfl

theorem State.SameMap.place (h : s.SameMap t) (a : Nat) : place t a = place s a := by
  unfold Machine.place place750 place780
  rw [h.cfg, h.hasRam a]

/-- The action never stops, and leaves the address map as it is. -/
def Completes (x : M α) : Prop := ∀ s, ∃ a t, x s = .ok a t ∧ s.SameMap t

theorem Completes.pure (a : α) : Completes (Pure.pure a : M α) := fun s => ⟨a, s, rfl, .refl s⟩

theorem Completes.get {f : State → M β} (hf : ∀ s, Completes (f s)) : Completes (MonadState.get >>= f) := fun s => hf s s

theorem Completes.modify {f : State → State} (hf : ∀ s : State, s.SameMap (f s)) : Completes (modify f : M PUnit) :=
  fun s => ⟨⟨⟩, f s, rfl, hf s⟩

theorem Completes.bind {x : M α} {f : α → M β} (hx : Completes x) (hf : ∀ a, Completes (f a)) : Completes (x >>= f) := by
  intro s
  obtain ⟨a, t, hrun, hst⟩ := hx s
  obtain ⟨b, u, hrest, htu⟩ := hf a t
  exact ⟨b, u, (bind_of_ok _ hrun).trans hrest, hst.trans htu⟩

theorem Completes.ite {c : Prop} [Decidable c] {x y : M α} (hx : Completes x) (hy : Completes y) : Completes (if c then x else y) := by
  split
  · exact hx
  · exact hy

theorem completes_drawBits (n : Nat) : Completes (drawBits n) :=
  fun s => ⟨_, _, run_drawBits n s, ⟨rfl, rfl, rfl, fun _ => ⟨rfl, rfl⟩⟩⟩

theorem updAt_eq_modify (l : List α) (k : Nat) (f : α → α) : updAt l k f = l.modify k f := by
  induction l generalizing k with
  | nil => cases k <;> rfl
  | cons x l ih =>
    cases k with
    | zero => rfl
    | succ k => exact congrArg (x :: ·) (ih k)

theorem MemCtl.logged_map (c : MemCtl) (address x : Long) :
    (c.logged address x).start = c.start ∧ (c.logged address x).interleave = c.interleave := by
  unfold MemCtl.logged
  split <;> exact ⟨rfl, rfl⟩

theorem completes_modMemCtl (k : Nat) {f : MemCtl → MemCtl} (hf : ∀ c, (f c).start = c.start ∧ (f c).interleave = c.interleave) :
    Completes (modMemCtl k f) := by
  refine .modify fun s => ⟨rfl, rfl, ?_, fun j => ?_⟩
  · exact (congrArg List.length (updAt_eq_modify _ k f)).trans (List.length_modify _ _ _)
  · unfold State.memCtl?
    dsimp only
    rw [updAt_eq_modify, List.getD_eq_getElem?_getD, List.getD_eq_getElem?_getD, List.getElem?_modify]
    cases s.v780.mems[j]? with
    | none => exact ⟨rfl, rfl⟩
    | some c =>
      rw [Option.map_eq_map, Option.map_some, Option.getD_some, Option.getD_some]
      split
      · exact hf c
      · exact ⟨rfl, rfl⟩

theorem completes_modV750 (f : V750 → V750) : Completes (modV750 f) :=
  .modify fun _ => ⟨rfl, rfl, rfl, fun _ => ⟨rfl, rfl⟩⟩

theorem completes_logUncorrectable (pa : Nat) : Completes (logUncorrectable pa) := by
  refine .get fun s => .bind (completes_drawBits 32) fun x => .ite (.ite (.pure _) (completes_modV750 _)) ?_
  split
  · exact .pure _
  · exact completes_modMemCtl _ fun c => c.logged_map _ _

theorem completes_logCorrected (pa : Nat) : Completes (logCorrected pa) :=
  .get fun _ => .ite (.bind (completes_drawBits 32) fun _ => completes_modV750 _) (completes_logUncorrectable pa)

theorem completes_forcedCycle (pa n : Nat) : Completes (forcedCycle pa n) := by
  refine .get fun s => .ite (.pure _) (.bind (completes_drawBits 2) fun x => ?_)
  split
  · exact .pure _
  · exact .bind (completes_logCorrected pa) fun _ => .pure _
  · exact .bind (completes_logUncorrectable pa) fun _ => .pure _

theorem completes_writeTaken (pa n : Nat) : Completes (writeTaken pa n) :=
  .get fun _ => .ite (.ite (.pure _) (.bind (completes_drawBits 2) fun _ => .pure _)) (.bind (completes_forcedCycle pa n) fun _ => .pure _)

theorem completes_storeRam (pa n : Nat) (v : Octa) : Completes (modify fun s => s.storeRam pa n v) :=
  .modify fun s => ⟨rfl, rfl, s.answered_length pa n, s.answered_memCtl pa n⟩

theorem completes_storeParts (l : List (Nat × Nat)) (v : Octa) : Completes (storeParts l v) := by
  induction l generalizing v with
  | nil => exact .pure _
  | cons p rest ih =>
    exact .bind (completes_writeTaken p.1 p.2) fun _ => .ite (.bind (completes_storeRam p.1 p.2 v) fun _ => ih _) (ih _)

theorem completes_storeAt (pa n : Nat) (v : Octa) : Completes (storeAt pa n v) :=
  .get fun _ => .ite (completes_storeParts _ _) (completes_storeRam pa n v)

theorem physWrite_completes (hidle : s.during = []) (h : place s pa = .ram) (v : Octa) :
    ∃ t, physWrite .other pa n v s = .ok ⟨⟩ t ∧ s.SameMap t := by
  obtain ⟨⟨⟩, t, hrun, hmap⟩ := completes_storeAt pa n v s
  refine ⟨t, ?_, hmap⟩
  rw [physWrite_idle .other pa n v s hidle]
  unfold physWriteWhole
  rw [bind_of_ok _ (run_get s), splits_ram s pa n h, if_neg Bool.false_ne_true]
  unfold physWritePart
  rw [bind_of_ok _ (run_get s), h]
  exact hrun

theorem putBytes_completes {out : List (Nat × Byte)} (hidle : s.during = []) (h : ∀ p ∈ out, place s p.1 = .ram) :
    ∃ t, putBytes out s = .ok ⟨⟩ t := by
  induction out generalizing s with
  | nil => exact ⟨s, rfl⟩
  | cons p out ih =>
    obtain ⟨u, hwrite, hmap⟩ := physWrite_completes (n := 1) hidle (h p List.mem_cons_self) (p.2.setWidth 128)
    obtain ⟨t, hrest⟩ := ih (hmap.during.trans hidle) fun q hq => (hmap.place q.1).trans (h q (List.mem_cons_of_mem _ hq))
    exact ⟨t, (bind_of_ok _ hwrite).trans hrest⟩

/-- Settles O53: checks write no register and, with mapping off, nothing; a byte stored to good memory changes that byte alone; a
store to main memory never stops. -/
theorem stringBytesAreStoredInOrder : Obligations.StringBytesAreStoredInOrder := by
  unfold Obligations.StringBytesAreStoredInOrder
  refine ⟨fun va n s s' dest h => ?_, fun out s s' => putBytes_good, fun out s => putBytes_completes⟩
  obtain ⟨hr, hpsl⟩ := (keeps_destBytes va n (status_busClosed s)).of_ok h ⟨rfl, rfl⟩
  refine ⟨destBytes_length h, .of_wrote (fun hidle => (keeps_destBytes va n (wrote_busClosed hidle)).of_ok h (.refl s)) hr hpsl, hr, hpsl,
    fun hoff => ?_⟩
  rw [destBytes_off va n hoff] at h
  cases h
  exact ⟨rfl, rfl⟩

end Sys2Proof.Machine
end

section
/-! Reading strings that show their bytes, and the character string moves, 46_string.md R902 to R908. -/
namespace Sys2Proof.Machine

/-! ### Strings that can be read -/

section
variable {s t : State} {va tbl : Long} {b : Byte} {bs : List Byte} {tr : Byte → Byte}

theorem ccBits_getLsbD (n z v c : Bool) (i : Nat) (hi : i < 4) : (ccBits n z v c).getLsbD i = [c, v, z, n].getD i false := by
  revert n z v c
  revert i
  decide

/-- New condition codes replace the old ones. -/
theorem State.withCC_withCC (s : State) (n z v c n' z' v' c' : Bool) :
    (s.withCC n z v c).withCC n' z' v' c' = s.withCC n' z' v' c' := by
  have hpsl : putField (putField s.psl 0 4 (ccBits n z v c)) 0 4 (ccBits n' z' v' c') = putField s.psl 0 4 (ccBits n' z' v' c') := by
    refine BitVec.eq_of_getLsbD_eq fun i hi => ?_
    rw [putField_getLsbD _ _ _ _ _ hi]
    split
    next h => rw [putField_getLsbD _ _ _ _ _ hi, if_pos h]
    next h => rw [putField_getLsbD _ _ _ _ _ hi, if_neg h, putField_getLsbD _ _ _ _ _ hi, if_neg h]
  exact congrArg (fun p => { s with psl := p }) hpsl

theorem State.withCC_self (s : State) : s.withCC s.ccN s.ccZ s.ccV s.ccC = s := by
  have hpsl : putField s.psl 0 4 (ccBits s.ccN s.ccZ s.ccV s.ccC) = s.psl := by
    refine BitVec.eq_of_getLsbD_eq fun i hi => ?_
    rw [putField_getLsbD _ _ _ _ _ hi]
    split
    next h =>
      rw [ccBits_getLsbD _ _ _ _ _ (by omega)]
      match i, h with
      | 0, _ | 1, _ | 2, _ | 3, _ => rfl
    · rfl
  exact congrArg (fun p => { s with psl := p }) hpsl

theorem State.shows.withCC (h : s.shows va bs) (n z v c : Bool) : (s.withCC n z v c).shows va bs := by
  intro k b hk n' z' v' c'
  rw [s.withCC_withCC]
  exact h k b hk n' z' v' c'

theorem State.shows.readAt (h : s.shows va bs) {k : Nat} (hk : bs[k]? = some b) : readByte (va + long k) s = .ok b s := by
  have hread := h k b hk s.ccN s.ccZ s.ccV s.ccC
  rwa [s.withCC_self] at hread

theorem State.shows.head (h : s.shows va (b :: bs)) : readByte va s = .ok b s := by
  have hread := h.readAt (k := 0) rfl
  rwa [add_long_zero] at hread

theorem State.shows.tail (h : s.shows va (b :: bs)) : s.shows (va + 1) bs := by
  intro k x hk
  rw [add_long_succ]
  exact h (k + 1) x hk

theorem State.shows.readBytes (h : s.shows va bs) : readBytes va bs.length s = .ok bs s := by
  induction bs generalizing va with
  | nil => rfl
  | cons b bs ih => exact bind_run h.head <| bind_run (ih h.tail) rfl

theorem State.shows.readBytes_of (h : s.shows va bs) {n : Nat} (hn : bs.length = n) : Machine.readBytes va n s = .ok bs s :=
  hn ▸ h.readBytes

/-- The table shows the translations of these bytes. -/
def State.translates (s : State) (tbl : Long) (tr : Byte → Byte) (bs : List Byte) : Prop :=
  ∀ x ∈ bs, s.shows (tbl + x.setWidth 32) [tr x]

theorem State.translates.head (h : s.translates tbl tr (b :: bs)) : translateByte tbl b s = .ok (tr b) s :=
  (h b List.mem_cons_self).head

theorem State.translates.tail (h : s.translates tbl tr (b :: bs)) : s.translates tbl tr bs :=
  fun x hx => h x (List.mem_cons_of_mem _ hx)

theorem translateBytes_ok (h : s.shows va bs) (htr : s.translates tbl tr bs) :
    translateBytes tbl va bs.length s = .ok (bs.map tr) s := by
  induction bs generalizing va with
  | nil => rfl
  | cons b bs ih => exact bind_run h.head <| bind_run htr.head <| bind_run (ih h.tail htr.tail) rfl

/-! ### R0, R1 and so on -/

theorem run_setRegs_from (k : Nat) (vs : List Long) (s : State) :
    setRegs k vs s = .ok ⟨⟩ ((vs.zipIdx k).foldl (fun t p => t.setReg (Fin.ofNat 16 p.2) p.1) s) := by
  induction vs generalizing k s with
  | nil => rfl
  | cons v vs ih => exact bind_run (run_setR _ v s) (ih (k + 1) _)

theorem run_setRegs (vs : List Long) (s : State) : setRegs 0 vs s = .ok ⟨⟩ (s.withRegs vs) := run_setRegs_from 0 vs s

/-- The end of a string instruction: its registers, then its condition codes. -/
theorem setRegs_setCC (vs : List Long) (n z v c : Bool) (s : State) :
    (setRegs 0 vs >>= fun _ => setCC n z v c >>= fun _ => done) s = .ok none ((s.withRegs vs).withCC n z v c) :=
  bind_run (run_setRegs vs s) rfl

/-! ### MOVTUC -/

/-- The loop of MOVTUC stops at the first byte that is translated to the escape. -/
theorem translateUntil_ok {x : Byte} {a d : Long} {i n : Nat} (hoff : s.mm.mapen = false) (hi : i ≤ n)
    (hlen : bs.length = min n (i + 1)) (h : s.shows a bs) (htr : s.translates tbl tr bs)
    (hgo : ∀ j < i, ∀ y, bs[j]? = some y → tr y ≠ x) (hstop : ∀ y, bs[i]? = some y → tr y = x) :
    translateUntil tbl x a d n s =
      .ok ((bs.take i).zipIdx.map fun p => ((d + long p.2).toNat % 2 ^ s.cfg.paw, tr p.1), decide (i < n)) s := by
  induction n generalizing i bs a d with
  | zero =>
    obtain rfl : i = 0 := by omega
    rfl
  | succ n ih =>
    cases bs with
    | nil => rw [List.length_nil] at hlen; omega
    | cons y bs =>
      refine bind_run h.head <| bind_run htr.head ?_
      cases i with
      | zero =>
        rw [if_pos (hstop y rfl), decide_eq_true (Nat.succ_pos n)]
        rfl
      | succ i =>
        have hrest := ih (d := d + 1) (by omega) (by rw [List.length_cons] at hlen; omega) h.tail htr.tail
          (fun j hj z hz => hgo (j + 1) (by omega) z hz) fun z hz => hstop z hz
        rw [if_neg (hgo 0 (Nat.succ_pos i) y rfl)]
        refine bind_run (destByte_off d hoff) <| bind_run hrest ?_
        rw [List.take_succ_cons, List.zipIdx_cons, List.zipIdx_succ, List.map_cons, List.map_map, add_long_zero]
        simp only [add_long_succ, Function.comp_def, Nat.add_lt_add_iff_right]
        rfl
end

/-- Settles O51: everything is read before anything is stored. -/
theorem stringMoveResults : Obligations.StringMoveResults := by
  unfold Obligations.StringMoveResults
  refine ⟨?_, ?_, ?_, ?_, ?_⟩
  · intro len srcaddr dstaddr s s1 s2 s3 s4 s5 n a b bs dest hready hlen hsrc hdst hbs hshows hdest hput
    exact execute_ready_next hready <| bind_run hlen <| bind_run hsrc <| bind_run hdst <|
      bind_run (hshows.readBytes_of hbs) <| bind_run hdest <| bind_run hput <| setRegs_setCC _ _ _ _ _ _
  · intro srclen srcaddr fill dstlen dstaddr s s1 s2 s3 s4 s5 s6 s7 n m f a b bs dest hready hn hsrc hf hm hdst hbs hshows hdest hput
    rw [hbs, show n.toNat - m.toNat = n.toNat - min n.toNat m.toNat by omega]
    rw [show m.toNat - n.toNat = m.toNat - min n.toNat m.toNat by omega] at hput
    exact execute_ready_next hready <| bind_run hn <| bind_run hsrc <| bind_run hf <| bind_run hm <| bind_run hdst <|
      bind_run (hshows.readBytes_of hbs) <| bind_run hdest <| bind_run hput <| setRegs_setCC _ _ _ _ _ _
  · intro srclen srcaddr fill tbladdr dstlen dstaddr s s1 s2 s3 s4 s5 s6 s7 s8 n m f a b t bs tr dest hready hn hsrc hf htbl hm hdst
      hbs hshows htr hapart hdest hput
    rw [hbs, show n.toNat - m.toNat = n.toNat - min n.toNat m.toNat by omega]
    rw [show m.toNat - n.toNat = m.toNat - min n.toNat m.toNat by omega] at hput
    have hbytes := translateBytes_ok hshows htr
    rw [hbs] at hbytes
    refine execute_ready_next hready <| bind_run hn <| bind_run hsrc <| bind_run hf <| bind_run htbl <| bind_run hm <|
      bind_run hdst <| bind_run hbytes <| bind_run hdest ?_
    rw [hapart, if_neg Bool.false_ne_true]
    exact bind_run (run_pure _ _) <| bind_run hput <| setRegs_setCC _ _ _ _ _ _
  · intro srclen srcaddr esc tbladdr dstlen dstaddr s s1 s2 s3 s4 s5 s6 s7 s8 n m x a b t out met hready hn hsrc hesc htbl hm hdst
      hsrcApart htblApart hloop hput
    refine execute_ready_next hready <| bind_run hn <| bind_run hsrc <| bind_run hesc <| bind_run htbl <| bind_run hm <|
      bind_run hdst ?_
    rw [hsrcApart, htblApart, Bool.or_false, if_neg Bool.false_ne_true]
    exact bind_run hloop <| bind_run hput <| setRegs_setCC _ _ _ _ _ _
  · intro s t a b x bs tr i n hoff hi hlen hshows htr hgo hstop
    exact translateUntil_ok hoff hi hlen hshows htr hgo hstop

end Sys2Proof.Machine
end

section
/-! Character string searches and comparisons, 46_string.md R910 to R919. -/
namespace Sys2Proof.Machine

section
variable {s s1 s2 s3 s4 s5 s6 : State} {va a b o t : Long} {x y c : Byte} {xs ys bs os : List Byte} {i j k n m : Nat}

/-! ### Searches -/

/-- Bytes are passed over up to the first that the test stops at. -/
theorem passOver_ok {skip : Byte → M Bool} (h : s.shows va bs) (hi : i ≤ n) (hlen : bs.length = min n (i + 1))
    (hgo : ∀ j < i, ∀ x, bs[j]? = some x → skip x s = .ok true s) (hstop : ∀ x, bs[i]? = some x → skip x s = .ok false s) :
    passOver skip va n s = .ok i s := by
  induction n generalizing i bs va with
  | zero =>
    obtain rfl : i = 0 := by omega
    rfl
  | succ n ih =>
    cases bs with
    | nil => rw [List.length_nil] at hlen; omega
    | cons x bs =>
      refine bind_run h.head ?_
      cases i with
      | zero => exact bind_run (hstop x rfl) rfl
      | succ i =>
        refine bind_run (hgo 0 (Nat.succ_pos i) x rfl) <| bind_run (ih h.tail (by omega) ?_ ?_ ?_) rfl
        · rw [List.length_cons] at hlen
          omega
        · exact fun j hj z hz => hgo (j + 1) (by omega) z hz
        · exact fun z hz => hstop z hz

/-- The registers and condition codes of a search that stops after `i` of `n` bytes. -/
theorem setRegs_searchFlags (vs : List Long) (hi : i ≤ n) (s : State) :
    (setRegs 0 vs >>= fun _ => searchFlags (n - i) >>= fun _ => done) s =
      .ok none ((s.withRegs vs).withCC false (decide (i = n)) false false) := by
  rw [show decide (i = n) = decide (n - i = 0) from decide_eq_decide.mpr (by omega)]
  exact setRegs_setCC _ _ _ _ _ _

/-- LOCC and SKPC stop where `stop` says. -/
theorem locate_ok {op : Nat} {skipChar : Bool} {stop : Byte → Byte → Bool} {char len addr : Opnd} {n : Word16}
    (hrow : ∀ x c, ((x == c) == skipChar) = !stop x c) (hready : Ready op s) (hchar : rdPlain .b char (past op s) = .ok c s1)
    (hn : rdPlain .w len s1 = .ok n s2) (ha : adrPlain .b addr s2 = .ok a s3) (hi : i ≤ n.toNat)
    (hlen : bs.length = min n.toNat (i + 1)) (h : s3.shows a bs) (hgo : ∀ j < i, ∀ x, bs[j]? = some x → stop x c = false)
    (hstop : ∀ x, bs[i]? = some x → stop x c = true) :
    execute op (locate skipChar char len addr) s =
      .next ((s3.withRegs [long (n.toNat - i), a + long i]).withCC false (decide (i = n.toNat)) false false) := by
  have hpass : passOver (fun x => pure ((x == c) == skipChar)) a n.toNat s3 = .ok i s3 := by
    refine passOver_ok h hi hlen (fun j hj x hx => ?_) fun x hx => ?_
    · rw [run_pure, hrow, hgo j hj x hx, Bool.not_false]
    · rw [run_pure, hrow, hstop x hx, Bool.not_true]
  exact execute_ready_next hready <| bind_run hchar <| bind_run hn <| bind_run ha <| bind_run hpass <| setRegs_searchFlags _ hi _

/-- SCANC and SPANC stop where `stop` says. -/
theorem scan_ok {op : Nat} {span : Bool} {stop : Byte → Byte → Bool} {len addr tbladdr mask : Opnd} {n : Word16} {m : Byte}
    {tr : Byte → Byte} (hrow : ∀ x m : Byte, ((x &&& m != 0) == span) = !stop x m) (hready : Ready op s)
    (hn : rdPlain .w len (past op s) = .ok n s1) (ha : adrPlain .b addr s1 = .ok a s2) (ht : adrPlain .b tbladdr s2 = .ok t s3)
    (hm : rdPlain .b mask s3 = .ok m s4) (hi : i ≤ n.toNat) (hlen : bs.length = min n.toNat (i + 1)) (h : s4.shows a bs)
    (htr : s4.translates t tr bs) (hgo : ∀ j < i, ∀ x, bs[j]? = some x → stop (tr x) m = false)
    (hstop : ∀ x, bs[i]? = some x → stop (tr x) m = true) :
    execute op (scan span len addr tbladdr mask) s =
      .next ((s4.withRegs [long (n.toNat - i), a + long i, 0, t]).withCC false (decide (i = n.toNat)) false false) := by
  have hentry {j : Nat} {x : Byte} (hx : bs[j]? = some x) : translateByte t x s4 = .ok (tr x) s4 :=
    (htr x (List.mem_of_getElem? hx)).head
  have hpass : passOver (fun x => do return ((← translateByte t x) &&& m != 0) == span) a n.toNat s4 = .ok i s4 := by
    refine passOver_ok h hi hlen (fun j hj x hx => bind_run (hentry hx) ?_) fun x hx => bind_run (hentry hx) ?_
    · rw [run_pure, hrow, hgo j hj x hx, Bool.not_false]
    · rw [run_pure, hrow, hstop x hx, Bool.not_true]
  exact execute_ready_next hready <| bind_run hn <| bind_run ha <| bind_run ht <| bind_run hm <| bind_run hpass <|
    setRegs_searchFlags _ hi _

/-! ### Comparisons -/

theorem State.withRegs_withCC (s : State) (vs : List Long) (n z v c : Bool) :
    (s.withCC n z v c).withRegs vs = (s.withRegs vs).withCC n z v c := by
  unfold State.withRegs
  generalize vs.zipIdx = l
  induction l generalizing s with
  | nil => rfl
  | cons p l ih => exact ih (s.setReg (Fin.ofNat 16 p.2) p.1)

/-- A string that shows its bytes up to `i` gives one of them, or the fill byte past its end. -/
theorem byteOrFill_ok {f : Byte} (h : s.shows va xs) (hlen : xs.length = min n (i + 1)) (hk : k ≤ i) :
    byteOrFill va n k f s = .ok (xs.getD k f) s := by
  unfold byteOrFill
  rw [List.getD_eq_getElem?_getD]
  split
  next hlt =>
    have hget : xs[k]? = some xs[k] := List.getElem?_eq_getElem (by omega)
    rw [h.readAt hget, hget, Option.getD_some]
  next hge => rw [List.getElem?_eq_none (by omega), Option.getD_none, run_pure]

/-- Position `i` is where two strings of `n` and `m` bytes, shown up to there, first differ. -/
structure FirstDifference (xs ys : List Byte) (n m i : Nat) (f : Byte) : Prop where
  bound : i ≤ max n m
  lenX : xs.length = min n (i + 1)
  lenY : ys.length = min m (i + 1)
  same : ∀ j < i, xs.getD j f = ys.getD j f
  differ : i < max n m → xs.getD i f ≠ ys.getD i f

/-- The codes of the comparison, R910: those of the differing bytes, or of equal strings. -/
def State.compared (s : State) (xs ys : List Byte) (n m i : Nat) (f : Byte) : State :=
  s.withCC (decide (i < max n m ∧ (xs.getD i f).toInt < (ys.getD i f).toInt)) (decide (i = max n m)) false
    (decide (i < max n m ∧ (xs.getD i f).toNat < (ys.getD i f).toNat))

theorem State.compared_equal (s : State) {f : Byte} (h : i = max n m) : s.compared xs ys n m i f = s.withCC false true false false := by
  unfold State.compared
  rw [decide_eq_false (by omega), decide_eq_true h, decide_eq_false (by omega)]

/-- The loop has met only equal bytes so far, and goes on to the first difference. -/
theorem compareFrom_ok {f : Byte} (hd : FirstDifference xs ys n m i f) (hx : s.shows a xs) (hy : s.shows b ys) (hk : k ≤ i)
    (hj : k + j = max n m) :
    compareFrom a b n m f k j (s.withCC false true false false) = .ok i (s.compared xs ys n m i f) := by
  have hbound := hd.bound
  induction j generalizing k with
  | zero =>
    obtain rfl : k = i := by omega
    rw [s.compared_equal (by omega)]
    rfl
  | succ j ih =>
    refine bind_run (byteOrFill_ok (hx.withCC _ _ _ _) hd.lenX hk) <| bind_run (byteOrFill_ok (hy.withCC _ _ _ _) hd.lenY hk) <|
      bind_run (run_setCC _ _ _ _ _) ?_
    rw [s.withCC_withCC]
    by_cases hki : k = i
    · subst hki
      have hne := hd.differ (by omega)
      rw [if_pos hne, decide_eq_false hne]
      unfold State.compared
      rw [decide_eq_false (by omega : ¬ k = max n m), decide_eq_decide.mpr (and_iff_right (by omega)),
        decide_eq_decide.mpr (and_iff_right (by omega))]
      rfl
    · have heq := hd.same k (by omega)
      rw [heq, if_neg (not_not_intro rfl), decide_eq_false (lt_irrefl _), decide_eq_true rfl, decide_eq_false (lt_irrefl _)]
      exact ih (by omega) (by omega)

theorem compareStrings_ok {f : Byte} (hd : FirstDifference xs ys n m i f) (hx : s.shows a xs) (hy : s.shows b ys) :
    compareStrings a b n m f s = .ok none
      (State.compared (s.withRegs [long (n - i), a + long (min i n), long (m - i), b + long (min i m)]) xs ys n m i f) := by
  refine bind_run (run_setCC _ _ _ _ s) <| bind_run (compareFrom_ok hd hx hy (Nat.zero_le i) (Nat.zero_add _)) <|
    bind_run (run_setRegs _ _) ?_
  unfold State.compared
  rw [State.withRegs_withCC]
  rfl

/-! ### MATCHC -/

theorem add_long_add (va : Long) (k j : Nat) : va + long k + long j = va + long (k + j) := by
  unfold long
  rw [BitVec.add_assoc, ← BitVec.ofNat_add]

theorem State.shows.drop (h : s.shows va bs) (k : Nat) : s.shows (va + long k) (bs.drop k) := by
  intro j x hx
  rw [add_long_add]
  exact h (k + j) x (List.getElem?_drop ▸ hx)

theorem sameBytes_ok (hx : s.shows a xs) (ho : s.shows o os) (hlen : os.length ≤ xs.length) :
    sameBytes a o os.length s = .ok (decide (xs.take os.length = os)) s := by
  induction os generalizing a o xs with
  | nil => rfl
  | cons y os ih =>
    cases xs with
    | nil => exact absurd hlen (Nat.not_succ_le_zero _)
    | cons x xs =>
      refine bind_run hx.head <| bind_run ho.head ?_
      by_cases hxy : x = y
      · rw [if_neg (not_not_intro hxy), hxy, List.length_cons, List.take_succ_cons]
        refine (ih hx.tail ho.tail (Nat.le_of_succ_le_succ hlen)).trans ?_
        rw [decide_eq_decide.mpr (List.cons_inj_right y).symm]
      · have hne : (x :: xs).take (y :: os).length ≠ y :: os := fun h => hxy (List.cons.inj h).1
        rw [if_pos hxy, decide_eq_false hne]
        rfl

/-- The object stands at no place from `k` on before `j`. -/
def Unmatched (bs os : List Byte) (k j : Nat) : Prop :=
  ∀ p, k ≤ p → p < j → p + os.length ≤ bs.length ∧ (bs.drop p).take os.length ≠ os

/-- A place where the object does not stand is passed. -/
theorem matchFrom_pass (h : s.shows a bs) (ho : s.shows o os) (hun : Unmatched bs os k j) (hkj : k < j) (n : Nat) :
    matchFrom a o os.length k (n + 1) s = matchFrom a o os.length (k + 1) n s := by
  obtain ⟨hfits, hne⟩ := hun k (Nat.le_refl k) hkj
  have hsame := sameBytes_ok (h.drop k) ho (by rw [List.length_drop]; omega)
  rw [decide_eq_false hne] at hsame
  exact bind_run hsame rfl

theorem Unmatched.next (h : Unmatched bs os k j) : Unmatched bs os (k + 1) j := fun p hp => h p (by omega)

theorem matchFrom_some (h : s.shows a bs) (ho : s.shows o os) (hun : Unmatched bs os k j) (hk : k ≤ j) (hn : j < k + n)
    (hfits : j + os.length ≤ bs.length) (hfound : (bs.drop j).take os.length = os) :
    matchFrom a o os.length k n s = .ok (some j) s := by
  induction n generalizing k with
  | zero => omega
  | succ n ih =>
    obtain rfl | hlt := Nat.eq_or_lt_of_le hk
    · have hsame := sameBytes_ok (h.drop k) ho (by rw [List.length_drop]; omega)
      rw [decide_eq_true hfound] at hsame
      exact bind_run hsame rfl
    · exact (matchFrom_pass h ho hun hlt n).trans (ih hun.next hlt (by omega))

theorem matchFrom_none (h : s.shows a bs) (ho : s.shows o os) (hun : Unmatched bs os k (k + n)) :
    matchFrom a o os.length k n s = .ok none s := by
  induction n generalizing k with
  | zero => rfl
  | succ n ih =>
    refine (matchFrom_pass h ho hun (by omega) n).trans (ih ?_)
    rw [show k + 1 + n = k + (n + 1) by omega]
    exact hun.next
end

/-- Settles O52: the loops go on to the first byte, difference or place that the statement names. -/
theorem stringSearchResults : Obligations.StringSearchResults := by
  unfold Obligations.StringSearchResults
  refine ⟨?_, ?_, ?_, ?_, ?_, ?_⟩
  · rw [List.forall_mem_cons, List.forall_mem_singleton]
    refine ⟨?_, ?_⟩
    · intro char len addr s s1 s2 s3 k n a bs i hready hchar hn ha hi hlen h hgo hstop
      exact locate_ok (skipChar := false) (fun x c => beq_false _) hready hchar hn ha hi hlen h hgo hstop
    · intro char len addr s s1 s2 s3 k n a bs i hready hchar hn ha hi hlen h hgo hstop
      exact locate_ok (skipChar := true) (fun x c => (beq_true _).trans (Bool.not_not _).symm) hready hchar hn ha hi hlen h hgo hstop
  · rw [List.forall_mem_cons, List.forall_mem_singleton]
    refine ⟨?_, ?_⟩
    · intro len addr tbladdr mask s s1 s2 s3 s4 m n a t bs tr i hready hn ha ht hm hi hlen h htr hgo hstop
      exact scan_ok (span := false) (fun x m => beq_false _) hready hn ha ht hm hi hlen h htr hgo hstop
    · intro len addr tbladdr mask s s1 s2 s3 s4 m n a t bs tr i hready hn ha ht hm hi hlen h htr hgo hstop
      exact scan_ok (span := true) (fun x m => beq_true _) hready hn ha ht hm hi hlen h htr hgo hstop
  · intro s a b n m i f xs ys hi _ _ hxs hys hx hy hsame hdiffer
    exact compareStrings_ok ⟨hi, hxs, hys, hsame, hdiffer⟩ hx hy
  · intro len src1addr src2addr s s1 s2 s3 s4 n a b hready hn ha hb hcompare
    exact execute_ready_next hready <| bind_run hn <| bind_run ha <| bind_run hb hcompare
  · intro src1len src1addr fill src2len src2addr s s1 s2 s3 s4 s5 s6 n m f a b hready hn ha hf hm hb hcompare
    exact execute_ready_next hready <| bind_run hn <| bind_run ha <| bind_run hf <| bind_run hm <| bind_run hb hcompare
  · intro objlen objaddr srclen srcaddr s s1 s2 s3 s4 n m o a os bs j hready hn ho hm ha hlen hos hbs hun
    refine ⟨fun hfits hlenBs hfound => ?_, fun hj hlenBs => ?_⟩
    · have hmatch := matchFrom_some (k := 0) (n := m.toNat + 1 - n.toNat) hbs hos
        (fun p _ hp => ⟨by omega, hlen.symm ▸ hun p hp (by omega)⟩) (Nat.zero_le j) (by omega) (by omega)
        (by rw [hfound, List.take_length])
      rw [hlen] at hmatch
      exact execute_ready_next hready <| bind_run hn <| bind_run ho <| bind_run hm <| bind_run ha <| bind_run hmatch <|
        setRegs_setCC _ _ _ _ _ _
    · have hmatch := matchFrom_none (k := 0) (n := m.toNat + 1 - n.toNat) hbs hos
        fun p _ hp => ⟨by omega, hlen.symm ▸ hun p (by omega) (by omega)⟩
      rw [hlen] at hmatch
      exact execute_ready_next hready <| bind_run hn <| bind_run ho <| bind_run hm <| bind_run ha <| bind_run hmatch <|
        bind_run (bind_run (hbs.readBytes_of hlenBs) rfl) <| setRegs_setCC _ _ _ _ _ _

end Sys2Proof.Machine
end

section
/-! Decimal strings keep the value that is stored in them, 47_decimal.md R930 to R932: the low-order digits of a number in any base, and
the packed and leading separate formats as digits. -/
namespace Sys2Proof.Machine

/-! ### Digits in a base, most significant first -/

section
variable {b d n x : Nat} {ds : List Nat}

/-- The number that digits stand for. -/
def numeral (b : Nat) (ds : List Nat) : Nat := ds.foldl (fun acc d => acc * b + d) 0

/-- The `n` low-order digits of a number. -/
def lowDigits (b n x : Nat) : List Nat := (List.range n).map fun i => x / b ^ (n - 1 - i) % b

theorem digitsNat_eq (ds : List Nat) : digitsNat ds = numeral 10 ds := rfl
theorem digitsOf_eq (n x : Nat) : digitsOf n x = lowDigits 10 n x := rfl

theorem numeral_append (b : Nat) (ds : List Nat) (d : Nat) : numeral b (ds ++ [d]) = numeral b ds * b + d := by
  unfold numeral
  rw [List.foldl_append]
  rfl

theorem numeral_zero_cons (b : Nat) (ds : List Nat) : numeral b (0 :: ds) = numeral b ds := by
  unfold numeral
  rw [List.foldl_cons, Nat.zero_mul]

theorem lowDigits_succ (b n x : Nat) : lowDigits b (n + 1) x = lowDigits b n (x / b) ++ [x % b] := by
  unfold lowDigits
  rw [List.range_succ, List.map_append, List.map_singleton, Nat.add_sub_cancel, Nat.sub_self, pow_zero, Nat.div_one]
  congr 1
  refine List.map_congr_left fun i hi => ?_
  have hi := List.mem_range.mp hi
  rw [Nat.div_div_eq_div_mul, ← pow_succ', show n - 1 - i + 1 = n - i by omega]

theorem lowDigits_length (b n x : Nat) : (lowDigits b n x).length = n := by
  unfold lowDigits
  rw [List.length_map, List.length_range]

theorem lowDigits_lt (hb : 0 < b) (n x : Nat) : ∀ d ∈ lowDigits b n x, d < b := by
  intro d hd
  obtain ⟨i, -, rfl⟩ := List.mem_map.mp hd
  exact Nat.mod_lt _ hb

/-- The low-order digits stand for the number modulo the power of the base. -/
theorem numeral_lowDigits (b n x : Nat) : numeral b (lowDigits b n x) = x % b ^ n := by
  induction n generalizing x with
  | zero => exact (Nat.mod_one x).symm
  | succ n ih => rw [lowDigits_succ, numeral_append, ih, pow_succ', Nat.mod_mul, Nat.add_comm, Nat.mul_comm]

/-- Digits are those of the number they stand for. -/
theorem lowDigits_numeral (hds : ∀ d ∈ ds, d < b) : lowDigits b ds.length (numeral b ds) = ds := by
  induction ds using List.reverseRecOn with
  | nil => rfl
  | append_singleton ds d ih =>
    have hd : d < b := hds d (by simp)
    rw [List.length_append, List.length_singleton, lowDigits_succ, numeral_append, Nat.mul_add_mod_of_lt hd, Nat.mul_comm,
      Nat.mul_add_div (by omega), Nat.div_eq_of_lt hd, Nat.add_zero, ih fun e he => hds e (List.mem_append_left _ he)]

theorem numeral_lt (hb : 0 < b) (hds : ∀ d ∈ ds, d < b) : numeral b ds < b ^ ds.length := by
  rw [← lowDigits_numeral hds, numeral_lowDigits, lowDigits_length]
  exact Nat.mod_lt _ (Nat.pow_pos hb)
end

/-! ### Bytes and nibbles -/

section
variable {len n x : Nat} {ds : List Nat} {bs : List Byte}

theorem beNat_eq (bs : List Byte) : beNat bs = numeral 256 (bs.map BitVec.toNat) := by
  unfold beNat numeral
  rw [List.foldl_map]

theorem beBytes_toNat (n x : Nat) : (beBytes n x).map BitVec.toNat = lowDigits 256 n x := by
  unfold beBytes lowDigits
  rw [List.map_map]
  exact List.map_congr_left fun i _ => BitVec.toNat_ofNat _ 8

theorem beNat_beBytes (h : x < 256 ^ n) : beNat (beBytes n x) = x := by
  rw [beNat_eq, beBytes_toNat, numeral_lowDigits, Nat.mod_eq_of_lt h]

/-- Digits of a packed string: the unused one of an even length counts, R930. -/
def nibbles (len : Nat) : Nat := 2 * (len / 2) + 1

theorem packedDigits_eq (len : Nat) (bs : List Byte) : packedDigits len bs = lowDigits 16 (nibbles len) (beNat bs / 16) := by
  unfold packedDigits lowDigits nibbles
  refine List.map_congr_left fun i hi => ?_
  have hi := List.mem_range.mp hi
  rw [Nat.div_div_eq_div_mul, ← pow_succ', show 2 * (len / 2) + 1 - 1 - i + 1 = 2 * (len / 2) + 1 - i by omega]

/-- The digits as they are packed: an even length takes a leading zero. -/
def padded (len : Nat) (ds : List Nat) : List Nat := if len % 2 = 0 then 0 :: ds else ds

theorem padded_length (h : ds.length = len) : (padded len ds).length = nibbles len := by
  unfold padded nibbles
  split
  · rw [List.length_cons]
    omega
  · omega

theorem padded_lt {b : Nat} (hb : 0 < b) (h : ∀ d ∈ ds, d < b) : ∀ d ∈ padded len ds, d < b := by
  unfold padded
  split
  · exact List.forall_mem_cons.mpr ⟨hb, h⟩
  · exact h

theorem numeral_padded (b len : Nat) (ds : List Nat) : numeral b (padded len ds) = numeral b ds := by
  unfold padded
  split
  · exact numeral_zero_cons b ds
  · rfl

theorem padded_head (h : len % 2 = 0) : (padded len ds).headD 0 = 0 := by
  unfold padded
  rw [if_pos h]
  rfl

theorem packedBytes_length (len : Nat) (minus : Bool) (ds : List Nat) : (packedBytes len minus ds).length = packedLen len := by
  unfold packedBytes beBytes
  rw [List.length_map, List.length_range]

theorem beNat_packedBytes (minus : Bool) (h : ds.length = len) (hds : ∀ d ∈ ds, d < 10) :
    beNat (packedBytes len minus ds) = numeral 16 ds * 16 + if minus then 13 else 12 := by
  have hsign : (if minus then 13 else 12) < 16 := by cases minus <;> decide
  have hlt : numeral 16 ds < 16 ^ len := h ▸ numeral_lt (by decide) fun d hd => (hds d hd).trans (by decide)
  have hfits : 16 ^ len * 16 ≤ 256 ^ packedLen len := by
    rw [← pow_succ, show 256 = 16 ^ 2 from rfl, ← pow_mul]
    exact Nat.pow_le_pow_right (by decide) (by unfold packedLen; omega)
  exact beNat_beBytes (by unfold numeral at hlt; omega)

/-- What is packed is unpacked. -/
theorem packedValue_packedBytes (minus : Bool) (h : ds.length = len) (hds : ∀ d ∈ ds, d < 10) :
    packedValue len (packedBytes len minus ds) = some (if minus then -(digitsNat ds : Int) else digitsNat ds) := by
  have hdigits : packedDigits len (packedBytes len minus ds) = padded len ds := by
    rw [packedDigits_eq, beNat_packedBytes minus h hds, ← padded_length h, Nat.mul_comm, Nat.mul_add_div (by decide),
      Nat.div_eq_of_lt (by cases minus <;> decide), Nat.add_zero, ← numeral_padded 16 len]
    exact lowDigits_numeral (padded_lt (by decide) fun d hd => (hds d hd).trans (by decide))
  have hsign : beNat (packedBytes len minus ds) % 16 = if minus then 13 else 12 := by
    have hsign : (if minus then 13 else 12) < 16 := by cases minus <;> decide
    rw [beNat_packedBytes minus h hds, Nat.mul_add_mod_of_lt hsign]
  have hvalid : (padded len ds).any (fun d => decide (9 < d)) = false := by
    refine List.any_eq_false.mpr fun d hd => ?_
    have := padded_lt (by decide) hds d hd
    rw [decide_eq_true_eq]
    omega
  have hnibble : ¬ (if minus then 13 else 12) < 10 := by cases minus <;> decide
  unfold packedValue
  dsimp only
  rw [hdigits, hsign, hvalid, if_neg]
  · rw [digitsNat_eq, digitsNat_eq, numeral_padded]
    cases minus <;> rfl
  · rintro (hlow | hbad | ⟨heven, hhead⟩)
    · exact hnibble hlow
    · exact Bool.false_ne_true hbad
    · exact hhead (padded_head heven)

theorem packedValue_natAbs_lt {v : Int} (h : packedValue len bs = some v) : v.natAbs < 10 ^ len := by
  unfold packedValue at h
  dsimp only at h
  rw [packedDigits_eq] at h
  have hlength := lowDigits_length 16 (nibbles len) (beNat bs / 16)
  generalize lowDigits 16 (nibbles len) (beNat bs / 16) = ds at h hlength
  split at h
  · exact nomatch h
  next hvalid =>
    obtain ⟨-, hdigits, hhead⟩ : ¬ beNat bs % 16 < 10 ∧ ¬ ds.any (fun d => decide (9 < d)) = true ∧ ¬ (len % 2 = 0 ∧ ds.headD 0 ≠ 0) := by
      rwa [not_or, not_or] at hvalid
    have hlt (d : Nat) (hd : d ∈ ds) : d < 10 := by
      by_contra hge
      exact hdigits (List.any_eq_true.mpr ⟨d, hd, decide_eq_true (by omega)⟩)
    have habs : v.natAbs = numeral 10 ds := by
      cases h
      rw [digitsNat_eq]
      split <;> omega
    rw [habs]
    cases ds with
    | nil => exact absurd hlength (by unfold nibbles; exact Nat.ne_of_lt (Nat.succ_pos _))
    | cons d rest =>
      by_cases heven : len % 2 = 0
      · obtain rfl : d = 0 := by
          by_contra hne
          exact hhead ⟨heven, hne⟩
        have hrest := numeral_lt (by decide) fun e he => hlt e (List.mem_cons_of_mem 0 he)
        rw [numeral_zero_cons]
        rwa [show rest.length = len by rw [List.length_cons] at hlength; unfold nibbles at hlength; omega] at hrest
      · have hall := numeral_lt (by decide) hlt
        rwa [show (d :: rest).length = len by unfold nibbles at hlength; omega] at hall

/-! ### ASCII digits, R931 -/

theorem asciiByte_toNat {d : Nat} (h : d < 10) : (BitVec.ofNat 8 (0x30 + d)).toNat = 0x30 + d := by
  rw [BitVec.toNat_ofNat]
  omega

theorem asciiValue_asciiDigits (hds : ∀ d ∈ ds, d < 10) : asciiValue (asciiDigits ds) = some (digitsNat ds) := by
  have hall : (asciiDigits ds).all fun b => decide (0x30 ≤ b.toNat ∧ b.toNat ≤ 0x39) := by
    refine List.all_eq_true.mpr fun b hb => ?_
    obtain ⟨d, hd, rfl⟩ := List.mem_map.mp hb
    have := hds d hd
    rw [asciiByte_toNat this, decide_eq_true_eq]
    omega
  have hback : (asciiDigits ds).map (fun b => b.toNat - 0x30) = ds := by
    unfold asciiDigits
    rw [List.map_map]
    refine (List.map_congr_left fun d hd => ?_).trans (List.map_id ds)
    rw [Function.comp_apply, asciiByte_toNat (hds d hd), Nat.add_sub_cancel_left]
    rfl
  unfold asciiValue
  rw [if_pos hall, hback]

theorem separateValue_asciiDigits (minus : Bool) (hds : ∀ d ∈ ds, d < 10) :
    separateValue ((if minus then 0x2D else 0x2B) :: asciiDigits ds) = some (if minus then -(digitsNat ds : Int) else digitsNat ds) := by
  unfold separateValue
  rw [List.tail_cons, asciiValue_asciiDigits hds]
  cases minus <;> rfl
end

/-! ### The statement -/

theorem digitsOf_lt (n x : Nat) : ∀ d ∈ digitsOf n x, d < 10 := lowDigits_lt (by decide) n x

theorem digitsOf_length (n x : Nat) : (digitsOf n x).length = n := lowDigits_length 10 n x

theorem digitsNat_digitsOf (n x : Nat) : digitsNat (digitsOf n x) = x % 10 ^ n := numeral_lowDigits 10 n x

theorem packedImage_length (len : Nat) (v : Int) : (packedImage len v).length = packedLen len := packedBytes_length _ _ _

/-- Settles O56: the digits that are stored are the low-order digits of the value, and reading a string takes its digits back. -/
theorem packedStringsKeepTheirValue : Obligations.PackedStringsKeepTheirValue := by
  unfold Obligations.PackedStringsKeepTheirValue
  refine ⟨fun len v => ?_, packedImage_length, fun len v => ?_, fun len bs v _ h => packedValue_natAbs_lt h⟩
  · refine (packedValue_packedBytes _ (digitsOf_length _ _) (digitsOf_lt _ _)).trans ?_
    rw [digitsNat_digitsOf]
    by_cases hv : v < 0
    · rw [if_pos (decide_eq_true hv), if_pos hv]
    · rw [if_neg (by simpa using hv), if_neg hv]
  · have h := separateValue_asciiDigits (decide (v < 0)) (digitsOf_lt len v.natAbs)
    rw [digitsNat_digitsOf] at h
    by_cases hv : v < 0
    · rw [if_pos (decide_eq_true hv), if_pos (decide_eq_true hv)] at h
      rw [if_pos hv, if_pos hv]
      exact h
    · rw [if_neg (by simpa using hv), if_neg (by simpa using hv)] at h
      rw [if_neg hv, if_neg hv]
      exact h

end Sys2Proof.Machine
end

section
/-! Packed decimal moves, compares and arithmetic, 47_decimal.md R932 to R944: operands, lengths and sources are checked in their order,
then the result is stored. -/
namespace Sys2Proof.Machine

section
variable {s s1 s2 s' t : State} {a b d va : Long} {n m k len op : Nat} {v x y : Int} {β : Type}

/-! ### Operands and sources -/

theorem packedOpnd_ok {len addr : Opnd} {w : Word16} (hn : rdPlain .w len s = .ok w s1) (ha : adrPlain .b addr s1 = .ok a s2) :
    packedOpnd len addr s = .ok (w.toNat, a) s2 := bind_run hn <| bind_run ha rfl

theorem checkLen_ok (h : n ≤ 31) (s : State) : checkLen n s = .ok ⟨⟩ s := by
  unfold checkLen
  rw [if_neg (by omega)]
  rfl

theorem checkLen_bad (h : 31 < n) (s : State) : checkLen n s = .error (.exc reservedOperand) s := by
  unfold checkLen
  rw [if_pos h]
  rfl

theorem checkLens_bad (h : 31 < n ∨ 31 < m) (next : PUnit → M β) (s : State) :
    (checkLen n >>= fun _ => checkLen m >>= next) s = .error (.exc reservedOperand) s := by
  by_cases hn : 31 < n
  · exact bind_of_error _ (checkLen_bad hn s)
  · exact bind_run (checkLen_ok (by omega) s) (bind_of_error _ (checkLen_bad (h.resolve_left hn) s))

theorem readPacked_ok (h : s.packed a n v) : readPacked a n s = .ok v s := by
  obtain ⟨bs, hlen, hshows, hvalue⟩ := h
  refine bind_run (hshows.readBytes_of hlen) ?_
  rw [hvalue]
  rfl

theorem readPacked_bad (h : s.notPacked a n) : readPacked a n s = .error (.exc reservedOperand) s := by
  obtain ⟨bs, hlen, hshows, hvalue⟩ := h
  refine bind_run (hshows.readBytes_of hlen) ?_
  rw [hvalue]
  rfl

theorem State.packed.natAbs_lt (h : s.packed a n v) : v.natAbs < 10 ^ n := by
  obtain ⟨bs, -, -, hvalue⟩ := h
  exact packedValue_natAbs_lt hvalue

/-- A source whose length or string is not valid, R932. -/
theorem source_bad (h : 31 < n ∨ n ≤ 31 ∧ s.notPacked a n) (next : Int → M β) :
    (checkLen n >>= fun _ => readPacked a n >>= next) s = .error (.exc reservedOperand) s := by
  obtain hn | ⟨hn, ha⟩ := h
  · exact bind_of_error _ (checkLen_bad hn s)
  · exact bind_run (checkLen_ok hn s) (bind_of_error _ (readPacked_bad ha))

/-- A length or the source is not valid. -/
theorem lensSource_bad (h : 31 < n ∨ 31 < m ∨ n ≤ 31 ∧ m ≤ 31 ∧ s.notPacked a n) (next : Int → M β) :
    (checkLen n >>= fun _ => checkLen m >>= fun _ => readPacked a n >>= next) s = .error (.exc reservedOperand) s := by
  obtain hn | hm | ⟨hn, hm, ha⟩ := h
  · exact checkLens_bad (.inl hn) _ s
  · exact checkLens_bad (.inr hm) _ s
  · exact bind_run (checkLen_ok hn s) <| bind_run (checkLen_ok hm s) <| bind_of_error _ (readPacked_bad ha)

theorem lensSource_ok (hn : n ≤ 31) (hm : m ≤ 31) (ha : s.packed a n x) (next : Int → M β) :
    (checkLen n >>= fun _ => checkLen m >>= fun _ => readPacked a n >>= next) s = next x s :=
  bind_run (checkLen_ok hn s) <| bind_run (checkLen_ok hm s) <| bind_run (readPacked_ok ha) rfl

/-- Two sources, the first one validated first. -/
theorem sources_bad (h : s.badPair a n b m) (next : Int → Int → M β) :
    (checkLen n >>= fun _ => checkLen m >>= fun _ => readPacked a n >>= fun x => readPacked b m >>= next x) s =
      .error (.exc reservedOperand) s := by
  obtain hn | hm | ⟨hn, hm, ha | ⟨x, ha, hb⟩⟩ := h
  · exact lensSource_bad (.inl hn) _
  · exact lensSource_bad (.inr (.inl hm)) _
  · exact lensSource_bad (.inr (.inr ⟨hn, hm, ha⟩)) _
  · exact (lensSource_ok hn hm ha _).trans (bind_of_error _ (readPacked_bad hb))

theorem sources_ok (hn : n ≤ 31) (hm : m ≤ 31) (ha : s.packed a n x) (hb : s.packed b m y) (next : Int → Int → M β) :
    (checkLen n >>= fun _ => checkLen m >>= fun _ => readPacked a n >>= fun x => readPacked b m >>= next x) s = next x y s :=
  (lensSource_ok hn hm ha _).trans (bind_run (readPacked_ok hb) rfl)

theorem execute_turnedAway {meaning : Meaning} (hready : Ready op s) (h : meaning (past op s) = .error (.exc reservedOperand) t) :
    execute op meaning s = s.turnedAway t := execute_ready_exc hready h

/-! ### Results, R932 -/

theorem numeral_eq_zero {ds : List Nat} (hb : 0 < k) : numeral k ds = 0 ↔ ∀ d ∈ ds, d = 0 := by
  induction ds using List.reverseRecOn with
  | nil => exact iff_of_true rfl (by simp)
  | append_singleton ds d ih =>
    rw [numeral_append, Nat.add_eq_zero_iff, Nat.mul_eq_zero, ih, or_iff_left (by omega), List.forall_mem_append,
      List.forall_mem_singleton]

theorem digitsOf_allZero (n k : Nat) : ((digitsOf n k).all fun x => x == 0) = decide (k % 10 ^ n = 0) := by
  rw [Bool.eq_iff_iff, List.all_eq_true, decide_eq_true_eq, ← digitsNat_digitsOf n k, digitsNat_eq, numeral_eq_zero (by decide)]
  simp only [beq_iff_eq]

theorem keeps_putBytes {P : State → Prop} (l : List (Nat × Byte)) (h : BusClosed P) : Keeps P (putBytes l) := by
  induction l with
  | nil => exact .pure _
  | cons p l ih => exact .bind (keeps_physWrite _ _ _ _ h) fun _ => ih

theorem putBytes_psl {l : List (Nat × Byte)} (h : putBytes l s = .ok ⟨⟩ t) : t.psl = s.psl :=
  ((keeps_putBytes l (status_busClosed s)).of_ok h ⟨rfl, rfl⟩).2

theorem foldl_setReg_psl (l : List (Long × Nat)) (s : State) :
    (l.foldl (fun t p => t.setReg (Fin.ofNat 16 p.2) p.1) s).psl = s.psl := by
  induction l generalizing s with
  | nil => rfl
  | cons p l ih => exact ih _

theorem State.withRegs_psl (s : State) (vs : List Long) : (s.withRegs vs).psl = s.psl := foldl_setReg_psl _ s

theorem State.decimal_ccV (s : State) (regs : List Long) (len : Nat) (v : Int) (c : Bool) :
    (s.decimal regs len v c).ccV = decide (10 ^ len ≤ v.natAbs) := State.withCC_ccV _ _ _ _ _

theorem State.decimal_dv (s : State) (regs : List Long) (len : Nat) (v : Int) (c : Bool) : (s.decimal regs len v c).dv = s.dv :=
  (State.withCC_dv _ _ _ _ _).trans (congrArg (BitVec.getLsbD · 7) (s.withRegs_psl regs))

/-- A stored result ends with the registers and condition codes of R932, and a trap where digits are lost. -/
theorem finish_storeDec {dst : DecString} {srcs : List DecString} {regs : List Long} {keepC : Bool}
    {bytes : Bool → List Nat → M (List Byte)} {out : List Byte} (start : State)
    (hbytes : bytes (decide (v < 0)) (digitsOf dst.len v.natAbs) s = .ok out s) (hlen : out.length = dst.bytes)
    (hclash : srcs.any dst.clash = false) (hstore : s.stores dst.va out s') :
    finish start (storeDec dst srcs regs v keepC bytes s) =
      .next ((s'.decimal regs dst.len v (keepC && s'.ccC)).trappedIf (decide (10 ^ dst.len ≤ v.natAbs) && s'.dv) 6) := by
  obtain ⟨dest, u, hdest, hput⟩ := hstore
  rw [hlen] at hdest
  have hc : u.ccC = s'.ccC := congrArg (BitVec.getLsbD · 0) (putBytes_psl hput).symm
  have hend : storeDec dst srcs regs v keepC bytes s =
      decimalTrap (s'.decimal regs dst.len v (keepC && s'.ccC)) := by
    refine bind_run hbytes <| bind_run hdest <| bind_run (run_get u) ?_
    rw [hclash, if_neg Bool.false_ne_true, hc]
    refine bind_run (run_pure out u) <| bind_run hput <| bind_run (run_setRegs regs s') ?_
    rw [digitsOf_allZero, ← decide_not, ← Bool.decide_and]
    rfl
  rw [hend, ← State.decimal_ccV s' regs dst.len v (keepC && s'.ccC), ← State.decimal_dv s' regs dst.len v (keepC && s'.ccC)]
  exact finish_trapIf start _ _ 6

theorem finish_storePacked {srcs : List DecString} {regs : List Long} (start : State)
    (hclash : srcs.any (packedString d n).clash = false) (hstore : s.stores d (packedImage n v) s') :
    finish start (storePacked d n srcs regs v s) = s'.decimalDone regs n v :=
  finish_storeDec start (run_pure _ s) (packedImage_length n v) hclash hstore

theorem clash_one {x y : DecString} (h : x.clash y = false) : [y].any x.clash = false := by
  rw [List.any_cons, List.any_nil, h]
  rfl

theorem clash_two {x y z : DecString} (h : x.clash y = false) (k : x.clash z = false) : [y, z].any x.clash = false := by
  rw [List.any_cons, clash_one k, h]
  rfl

/-! ### The six-operand forms -/

theorem freeBytes_ok (n : Nat) (s : State) : ∃ bs i, freeBytes n s = .ok bs { s with draw := i } ∧ bs.length = n := by
  induction n generalizing s with
  | zero => exact ⟨[], s.draw, rfl, rfl⟩
  | succ n ih =>
    obtain ⟨bs, i, hrest, hlen⟩ := ih (s.withDraw (s.draw + 1))
    exact ⟨_ :: bs, i, bind_run (run_drawBits 8 s) <| bind_run hrest rfl, congrArg (· + 1) hlen⟩

/-- Free value number `i`, as a condition code. -/
def freeFlag (i : Nat) : Bool := (Config.unpred i).getLsbD 0

theorem freeFlags_ok (s : State) (code : Nat) : ∃ (n z v c : Bool) (j : Nat),
    ((do
      setCC (← drawBool) (← drawBool) (← drawBool) (← drawBool)
      return some code : Meaning) s) = .ok (some code) { s.withCC n z v c with draw := j } :=
  ⟨freeFlag s.draw, freeFlag (s.draw + 1), freeFlag (s.draw + 2), freeFlag (s.draw + 3), s.draw + 4, rfl⟩

/-- The six-operand forms after their operands; DIVP looks at its divisor before it reads the dividend. -/
def sixPacked (div : Bool) (f : Int → Int → Int) (n : Nat) (a : Long) (m : Nat) (b : Long) (k : Nat) (d : Long) : Meaning := do
  checkLen n
  checkLen m
  checkLen k
  let x ← readPacked a n
  if div ∧ x = 0 then
    let dest ← destBytes d (packedLen k)
    putBytes (dest.zip (← freeBytes (packedLen k)))
    setRegs 0 [0, a, 0, b, 0, d]
    setCC (← drawBool) (← drawBool) (← drawBool) (← drawBool)
    return some 4
  else
    let y ← readPacked b m
    storePacked d k [packedString a n, packedString b m] [0, a, 0, b, 0, d] (f x y)

/-- The rows of the six-operand forms: opcode, instruction, result of the first and second source. -/
def sixRows : List (Nat × (Opnd → Opnd → Opnd → Opnd → Opnd → Opnd → Instr) × (Int → Int → Int)) :=
  [(0x21, .addp6, fun x y => y + x), (0x23, .subp6, fun x y => y - x), (0x25, .mulp, fun x y => y * x),
    (0x27, .divp, fun x y => y.tdiv x)]

section
variable {s3 s4 s5 s6 : State} {len1 addr1 len2 addr2 len3 addr3 : Opnd} {u w z : Word16}

theorem packed6_six (f : Int → Int → Int) (h1 : rdPlain .w len1 s = .ok u s1) (h2 : adrPlain .b addr1 s1 = .ok a s2)
    (h3 : rdPlain .w len2 s2 = .ok w s3) (h4 : adrPlain .b addr2 s3 = .ok b s4) (h5 : rdPlain .w len3 s4 = .ok z s5)
    (h6 : adrPlain .b addr3 s5 = .ok d s6) :
    packed6 f len1 addr1 len2 addr2 len3 addr3 s = sixPacked false (fun x y => f y x) u.toNat a w.toNat b z.toNat d s6 := by
  refine bind_run (packedOpnd_ok h1 h2) <| bind_run (packedOpnd_ok h3 h4) <| bind_run (packedOpnd_ok h5 h6) ?_
  unfold sixPacked
  simp only [Bool.false_eq_true, false_and, if_false]

theorem divp_six (h1 : rdPlain .w len1 s = .ok u s1) (h2 : adrPlain .b addr1 s1 = .ok a s2)
    (h3 : rdPlain .w len2 s2 = .ok w s3) (h4 : adrPlain .b addr2 s3 = .ok b s4) (h5 : rdPlain .w len3 s4 = .ok z s5)
    (h6 : adrPlain .b addr3 s5 = .ok d s6) :
    divp len1 addr1 len2 addr2 len3 addr3 s = sixPacked true (fun x y => y.tdiv x) u.toNat a w.toNat b z.toNat d s6 := by
  refine bind_run (packedOpnd_ok h1 h2) <| bind_run (packedOpnd_ok h3 h4) <| bind_run (packedOpnd_ok h5 h6) ?_
  unfold sixPacked
  simp only [true_and]

theorem exec_six {e : Nat × (Opnd → Opnd → Opnd → Opnd → Opnd → Opnd → Instr) × (Int → Int → Int)} (he : e ∈ sixRows)
    (hready : Ready e.1 s) (h1 : rdPlain .w len1 (past e.1 s) = .ok u s1) (h2 : adrPlain .b addr1 s1 = .ok a s2)
    (h3 : rdPlain .w len2 s2 = .ok w s3) (h4 : adrPlain .b addr2 s3 = .ok b s4) (h5 : rdPlain .w len3 s4 = .ok z s5)
    (h6 : adrPlain .b addr3 s5 = .ok d s6) :
    exec (e.2.1 len1 addr1 len2 addr2 len3 addr3) s =
      finish s (sixPacked (decide (e.1 = 0x27)) e.2.2 u.toNat a w.toNat b z.toNat d s6) := by
  unfold sixRows at he
  revert e
  rw [List.forall_mem_cons, List.forall_mem_cons, List.forall_mem_cons, List.forall_mem_singleton]
  refine ⟨?_, ?_, ?_, ?_⟩ <;> intro hready h1
  · exact (execute_ready hready _).trans (congrArg (finish s) (packed6_six _ h1 h2 h3 h4 h5 h6))
  · exact (execute_ready hready _).trans (congrArg (finish s) (packed6_six _ h1 h2 h3 h4 h5 h6))
  · exact (execute_ready hready _).trans (congrArg (finish s) (packed6_six _ h1 h2 h3 h4 h5 h6))
  · exact (execute_ready hready _).trans (congrArg (finish s) (divp_six h1 h2 h3 h4 h5 h6))
end

section
variable {div : Bool} {f : Int → Int → Int}

theorem sixPacked_badLength (h : 31 < k ∨ 31 < n ∨ 31 < m) :
    sixPacked div f n a m b k d s = .error (.exc reservedOperand) s := by
  by_cases hnm : 31 < n ∨ 31 < m
  · exact checkLens_bad hnm _ s
  · exact bind_run (checkLen_ok (by omega) s) <| bind_run (checkLen_ok (by omega) s) <|
      bind_of_error _ (checkLen_bad (h.resolve_right hnm) s)

theorem sixPacked_badFirst (hn : n ≤ 31) (hm : m ≤ 31) (hk : k ≤ 31) (ha : s.notPacked a n) :
    sixPacked div f n a m b k d s = .error (.exc reservedOperand) s :=
  bind_run (checkLen_ok hn s) <| bind_run (checkLen_ok hm s) <| bind_run (checkLen_ok hk s) <| bind_of_error _ (readPacked_bad ha)

/-- With a divisor that is not zero the second source is read and the result stored. -/
theorem sixPacked_first (hn : n ≤ 31) (hm : m ≤ 31) (hk : k ≤ 31) (ha : s.packed a n x) (hx : div = true → x ≠ 0) :
    sixPacked div f n a m b k d s =
      (readPacked b m >>= fun y =>
        storePacked d k [packedString a n, packedString b m] [0, a, 0, b, 0, d] (f x y)) s := by
  refine bind_run (checkLen_ok hn s) <| bind_run (checkLen_ok hm s) <| bind_run (checkLen_ok hk s) <| bind_run (readPacked_ok ha) ?_
  rw [if_neg fun h => hx h.1 h.2]

/-- A zero divisor: free bytes in the destination, free condition codes, the trap. -/
theorem sixPacked_zero {dest : List Nat} (hn : n ≤ 31) (hm : m ≤ 31) (hk : k ≤ 31) (ha : s.packed a n 0)
    (hdest : destBytes d (packedLen k) s = .ok dest t) (hidle : t.during = []) (hram : ∀ p ∈ dest, place t p = .ram) :
    ∃ (bs : List Byte) (i j : Nat) (u : State) (fn fz fv fc : Bool), bs.length = packedLen k
      ∧ putBytes (dest.zip bs) { t with draw := i } = .ok ⟨⟩ u
      ∧ sixPacked true f n a m b k d s =
        .ok (some 4) { (u.withRegs [0, a, 0, b, 0, d]).withCC fn fz fv fc with draw := j } := by
  obtain ⟨bs, i, hfree, hlen⟩ := freeBytes_ok (packedLen k) t
  have hmap : t.SameMap { t with draw := i } := ⟨rfl, rfl, rfl, fun _ => ⟨rfl, rfl⟩⟩
  obtain ⟨u, hput⟩ := putBytes_completes (s := { t with draw := i }) (out := dest.zip bs) hidle
    fun p hp => (hmap.place p.1).trans (hram p.1 (List.of_mem_zip hp).1)
  obtain ⟨fn, fz, fv, fc, j, hflags⟩ := freeFlags_ok (u.withRegs [0, a, 0, b, 0, d]) 4
  refine ⟨bs, i, j, u, fn, fz, fv, fc, hlen, hput, ?_⟩
  refine bind_run (checkLen_ok hn s) <| bind_run (checkLen_ok hm s) <| bind_run (checkLen_ok hk s) <| bind_run (readPacked_ok ha) ?_
  rw [if_pos ⟨rfl, rfl⟩]
  exact bind_run hdest <| bind_run hfree <| bind_run hput <| bind_run (run_setRegs _ u) hflags
end

/-! ### ADDP4 and SUBP4, ASHP -/

theorem packed4_error {f : Int → Int → Int} {len1 addr1 len2 addr2 : Opnd} {u w : Word16} {s3 s4 : State}
    (h1 : rdPlain .w len1 s = .ok u s1) (h2 : adrPlain .b addr1 s1 = .ok a s2) (h3 : rdPlain .w len2 s2 = .ok w s3)
    (h4 : adrPlain .b addr2 s3 = .ok b s4) (hbad : s4.badPair a u.toNat b w.toNat) :
    packed4 f len1 addr1 len2 addr2 s = .error (.exc reservedOperand) s4 :=
  bind_run (packedOpnd_ok h1 h2) <| bind_run (packedOpnd_ok h3 h4) (sources_bad hbad _)

theorem finish_packed4 {f : Int → Int → Int} {len1 addr1 len2 addr2 : Opnd} {u w : Word16} {s3 s4 s5 : State} (start : State)
    (h1 : rdPlain .w len1 s = .ok u s1) (h2 : adrPlain .b addr1 s1 = .ok a s2) (h3 : rdPlain .w len2 s2 = .ok w s3)
    (h4 : adrPlain .b addr2 s3 = .ok b s4) (hn : u.toNat ≤ 31) (hm : w.toNat ≤ 31) (ha : s4.packed a u.toNat x)
    (hb : s4.packed b w.toNat y) (hclash : (packedString b w.toNat).clash (packedString a u.toNat) = false)
    (hstore : s4.stores b (packedImage w.toNat (f y x)) s5) :
    finish start (packed4 f len1 addr1 len2 addr2 s) = s5.decimalDone [0, a, 0, b] w.toNat (f y x) := by
  have hrun : packed4 f len1 addr1 len2 addr2 s = storePacked b w.toNat [packedString a u.toNat] [0, a, 0, b] (f y x) s4 :=
    bind_run (packedOpnd_ok h1 h2) <| bind_run (packedOpnd_ok h3 h4) (sources_ok hn hm ha hb _)
  rw [hrun]
  exact finish_storePacked start (clash_one hclash) hstore

theorem comparePacked_ok (hn : n ≤ 31) (hm : m ≤ 31) (ha : s.packed a n x) (hb : s.packed b m y) :
    comparePacked n a m b s = .ok none ((s.withRegs [0, a, 0, b]).withCC (decide (x < y)) (decide (x = y)) false false) :=
  (sources_ok hn hm ha hb _).trans (setRegs_setCC _ _ _ _ _ s)

theorem field_low_byte (r : Byte) : field r 0 4 = r.toNat % 16 := by
  unfold field
  rw [BitVec.extractLsb'_toNat, Nat.shiftRight_zero]
end

/-- Settles O54: the lengths and sources are checked in their order, the exact result is stored. -/
theorem decimalArithmeticResults : Obligations.DecimalArithmeticResults := by
  unfold Obligations.DecimalArithmeticResults
  refine ⟨?_, ?_, ?_, ?_, ?_, ?_⟩
  · intro len srcaddr dstaddr s s1 s2 s3 n a d hready hn ha hd
    refine ⟨fun hbad => ?_, fun v s4 hlen hsrc hclash hstore => ?_⟩
    · exact execute_turnedAway hready <| bind_run (packedOpnd_ok hn ha) <| bind_run hd (source_bad hbad _)
    · have hrun : movp len srcaddr dstaddr (past 0x34 s) =
          storeDec (packedString d n.toNat) [packedString a n.toNat] [0, a, 0, d] v true
            (fun minus ds => pure (packedBytes n.toNat minus ds)) s3 :=
        bind_run (packedOpnd_ok hn ha) <| bind_run hd <| bind_run (checkLen_ok hlen s3) <| bind_run (readPacked_ok hsrc) rfl
      have hkept : (decide (10 ^ n.toNat ≤ v.natAbs) && s4.dv) = false := by
        rw [decide_eq_false (Nat.not_le.mpr hsrc.natAbs_lt), Bool.false_and]
      exact (execute_ready hready _).trans ((congrArg (finish s) hrun).trans ((finish_storeDec s (run_pure _ s3)
        (packedImage_length n.toNat v) (clash_one hclash) hstore).trans
          (congrArg (fun c : Bool => (.next (State.trappedIf (s4.decimal [0, a, 0, d] n.toNat v s4.ccC) c 6) : Out)) hkept)))
  · intro len src1addr src2addr s s1 s2 s3 n a b hready hn ha hb
    refine ⟨fun hbad => ?_, fun x y hlen hx hy => ?_⟩
    · refine execute_turnedAway hready <| bind_run (packedOpnd_ok hn ha) <| bind_run hb (sources_bad ?_ _)
      exact hbad.imp_right fun ⟨hlen, h⟩ => .inr ⟨hlen, hlen, h⟩
    · exact execute_ready_next hready <| bind_run (packedOpnd_ok hn ha) <| bind_run hb (comparePacked_ok hlen hlen hx hy)
  · intro src1len src1addr src2len src2addr s s1 s2 s3 s4 n m a b hready hn ha hm hb
    refine ⟨fun hbad => ?_, fun x y hn31 hm31 hx hy => ?_⟩
    · exact execute_turnedAway hready <| bind_run (packedOpnd_ok hn ha) <| bind_run (packedOpnd_ok hm hb) (sources_bad hbad _)
    · exact execute_ready_next hready <| bind_run (packedOpnd_ok hn ha) <| bind_run (packedOpnd_ok hm hb) (comparePacked_ok hn31 hm31 hx hy)
  · rw [List.forall_mem_cons, List.forall_mem_singleton]
    refine ⟨?_, ?_⟩
    all_goals
      intro len1 addr1 len2 addr2 s s1 s2 s3 s4 n m a b hready hn ha hm hb
      refine ⟨fun hbad => execute_turnedAway hready (packed4_error hn ha hm hb hbad), fun x y s5 hn31 hm31 hx hy hclash hstore => ?_⟩
      exact (execute_ready hready _).trans (finish_packed4 s hn ha hm hb hn31 hm31 hx hy hclash hstore)
  · intro e he len1 addr1 len2 addr2 len3 addr3 s s1 s2 s3 s4 s5 s6 n m k a b d hready h1 h2 h3 h4 h5 h6
    obtain ⟨hfpd, -, -⟩ := id hready
    rw [exec_six he hready h1 h2 h3 h4 h5 h6]
    refine ⟨fun hlen => ?_, fun hn hm hk => ⟨fun hbad => ?_, fun x hx hzero => ⟨fun hbad => ?_, ?_⟩, fun hdiv hx dest s7 hdest hidle hram => ?_⟩⟩
    · rw [sixPacked_badLength hlen, finish_reserved hfpd]
    · rw [sixPacked_badFirst hn hm hk hbad, finish_reserved hfpd]
    · rw [sixPacked_first hn hm hk hx fun h => hzero (of_decide_eq_true h), bind_of_error _ (readPacked_bad hbad), finish_reserved hfpd]
    · intro y s7 hy hfirst hsecond hstore
      rw [sixPacked_first hn hm hk hx fun h => hzero (of_decide_eq_true h), bind_of_ok _ (readPacked_ok hy)]
      exact finish_storePacked s (clash_two hfirst hsecond) hstore
    · obtain ⟨bs, i, j, u, fn, fz, fv, fc, hlen, hput, hrun⟩ := sixPacked_zero (f := e.2.2) (m := m.toNat) (b := b) hn hm hk hx hdest hidle hram
      refine ⟨bs, i, j, u, fn, fz, fv, fc, hlen, hput, ?_⟩
      rw [decide_eq_true hdiv, hrun]
      rfl
  · intro cnt srclen srcaddr round dstlen dstaddr s s1 s2 s3 s4 s5 s6 k r n m a d hready hk hn ha hr hm hd
    refine ⟨fun hbad => ?_, fun v w s7 hn31 hm31 hv hw hclash hstore => ?_⟩
    · exact execute_turnedAway hready <| bind_run hk <| bind_run (packedOpnd_ok hn ha) <| bind_run hr <| bind_run (packedOpnd_ok hm hd)
        (lensSource_bad hbad _)
    · have hshift : shiftDecimal v k.toInt (field r 0 4) = w := by
        rw [hw, field_low_byte]
        rfl
      have hrun : ashp cnt srclen srcaddr round dstlen dstaddr (past 0xF8 s) =
          storePacked d m.toNat [packedString a n.toNat] [0, a, 0, d] w s6 :=
        bind_run hk <| bind_run (packedOpnd_ok hn ha) <| bind_run hr <| bind_run (packedOpnd_ok hm hd) <|
          (lensSource_ok hn31 hm31 hv _).trans (by rw [hshift])
      exact (execute_ready hready _).trans ((congrArg (finish s) hrun).trans (finish_storePacked s (clash_one hclash) hstore))

end Sys2Proof.Machine
end

section
/-! Decimal conversions, 47_decimal.md R945 to R950. -/
namespace Sys2Proof.Machine

section
variable {s s1 s2 s3 s4 s5 s6 : State} {a d t : Long} {n m : Word16} {v : Int} {srclen srcaddr tbladdr dstlen dstaddr dst : Opnd}

theorem execute_finish {op : Nat} {meaning : Meaning} {out : Out} {result : EStateM.Result Stop State (Option Nat)} (hready : Ready op s)
    (hrun : meaning (past op s) = result) (hend : finish s result = out) : execute op meaning s = out := by
  rw [execute_ready hready, hrun, hend]

/-! ### Longwords, R945, R946 -/

theorem cvtlp_bad {src : Opnd} {x : Long} (hready : Ready 0xF9 s) (hx : rdPlain .l src (past 0xF9 s) = .ok x s1)
    (hm : rdPlain .w dstlen s1 = .ok m s2) (hd : adrPlain .b dstaddr s2 = .ok d s3) (hlen : 31 < m.toNat) :
    exec (.cvtlp src dstlen dstaddr) s = s.turnedAway s3 :=
  execute_turnedAway hready <| bind_run hx <| bind_run (packedOpnd_ok hm hd) <| bind_of_error _ (checkLen_bad hlen s3)

theorem cvtlp_ok {src : Opnd} {x : Long} (hready : Ready 0xF9 s) (hx : rdPlain .l src (past 0xF9 s) = .ok x s1)
    (hm : rdPlain .w dstlen s1 = .ok m s2) (hd : adrPlain .b dstaddr s2 = .ok d s3) (hlen : m.toNat ≤ 31)
    (hstore : s3.stores d (packedImage m.toNat x.toInt) s4) :
    exec (.cvtlp src dstlen dstaddr) s = s4.decimalDone [0, 0, 0, d] m.toNat x.toInt :=
  execute_finish hready (bind_run hx <| bind_run (packedOpnd_ok hm hd) <| bind_run (checkLen_ok hlen s3) rfl)
    (finish_storePacked s rfl hstore)

theorem cvtpl_bad (hready : Ready 0x36 s) (hn : rdPlain .w srclen (past 0x36 s) = .ok n s1) (ha : adrPlain .b srcaddr s1 = .ok a s2)
    (hbad : 31 < n.toNat ∨ n.toNat ≤ 31 ∧ s2.notPacked a n.toNat) : exec (.cvtpl srclen srcaddr dst) s = s.turnedAway s2 :=
  execute_turnedAway hready <| bind_run (packedOpnd_ok hn ha) (source_bad hbad _)

/-- The destination of CVTPL is evaluated once R0 to R3 are set. -/
theorem cvtpl_ok {k : Dest} (hready : Ready 0x36 s) (hn : rdPlain .w srclen (past 0x36 s) = .ok n s1)
    (ha : adrPlain .b srcaddr s1 = .ok a s2) (hlen : n.toNat ≤ 31) (hv : s2.packed a n.toNat v)
    (hk : wrPlain .l dst (s2.withRegs [0, a, 0, 0]) = .ok k s3) (hstore : storePlain .l k (BitVec.ofInt 32 v) s3 = .ok ⟨⟩ s4) :
    exec (.cvtpl srclen srcaddr dst) s =
      .next ((s4.flags (BitVec.ofInt 32 v) (decide ((BitVec.ofInt 32 v).toInt ≠ v)) false).trappedIf
        (decide ((BitVec.ofInt 32 v).toInt ≠ v) && s4.iv) 1) := by
  rw [show decide ((BitVec.ofInt 32 v).toInt ≠ v) = decide (v ≠ (BitVec.ofInt 32 v).toInt) from decide_eq_decide.mpr ne_comm]
  exact execute_finish hready (bind_run (packedOpnd_ok hn ha) <| bind_run (checkLen_ok hlen s2) <| bind_run (readPacked_ok hv) <|
    bind_run (run_setRegs _ s2) <| bind_run hk <| bind_run hstore rfl) (finish_setRes (Res.ofInt_is v) s s4)

/-! ### Leading separate numeric strings, R947, R948 -/

theorem separateBytes_length (minus : Bool) (k : Nat) (x : Nat) :
    ((if minus then 0x2D else 0x2B) :: asciiDigits (digitsOf k x) : List Byte).length = k + 1 := by
  rw [List.length_cons]
  unfold asciiDigits
  rw [List.length_map, digitsOf_length]

theorem if_decide_byte (v : Int) (x y : Byte) : (if decide (v < 0) then x else y) = if v < 0 then x else y := by
  by_cases hv : v < 0
  · rw [if_pos (decide_eq_true hv), if_pos hv]
  · rw [if_neg (by simpa using hv), if_neg hv]

theorem cvtps_ok (hready : Ready 0x08 s) (hn : rdPlain .w srclen (past 0x08 s) = .ok n s1) (ha : adrPlain .b srcaddr s1 = .ok a s2)
    (hm : rdPlain .w dstlen s2 = .ok m s3) (hd : adrPlain .b dstaddr s3 = .ok d s4) (hn31 : n.toNat ≤ 31) (hm31 : m.toNat ≤ 31)
    (hv : s4.packed a n.toNat v) (hclash : DecString.clash ⟨d, m.toNat, m.toNat + 1⟩ (packedString a n.toNat) = false)
    (hstore : s4.stores d ((if v < 0 then 0x2D else 0x2B) :: asciiDigits (digitsOf m.toNat v.natAbs)) s5) :
    exec (.cvtps srclen srcaddr dstlen dstaddr) s = s5.decimalDone [0, a, 0, d] m.toNat v := by
  rw [← if_decide_byte] at hstore
  exact execute_finish hready (bind_run (packedOpnd_ok hn ha) <| bind_run (packedOpnd_ok hm hd) (lensSource_ok hn31 hm31 hv _))
    (finish_storeDec s (dst := ⟨d, m.toNat, m.toNat + 1⟩) (run_pure _ s4) (separateBytes_length _ _ _) (clash_one hclash) hstore)

theorem valid_none {α : Type} {x : Option α} (h : x = none) (u : State) : valid x u = .error (.exc reservedOperand) u := by
  rw [h]
  rfl

theorem valid_some {α : Type} {x : Option α} {y : α} (h : x = some y) (u : State) : valid x u = .ok y u := by
  rw [h]
  rfl

theorem cvtsp_lens (hready : Ready 0x09 s) (hn : rdPlain .w srclen (past 0x09 s) = .ok n s1) (ha : adrPlain .b srcaddr s1 = .ok a s2)
    (hm : rdPlain .w dstlen s2 = .ok m s3) (hd : adrPlain .b dstaddr s3 = .ok d s4) (hlen : 31 < n.toNat ∨ 31 < m.toNat) :
    exec (.cvtsp srclen srcaddr dstlen dstaddr) s = s.turnedAway s4 :=
  execute_turnedAway hready <| bind_run (packedOpnd_ok hn ha) <| bind_run (packedOpnd_ok hm hd) (checkLens_bad hlen _ s4)

/-- CVTSP once its source is read. -/
theorem cvtsp_read {bs : List Byte} (hn : rdPlain .w srclen s = .ok n s1) (ha : adrPlain .b srcaddr s1 = .ok a s2)
    (hm : rdPlain .w dstlen s2 = .ok m s3) (hd : adrPlain .b dstaddr s3 = .ok d s4) (hn31 : n.toNat ≤ 31) (hm31 : m.toNat ≤ 31)
    (hlen : bs.length = n.toNat + 1) (hbs : s4.shows a bs) :
    cvtsp srclen srcaddr dstlen dstaddr s =
      (valid (separateValue bs) >>= storePacked d m.toNat [⟨a, n.toNat, n.toNat + 1⟩] [0, a, 0, d]) s4 :=
  bind_run (packedOpnd_ok hn ha) <| bind_run (packedOpnd_ok hm hd) <| bind_run (checkLen_ok hn31 s4) <|
    bind_run (checkLen_ok hm31 s4) <| bind_run (hbs.readBytes_of hlen) rfl

/-! ### Trailing numeric strings, R949, R950 -/

theorem digitsOf_snoc {k : Nat} (hk : 0 < k) (x : Nat) : digitsOf k x = digitsOf (k - 1) (x / 10) ++ [x % 10] := by
  obtain ⟨j, rfl⟩ := Nat.exists_eq_succ_of_ne_zero (Nat.ne_of_gt hk)
  exact lowDigits_succ 10 j x

/-- The last digit and the sign choose a byte of the table. -/
theorem trailingBytes_ok {k x : Nat} {y : Byte} (hk : 0 < k)
    (hy : s.shows (t + long (x % 10 * 16 + if v < 0 then 13 else 12)) [y]) :
    trailingBytes t (decide (v < 0)) (digitsOf k x) s = .ok (asciiDigits (digitsOf (k - 1) (x / 10)) ++ [y]) s := by
  have hsign : (if decide (v < 0) then 13 else 12 : Nat) = if v < 0 then 13 else 12 := by
    by_cases hv : v < 0
    · rw [if_pos (decide_eq_true hv), if_pos hv]
    · rw [if_neg (by simpa using hv), if_neg hv]
  unfold trailingBytes
  rw [digitsOf_snoc hk, List.getLast?_concat, List.dropLast_concat]
  dsimp only
  rw [hsign]
  exact bind_run hy.head rfl

theorem trailingBytes_length {k x : Nat} (hk : 0 < k) (y : Byte) : (asciiDigits (digitsOf (k - 1) x) ++ [y]).length = k := by
  unfold asciiDigits
  rw [List.length_append, List.length_map, digitsOf_length, List.length_singleton]
  omega

/-- CVTPT once its operands are valid. -/
theorem cvtpt_read (hn : rdPlain .w srclen s = .ok n s1) (ha : adrPlain .b srcaddr s1 = .ok a s2) (ht : adrPlain .b tbladdr s2 = .ok t s3)
    (hm : rdPlain .w dstlen s3 = .ok m s4) (hd : adrPlain .b dstaddr s4 = .ok d s5) (hn31 : n.toNat ≤ 31) (hm31 : m.toNat ≤ 31)
    (hv : s5.packed a n.toNat v) :
    cvtpt srclen srcaddr tbladdr dstlen dstaddr s =
      storeDec ⟨d, m.toNat, m.toNat⟩ [packedString a n.toNat] [0, a, 0, d] v false (trailingBytes t) s5 :=
  bind_run (packedOpnd_ok hn ha) <| bind_run ht <| bind_run (packedOpnd_ok hm hd) (lensSource_ok hn31 hm31 hv _)

theorem clash_empty (d : Long) (k : Nat) (x : DecString) : DecString.clash ⟨d, k, 0⟩ x = false := by
  unfold DecString.clash rangesOverlap
  rw [decide_eq_false fun h => absurd h.1 (Nat.lt_irrefl 0), Bool.false_and]

/-- CVTTP of no digits. -/
theorem cvttp_empty (hn : rdPlain .w srclen s = .ok n s1) (ha : adrPlain .b srcaddr s1 = .ok a s2)
    (ht : adrPlain .b tbladdr s2 = .ok t s3) (hm : rdPlain .w dstlen s3 = .ok m s4) (hd : adrPlain .b dstaddr s4 = .ok d s5)
    (hn0 : n.toNat = 0) (hm31 : m.toNat ≤ 31) :
    cvttp srclen srcaddr tbladdr dstlen dstaddr s = storePacked d m.toNat [⟨a, n.toNat, n.toNat⟩] [0, a, 0, d] 0 s5 := by
  have hread : readBytes a n.toNat s5 = .ok [] s5 := by
    rw [hn0]
    rfl
  exact bind_run (packedOpnd_ok hn ha) <| bind_run ht <| bind_run (packedOpnd_ok hm hd) <| bind_run (checkLen_ok (by omega) s5) <|
    bind_run (checkLen_ok hm31 s5) <| bind_run hread rfl

/-- CVTTP once its source and the byte of the table are read. -/
theorem cvttp_read {lead : List Byte} {k y : Byte} (hn : rdPlain .w srclen s = .ok n s1) (ha : adrPlain .b srcaddr s1 = .ok a s2)
    (ht : adrPlain .b tbladdr s2 = .ok t s3) (hm : rdPlain .w dstlen s3 = .ok m s4) (hd : adrPlain .b dstaddr s4 = .ok d s5)
    (hn31 : n.toNat ≤ 31) (hm31 : m.toNat ≤ 31) (hlen : lead.length + 1 = n.toNat) (hbs : s5.shows a (lead ++ [k]))
    (hy : s5.shows (t + k.setWidth 32) [y]) :
    cvttp srclen srcaddr tbladdr dstlen dstaddr s =
      (valid (trailingValue lead y) >>= storePacked d m.toNat [⟨a, n.toNat, n.toNat⟩] [0, a, 0, d]) s5 := by
  refine bind_run (packedOpnd_ok hn ha) <| bind_run ht <| bind_run (packedOpnd_ok hm hd) <| bind_run (checkLen_ok hn31 s5) <|
    bind_run (checkLen_ok hm31 s5) <| bind_run (hbs.readBytes_of (by rw [List.length_append, List.length_singleton, hlen])) ?_
  rw [List.getLast?_concat, List.dropLast_concat]
  exact bind_run hy.head rfl
end

end Sys2Proof.Machine
end

section
/-! EDITPC, 47_decimal.md R951 to R953: the model's edit, which keeps addresses and bytes to store, does what the edit of the text does. -/
namespace Sys2Proof.Machine

section
variable {s : State} {d p : Long} {x y z : EditText} {b : Byte} {k r op : Nat}

/-! ### The addresses of a text -/

/-- Characters from number `i` on, each with its physical address. -/
def placed (w : Nat) (d : Long) (i : Nat) (text : List Byte) : List (Nat × Byte) :=
  (text.zipIdx i).map fun y => ((d + long y.2).toNat % 2 ^ w, y.1)

theorem placed_append (w : Nat) (d : Long) (i : Nat) (l m : List Byte) :
    placed w d i (l ++ m) = placed w d i l ++ placed w d (i + l.length) m := by
  unfold placed
  rw [List.zipIdx_append, List.map_append]

theorem placed_length (w : Nat) (d : Long) (i : Nat) (l : List Byte) : (placed w d i l).length = l.length := by
  unfold placed
  rw [List.length_map, List.length_zipIdx]

/-- Characters that are replaced keep their addresses. -/
theorem placed_fill (w : Nat) (d : Long) (i : Nat) (l : List Byte) (fill : Byte) :
    (placed w d i l).map (fun y => (y.1, fill)) = placed w d i (List.replicate l.length fill) := by
  induction l generalizing i with
  | nil => rfl
  | cons b l ih => exact congrArg (((d + long i).toNat % 2 ^ w, fill) :: ·) (ih (i + 1))

/-- The model's edit that stands for an edit of a text to be stored at `d`, with the pattern pointer at `p`. -/
def EditText.edit (x : EditText) (w : Nat) (d p : Long) : Edit :=
  ⟨x.digits, x.zeros, x.fill, x.sign, d + long x.text.length, p, (placed w d 0 x.text).reverse, x.n, x.z, x.v, x.c⟩

/-- Carried out on the model's edit, `act` ends with the edit of `y`. -/
def Edits (act : Edit → M Edit) (s : State) (d p q : Long) (x y : EditText) : Prop :=
  act (x.edit s.cfg.paw d p) s = .ok (y.edit s.cfg.paw d q) s

/-! ### Characters and digits -/

theorem editPut_ok (hoff : s.mm.mapen = false) (x : EditText) (b : Byte) (p : Long) : Edits (editPut · b) s d p p x (x.put b) := by
  refine bind_run (destByte_off _ hoff) ?_
  unfold EditText.edit EditText.put
  dsimp only
  rw [placed_append, List.reverse_append, List.length_append, Nat.zero_add, BitVec.add_assoc, show (1 : Long) = long 1 from rfl,
    ← BitVec.add_assoc, add_long_add]
  rfl

theorem editFill_ok (hoff : s.mm.mapen = false) (x : EditText) (r : Nat) (p : Long) :
    Edits (editFill · r) s d p p x { x with text := x.text ++ List.replicate r x.fill } := by
  induction r generalizing x with
  | zero =>
    unfold Edits
    rw [List.replicate_zero, List.append_nil]
    rfl
  | succ r ih =>
    refine bind_run (editPut_ok hoff x x.fill p) ((ih (x.put x.fill)).trans ?_)
    unfold EditText.put
    dsimp only
    rw [List.append_assoc, List.singleton_append, ← List.replicate_succ]

theorem nextDigit_ok {k : Nat} (h : x.next = some (k, y)) (p : Long) :
    nextDigit (x.edit s.cfg.paw d p) s = .ok (k, y.edit s.cfg.paw d p) s := by
  obtain ⟨digits, zeros, fill, sign, text, n, z, v, c⟩ := x
  unfold EditText.next at h
  cases zeros with
  | succ j =>
    rw [if_pos (Nat.succ_pos j)] at h
    cases h
    rfl
  | zero =>
    rw [if_neg (Nat.lt_irrefl 0)] at h
    cases digits with
    | nil => exact nomatch h
    | cons e es =>
      dsimp only at h
      split at h
      next hle =>
        cases h
        unfold nextDigit EditText.edit
        dsimp only
        rw [if_neg (Nat.not_lt.mpr hle)]
        rfl
      next => exact nomatch h

/-- A digit other than 0 starts significance. -/
def EditText.noting (x : EditText) (k : Nat) : EditText := if k = 0 then x else { x with c := true, z := false }

theorem editDigit_ok (hoff : s.mm.mapen = false) (x : EditText) (k : Nat) (p : Long) :
    editDigit (if k ≠ 0 then { x.edit s.cfg.paw d p with c := true, z := false } else x.edit s.cfg.paw d p) k s =
      .ok (((x.noting k).put (if (x.noting k).c then BitVec.ofNat 8 (0x30 + k) else (x.noting k).fill)).edit s.cfg.paw d p) s := by
  have hnote : (if k ≠ 0 then { x.edit s.cfg.paw d p with c := true, z := false } else x.edit s.cfg.paw d p) =
      (x.noting k).edit s.cfg.paw d p := by
    unfold EditText.noting
    by_cases hk : k = 0
    · rw [if_neg (not_not_intro hk), if_pos hk]
    · rw [if_pos hk, if_neg hk]
      rfl
  rw [hnote]
  exact editPut_ok hoff _ _ p

/-- One digit of EO$MOVE and EO$FLOAT. -/
theorem editMove_step (hoff : s.mm.mapen = false) {float : Bool} (h : x.digit float = some y) (p : Long) (r : Nat) :
    editMove float (x.edit s.cfg.paw d p) (r + 1) s = editMove float (y.edit s.cfg.paw d p) r s := by
  unfold EditText.digit at h
  cases hnext : x.next with
  | none => rw [hnext] at h; exact nomatch h
  | some a =>
    obtain ⟨k, x1⟩ := a
    rw [hnext] at h
    dsimp only at h
    refine bind_run (nextDigit_ok hnext p) ?_
    dsimp only
    have hiff : (float = true ∧ k ≠ 0 ∧ ¬ (x1.edit s.cfg.paw d p).c = true) ↔ (float && k != 0 && !x1.c) = true := by
      simp [EditText.edit, and_assoc]
    by_cases hc : (float && k != 0 && !x1.c) = true
    · rw [if_pos hc] at h
      cases h
      rw [if_pos (hiff.mpr hc)]
      exact bind_run (editPut_ok hoff x1 x1.sign p) <| bind_run (editDigit_ok hoff (x1.put x1.sign) k p) rfl
    · rw [if_neg hc] at h
      cases h
      rw [if_neg (mt hiff.mp hc)]
      exact bind_run (run_pure _ s) <| bind_run (editDigit_ok hoff x1 k p) rfl

theorem editMove_ok (hoff : s.mm.mapen = false) {float : Bool} (h : repeated (EditText.digit float) r x = some y) (p : Long) :
    Edits (editMove float · r) s d p p x y := by
  induction r generalizing x with
  | zero => cases h; rfl
  | succ r ih =>
    obtain ⟨z, hstep, hrest⟩ := Option.bind_eq_some_iff.mp h
    exact (editMove_step hoff hstep p r).trans (ih hrest)

/-! ### Operators on what is stored -/

theorem overwrite_placed (w : Nat) (d : Long) (i : Nat) (l m : List Byte) (fill : Byte) :
    overwrite fill m.length (placed w d i (l ++ m)).reverse = (placed w d i (l ++ List.replicate m.length fill)).reverse := by
  unfold overwrite
  rw [placed_append, placed_append, List.reverse_append, List.reverse_append,
    List.take_left' (by rw [List.length_reverse, placed_length]), List.drop_left' (by rw [List.length_reverse, placed_length]),
    List.map_reverse, placed_fill]

/-- Characters `i` and up, `n` of them, are overwritten past the `j` last ones. -/
theorem overwrite_blank (x : EditText) (w : Nat) {i n j : Nat} (h : i + n + j = x.text.length) :
    (placed w d 0 (x.blank i n).text).reverse =
      (placed w d 0 x.text).reverse.take j ++ overwrite x.fill n ((placed w d 0 x.text).reverse.drop j) := by
  obtain ⟨front, rest, hsplit, hi⟩ : ∃ front rest, x.text = front ++ rest ∧ front.length = i :=
    ⟨_, _, (List.take_append_drop i x.text).symm, by rw [List.length_take]; omega⟩
  obtain ⟨mid, tail, hrest, hn⟩ : ∃ mid tail, rest = mid ++ tail ∧ mid.length = n := by
    refine ⟨_, _, (List.take_append_drop n rest).symm, ?_⟩
    rw [hsplit, List.length_append] at h
    rw [List.length_take]
    omega
  rw [hrest, ← List.append_assoc] at hsplit
  have hj : tail.length = j := by
    rw [hsplit, List.length_append, List.length_append] at h
    omega
  have hblank : (x.blank i n).text = front ++ List.replicate n x.fill ++ tail := by
    unfold EditText.blank
    dsimp only
    rw [hsplit, List.drop_left' (by rw [List.length_append, hi, hn]), List.append_assoc front, List.take_left' hi]
  rw [hblank, hsplit, placed_append, placed_append w d 0 (front ++ mid), List.reverse_append, List.reverse_append,
    List.take_left' (by rw [List.length_reverse, placed_length, hj]), List.drop_left' (by rw [List.length_reverse, placed_length, hj]),
    ← hn, overwrite_placed, List.length_append, List.length_append, List.length_replicate]

theorem editBack_ok (h : ¬ (k = 0 ∨ x.text.length < k)) (p : Long) : editBack (x.edit s.cfg.paw d p) k s = .ok ⟨⟩ s := by
  unfold editBack
  have hlen : (x.edit s.cfg.paw d p).out.length = x.text.length := by
    unfold EditText.edit
    rw [List.length_reverse, placed_length]
  rw [hlen, if_neg h]
  rfl

/-- EO$ADJUST_INPUT. -/
def EditText.adjust (x : EditText) (len : Nat) : Option EditText :=
  if 31 < len then none
  else if x.digits.length ≤ len then some { x with zeros := if x.digits.length < len then len - x.digits.length else x.zeros }
  else
    let lost := x.digits.take (x.digits.length - len)
    if lost.all (· ≤ 9) then
      some (if lost.all (· == 0) then { x with digits := x.digits.drop (x.digits.length - len) }
        else { x with digits := x.digits.drop (x.digits.length - len), z := false, c := true, v := true })
    else none

theorem editAdjust_ok {len : Nat} (h : x.adjust len = some y) (p : Long) : Edits (editAdjust · len) s d p p x y := by
  obtain ⟨digits, zeros, fill, sign, text, n, z, v, c⟩ := x
  unfold EditText.adjust at h
  unfold Edits editAdjust EditText.edit
  dsimp only at h ⊢
  split at h
  · exact nomatch h
  next hlen =>
    rw [if_neg hlen]
    split at h
    next hle =>
      cases h
      rw [if_neg (Nat.not_lt.mpr hle)]
      split <;> rfl
    next hgt =>
      rw [if_pos (Nat.not_le.mp hgt)]
      generalize digits.take (digits.length - len) = lost at h ⊢
      have hbad : lost.any (fun e => decide (9 < e)) = !lost.all (· ≤ 9) := by
        rw [List.not_all_eq_any_not]
        refine congrArg lost.any (funext fun e => ?_)
        rw [← decide_not]
        exact decide_eq_decide.mpr Nat.not_le.symm
      have hnonzero : lost.any (fun e => e != 0) = !lost.all (· == 0) := List.not_all_eq_any_not.symm
      rw [hbad, hnonzero]
      cases hvalid : lost.all (· ≤ 9) with
      | false => rw [hvalid] at h; exact nomatch h
      | true =>
        rw [hvalid] at h
        cases h
        cases lost.all (· == 0) <;> rfl

/-- A length of characters to go back over. -/
theorem back_of_some {len : Nat} {u : Option EditText} (h : (if len = 0 ∨ x.text.length < len then none else u) = some y) :
    ¬ (len = 0 ∨ x.text.length < len) ∧ u = some y := by
  by_cases hc : len = 0 ∨ x.text.length < len
  · rw [if_pos hc] at h
    exact nomatch h
  · rw [if_neg hc] at h
    exact ⟨hc, h⟩

theorem EditText.blank_length (x : EditText) {i n : Nat} (h : i + n ≤ x.text.length) : (x.blank i n).text.length = x.text.length := by
  unfold EditText.blank
  dsimp only
  rw [List.length_append, List.length_append, List.length_take, List.length_replicate, List.length_drop]
  omega

/-- The edit after characters `i` and up, `n` of them, are blanked, `j` characters following them. -/
theorem EditText.blank_edit (x : EditText) (w : Nat) (p : Long) {i n j : Nat} (h : i + n + j = x.text.length) :
    (x.blank i n).edit w d p =
      { x.edit w d p with
        out := (x.edit w d p).out.take j ++ overwrite x.fill n ((x.edit w d p).out.drop j) } := by
  unfold EditText.edit
  rw [overwrite_blank x w h, x.blank_length (by omega)]
  rfl

/-- The operators that set the sign character of a positive or of a negative number. -/
theorem signed_ok (hop : op = 0x42 ∨ op = 0x43) (h : x.withByte op b = some y) (p : Long) : Edits (editWith · op b) s d p p x y := by
  obtain ⟨digits, zeros, fill, sign, text, n, z, v, c⟩ := x
  obtain rfl | rfl := hop <;> cases n <;> cases h <;> rfl

/-- The operators with an operand byte. -/
theorem editWith_ok (hoff : s.mm.mapen = false) (hlo : 0x40 ≤ op) (hhi : op ≤ 0x47) (h : x.withByte op b = some y) (p : Long) :
    Edits (editWith · op b) s d p p x y := by
  obtain rfl | rfl | rfl | rfl | rfl | rfl | rfl | rfl : op = 0x40 ∨ op = 0x41 ∨ op = 0x42 ∨ op = 0x43 ∨ op = 0x44 ∨ op = 0x45
      ∨ op = 0x46 ∨ op = 0x47 := by omega
  · cases h; rfl
  · cases h; rfl
  · exact signed_ok (.inl rfl) h p
  · exact signed_ok (.inr rfl) h p
  · cases h
    exact editPut_ok hoff x _ p
  · obtain ⟨hback, h⟩ := back_of_some h
    cases h
    refine bind_run (editBack_ok hback p) ?_
    have hblank := x.blank_edit (d := d) s.cfg.paw p (i := x.text.length - b.toNat) (n := b.toNat) (j := 0) (by omega)
    rw [List.take_zero, List.drop_zero, List.nil_append] at hblank
    by_cases hz : x.z = true
    · rw [if_pos hz, hblank]
      exact congrArg (EStateM.Result.ok · s) (if_pos hz)
    · rw [if_neg hz]
      exact congrArg (EStateM.Result.ok · s) (if_neg hz)
  · obtain ⟨hback, h⟩ := back_of_some h
    cases h
    refine bind_run (editBack_ok hback p) ?_
    have hblank := x.blank_edit (d := d) s.cfg.paw p (i := x.text.length - b.toNat) (n := 1) (j := b.toNat - 1) (by omega)
    by_cases hz : x.z = true
    · rw [if_pos hz, hblank]
      exact congrArg (EStateM.Result.ok · s) (if_pos hz)
    · rw [if_neg hz]
      exact congrArg (EStateM.Result.ok · s) (if_neg hz)
  · exact editAdjust_ok (len := b.toNat) h p

/-! ### The pattern -/

theorem editOp_plain (hoff : s.mm.mapen = false) (hop : ¬ (0x40 ≤ op ∧ op ≤ 0x47)) (h : x.plain op = some y) (p : Long) :
    Edits (editOp · op) s d p p x y := by
  unfold EditText.plain at h
  unfold Edits editOp
  dsimp only
  by_cases h1 : op = 1
  · rw [if_pos h1] at h ⊢
    cases h
    by_cases hc : x.c = true
    · have hc' : (x.edit s.cfg.paw d p).c = true := hc
      rw [if_pos hc, if_pos hc']
      exact bind_run (run_pure _ s) rfl
    · have hc' : ¬ (x.edit s.cfg.paw d p).c = true := hc
      rw [if_neg hc, if_neg hc']
      exact bind_run (editPut_ok hoff x x.sign p) rfl
  rw [if_neg h1] at h ⊢
  by_cases h2 : op = 2
  · rw [if_pos h2] at h ⊢
    cases h; rfl
  rw [if_neg h2] at h ⊢
  by_cases h3 : op = 3
  · rw [if_pos h3] at h ⊢
    cases h; rfl
  rw [if_neg h3] at h ⊢
  by_cases h4 : op = 4
  · rw [if_pos h4] at h ⊢
    cases h
    exact editPut_ok hoff x x.sign p
  rw [if_neg h4] at h ⊢
  rw [if_neg hop]
  by_cases hfill : 0x81 ≤ op ∧ op ≤ 0x8F
  · rw [if_pos hfill] at h ⊢
    cases h
    rw [show op % 16 = op - 0x80 by omega]
    exact editFill_ok hoff x _ p
  rw [if_neg hfill] at h ⊢
  by_cases hmove : 0x91 ≤ op ∧ op ≤ 0x9F
  · rw [if_pos hmove] at h ⊢
    rw [show op % 16 = op - 0x90 by omega]
    exact editMove_ok hoff h p
  rw [if_neg hmove] at h ⊢
  by_cases hfloat : 0xA1 ≤ op ∧ op ≤ 0xAF
  · rw [if_pos hfloat] at h ⊢
    rw [show op % 16 = op - 0xA0 by omega]
    exact editMove_ok hoff h p
  · rw [if_neg hfloat] at h
    exact nomatch h

theorem editOp_withByte (hoff : s.mm.mapen = false) (hlo : 0x40 ≤ op) (hhi : op ≤ 0x47) (hb : readByte p s = .ok b s)
    (h : x.withByte op b = some y) : Edits (editOp · op) s d p (p + 1) x y := by
  unfold Edits editOp
  dsimp only
  rw [if_neg (by omega), if_neg (by omega), if_neg (by omega), if_neg (by omega), if_pos ⟨hlo, hhi⟩]
  exact bind_run hb (editWith_ok hoff hlo hhi h (p + 1))

/-- A pattern that the text's edit carries out to its end is carried out on the model's edit. -/
theorem editRun_ok {pattern : List Byte} (hoff : s.mm.mapen = false) (hshows : s.shows p pattern)
    (h : EditText.run pattern x = some (z, k)) {fuel : Nat} (hfuel : pattern.length ≤ fuel) :
    editRun (x.edit s.cfg.paw d p) fuel s = .ok (z.edit s.cfg.paw d (p + long k)) s := by
  induction fuel generalizing pattern x p k with
  | zero =>
    rw [List.eq_nil_of_length_eq_zero (Nat.le_zero.mp hfuel)] at h
    exact nomatch h
  | succ fuel ih =>
    cases pattern with
    | nil => exact nomatch h
    | cons op rest =>
      rw [List.length_cons] at hfuel
      refine bind_run hshows.head ?_
      unfold EditText.run at h
      by_cases hend : op = 0
      · rw [if_pos hend] at h ⊢
        by_cases hused : x.digits = [] ∧ x.zeros = 0
        · rw [if_pos hused] at h
          cases h
          have hdone : ¬ ((x.edit s.cfg.paw d p).digits ≠ [] ∨ (x.edit s.cfg.paw d p).zeros ≠ 0) :=
            not_or.mpr ⟨not_not_intro hused.1, not_not_intro hused.2⟩
          rw [if_neg hdone, add_long_zero]
          rfl
        · rw [if_neg hused] at h
          exact nomatch h
      · rw [if_neg hend] at h ⊢
        by_cases hop : 0x40 ≤ op.toNat ∧ op.toNat ≤ 0x47
        · rw [if_pos hop] at h
          cases rest with
          | nil => exact nomatch h
          | cons ch rest =>
            obtain ⟨y, hy, h⟩ := Option.bind_eq_some_iff.mp h
            obtain ⟨⟨z', j⟩, hrun, hz⟩ := Option.map_eq_some_iff.mp h
            cases hz
            refine bind_run (editOp_withByte (p := p + 1) hoff hop.1 hop.2 hshows.tail.head hy) ?_
            rw [List.length_cons] at hfuel
            rw [ih hshows.tail.tail hrun (by omega), add_long_succ, add_long_succ]
        · rw [if_neg hop] at h
          obtain ⟨y, hy, h⟩ := Option.bind_eq_some_iff.mp h
          obtain ⟨⟨z', j⟩, hrun, hz⟩ := Option.map_eq_some_iff.mp h
          cases hz
          refine bind_run (editOp_plain hoff hop hy (p + 1)) ?_
          rw [ih hshows.tail hrun (by omega), add_long_succ]
end

/-! ### What ends an edit with a fault, R951, R952 -/

section
variable {s : State} {e : Edit} {b : Byte} {op : Nat}

theorem editOp_unassigned (h : (0x05 ≤ op ∧ op ≤ 0x3F) ∨ (0x48 ≤ op ∧ op ≤ 0x80) ∨ op = 0x90 ∨ op = 0xA0 ∨ 0xB0 ≤ op) (e : Edit) (s : State) :
    editOp e op s = .error (.exc reservedOperand) s := by
  unfold editOp
  dsimp only
  rw [if_neg (by omega), if_neg (by omega), if_neg (by omega), if_neg (by omega), if_neg (by omega), if_neg (by omega), if_neg (by omega),
    if_neg (by omega), run_raise]

theorem nextDigit_bad (hzeros : e.zeros = 0) (hdigit : ∀ d ∈ e.digits.head?, 9 < d) : nextDigit e s = .error (.exc reservedOperand) s := by
  obtain ⟨digits, zeros, fill, sign, dp, pp, out, n, z, v, c⟩ := e
  cases hzeros
  cases digits with
  | nil => rfl
  | cons d rest =>
    have hd : 9 < d := hdigit d rfl
    unfold nextDigit
    dsimp only
    rw [if_pos hd, run_raise]

theorem editMove_bad {float : Bool} {r : Nat} (hr : 0 < r) (hzeros : e.zeros = 0) (hdigit : ∀ d ∈ e.digits.head?, 9 < d) :
    editMove float e r s = .error (.exc reservedOperand) s := by
  obtain ⟨j, rfl⟩ := Nat.exists_eq_succ_of_ne_zero (Nat.ne_of_gt hr)
  exact bind_of_error _ (nextDigit_bad hzeros hdigit)

theorem editOp_noDigit (h : 0x91 ≤ op ∧ op ≤ 0x9F ∨ 0xA1 ≤ op ∧ op ≤ 0xAF) (hzeros : e.zeros = 0) (hdigit : ∀ d ∈ e.digits.head?, 9 < d) :
    editOp e op s = .error (.exc reservedOperand) s := by
  unfold editOp
  dsimp only
  rw [if_neg (by omega), if_neg (by omega), if_neg (by omega), if_neg (by omega), if_neg (by omega), if_neg (by omega)]
  by_cases hmove : 0x91 ≤ op ∧ op ≤ 0x9F
  · rw [if_pos hmove]
    exact editMove_bad (by omega) hzeros hdigit
  · rw [if_neg hmove, if_pos (h.resolve_left hmove)]
    exact editMove_bad (by omega) hzeros hdigit

/-- A reserved operator, no valid digit where one is read, digits left at the end. -/
theorem editRun_bad (hb : readByte e.pp s = .ok b s) (fuel : Nat)
    (h : (0x05 ≤ b.toNat ∧ b.toNat ≤ 0x3F) ∨ (0x48 ≤ b.toNat ∧ b.toNat ≤ 0x80) ∨ b = 0x90 ∨ b = 0xA0 ∨ 0xB0 ≤ b.toNat
      ∨ ((0x91 ≤ b.toNat ∧ b.toNat ≤ 0x9F ∨ 0xA1 ≤ b.toNat ∧ b.toNat ≤ 0xAF) ∧ e.zeros = 0 ∧ ∀ d ∈ e.digits.head?, 9 < d)
      ∨ (b = 0 ∧ (e.digits ≠ [] ∨ e.zeros ≠ 0))) :
    editRun e (fuel + 1) s = .error (.exc reservedOperand) s := by
  refine bind_run hb ?_
  by_cases hend : b = 0
  · subst hend
    obtain hlow | hmid | heq | heq | hhigh | ⟨hdigit, -⟩ | ⟨-, hleft⟩ := h
    · exact absurd hlow.1 (by decide)
    · exact absurd hmid.1 (by decide)
    · exact absurd heq (by decide)
    · exact absurd heq (by decide)
    · exact absurd hhigh (by decide)
    · exact absurd hdigit (by decide)
    · rw [if_pos rfl, if_pos hleft]
      rfl
  · rw [if_neg hend]
    refine bind_of_error _ ?_
    have hnum (k : Byte) (hk : b = k) : b.toNat = k.toNat := congrArg BitVec.toNat hk
    obtain hlow | hmid | heq | heq | hhigh | ⟨hdigit, hzeros, hhead⟩ | ⟨hzero, -⟩ := h
    · exact editOp_unassigned (.inl hlow) _ s
    · exact editOp_unassigned (.inr (.inl hmid)) _ s
    · exact editOp_unassigned (.inr (.inr (.inl (hnum _ heq)))) _ s
    · exact editOp_unassigned (.inr (.inr (.inr (.inl (hnum _ heq))))) _ s
    · exact editOp_unassigned (.inr (.inr (.inr (.inr hhigh)))) _ s
    · exact editOp_noDigit hdigit hzeros hhead
    · exact absurd hzero hend
end

end Sys2Proof.Machine
end

section
/-! The decimal conversions and EDITPC as their rules say, 47_decimal.md R945 to R953. -/
namespace Sys2Proof.Machine

section
variable {s s1 s2 s3 s4 s5 s6 : State} {a p d : Long} {n : Word16} {bs : List Byte} {e : Edit} {srclen srcaddr pattern dstaddr : Opnd}

/-- An edit before its first operator. -/
def Edit.start (digits : List Nat) (minus : Bool) (d p : Long) : Edit :=
  ⟨digits, 0, 0x20, if minus then 0x2D else 0x20, d, p, [], minus, true, false, false⟩

theorem EditText.start_edit (digits : List Nat) (minus : Bool) (w : Nat) (d p : Long) :
    (EditText.start digits minus).edit w d p = Edit.start digits minus d p := by
  unfold EditText.start EditText.edit Edit.start
  rw [List.length_nil, add_long_zero]
  rfl

/-- The source of EDITPC is no packed string: its sign, or the unused digit of an even length. -/
def BadSource (n : Nat) (bs : List Byte) : Prop := beNat bs % 16 < 10 ∨ (n % 2 = 0 ∧ (packedDigits n bs).headD 0 ≠ 0)

theorem usedDigits (n : Nat) (bs : List Byte) :
    (packedDigits n bs).drop ((packedDigits n bs).length - n) =
      if n % 2 = 0 then (packedDigits n bs).tail else packedDigits n bs := by
  have hlength : (packedDigits n bs).length = nibbles n := by rw [packedDigits_eq, lowDigits_length]
  have hnibbles : nibbles n = 2 * (n / 2) + 1 := rfl
  split
  · rw [hlength, show nibbles n - n = 1 by omega, List.drop_one]
  · rw [hlength, show nibbles n - n = 0 by omega, List.drop_zero]

theorem minusSign_eq (k : Nat) : minusSign k = decide (k = 11 ∨ k = 13) := by
  rw [Bool.decide_or]
  rfl

theorem editpc_badSource (hn : rdPlain .w srclen s = .ok n s1) (ha : adrPlain .b srcaddr s1 = .ok a s2)
    (hp : adrPlain .b pattern s2 = .ok p s3) (hd : adrPlain .b dstaddr s3 = .ok d s4) (hlen : n.toNat ≤ 31)
    (hbytes : bs.length = packedLen n.toNat) (hbs : s4.shows a bs) (hbad : BadSource n.toNat bs) :
    editpc srclen srcaddr pattern dstaddr s = .error (.exc reservedOperand) s4 := by
  refine bind_run (packedOpnd_ok hn ha) <| bind_run hp <| bind_run hd <| bind_run (checkLen_ok hlen s4) <|
    bind_run (hbs.readBytes_of hbytes) ?_
  dsimp only
  unfold BadSource at hbad
  rw [if_pos hbad]
  rfl

/-- EDITPC goes on to its pattern. -/
theorem editpc_run {minus : Bool} (hn : rdPlain .w srclen s = .ok n s1) (ha : adrPlain .b srcaddr s1 = .ok a s2)
    (hp : adrPlain .b pattern s2 = .ok p s3) (hd : adrPlain .b dstaddr s3 = .ok d s4) (hlen : n.toNat ≤ 31)
    (hbytes : bs.length = packedLen n.toNat) (hbs : s4.shows a bs) (hgood : ¬ BadSource n.toNat bs)
    (hminus : minus = decide (beNat bs % 16 = 11 ∨ beNat bs % 16 = 13)) :
    editpc srclen srcaddr pattern dstaddr s = (do
      let e ← editRun (.start ((packedDigits n.toNat bs).drop ((packedDigits n.toNat bs).length - n.toNat)) minus d p) (2 ^ 32)
      let k := e.out.length
      let out ← if rangesOverlap d k a (packedLen n.toNat) || rangesOverlap d k p ((e.pp - p).toNat + 1) then
          pure ((e.out.map Prod.fst).zip (← freeBytes k))
        else pure e.out.reverse
      putBytes out
      setRegs 0 [long n.toNat, a, 0, e.pp, 0, e.dp]
      setCC e.n e.z e.v e.c
      decimalTrap : Meaning) s4 := by
  refine bind_run (packedOpnd_ok hn ha) <| bind_run hp <| bind_run hd <| bind_run (checkLen_ok hlen s4) <|
    bind_run (hbs.readBytes_of hbytes) ?_
  dsimp only
  unfold BadSource at hgood
  rw [if_neg hgood, usedDigits, hminus, ← minusSign_eq]
  unfold Edit.start
  generalize 2 ^ 32 = fuel
  rfl

/-- What a completed edit leaves. -/
theorem finish_edited {vs : List Long} {out : List (Nat × Byte)} {x z v c : Bool} (start : State) (hput : putBytes out s = .ok ⟨⟩ s1) :
    finish start ((putBytes out >>= fun _ => setRegs 0 vs >>= fun _ => setCC x z v c >>= fun _ => decimalTrap) s) =
      .next (((s1.withRegs vs).withCC x z v c).trappedIf (v && s1.dv) 6) := by
  have hrun : (putBytes out >>= fun _ => setRegs 0 vs >>= fun _ => setCC x z v c >>= fun _ => decimalTrap) s =
      decimalTrap ((s1.withRegs vs).withCC x z v c) := bind_run hput <| bind_run (run_setRegs vs s1) <| bind_run (run_setCC _ _ _ _ _) rfl
  have hdv : ((s1.withRegs vs).withCC x z v c).dv = s1.dv :=
    (State.withCC_dv _ _ _ _ _).trans (congrArg (BitVec.getLsbD · 7) (s1.withRegs_psl vs))
  have htrap := finish_trapIf start ((s1.withRegs vs).withCC x z v c)
    (((s1.withRegs vs).withCC x z v c).ccV && ((s1.withRegs vs).withCC x z v c).dv) 6
  rw [hrun]
  refine htrap.trans ?_
  rw [State.withCC_ccV, hdv]

end

/-! ### The worked examples of R953 -/

section
variable {rest : List Byte} {b ch : Byte} {x y z : EditText} {k : Nat}

theorem EditText.run_plain (hb : b ≠ 0) (hop : ¬ (0x40 ≤ b.toNat ∧ b.toNat ≤ 0x47)) (h : x.plain b.toNat = some y)
    (hrest : EditText.run rest y = some (z, k)) : EditText.run (b :: rest) x = some (z, k + 1) := by
  unfold EditText.run
  rw [if_neg hb, if_neg hop, h, Option.bind_some, hrest]
  rfl

theorem EditText.run_withByte (hb : b ≠ 0) (hop : 0x40 ≤ b.toNat ∧ b.toNat ≤ 0x47) (h : x.withByte b.toNat ch = some y)
    (hrest : EditText.run rest y = some (z, k)) : EditText.run (b :: ch :: rest) x = some (z, k + 2) := by
  unfold EditText.run
  rw [if_neg hb, if_pos hop]
  dsimp only
  rw [h, Option.bind_some, hrest]
  rfl

theorem EditText.run_end (h : x.digits = [] ∧ x.zeros = 0) : EditText.run (0 :: rest) x = some ({ x with n := x.n && !x.z }, 0) := by
  unfold EditText.run
  rw [if_pos rfl, if_pos h]

/-- The pattern of the examples, carried out operator by operator. -/
theorem EditText.run_example {x1 x2 x3 x4 : EditText} (h1 : x.withByte 0x43 0x2D = some x1) (h2 : x1.plain 0xA4 = some x2)
    (h3 : x2.plain 0x01 = some x3) (h4 : x3.plain 0x91 = some x4) (hend : x4.digits = [] ∧ x4.zeros = 0) :
    EditText.run [0x43, 0x2D, 0xA4, 0x01, 0x91, 0x00] x = some ({ x4 with n := x4.n && !x4.z }, 5) :=
  run_withByte (by decide) (by decide) h1 <| run_plain (by decide) (by decide) h2 <| run_plain (by decide) (by decide) h3 <|
    run_plain (by decide) (by decide) h4 <| run_end hend
end

/-- Settles O55: operands, lengths and sources are checked in their order; each format is the digits of the value; the model's edit follows
the edit of the text. -/
theorem decimalConversionResults : Obligations.DecimalConversionResults := by
  unfold Obligations.DecimalConversionResults
  refine ⟨?_, ?_, ?_, ?_, ?_, ?_, ?_, ?_⟩
  · intro src dstlen dstaddr s s1 s2 s3 x m d hready hx hm hd
    exact ⟨cvtlp_bad hready hx hm hd, fun s4 => cvtlp_ok hready hx hm hd⟩
  · intro srclen srcaddr dst s s1 s2 n a hready hn ha
    refine ⟨cvtpl_bad hready hn ha, fun v d o s3 s4 hlen hv hd hstore ho => ?_⟩
    rw [ho]
    exact cvtpl_ok hready hn ha hlen hv hd hstore
  · intro srclen srcaddr dstlen dstaddr s s1 s2 s3 s4 n m a d
    refine ⟨fun hready hn ha hm hd => ⟨fun hbad => ?_, fun v s5 => cvtps_ok hready hn ha hm hd⟩,
      fun hready hn ha hm hd => ⟨cvtsp_lens hready hn ha hm hd, fun bs hn31 hm31 hlen hbs => ?_⟩⟩
    · exact execute_turnedAway hready <| bind_run (packedOpnd_ok hn ha) <| bind_run (packedOpnd_ok hm hd) (lensSource_bad hbad _)
    · have hread := cvtsp_read hn ha hm hd hn31 hm31 hlen hbs
      refine ⟨fun hnone => execute_turnedAway hready (hread.trans (bind_of_error _ (valid_none hnone s4))),
        fun v s5 hsome hclash hstore => ?_⟩
      exact execute_finish hready (hread.trans (bind_of_ok _ (valid_some hsome s4))) (finish_storePacked s (clash_one hclash) hstore)
  · intro srclen srcaddr tbladdr dstlen dstaddr s s1 s2 s3 s4 s5 n m a t d
    refine ⟨fun hready hn ha ht hm hd => ⟨fun hbad => ?_, fun v hn31 hm31 hv => ?_⟩, fun hready hn ha ht hm hd =>
      ⟨fun hlen => ?_, fun hn0 hm31 s6 hstore => ?_, fun lead k y hn31 hm31 hlen hbs hy => ?_⟩⟩
    · exact execute_turnedAway hready <| bind_run (packedOpnd_ok hn ha) <| bind_run ht <| bind_run (packedOpnd_ok hm hd)
        (lensSource_bad hbad _)
    · have hread := cvtpt_read hn ha ht hm hd hn31 hm31 hv
      refine ⟨fun hm0 => ?_, fun hm0 x s6 hx hclash hstore => ?_⟩
      · rw [hm0] at hread
        exact execute_finish hready hread (finish_storeDec s (dst := ⟨d, 0, 0⟩) (out := []) rfl rfl
          (clash_one (clash_empty d 0 _)) ⟨[], s5, rfl, rfl⟩)
      · exact execute_finish hready hread (finish_storeDec s (dst := ⟨d, m.toNat, m.toNat⟩) (trailingBytes_ok hm0 hx)
          (trailingBytes_length hm0 x) (clash_one hclash) hstore)
    · exact execute_turnedAway hready <| bind_run (packedOpnd_ok hn ha) <| bind_run ht <| bind_run (packedOpnd_ok hm hd)
        (checkLens_bad hlen _ s5)
    · refine execute_finish hready (cvttp_empty hn ha ht hm hd hn0 hm31) (finish_storePacked s (clash_one ?_) hstore)
      rw [hn0]
      unfold DecString.clash rangesOverlap
      rw [decide_eq_false fun h => absurd h.2.1 (Nat.lt_irrefl 0), Bool.false_and]
    · have hread := cvttp_read hn ha ht hm hd hn31 hm31 hlen hbs hy
      refine ⟨fun hnone => execute_turnedAway hready (hread.trans (bind_of_error _ (valid_none hnone s5))),
        fun v s6 hsome hclash hstore => ?_⟩
      exact execute_finish hready (hread.trans (bind_of_ok _ (valid_some hsome s5))) (finish_storePacked s (clash_one hclash) hstore)
  · intro srclen srcaddr pattern dstaddr s s1 s2 s3 s4 n a p d bs hready hn ha hp hd
    refine ⟨fun hlen => ?_, fun hlen hbytes hbs => ⟨fun hbad => ?_, fun hsign hhead minus start hminus hstart => ?_⟩⟩
    · exact execute_turnedAway hready <| bind_run (packedOpnd_ok hn ha) <| bind_run hp <| bind_run hd <|
        bind_of_error _ (checkLen_bad hlen s4)
    · exact execute_turnedAway hready (editpc_badSource hn ha hp hd hlen hbytes hbs hbad)
    · have hgood : ¬ BadSource n.toNat bs := fun h => h.elim (Nat.not_lt.mpr hsign) fun h => h.2 (hhead h.1)
      have hrun := editpc_run hn ha hp hd hlen hbytes hbs hgood hminus
      subst hstart
      unfold Edit.start at hrun
      generalize 2 ^ 32 = fuel at hrun ⊢
      refine ⟨fun s5 herror => execute_turnedAway hready (hrun.trans (bind_of_error _ herror)),
        fun e s5 s6 hedit hsource hpattern hput => ?_⟩
      refine execute_finish hready (hrun.trans (bind_of_ok _ hedit)) ?_
      dsimp only
      rw [hsource, hpattern, Bool.or_false, if_neg Bool.false_ne_true]
      exact finish_edited s hput
  · intro digits minus p d s pattern x k hoff hlen hshows hrun
    have hedit := editRun_ok (d := d) hoff hshows hrun (Nat.le_of_lt hlen)
    rw [EditText.start_edit] at hedit
    unfold Edit.start at hedit
    generalize 2 ^ 32 = fuel at hedit ⊢
    exact ⟨_, hedit, List.reverse_reverse _, rfl, rfl, rfl, rfl, rfl, rfl⟩
  · intro e s b fuel hb
    exact editRun_bad hb fuel
  · refine ⟨?_, ?_⟩
    · rw [EditText.run_example (x := .start [0, 1, 2, 3, 4] true) rfl rfl rfl rfl ⟨rfl, rfl⟩]
      rfl
    · rw [EditText.run_example (x := .start [0, 0, 0, 0, 0] false) rfl rfl rfl rfl ⟨rfl, rfl⟩]
      rfl

end Sys2Proof.Machine
end

section
/-! Register masks, the PSW, INDEX, NOP and CRC, 48_misc.md R961 to R968. -/
namespace Sys2Proof.Machine

/-! ### Register masks, R961, R962 -/

section
variable {s s1 s2 t : State} {m : Word16} {n : Nat} {l : List (Nat × Long)} {xs : List Long}

theorem field_eq_zero_iff {w : Nat} (x : BitVec w) (lo n : Nat) : field x lo n = 0 ↔ ∀ i < n, x.getLsbD (lo + i) = false := by
  unfold field
  constructor
  · intro h i hi
    have hzero : x.extractLsb' lo n = 0#n := BitVec.eq_of_toNat_eq (by rw [h, BitVec.toNat_zero])
    have hbit := BitVec.getLsbD_extractLsb' (start := lo) (len := n) (x := x) (i := i)
    rwa [hzero, BitVec.getLsbD_zero, decide_eq_true hi, Bool.true_and, eq_comm] at hbit
  · intro h
    have hzero : x.extractLsb' lo n = 0#n := by
      refine BitVec.eq_of_getLsbD_eq fun i hi => ?_
      rw [BitVec.getLsbD_extractLsb', h i hi, Bool.and_false, BitVec.getLsbD_zero]
    rw [hzero, BitVec.toNat_zero]

theorem popOrder_eq_nil (m : Word16) : popOrder m = [] ↔ field m 0 15 = 0 := by
  rw [field_eq_zero_iff]
  unfold popOrder
  rw [List.filter_eq_nil_iff]
  simp only [List.mem_range, Bool.not_eq_true, Nat.zero_add]

theorem mem_popOrder {i : Nat} (h : i ∈ popOrder m) : i < 15 := List.mem_range.mp (List.mem_filter.mp h).1

theorem popOrder_nodup (m : Word16) : (popOrder m).Nodup := List.nodup_range.filter _

/-- The longwords that PUSHR pushes. -/
def pushedWords (s : State) (m : Word16) : List Long :=
  ((List.range 15).reverse.filter fun i => m.getLsbD i).map fun i => s.reg (Fin.ofNat 16 i)

theorem pushedWords_eq (s : State) (m : Word16) :
    (pushOrder m).map (fun i => s.reg ⟨i % 16, Nat.mod_lt _ (by decide)⟩) = pushedWords s m := by
  unfold pushOrder pushedWords
  rw [List.filter_reverse]
  rfl

theorem pushedWords_eq_nil (s : State) (m : Word16) : pushedWords s m = [] ↔ field m 0 15 = 0 := by
  rw [← popOrder_eq_nil]
  unfold pushedWords popOrder
  rw [List.map_eq_nil_iff, List.filter_reverse, List.reverse_eq_nil_iff]

/-- PUSHR once its mask is read. -/
theorem pushr_run {mask : Opnd} (hm : rd .w mask s = .ok m s1) :
    pushr mask s = (if pushedWords s1 m ≠ [] then push (pushedWords s1 m) >>= fun _ => done else done) s1 := by
  refine bind_run hm <| bind_run (run_get s1) ?_
  dsimp only
  rw [pushedWords_eq]

theorem loadRegs_loaded (l : List (Nat × Long)) (s : State) : loadRegs l s = .ok ⟨⟩ (s.loaded l) := by
  induction l generalizing s with
  | nil => rfl
  | cons p rest ih => exact bind_run (run_setR _ _ s) (ih _)

/-- A register loaded once holds its value. -/
theorem State.loaded_reg_once (s : State) (hsmall : ∀ p ∈ l, p.1 < 16) (hnodup : (l.map Prod.fst).Nodup) {p : Nat × Long}
    (hp : p ∈ l) : (s.loaded l).reg (maskReg p.1) = p.2 := by
  induction l generalizing s with
  | nil => exact nomatch hp
  | cons q rest ih =>
    obtain ⟨hq, hrest⟩ := List.forall_mem_cons.mp hsmall
    obtain ⟨hnot, hnodup'⟩ := List.nodup_cons.mp hnodup
    rcases List.mem_cons.mp hp with rfl | hp
    · refine (State.loaded_reg_ne _ rest fun p' hp' heq => hnot ?_).trans (s.setReg_reg_same _ _)
      have hval : p'.1 % 16 = p.1 % 16 := congrArg Fin.val heq
      have hsame : p'.1 = p.1 := by
        have := hrest p' hp'
        omega
      exact hsame ▸ List.mem_map_of_mem hp'
    · exact ih _ hrest hnodup' hp

theorem maskReg_ne_of_lt {i j : Nat} (hi : i < 16) (hj : j < 16) (h : i ≠ j) : maskReg i ≠ Fin.ofNat 16 j := by
  intro heq
  have hval : i % 16 = j % 16 := congrArg Fin.val heq
  omega

/-- POPR once the longwords on the stack are read. -/
def State.popped (s : State) (m : Word16) (xs : List Long) : State :=
  (s.setReg 14 (s.reg 14 + BitVec.ofNat 32 (4 * (popOrder m).length))).loaded ((popOrder m).zip xs)

theorem popr_empty {mask : Opnd} (hm : rd .w mask s = .ok m s1) (hempty : popOrder m = []) : popr mask s = .ok none s1 := by
  refine bind_run hm ?_
  dsimp only
  rw [if_neg (not_not_intro hempty)]
  rfl

theorem popr_ok {mask : Opnd} (hm : rd .w mask s = .ok m s1) (hsome : popOrder m ≠ [])
    (hstack : stackTop (popOrder m).length s1 = .ok xs s2) : popr mask s = .ok none (s2.popped m xs) := by
  refine bind_run hm ?_
  dsimp only
  rw [if_pos hsome]
  exact bind_run hstack <| bind_run (run_getR 14 s2) <| bind_run (run_setR _ _ s2) <| bind_run (loadRegs_loaded _ _) rfl

theorem popr_error {mask : Opnd} {e : Stop} (hm : rd .w mask s = .ok m s1) (hsome : popOrder m ≠ [])
    (hstack : stackTop (popOrder m).length s1 = .error e s2) : popr mask s = .error e s2 := by
  refine bind_run hm ?_
  dsimp only
  rw [if_pos hsome]
  exact bind_of_error _ hstack

theorem mem_zip_popOrder {p : Nat × Long} (hp : p ∈ (popOrder m).zip xs) : p.1 ∈ popOrder m := (List.of_mem_zip hp).1

/-- What is not in the mask and not SP stays. -/
theorem State.popped_reg_ne (s : State) {i : Nat} (hi : i < 16) (hsp : i ≠ 14) (hnot : i ∉ popOrder m) :
    (s.popped m xs).reg (Fin.ofNat 16 i) = s.reg (Fin.ofNat 16 i) := by
  unfold State.popped
  rw [State.loaded_reg_ne _ _ fun p hp =>
    maskReg_ne_of_lt ((mem_popOrder (mem_zip_popOrder hp)).trans (by decide)) hi fun h => hnot (h ▸ mem_zip_popOrder hp)]
  exact s.setReg_reg_ne _ (maskReg_ne_of_lt (i := 14) (by decide) hi (Ne.symm hsp))

theorem State.popped_sp (s : State) (hnot : 14 ∉ popOrder m) :
    (s.popped m xs).reg 14 = s.reg 14 + BitVec.ofNat 32 (4 * (popOrder m).length) :=
  (State.loaded_reg_ne (n := 14) _ _ fun _ hp => maskReg_ne_of_lt (j := 14) ((mem_popOrder (mem_zip_popOrder hp)).trans (by decide))
    (by decide) fun h => hnot (h ▸ mem_zip_popOrder hp)).trans (s.setReg_reg_same _ _)

theorem State.popped_reg_mem (s : State) {k i : Nat} {x : Long} (hx : xs[k]? = some x) (hi : (popOrder m)[k]? = some i)
    (hlength : xs.length = (popOrder m).length) : (s.popped m xs).reg (Fin.ofNat 16 i) = x := by
  have hzip : (i, x) ∈ (popOrder m).zip xs := by
    refine List.mem_of_getElem? (i := k) ?_
    rw [List.getElem?_zip_eq_some]
    exact ⟨hi, hx⟩
  refine State.loaded_reg_once _ (fun p hp => (mem_popOrder (mem_zip_popOrder hp)).trans (by decide)) ?_ hzip
  rw [List.map_fst_zip hlength.ge]
  exact popOrder_nodup m

/-! ### The longwords on the stack -/

/-- What a read may change while no cycle of another agent comes: no register, no memory. -/
def State.Saw (s t : State) : Prop :=
  t = { s with v750 := t.v750, v780 := t.v780, mbas := t.mbas, sent := t.sent, draw := t.draw }

theorem State.Saw.refl (s : State) : s.Saw s := rfl

theorem saw_cycleClosed (hidle : s.during = []) : CycleClosed s.Saw where
  devices t _ _ _ _ _ h := by unfold State.Saw at h ⊢; rw [h]
  moves held := keeps_meanwhile_idle held fun t h => by rw [h]; exact hidle

theorem keeps_stackTop_read {P : State → Prop} (n : Nat) (h : CycleClosed P) : Keeps P (stackTop n) :=
  .bindGet fun _ _ => .bind (keeps_translateSpan_read _ _ _ h) fun sp => keeps_readLongsUp sp 0 n h

theorem readLongsUp_length {sp : Span} {k n : Nat} (h : readLongsUp sp k n s = .ok xs t) : xs.length = n := by
  induction n generalizing k s xs with
  | zero => cases h; rfl
  | succ n ih =>
    obtain ⟨x, u, -, h⟩ := bind_ok h
    obtain ⟨ys, v, hrest, h⟩ := bind_ok h
    cases h
    exact congrArg (· + 1) (ih hrest)

theorem stackTop_length (h : stackTop n s = .ok xs t) : xs.length = n := by
  obtain ⟨_, _, -, h⟩ := bind_ok h
  obtain ⟨_, _, -, h⟩ := bind_ok h
  exact readLongsUp_length h

theorem readLongsUp_ok {sp : Span} {k n : Nat} (hfit : 4 * (k + n) ≤ sp.k) (hgood : ∀ j, k ≤ j → j < k + n → s.goodRam (sp.a0 + 4 * j) 4) :
    readLongsUp sp k n s = .ok ((List.range' k n).map fun j => s.longAt (sp.a0 + 4 * j)) s := by
  induction n generalizing k with
  | zero => rfl
  | succ n ih =>
    obtain ⟨hram, hbad, hecc, hidle⟩ := hgood k (Nat.le_refl k) (by omega)
    have hread : readSpan .other (sp.sub (4 * k) 4) 4 s = .ok (s.ramValue (sp.a0 + 4 * k) 4) s := by
      unfold readSpan Span.sub
      rw [if_pos (by omega : 4 * k + 4 ≤ sp.k)]
      dsimp only
      rw [if_pos (Nat.le_refl 4)]
      exact physRead_ram .other _ 4 s hidle hram hbad hecc
    have hrest := ih (k := k + 1) (by omega) fun j hlo hhi => hgood j (by omega) (by omega)
    refine bind_run hread <| bind_run hrest ?_
    rw [List.range'_succ, List.map_cons, run_pure]
    exact congrArg (fun x => EStateM.Result.ok (x :: _) s) (BitVec.setWidth_ofNat_of_le (by decide) _)

theorem stackTop_ok (hoff : s.mm.mapen = false) (hfit : 4 * n ≤ leftInPage (s.reg 14))
    (hgood : ∀ k < n, s.goodRam ((s.reg 14).toNat % 2 ^ s.cfg.paw + 4 * k) 4) :
    stackTop n s = .ok ((List.range n).map fun k => s.longAt ((s.reg 14).toNat % 2 ^ s.cfg.paw + 4 * k)) s := by
  have hspan := (translateSpan_off (s.reg 14) (4 * n) false s.cur s hoff).trans (congrArg (EStateM.Result.ok · s) (if_pos hfit))
  refine bind_run (run_get s) <| bind_run hspan ?_
  rw [List.range_eq_range']
  exact readLongsUp_ok (sp := ⟨(s.reg 14).toNat % 2 ^ s.cfg.paw, 4 * n, 0⟩) (by dsimp only; omega) fun j _ hj => hgood j (by omega)
end

/-! ### The PSW, R963 to R965 -/

section
variable {s s1 : State} {m : Word16}

theorem highField_eq_zero_iff (m : Word16) : field m 8 8 = 0 ↔ m.toNat < 256 := by
  unfold field
  rw [BitVec.extractLsb'_toNat, Nat.shiftRight_eq_div_pow]
  have := m.isLt
  omega

theorem mask_getLsbD (h : m.toNat < 256) {i : Nat} (hi : 8 ≤ i) : (m.setWidth 32).getLsbD i = false := by
  have hbit : m.getLsbD i = false :=
    Nat.testBit_lt_two_pow (h.trans_le (Nat.pow_le_pow_right (n := 2) (by decide) hi))
  rw [BitVec.getLsbD_setWidth, hbit, Bool.and_false]

/-- A low byte that is put back with the rest unchanged is the whole. -/
theorem putField_lowByte {x y : Long} (h : ∀ i < 32, 8 ≤ i → y.getLsbD i = x.getLsbD i) : putField x 0 8 y = y := by
  refine BitVec.eq_of_getLsbD_eq fun i hi => ?_
  rw [putField_getLsbD _ _ _ _ _ hi]
  split
  · rfl
  next hc => exact (h i hi (by omega)).symm

theorem putField_set (h : m.toNat < 256) (psl : Long) : putField psl 0 8 (psl ||| m.setWidth 32) = psl ||| m.setWidth 32 :=
  putField_lowByte fun i _ hi => by rw [BitVec.getLsbD_or, mask_getLsbD h hi, Bool.or_false]

theorem putField_clear (h : m.toNat < 256) (psl : Long) :
    putField psl 0 8 (psl &&& ~~~(m.setWidth 32)) = psl &&& ~~~(m.setWidth 32) :=
  putField_lowByte fun i hi32 hi => by
    rw [BitVec.getLsbD_and, BitVec.getLsbD_not, mask_getLsbD h hi, decide_eq_true hi32]
    exact Bool.and_true _

theorem changePsw_ok {mask : Opnd} {f : Long → Long → Long} (hm : rd .w mask s = .ok m s1) (h : m.toNat < 256) :
    changePsw f mask s = .ok none { s1 with psl := putField s1.psl 0 8 (f s1.psl (m.setWidth 32)) } := by
  refine bind_run hm ?_
  rw [if_neg (not_not_intro ((highField_eq_zero_iff m).mpr h))]
  rfl

theorem changePsw_bad {mask : Opnd} {f : Long → Long → Long} (hm : rd .w mask s = .ok m s1) (h : 256 ≤ m.toNat) :
    changePsw f mask s = .error (.exc reservedOperand) s1 := by
  refine bind_run hm ?_
  rw [if_pos (mt (highField_eq_zero_iff m).mp (Nat.not_lt.mpr h))]
  rfl
end

/-! ### CRC, R968 -/

section
variable {s : State} {tbl va x : Long} {table : Nat → Long} {bs : List Byte}

/-- The sixteen entries of the table can be read. -/
def State.crcTable (s : State) (tbl : Long) (table : Nat → Long) : Prop :=
  ∀ k < 16, readLong (tbl + BitVec.ofNat 32 (4 * k)) s = .ok (table k) s

theorem crcNibble_ok (h : s.crcTable tbl table) (x : Long) : crcNibble tbl x s = .ok (crcStep table x) s := by
  have hentry : (4 : Long) * (x &&& 0xF) = BitVec.ofNat 32 (4 * (x.toNat % 16)) := by
    refine BitVec.eq_of_toNat_eq ?_
    rw [BitVec.toNat_mul, BitVec.toNat_and, BitVec.toNat_ofNat]
    exact congrArg (fun k => 4 * k % 2 ^ 32) (Nat.and_two_pow_sub_one_eq_mod x.toNat 4)
  unfold crcNibble
  rw [hentry, bind_of_ok _ (h _ (Nat.mod_lt _ (by decide)))]
  rfl

/-- One byte of the stream. -/
def crcByte (table : Nat → Long) (y : Long) (b : Byte) : Long := crcStep table (crcStep table (y ^^^ b.setWidth 32))

theorem crcFrom_ok (h : s.crcTable tbl table) (hbs : s.shows va bs) (x : Long) :
    crcFrom tbl x va bs.length s = .ok (bs.foldl (crcByte table) x) s := by
  induction bs generalizing va x with
  | nil => rfl
  | cons b bs ih => exact bind_run hbs.head <| bind_run (crcNibble_ok h _) <| bind_run (crcNibble_ok h _) (ih hbs.tail _)
end

/-- Settles O57: each instruction by its run, the register masks as lists in the order of the registers. -/
theorem miscellaneousResults : Obligations.MiscellaneousResults := by
  unfold Obligations.MiscellaneousResults
  refine ⟨?_, ?_, ?_, ?_, ?_, ?_, ?_, ?_⟩
  · intro mask s s1 s2 m hready hm
    have hrun := pushr_run hm
    refine ⟨fun hempty => ?_, fun hsome hpush => ?_, fun e hsome hpush => ?_⟩
    · rw [if_neg (not_not_intro ((pushedWords_eq_nil s1 m).mpr hempty))] at hrun
      exact execute_ready_next hready hrun
    · rw [if_pos (mt (pushedWords_eq_nil s1 m).mp hsome)] at hrun
      exact execute_ready_next hready (hrun.trans (bind_run hpush rfl))
    · rw [if_pos (mt (pushedWords_eq_nil s1 m).mp hsome)] at hrun
      exact execute_ready_exc hready (hrun.trans (bind_of_error _ hpush))
  · intro mask s s1 s2 m rs xs e hready hm hrs
    obtain rfl : rs = popOrder m := hrs
    refine ⟨fun hempty => execute_ready_next hready (popr_empty hm hempty), fun hsome hstack => ?_,
      fun hsome hstack => execute_ready_exc hready (popr_error hm hsome hstack)⟩
    refine ⟨s2.popped m xs, execute_ready_next hready (popr_ok hm hsome hstack), ?_, ?_, fun hidle => ?_, fun i hi hnot => ?_,
      fun k i x hx hi => s2.popped_reg_mem hx hi (stackTop_length hstack), s2.popped_sp⟩
    · unfold State.popped
      rw [State.loaded_eq_withRegisters]
      rfl
    · exact s2.popped_reg_ne (i := 15) (by decide) (by decide) fun h => absurd (mem_popOrder h) (by decide)
    · exact (keeps_stackTop_read _ (saw_cycleClosed hidle)).of_ok hstack (.refl s1)
    · exact s2.popped_reg_ne (by omega) (by omega) hnot
  · intro n s s1 e
    exact ⟨fun hspan => bind_run (run_get s) (bind_of_error _ hspan), stackTop_ok⟩
  · intro dst s s1 s2 d hready hd hstore
    exact execute_ready_next hready <| bind_run hd <| bind_run (run_get s1) <| bind_run hstore rfl
  · intro mask s s1 m
    refine ⟨fun hready hm => ⟨fun h => ?_, fun h => execute_turnedAway hready (changePsw_bad hm h)⟩,
      fun hready hm => ⟨fun h => ?_, fun h => execute_turnedAway hready (changePsw_bad hm h)⟩⟩
    · exact execute_ready_next hready ((changePsw_ok hm h).trans (by rw [putField_set h]))
    · exact execute_ready_next hready ((changePsw_ok hm h).trans (by rw [putField_clear h]))
  · intro subscript low high size indexin indexout s s1 s2 s3 s4 s5 s6 s7 i lo hi n x d hready h1 h2 h3 h4 h5 h6 hstore
    have hrun (trap : Option Nat) (htrap : trap = if decide (i.toInt < lo.toInt ∨ hi.toInt < i.toInt) then some 7 else none) :
        exec (.index subscript low high size indexin indexout) s = .next (s7.settled ((x + i) * n) false false trap) := by
      subst htrap
      exact execute_finish hready (bind_run h1 <| bind_run h2 <| bind_run h3 <| bind_run h4 <| bind_run h5 <| bind_run h6 <|
        storeRes_ok .l d _ hstore) (finish_setRes (cf := fun _ => false) ⟨rfl, rfl, fun _ => rfl, rfl⟩ s s7)
    refine ⟨fun hin => hrun none ?_, fun hout => hrun (some 7) ?_⟩
    · rw [decide_eq_false (by omega)]
      rfl
    · rw [decide_eq_true (by omega)]
      rfl
  · exact fun s hready => execute_ready_next hready rfl
  · intro tbl inicrc strlen stream s s1 s2 s3 s4 t x a n table bs hready ht hx hn ha htable hlen hbs
    have hcrc : crcFrom t x a n.toNat s4 = .ok (bs.foldl (crcByte table) x) s4 := hlen ▸ crcFrom_ok htable hbs x
    refine execute_ready_next hready <| bind_run ht <| bind_run hx <| bind_run hn <| bind_run ha <| bind_run hcrc <|
      bind_run (run_setRegs _ s4) <| bind_run (run_setNZV _ _ _ _) ?_
    have hc (vs : List Long) : (s4.withRegs vs).ccC = s4.ccC := congrArg (BitVec.getLsbD · 0) (s4.withRegs_psl vs)
    rw [hc]
    rfl

end Sys2Proof.Machine
end

section
/-! REI and the change mode instructions, 49_system.md R985 to R994. -/
namespace Sys2Proof.Machine

section
variable {s s1 s2 s3 s4 t u : State} {old new pc x : Long} {mode : Nat}

/-! ### What REI asks, R985 -/

theorem reiAllowed_iff (old new : Long) : reiAllowed old new = true ↔ ReiLegal old new := by
  unfold reiAllowed ReiLegal pslMbz
  simp only [Bool.not_eq_true', Bool.or_eq_false_iff, Bool.and_eq_false_imp, decide_eq_false_iff_not, decide_eq_true_eq,
    bne_eq_false_iff_eq, beq_eq_false_iff_ne, Bool.not_eq_false', and_assoc, Nat.not_lt, Nat.pos_iff_ne_zero]
  constructor
  · rintro ⟨hcur, holdIs, hisCur, hisIpl, hipl, hprv, hold, hmbz, hcm⟩
    exact ⟨hcur, fun h => ⟨holdIs h, hisCur h, hisIpl h⟩, hipl, hprv, hold, hmbz, hcm⟩
  · rintro ⟨hcur, his, hipl, hprv, hold, hmbz, hcm⟩
    refine ⟨hcur, fun h => (his h).1, fun h => (his h).2.1, fun h => (his h).2.2, hipl, hprv, hold, hmbz, hcm⟩

/-! ### Where REI goes on -/

theorem pop_psl (h : pop s = .ok x t) : t.psl = s.psl := by
  obtain ⟨u, hread, rfl⟩ := pop_ok h
  exact (readLong_psl hread :)

/-- The PSL that REI restores: TP stays set. -/
def reiPsl (old new : Long) : Long := if old.getLsbD 30 then putBit new 30 true else new

theorem reiPsl_eq (old new : Long) : reiPsl old new = if old.getLsbD 30 then new ||| 0x40000000 else new := by
  have hset : putBit new 30 true = new ||| 0x40000000 := by
    refine BitVec.eq_of_getLsbD_eq fun i hi => ?_
    have hmask : ∀ j < 32, (0x40000000 : Long).getLsbD j = decide (j = 30) := by decide
    unfold putBit
    rw [putField_getLsbD _ _ _ _ _ hi, BitVec.getLsbD_or, hmask i hi]
    by_cases h : i = 30
    · subst h
      rw [if_pos (by decide), decide_eq_true rfl, Bool.or_true]
      rfl
    · rw [if_neg (by omega), decide_eq_false h, Bool.or_false]
  unfold reiPsl
  rw [hset]

theorem field_reiPsl (old new : Long) {lo n : Nat} (h : lo + n ≤ 30) : field (reiPsl old new) lo n = field new lo n := by
  unfold reiPsl
  split
  · exact field_putField_ne _ _ _ _ _ _ (.inl h)
  · rfl

theorem reiPsl_is (old new : Long) : (reiPsl old new).getLsbD 26 = new.getLsbD 26 := by
  unfold reiPsl
  split
  · exact (putField_getLsbD _ _ _ _ _ (by decide)).trans (if_neg (by decide))
  · rfl

/-- Where REI goes on: the stack pointer is put away, PSL and PC are restored, the pointer of the new stack is taken up, and an AST is
requested where its level allows it. -/
def State.goesOn (s : State) (p pc : Long) : State :=
  let s := { s.saveSp with psl := p }
  let s := s.setReg 15 pc
  if s.is then s
  else
    let s := s.loadSp
    if s.astlvl.toNat ≤ s.cur then { s with sisr := s.sisr ||| 4 } else s

/-- REI once PC and PSL are popped. -/
theorem rei_bad (hpc : pop s = .ok pc s1) (hnew : pop s1 = .ok new s2) (h : ¬ ReiLegal s.psl new) :
    rei s = .error (.exc reservedOperand) s2 := by
  refine bind_run (run_get s) <| bind_run hpc <| bind_run hnew ?_
  rw [if_pos (mt (reiAllowed_iff s.psl new).mp h)]
  rfl

theorem rei_ok (hpc : pop s = .ok pc s1) (hnew : pop s1 = .ok new s2) (h : ReiLegal s.psl new) :
    rei s = .ok none { s2.goesOn (reiPsl s.psl new) pc with
      pend := { (s2.goesOn (reiPsl s.psl new) pc).pend with
        inMachineCheck := (s2.goesOn (reiPsl s.psl new) pc).pend.inMachineCheck - 1 } } := by
  refine bind_run (run_get s) <| bind_run hpc <| bind_run hnew ?_
  rw [if_neg (not_not_intro ((reiAllowed_iff s.psl new).mpr h))]
  rfl

section
variable {p : Long}

/-- The state of which REI restores PSL and PC. -/
def State.putAway (s : State) (p pc : Long) : State := { s.saveSp with psl := p }.setReg 15 pc

theorem State.putAway_is (s : State) (p pc : Long) : (s.putAway p pc).is = p.getLsbD 26 := rfl

theorem State.putAway_reg (s : State) (p pc : Long) {k : Reg} (hk : k ≠ 15) : (s.putAway p pc).reg k = s.reg k :=
  (State.setReg_reg_ne _ _ hk.symm).trans (congrArg (fun r : Vector Long 16 => r[k]) s.saveSp_r)

theorem State.goesOn_interruptStack (h : p.getLsbD 26 = true) : s.goesOn p pc = s.putAway p pc := if_pos h

theorem State.goesOn_mode (h : p.getLsbD 26 = false) :
    s.goesOn p pc =
      { (s.putAway p pc).setReg 14 (s.saveSp.sp.get (field p 24 2)) with
        sisr := if s.astlvl.toNat ≤ field p 24 2 then s.sisr ||| 4 else s.sisr } := by
  have his : ¬ (s.putAway p pc).is = true := by
    rw [s.putAway_is, h]
    exact Bool.false_ne_true
  have hload : (s.putAway p pc).loadSp = (s.putAway p pc).setReg 14 (s.saveSp.sp.get (field p 24 2)) := by
    unfold State.loadSp
    rw [if_neg his]
    rfl
  refine (if_neg his).trans ?_
  show (if (s.putAway p pc).loadSp.astlvl.toNat ≤ (s.putAway p pc).loadSp.cur then
    { (s.putAway p pc).loadSp with sisr := (s.putAway p pc).loadSp.sisr ||| 4 } else (s.putAway p pc).loadSp) = _
  rw [hload, ← s.saveSp_astlvl, ← s.saveSp_sisr]
  by_cases hle : s.saveSp.astlvl.toNat ≤ field p 24 2
  · rw [if_pos hle]
    exact if_pos hle
  · rw [if_neg hle]
    exact if_neg hle

/-- The stack pointer of the stack in use is put away. -/
theorem State.saveSp_sp (s : State) : s.saveSp.sp = if s.is then { s.sp with isp := s.reg 14 } else s.sp.put s.cur (s.reg 14) := by
  unfold State.saveSp
  split <;> rfl

/-- What is so wherever REI goes on. -/
theorem State.goesOn_facts (s : State) (p pc : Long) :
    (s.goesOn p pc).pc = pc ∧ (s.goesOn p pc).psl = p ∧ (s.goesOn p pc).mem = s.mem
      ∧ (∀ k : Reg, k ≠ 14 → k ≠ 15 → (s.goesOn p pc).reg k = s.reg k) ∧ (s.goesOn p pc).sp = s.saveSp.sp
      ∧ (s.goesOn p pc).reg 14 = (if p.getLsbD 26 then s.reg 14 else (s.goesOn p pc).sp.get (field p 24 2))
      ∧ (s.goesOn p pc).sisr = (if p.getLsbD 26 = false ∧ s.astlvl.toNat ≤ field p 24 2 then s.sisr ||| 4 else s.sisr) := by
  cases h : p.getLsbD 26 with
  | true =>
    rw [State.goesOn_interruptStack h]
    exact ⟨State.setReg_reg_same _ _ _, rfl, s.saveSp_mem, fun k _ hk => s.putAway_reg p pc hk, rfl, s.putAway_reg p pc (by decide),
      s.saveSp_sisr⟩
  | false =>
    rw [State.goesOn_mode h]
    refine ⟨(State.setReg_reg_ne _ _ (by decide)).trans (State.setReg_reg_same _ _ _), rfl, s.saveSp_mem, fun k hsp hk => ?_, rfl,
      State.setReg_reg_same _ _ _, ?_⟩
    · exact (State.setReg_reg_ne _ _ hsp.symm).trans (s.putAway_reg p pc hk)
    · simp only [true_and]
end

/-! ### Change mode, R989, R990 -/

section
variable {v : Long}

theorem changedPsl_cur (old : Long) (h : mode < 4) : field (changedPsl old mode) 24 2 = mode := by
  unfold changedPsl
  rw [field_putField _ _ 24 2 (by decide), field_ofNat_low (by decide)]
  exact Nat.mod_eq_of_lt h

theorem changedPsl_prv (old : Long) (mode : Nat) : field (changedPsl old mode) 22 2 = field old 24 2 := by
  unfold changedPsl
  rw [field_putField_ne _ _ _ _ _ _ (.inl (by decide)), field_putField _ _ 22 2 (by decide), field_ofNat_low (by decide)]
  exact Nat.mod_eq_of_lt (BitVec.isLt _)

theorem changedPsl_ipl (old : Long) (mode : Nat) : field (changedPsl old mode) 16 5 = field old 16 5 := by
  unfold changedPsl
  rw [field_putField_ne _ _ _ _ _ _ (.inl (by decide)), field_putField_ne _ _ _ _ _ _ (.inl (by decide)), field_and (by decide)]

theorem changedPsl_is (old : Long) (mode : Nat) : (changedPsl old mode).getLsbD 26 = old.getLsbD 26 := by
  unfold changedPsl
  rw [putField_getLsbD _ _ _ _ _ (by decide), if_neg (by decide), putField_getLsbD _ _ _ _ _ (by decide), if_neg (by decide),
    BitVec.getLsbD_and]
  exact Bool.and_true _

theorem changedPsl_clear (old : Long) (mode : Nat) : changedPsl old mode &&& 0xC80000FF = 0 := by
  unfold changedPsl
  rw [putField_and _ _ _ (by decide), putField_and _ _ _ (by decide), BitVec.and_assoc,
    show (0x371FFF00 : Long) &&& 0xC80000FF = 0 by decide]
  exact BitVec.and_zero

/-- A halt where the PC and the PSL are as they stand. -/
theorem run_haltAt (why : HaltCause) (hpc : pc = s.pc) (hpsl : x = s.psl) :
    ∃ t, (haltAt why pc x >>= fun _ => done) s = .ok none t ∧ s.HaltedHere t why := by
  subst hpc hpsl
  exact ⟨_, rfl, rfl, setReg_pc_self s, rfl, rfl⟩

/-- Reading a vector leaves registers and PSL, whatever other agents do meanwhile. -/
theorem readVector_status {offset : Nat} {w : Option Long} (h : readVector offset s = .ok w t) : t.r = s.r ∧ t.psl = s.psl :=
  (keeps_readVector offset (status_busClosed s).toCycleClosed).of_ok h ⟨rfl, rfl⟩

theorem chm_interruptStack {target : Nat} {code : Opnd} {c : Word16} (hc : rd .w code s = .ok c s1) (his : s1.is = true) :
    ∃ t, chm target code s = .ok none t ∧ s1.HaltedHere t .chmOnInterruptStack := by
  obtain ⟨t, hrun, hhalt⟩ := run_haltAt (s := s1) .chmOnInterruptStack rfl rfl
  refine ⟨t, bind_run hc <| bind_run (run_get s1) ?_, hhalt⟩
  rw [if_pos his]
  exact hrun

theorem chm_badVector {target : Nat} {code : Opnd} {c : Word16} (hc : rd .w code s = .ok c s1) (his : s1.is = false)
    (hv : readVector (0x40 + 4 * target) s1 = .ok (some v) s2) (hbad : field v 0 2 ≠ 0) :
    ∃ t, chm target code s = .ok none t ∧ s2.HaltedHere t .chmVector := by
  obtain ⟨hr, hpsl⟩ := readVector_status hv
  obtain ⟨t, hrun, hhalt⟩ := run_haltAt (s := s2) (pc := s1.pc) (x := s1.psl) .chmVector
    (congrArg (fun r : Vector Long 16 => r[(15 : Reg)]) hr.symm) hpsl.symm
  refine ⟨t, bind_run hc <| bind_run (run_get s1) ?_, hhalt⟩
  rw [if_neg (by rw [his]; exact Bool.false_ne_true)]
  refine bind_run hv ?_
  dsimp only
  rw [if_pos hbad]
  exact hrun

/-- The state in which the handler of a change of mode from `s` starts, its frame being pushed in `t`. -/
def State.changedTo (s t : State) (mode target : Nat) (v : Long) : State :=
  { t.setReg 15 (v &&& 0xFFFFFFFC) with
    sp := t.sp.put s.cur (s.reg 14), psl := changedPsl s.psl mode, pend := t.pend.entered (0x40 + 4 * target) }

theorem chm_ok {target : Nat} {code : Opnd} {c : Word16} (hc : rd .w code s = .ok c s1) (his : s1.is = false)
    (hv : readVector (0x40 + 4 * target) s1 = .ok (some v) s2) (hgood : field v 0 2 = 0)
    (hs3 : s3 = if min target s1.cur = s1.cur then s2 else s2.setReg 14 (s1.sp.get (min target s1.cur)))
    (hpush : pushFrame (min target s1.cur) [s1.psl, s1.pc, c.signExtend 32] s3 = .ok ⟨⟩ s4) :
    chm target code s = .ok none (s1.changedTo s4 (min target s1.cur) target v) := by
  refine bind_run hc <| bind_run (run_get s1) ?_
  rw [if_neg (by rw [his]; exact Bool.false_ne_true)]
  refine bind_run hv ?_
  dsimp only
  rw [if_neg (not_not_intro hgood)]
  by_cases hsame : min target s1.cur = s1.cur
  · rw [if_pos hsame] at hs3
    subst hs3
    rw [if_neg (not_not_intro hsame)]
    exact bind_run hpush rfl
  · rw [if_neg hsame] at hs3
    subst hs3
    rw [if_pos hsame]
    exact bind_run (run_setR 14 _ s2) <| bind_run hpush rfl
end
end

/-- Settles O58: REI by the nine checks of R985 and the state it goes on in, CHMx by the branch its stack and vector take. -/
theorem returnFromExceptionAndChangeMode : Obligations.ReturnFromExceptionAndChangeMode := by
  unfold Obligations.ReturnFromExceptionAndChangeMode
  refine ⟨fun s s1 s2 pc new hready hpc hnew => ⟨fun hlegal => ?_, fun hbad => execute_turnedAway hready (rei_bad hpc hnew hbad)⟩,
    fun e he code s s1 x hready hx => ?_⟩
  · have hpsl : s2.psl = s.psl := (pop_psl hnew).trans (pop_psl (s := past 0x02 s) hpc)
    obtain ⟨hpc', hpsl', hmem, hregs, hsp, hr14, hsisr⟩ := s2.goesOn_facts (reiPsl s.psl new) pc
    rw [reiPsl_is, field_reiPsl _ _ (by decide)] at hr14 hsisr
    rw [s2.saveSp_sp, show s2.is = s.is from congrArg (BitVec.getLsbD · 26) hpsl, show s2.cur = s.cur from congrArg (field · 24 2) hpsl] at hsp
    exact ⟨_, execute_ready_next hready (rei_ok hpc hnew hlegal), hpc', hpsl'.trans (reiPsl_eq _ _), hmem, hregs, hsp, hr14, hsisr⟩
  · have htarget : exec (e.2.1 code) s = execute e.1 (chm e.2.2 code) s := by
      revert e
      simp only [List.forall_mem_cons]
      exact ⟨fun _ _ => rfl, fun _ _ => rfl, fun _ _ => rfl, fun _ _ => rfl, fun _ h => nomatch h⟩
    rw [htarget]
    refine ⟨fun his => ?_, fun his s2 s3 s4 v hv => ⟨fun hbad => ?_, fun hgood hs3 hpush => ?_⟩⟩
    · obtain ⟨t, hrun, hhalt⟩ := chm_interruptStack (target := e.2.2) hx his
      exact ⟨t, execute_ready_next hready hrun, hhalt.run, hhalt.regs, hhalt.psl, hhalt.mem⟩
    · obtain ⟨t, hrun, hhalt⟩ := chm_badVector (target := e.2.2) hx his hv hbad
      exact ⟨t, execute_ready_next hready hrun, hhalt.run, hhalt.regs, hhalt.psl.trans (readVector_status hv).2⟩
    · have hmode : min e.2.2 s1.cur < 4 := (Nat.min_le_right _ _).trans_lt (BitVec.isLt _)
      refine ⟨_, execute_ready_next hready (chm_ok hx his hv hgood hs3 hpush), State.setReg_reg_same _ _ _, changedPsl_cur _ hmode,
        changedPsl_prv _ _, changedPsl_ipl _ _, (changedPsl_is _ _).trans his, changedPsl_clear _ _, rfl, rfl, fun k hk => ?_⟩
      exact State.setReg_reg_ne _ _ hk.symm

end Sys2Proof.Machine
end

section
/-! Moves to and from the processor registers that both processors have, 11_processor_registers.md R131 to R183. -/
namespace Sys2Proof.Machine

section
variable {s s1 s2 s3 s4 s5 : State} {v x : Long}

/-! ### Words cut to some of their bits -/

theorem low_getLsbD {m : Long} {n : Nat} (hm : ∀ i < 32, m.getLsbD i = decide (i < n)) {i : Nat} (hi : i < 32) :
    (v &&& m).getLsbD i = (v.getLsbD i && decide (i < n)) := by
  rw [BitVec.getLsbD_and, hm i hi]

theorem setWidth_low {n : Nat} {m : Long} (hm : ∀ i < 32, m.getLsbD i = decide (i < n)) : (v.setWidth n).setWidth 32 = v &&& m := by
  refine BitVec.eq_of_getLsbD_eq fun i hi => ?_
  rw [low_getLsbD hm hi, BitVec.getLsbD_setWidth, BitVec.getLsbD_setWidth, decide_eq_true hi, Bool.true_and, Bool.and_comm]

theorem ofNat_field_low {n : Nat} {m : Long} (hm : ∀ i < 32, m.getLsbD i = decide (i < n)) :
    BitVec.ofNat 32 (field v 0 n) = v &&& m := by
  rw [← setWidth_low hm]
  refine BitVec.eq_of_toNat_eq ?_
  unfold field
  rw [BitVec.toNat_setWidth, BitVec.toNat_setWidth, BitVec.toNat_ofNat, BitVec.extractLsb'_toNat, Nat.shiftRight_zero]

theorem bitL_low (v : Long) : bitL (v.getLsbD 0) = v &&& 1 := by
  have h := bitL_shift v (i := 0) (by decide)
  rwa [BitVec.shiftLeft_zero] at h

theorem and_all (v : Long) : v = v &&& 0xFFFFFFFF := (BitVec.and_allOnes (x := v)).symm

/-! ### MTPR and MFPR, R1000, R1001 -/

theorem mtpr_ok {src procreg : Opnd} {n : Long} (hv : rd .l src s = .ok v s1) (hn : rd .l procreg s1 = .ok n s2)
    (hwrite : writeReg n.toNat v (s2.flags v false s2.ccC) = .ok ⟨⟩ s3) : mtpr src procreg s = .ok none s3 :=
  bind_run hv <| bind_run hn <| bind_run (run_setNZV _ _ _ s2) <| bind_run hwrite rfl

theorem mfpr_ok {procreg dst : Opnd} {n : Long} {d k : Dest} (hn : rd .l procreg s = .ok n s1) (hd : wr .l dst s1 = .ok d s2)
    (hk : prepare .l d s2 = .ok k s3) (hread : readReg n.toNat s3 = .ok v s4) (hstore : store .l k v s4 = .ok ⟨⟩ s5) :
    mfpr procreg dst s = .ok none (s5.flags v false s5.ccC) :=
  bind_run hn <| bind_run hd <| bind_run hk <| bind_run hread <| bind_run hstore <| bind_run (run_setNZV _ _ _ s5) rfl

/-! ### Registers that hold what is written, R140 to R159 -/

/-- Written with `v` the register then reads `x`; memory, the registers but SP and, unless `psl` says otherwise, the PSL stay. -/
def Holds (s : State) (n : Nat) (v x : Long) : Prop :=
  ∃ t, writeReg n v s = .ok ⟨⟩ t ∧ readReg n t = .ok x t ∧ t.mem = s.mem ∧ (∀ k : Reg, k ≠ 14 → t.reg k = s.reg k)
    ∧ (n ≠ 0x12 → t.psl = s.psl)

theorem Stacks.get_put (k : Stacks) {mode : Nat} (h : mode < 4) (v : Long) : (k.put mode v).get mode = v := by
  match mode, h with
  | 0, _ | 1, _ | 2, _ | 3, _ => rfl

/-- Stack pointer `k` is written. -/
def State.withStack (s : State) (k : Nat) (v : Long) : State :=
  { (if s.currentStack = k then s.setReg 14 v else s) with
    sp := if k = 4 then { s.sp with isp := v } else s.sp.put k v }

theorem run_writeSp (k : Nat) (v : Long) (s : State) : writeSp k v s = .ok ⟨⟩ (s.withStack k v) := by
  unfold writeSp State.withStack
  rw [run_modify]
  by_cases h : s.currentStack = k
  · rw [if_pos h]
    rfl
  · rw [if_neg h]

theorem State.withStack_currentStack (s : State) (k : Nat) (v : Long) : (s.withStack k v).currentStack = s.currentStack := by
  unfold State.withStack
  split <;> rfl

theorem State.withStack_storedSp (s : State) {k : Nat} (hk : k ≤ 4) (v : Long) : (s.withStack k v).storedSp k = v := by
  unfold State.storedSp State.withStack
  by_cases h4 : k = 4
  · rw [if_pos h4, if_pos h4]
  · rw [if_neg h4, if_neg h4]
    exact Stacks.get_put _ (by omega) v

theorem readSp_withStack {k : Nat} (hk : k ≤ 4) (v : Long) (s : State) : readSp k (s.withStack k v) = .ok v (s.withStack k v) := by
  unfold readSp
  rw [bind_of_ok _ (run_get _), run_pure, s.withStack_currentStack, s.withStack_storedSp hk]
  by_cases h : s.currentStack = k
  · have hreg : (s.withStack k v).reg 14 = v := by
      unfold State.withStack
      rw [if_pos h]
      exact s.setReg_reg_same 14 v
    rw [if_pos h, hreg]
  · rw [if_neg h]

theorem holds_sp {n k : Nat} (hk : k ≤ 4) (hwrite : writeReg n v s = writeSp k v s)
    (hread : readReg n (s.withStack k v) = readSp k (s.withStack k v)) : Holds s n v (v &&& 0xFFFFFFFF) := by
  refine ⟨s.withStack k v, hwrite.trans (run_writeSp k v s), ?_, ?_, fun j hj => ?_, fun _ => ?_⟩
  · rw [hread, readSp_withStack hk, ← and_all]
  · unfold State.withStack
    split <;> rfl
  · unfold State.withStack
    split
    · exact s.setReg_reg_ne v hj.symm
    · rfl
  · unfold State.withStack
    split <;> rfl

/-- The registers of R140 to R159 and the bits of each that are kept. -/
def heldRegisters (s : State) : List (Nat × Long) :=
  [(0x00, 0xFFFFFFFF), (0x01, 0xFFFFFFFF), (0x02, 0xFFFFFFFF), (0x03, 0xFFFFFFFF), (0x04, 0xFFFFFFFF), (0x09, 0x003FFFFF),
    (0x0B, 0x003FFFFF), (0x0D, 0x003FFFFF), (0x12, 0x1F), (0x15, 0xFFFE), (0x38, 1), (0x3D, 1),
    (0x0C, if s.is750 then 0x00FFFFFC else 0x3FFFFFFC), (0x10, 0xFFFFFFFF), (0x11, if s.is750 then 0x00FFFE00 else 0x3FFFFE00)]

/-- The bits of a physical address from a boundary on. -/
theorem paMask_and (s : State) {m m750 m780 : Long} (h750 : 0x00FFFFFF &&& m = m750) (h780 : 0x3FFFFFFF &&& m = m780) :
    v &&& s.paMask &&& m = v &&& if s.is750 then m750 else m780 := by
  rw [BitVec.and_assoc]
  unfold State.paMask Config.paw State.is750
  cases s.cfg.cpu with
  | v750 => exact congrArg (v &&& ·) h750
  | v780 => exact congrArg (v &&& ·) h780

theorem sisr_written (v : Long) : (v.setWidth 16 &&& 0xFFFE#16).setWidth 32 = v &&& 0xFFFE := by
  refine BitVec.eq_of_getLsbD_eq fun i hi => ?_
  have hmask : ∀ j < 32, (0xFFFE : Long).getLsbD j = (decide (j < 16) && (0xFFFE#16).getLsbD j) := by decide
  rw [BitVec.getLsbD_setWidth, BitVec.getLsbD_and, BitVec.getLsbD_and, BitVec.getLsbD_setWidth, hmask i hi, decide_eq_true hi,
    Bool.true_and]
  cases decide (i < 16) <;> cases v.getLsbD i <;> simp

theorem heldRegisters_hold (s : State) (v : Long) : ∀ e ∈ heldRegisters s, Holds s e.1 v (v &&& e.2) := by
  have held {n : Nat} {x : Long} (t : State) (hwrite : writeReg n v s = .ok ⟨⟩ t) (hread : readReg n t = .ok x t) (hmem : t.mem = s.mem)
      (hr : t.r = s.r) (hpsl : n ≠ 0x12 → t.psl = s.psl) : Holds s n v x :=
    ⟨t, hwrite, hread, hmem, fun k _ => congrArg (fun r : Vector Long 16 => r[k]) hr, hpsl⟩
  have reads {t : State} {x y : Long} (h : x = y) : (.ok x t : EStateM.Result Stop State Long) = .ok y t := by rw [h]
  unfold heldRegisters
  simp only [List.forall_mem_cons]
  refine ⟨holds_sp (k := 0) (by decide) rfl rfl, holds_sp (k := 1) (by decide) rfl rfl, holds_sp (k := 2) (by decide) rfl rfl,
    holds_sp (k := 3) (by decide) rfl rfl, holds_sp (k := 4) (by decide) rfl rfl, ?_, ?_, ?_, ?_, ?_, ?_, ?_, ?_, ?_, ?_,
    fun _ h => nomatch h⟩
  · exact held _ rfl (reads (setWidth_low (by decide))) rfl rfl fun _ => rfl
  · exact held _ rfl (reads (setWidth_low (by decide))) rfl rfl fun _ => rfl
  · exact held _ rfl (reads (setWidth_low (by decide))) rfl rfl fun _ => rfl
  · exact held _ rfl (reads ((congrArg (BitVec.ofNat 32) (field_putField s.psl v 16 5 (by decide))).trans
      (ofNat_field_low (by decide)))) rfl rfl fun h => absurd rfl h
  · exact held _ rfl (reads (sisr_written v)) rfl rfl fun _ => rfl
  · exact held _ rfl (reads (bitL_low v)) rfl rfl fun _ => rfl
  · exact held _ rfl (reads (bitL_low v)) rfl rfl fun _ => rfl
  · exact held _ rfl (reads (paMask_and s (by decide) (by decide))) rfl rfl fun _ => rfl
  · exact held _ rfl (reads (and_all v)) rfl rfl fun _ => rfl
  · exact held _ rfl (reads (paMask_and s (by decide) (by decide))) rfl rfl fun _ => rfl

/-! ### Base registers, AST level, software requests, the translation buffer -/

theorem baseValid_iff (a : Long) : baseValid a = true ↔ field a 30 2 = 2 ∧ field a 0 2 = 0 := by
  unfold baseValid
  rw [Bool.and_eq_true, beq_iff_eq, beq_iff_eq]

theorem checkBaseRegister_ok (h : field x 30 2 = 2 ∧ field x 0 2 = 0) (s : State) : checkBaseRegister x s = .ok ⟨⟩ s := by
  unfold checkBaseRegister
  rw [if_pos ((baseValid_iff x).mpr h)]
  rfl

theorem checkBaseRegister_bad (h : ¬ (field x 30 2 = 2 ∧ field x 0 2 = 0)) (s : State) :
    checkBaseRegister x s = .error (.exc reservedOperand) s := by
  unfold checkBaseRegister
  rw [if_neg (mt (baseValid_iff x).mp h)]
  rfl

theorem lowField_toNat (v : Long) (n : Nat) : field v 0 n = v.toNat % 2 ^ n := by
  unfold field
  rw [BitVec.extractLsb'_toNat, Nat.shiftRight_zero]

theorem astlvl_ok (h : field v 0 3 < 5) : ∃ t, writeReg 0x13 v s = .ok ⟨⟩ t ∧ readReg 0x13 t = .ok (v &&& 7) t := by
  refine ⟨{ s with astlvl := v.setWidth 3 }, ?_, ?_⟩
  · show (if 5 ≤ field v 0 3 then raise reservedOperand >>= fun _ => _ else _ : M Unit) s = _
    rw [if_neg (by omega)]
    rfl
  · exact congrArg (EStateM.Result.ok · { s with astlvl := v.setWidth 3 }) (setWidth_low (n := 3) (m := 7) (by decide))

theorem astlvl_bad (h : 5 ≤ field v 0 3) : writeReg 0x13 v s = .error (.exc reservedOperand) s := by
  show (if 5 ≤ field v 0 3 then raise reservedOperand >>= fun _ => _ else _ : M Unit) s = _
  rw [if_pos h]
  rfl

theorem softwareRequest (h : field v 0 4 ≠ 0) :
    writeReg 0x14 v s = .ok ⟨⟩ { s with sisr := s.sisr ||| (1#16 <<< field v 0 4) } := by
  show requestSoftware (field v 0 4) s = _
  unfold requestSoftware
  rw [if_neg h]
  rfl

theorem page_toNat (v : Long) : field v 9 23 = v.toNat / 512 := by
  unfold field
  rw [BitVec.extractLsb'_toNat, Nat.shiftRight_eq_div_pow]
  have := v.isLt
  omega

/-- TBIS drops the entry of its page, R156. -/
theorem tbis_ok (h : Sparse.wfFrom 0 s.tb = true) :
    ∃ t, writeReg 0x3A v s = .ok ⟨⟩ t ∧ t = { s with tb := t.tb }
      ∧ ∀ p, Sparse.get t.tb p = if p = field v 9 23 then 0 else Sparse.get s.tb p := by
  refine ⟨{ s with tb := Sparse.set s.tb (v.toNat / 512) 0 }, rfl, rfl, fun p => ?_⟩
  rw [page_toNat]
  exact Sparse.get_set s.tb _ p 0 h

/-! ### Registers of one processor, and of none, R131 -/

/-- The register stands in the space of one of the processors. -/
def Apart (n : Nat) : Prop :=
  ∀ (s : State) (v : Long), readReg n s = (if s.is750 then readReg750 n else readReg780 n) s
    ∧ writeReg n v s = (if s.is750 then writeReg750 n v else writeReg780 n v) s

theorem Apart.read750 {n : Nat} (h : Apart n) (h750 : s.is750 = true) : readReg n s = readReg750 n s := by
  rw [(h s 0).1, if_pos h750]

theorem Apart.write750 {n : Nat} (h : Apart n) (h750 : s.is750 = true) : writeReg n v s = writeReg750 n v s := by
  rw [(h s v).2, if_pos h750]

theorem Apart.read780 {n : Nat} (h : Apart n) (h780 : s.is750 = false) : readReg n s = readReg780 n s := by
  rw [(h s 0).1, h780, if_neg Bool.false_ne_true]

theorem Apart.write780 {n : Nat} (h : Apart n) (h780 : s.is750 = false) : writeReg n v s = writeReg780 n v s := by
  rw [(h s v).2, h780, if_neg Bool.false_ne_true]

theorem apart_high {n : Nat} (h : 0x40 ≤ n) : Apart n := by
  refine fun s v => ⟨?_, ?_⟩
  · unfold readReg
    rw [bind_of_ok _ (run_get s)]
    split
    case h_26 => rfl
    all_goals omega
  · unfold writeReg
    split
    case h_28 => rfl
    all_goals omega
end

end Sys2Proof.Machine
end

section
/-! The interval clock and the time-of-year clock, 11_processor_registers.md R170 to R175. -/
namespace Sys2Proof.Machine

section
variable {s : State} {v : Long}

/-! ### Interval clock, R170 to R174 -/

theorem iccs_bits (c : Clock) : c.iccs.getLsbD 31 = c.err ∧ c.iccs.getLsbD 7 = c.int ∧ c.iccs.getLsbD 6 = c.ie
    ∧ c.iccs.getLsbD 0 = c.run ∧ c.iccs &&& 0x7FFFFF3E = 0 := by
  have bits : ∀ err int ie run : Bool, ∀ x, x = bitL err <<< 31 ||| bitL int <<< 7 ||| bitL ie <<< 6 ||| bitL run →
      x.getLsbD 31 = err ∧ x.getLsbD 7 = int ∧ x.getLsbD 6 = ie ∧ x.getLsbD 0 = run ∧ x &&& 0x7FFFFF3E = 0 := by
    simp only [forall_eq]
    decide
  exact bits c.err c.int c.ie c.run _ rfl

/-- What a write of ICCS does before it steps the clock. -/
def Clock.loaded (c : Clock) (v : Long) : Clock :=
  { c with
    err := c.err && !v.getLsbD 31, int := c.int && !v.getLsbD 7, ie := v.getLsbD 6, run := v.getLsbD 0
    icr := if v.getLsbD 4 then c.nicr else c.icr }

theorem Clock.write_still (c : Clock) (h : v.getLsbD 5 = false ∨ v.getLsbD 0 = true) : c.write v = c.loaded v := by
  refine if_neg fun hstep => ?_
  rw [Bool.and_eq_true, Bool.not_eq_true'] at hstep
  obtain ⟨h5, h0⟩ := hstep
  rcases h with h | h
  · exact absurd (h5.symm.trans h) (by decide)
  · exact absurd (h0.symm.trans h) (by decide)

theorem Clock.write_step (c : Clock) (h5 : v.getLsbD 5 = true) (h0 : v.getLsbD 0 = false) : c.write v = (c.loaded v).tick :=
  if_pos (by rw [h5, h0]; rfl)

theorem Clock.tick_full (c : Clock) (h : c.icr = 0xFFFFFFFF) :
    c.tick = { c with icr := c.nicr, err := c.err || c.int, int := true } := if_pos h

theorem Clock.tick_count (c : Clock) (h : c.icr ≠ 0xFFFFFFFF) : c.tick = { c with icr := c.icr + 1 } := if_neg h

theorem Clock.tick_kept (c : Clock) : c.tick.ie = c.ie ∧ c.tick.run = c.run ∧ c.tick.nicr = c.nicr ∧ c.tick.todr = c.todr := by
  unfold Clock.tick
  split <;> exact ⟨rfl, rfl, rfl, rfl⟩

theorem Clock.write_kept (c : Clock) (v : Long) :
    (c.write v).ie = v.getLsbD 6 ∧ (c.write v).run = v.getLsbD 0 ∧ (c.write v).nicr = c.nicr ∧ (c.write v).todr = c.todr := by
  by_cases h : v.getLsbD 5 = false ∨ v.getLsbD 0 = true
  · rw [c.write_still h]
    exact ⟨rfl, rfl, rfl, rfl⟩
  · obtain ⟨h5, h0⟩ := not_or.mp h
    rw [c.write_step (Bool.eq_true_of_not_eq_false h5) (Bool.eq_false_of_not_eq_true h0)]
    exact (c.loaded v).tick_kept

/-- The clock is replaced. -/
def State.withClock (s : State) (c : Clock) : State := { s with clock := c }

theorem clockRegisters_iccs (s : State) (v : Long) :
    ∃ t, writeReg 0x18 v s = .ok ⟨⟩ t ∧ t.clock.ie = v.getLsbD 6 ∧ t.clock.run = v.getLsbD 0 ∧ t.clock.nicr = s.clock.nicr
    ∧ t.clock.todr = s.clock.todr ∧ t.r = s.r ∧ t.psl = s.psl ∧ t.mem = s.mem
    ∧ (v.getLsbD 5 = false ∨ v.getLsbD 0 = true → t.clock.icr = (if v.getLsbD 4 then s.clock.nicr else s.clock.icr)
      ∧ t.clock.int = (s.clock.int && !v.getLsbD 7) ∧ t.clock.err = (s.clock.err && !v.getLsbD 31))
    ∧ (v.getLsbD 5 = true → v.getLsbD 0 = false → ∀ x, x = (if v.getLsbD 4 then s.clock.nicr else s.clock.icr) →
      (x ≠ 0xFFFFFFFF → t.clock.icr = x + 1 ∧ t.clock.int = (s.clock.int && !v.getLsbD 7)
        ∧ t.clock.err = (s.clock.err && !v.getLsbD 31))
      ∧ (x = 0xFFFFFFFF → t.clock.icr = s.clock.nicr ∧ t.clock.int = true
        ∧ t.clock.err = ((s.clock.err && !v.getLsbD 31) || (s.clock.int && !v.getLsbD 7)))) := by
  obtain ⟨hie, hrun, hnicr, htodr⟩ := s.clock.write_kept v
  refine ⟨s.withClock (s.clock.write v), rfl, hie, hrun, hnicr, htodr, rfl, rfl, rfl, fun h => ?_, fun h5 h0 x hx => ⟨fun hne => ?_,
    fun hfull => ?_⟩⟩
  · rw [s.clock.write_still h]
    exact ⟨rfl, rfl, rfl⟩
  · rw [s.clock.write_step h5 h0, (s.clock.loaded v).tick_count (fun h => hne (hx.trans h)), hx]
    exact ⟨rfl, rfl, rfl⟩
  · rw [s.clock.write_step h5 h0, (s.clock.loaded v).tick_full (hx.symm.trans hfull)]
    exact ⟨rfl, rfl, rfl⟩

/-! ### Time-of-year clock, R175 -/

theorem todr_write_present (h : s.hasTodr = true) :
    writeReg 0x1B v s = .ok ⟨⟩ (s.withClock { s.clock with todr := v, todrHeld := s.clock.todrHeld && v == 0 }) := by
  show (if s.hasTodr then modClock _ else pure ⟨⟩ : M Unit) s = _
  rw [if_pos h]
  rfl

theorem todr_write_absent (h : s.hasTodr = false) : writeReg 0x1B v s = .ok ⟨⟩ s := by
  show (if s.hasTodr then modClock _ else pure ⟨⟩ : M Unit) s = _
  rw [h]
  rfl

theorem todr_read (s : State) : readReg 0x1B s = .ok (if s.hasTodr then s.clock.todr else 0) s := rfl

theorem todr_read_present (h : s.hasTodr = true) : readReg 0x1B s = .ok s.clock.todr s := by
  rw [todr_read, if_pos h]

/-- A register of one of the processors, that neither has. -/
theorem noReg_read {n : Nat} (h : readReg n s = (if s.is750 then readReg750 n else readReg780 n) s)
    (h750 : readReg750 n s = .error (.exc reservedOperand) s)
    (h780 : readReg780 n s = .error (.exc reservedOperand) s) : readReg n s = .error (.exc reservedOperand) s := by
  rw [h]
  split
  · exact h750
  · exact h780

theorem noReg_write {n : Nat} (h : writeReg n v s = (if s.is750 then writeReg750 n v else writeReg780 n v) s)
    (h750 : writeReg750 n v s = .error (.exc reservedOperand) s)
    (h780 : writeReg780 n v s = .error (.exc reservedOperand) s) : writeReg n v s = .error (.exc reservedOperand) s := by
  rw [h]
  split
  · exact h750
  · exact h780

theorem clockRegisters (s : State) (v : Long) : ClockRegisters s v := by
  refine ⟨⟨_, rfl, iccs_bits s.clock⟩, clockRegisters_iccs s v, ⟨s.withClock { s.clock with nicr := v }, rfl, rfl, rfl, rfl⟩,
    noReg_read rfl rfl rfl, rfl, fun h => ?_, fun h => ⟨todr_write_absent h, ?_⟩⟩
  · exact ⟨_, todr_write_present h, todr_read_present (s := s.withClock _) h, rfl, rfl⟩
  · rw [todr_read, h]
    rfl
end

end Sys2Proof.Machine
end

section
/-! The console registers, 11_processor_registers.md R180 to R183 and R200 to R203. -/
namespace Sys2Proof.Machine

section
variable {s : State} {v : Long}

theorem line_bits (l : Line) : l.value.getLsbD 7 = l.ready ∧ l.value.getLsbD 6 = l.ie ∧ l.value &&& 0xFFFFFF3F = 0 := by
  have bits : ∀ ready ie : Bool, ∀ x, x = bitL ready <<< 7 ||| bitL ie <<< 6 →
      x.getLsbD 7 = ready ∧ x.getLsbD 6 = ie ∧ x &&& 0xFFFFFF3F = 0 := by
    simp only [forall_eq]
    decide
  exact bits l.ready l.ie _ rfl

/-! ### The console terminal, R180 to R183 -/

def State.withTerm (s : State) (t : Terminal) : State := { s with term := t }

theorem readRxdb_ready (h : s.term.rx.ready = true) :
    readRxdb s = .ok s.term.rxdb (s.withTerm { s.term with rx := { s.term.rx with ready := false } }) := by
  unfold readRxdb
  refine bind_run (run_get s) (bind_run (a := ⟨⟩) rfl ?_)
  rw [if_pos h]
  rfl

/-- The codes of TXDB that the VAX-11/750 does not know, R183. -/
def TxdbReserved (v : Long) : Prop := (field v 8 4 ≠ 0 ∧ field v 8 4 ≠ 15) ∨ (field v 8 4 = 15 ∧ 4 < field v 0 8)

/-- The transmitter is busy. -/
def State.txBusy (s : State) : State := s.withTerm { s.term with tx := { s.term.tx with ready := false } }

theorem writeTxdb_reserved (h750 : s.is750 = true) (h : TxdbReserved v) : writeTxdb v s = .error (.exc reservedOperand) s := by
  unfold writeTxdb
  refine bind_run (run_get s) ?_
  rw [if_pos ⟨h750, h⟩]
  rfl

theorem writeTxdb_char (hr : s.term.tx.ready = true) (hid : field v 8 4 = 0) (hout : s.is750 = true ∨ s.v780.command = false) :
    writeTxdb v s = .ok ⟨⟩ { s.txBusy with sent := s.sent ++ [.char 0 (v.setWidth 8)] } := by
  have hbad : ¬ (s.is750 = true ∧ TxdbReserved v) := fun ⟨_, h⟩ => by
    rcases h with ⟨h, _⟩ | ⟨h, _⟩ <;> omega
  unfold TxdbReserved at hbad
  have hflag : ¬ (s.is750 = true ∧ field v 8 4 = 15) := fun ⟨_, h⟩ => by omega
  unfold writeTxdb
  refine bind_run (run_get s) ?_
  rw [if_neg hbad]
  refine bind_run (a := ⟨⟩) (t := s.txBusy) rfl ?_
  rw [if_neg hflag, if_pos (by rwa [Bool.not_eq_true]), if_pos hr, hid]
  rfl

theorem writeTxdb_coldStart (h750 : s.is750 = true) (hid : field v 8 4 = 15) (hdata : field v 0 8 = 4) :
    writeTxdb v s = .ok ⟨⟩ { s.txBusy with v750 := { s.v750 with coldStart := false } } := by
  have hbad : ¬ (s.is750 = true ∧ TxdbReserved v) := fun ⟨_, h⟩ => by
    rcases h with ⟨_, h⟩ | ⟨_, h⟩ <;> omega
  unfold TxdbReserved at hbad
  unfold writeTxdb
  refine bind_run (run_get s) ?_
  rw [if_neg hbad]
  refine bind_run (a := ⟨⟩) (t := s.txBusy) rfl ?_
  rw [if_pos ⟨h750, hid⟩, if_neg (by omega), if_pos hdata]
  rfl

/-! ### The console storage device of the VAX-11/750, R200 to R203 -/

def State.withV750 (s : State) (x : V750) : State := { s with v750 := x }

theorem write1E_lineBreak : writeReg750 0x1E v s =
    .ok ⟨⟩ { s.withV750 { s.v750 with storeTx := { s.v750.storeTx with ie := v.getLsbD 6 } } with
      sent := if v.getLsbD 0 then s.sent ++ [.lineBreak] else s.sent } := by
  show (modV750 _ >>= fun _ => if v.getLsbD 0 then send .lineBreak else pure ⟨⟩ : M Unit) s = _
  refine bind_run (a := ⟨⟩) rfl ?_
  cases v.getLsbD 0 <;> rfl

theorem storageRegisters (h750 : s.is750 = true) :
    (∃ t x, writeReg 0x1C v s = .ok ⟨⟩ t ∧ readReg 0x1C t = .ok x t ∧ x.getLsbD 7 = s.v750.storeRx.ready
      ∧ x.getLsbD 6 = v.getLsbD 6 ∧ x &&& 0xFFFFFF3F = 0)
    ∧ (∃ t x, writeReg 0x1E v s = .ok ⟨⟩ t ∧ readReg 0x1E t = .ok x t ∧ x.getLsbD 7 = s.v750.storeTx.ready
      ∧ x.getLsbD 6 = v.getLsbD 6 ∧ x &&& 0xFFFFFF3F = 0 ∧ t.sent = (if v.getLsbD 0 then s.sent ++ [.lineBreak] else s.sent))
    ∧ (∃ t, writeReg 0x1F v s = .ok ⟨⟩ t ∧ t.v750 = { s.v750 with storeTx := { s.v750.storeTx with ready := false } }
      ∧ t.sent = s.sent ++ [.storage (v.setWidth 8)]) := by
  have h1C : Apart 0x1C := fun _ _ => ⟨rfl, rfl⟩
  have h1E : Apart 0x1E := fun _ _ => ⟨rfl, rfl⟩
  have h1F : Apart 0x1F := fun _ _ => ⟨rfl, rfl⟩
  refine ⟨?_, ?_, ?_⟩
  · obtain ⟨hready, hie, hrest⟩ := line_bits ⟨s.v750.storeRx.ready, v.getLsbD 6⟩
    exact ⟨s.withV750 { s.v750 with storeRx := ⟨s.v750.storeRx.ready, v.getLsbD 6⟩ }, _, h1C.write750 h750, h1C.read750 h750, hready, hie, hrest⟩
  · obtain ⟨hready, hie, hrest⟩ := line_bits ⟨s.v750.storeTx.ready, v.getLsbD 6⟩
    exact ⟨_, _, (h1E.write750 h750).trans write1E_lineBreak, h1E.read750 h750, hready, hie, hrest, rfl⟩
  · exact ⟨_, h1F.write750 h750, rfl, rfl⟩

theorem consoleRegisters (s : State) (v : Long) : ConsoleRegisters s v := by
  refine ⟨?_, ?_, readRxdb_ready, noReg_write rfl rfl rfl, noReg_read rfl rfl rfl, writeTxdb_char, writeTxdb_reserved,
    fun h750 hid hdata => ⟨_, writeTxdb_coldStart h750 hid hdata, rfl, rfl, rfl⟩, storageRegisters⟩
  · exact ⟨s.withTerm { s.term with rx := ⟨s.term.rx.ready, v.getLsbD 6⟩ }, _, rfl, rfl, rfl, rfl,
      line_bits ⟨s.term.rx.ready, v.getLsbD 6⟩⟩
  · exact ⟨s.withTerm { s.term with tx := ⟨s.term.tx.ready, v.getLsbD 6⟩ }, _, rfl, rfl, rfl, rfl,
      line_bits ⟨s.term.tx.ready, v.getLsbD 6⟩⟩
end

end Sys2Proof.Machine
end

section
/-! The registers of one processor, 11_processor_registers.md R210 to R247, and with them all of MTPR and MFPR. -/
namespace Sys2Proof.Machine

section
variable {s : State} {v : Long}

/-- Neither read nor written. -/
def Refused (n : Nat) (s : State) (v : Long) : Prop :=
  readReg n s = .error (.exc reservedOperand) s ∧ writeReg n v s = .error (.exc reservedOperand) s

theorem Apart.refused750 {n : Nat} (h : Apart n) (h750 : s.is750 = true) (hr : readReg750 n s = .error (.exc reservedOperand) s)
    (hw : writeReg750 n v s = .error (.exc reservedOperand) s) : Refused n s v :=
  ⟨(h.read750 h750).trans hr, (h.write750 h750).trans hw⟩

theorem Apart.refused780 {n : Nat} (h : Apart n) (h780 : s.is750 = false) (hr : readReg780 n s = .error (.exc reservedOperand) s)
    (hw : writeReg780 n v s = .error (.exc reservedOperand) s) : Refused n s v :=
  ⟨(h.read780 h780).trans hr, (h.write780 h780).trans hw⟩

theorem refused_high {n : Nat} (hn : 0x40 ≤ n) : Refused n s v := by
  have r750 : readReg750 n s = .error (.exc reservedOperand) s := by
    unfold readReg750
    refine bind_run (run_get s) ?_
    split
    case h_11 => rfl
    all_goals omega
  have w750 : writeReg750 n v s = .error (.exc reservedOperand) s := by
    unfold writeReg750
    split
    case h_11 => rfl
    all_goals omega
  have r780 : readReg780 n s = .error (.exc reservedOperand) s := by
    unfold readReg780
    refine bind_run (run_get s) ?_
    split
    case h_12 => rfl
    all_goals omega
  have w780 : writeReg780 n v s = .error (.exc reservedOperand) s := by
    unfold writeReg780
    split
    case h_11 => rfl
    all_goals omega
  exact ⟨noReg_read ((apart_high hn s v).1) r750 r780, noReg_write ((apart_high hn s v).2) w750 w780⟩

/-! ### The VAX-11/750, R210 to R218 -/

theorem mcsr_cleared (x v : Long) :
    x &&& ~~~ ((if v.getLsbD 3 then 0xF else 0) ||| (if v.getLsbD 2 then 0xF00 else 0)) =
      x &&& (if v.getLsbD 3 then 0xFFFFFFF0 else 0xFFFFFFFF) &&& (if v.getLsbD 2 then 0xFFFFF0FF else 0xFFFFFFFF) := by
  rw [BitVec.and_assoc]
  cases v.getLsbD 3 <;> cases v.getLsbD 2 <;> exact congrArg (x &&& ·) (by decide)

theorem caer_read (v : Long) (b : Bool) : ((v.setWidth 4).setWidth 32 &&& 0xE ||| bitL b) &&& 0xFFFFFFFE = v &&& 0xE := by
  have hbit : bitL b &&& 0xFFFFFFFE = 0 := by cases b <;> decide
  rw [setWidth_low (n := 4) (m := 0xF) (by decide), BitVec.and_assoc, BitVec.and_or_distrib_right, hbit, BitVec.and_assoc]
  refine (BitVec.or_zero (x := _)).trans (congrArg (v &&& ·) (by decide))

theorem run_readHit (s : State) : ∃ b u, readHit s = .ok (bitL b) u :=
  ⟨_, _, rfl⟩

theorem read27_750 (h : s.v750.caer = v.setWidth 4) : ∃ u x, readReg750 0x27 s = .ok x u ∧ x &&& 0xFFFFFFFE = v &&& 0xE := by
  obtain ⟨b, u, hb⟩ := run_readHit s
  refine ⟨u, _, (bind_run hb rfl : (readHit >>= fun x => pure (s.v750.caer.setWidth 32 &&& 0xE ||| x)) s = _), ?_⟩
  rw [h, caer_read]

theorem tbEntry_page (v : Long) : tbEntry v ≠ 0 ∧ (tbEntry v).setWidth 32 = v := by
  have hvalid : (tbEntry v).getLsbD 32 = true := by
    unfold tbEntry
    rw [BitVec.getLsbD_or]
    rfl
  refine ⟨fun h => ?_, BitVec.eq_of_getLsbD_eq fun i hi => ?_⟩
  · rw [h] at hvalid
    exact absurd hvalid (by decide)
  · have hlow : ∀ j < 32, (0x100000000 : BitVec 33).getLsbD j = false := by decide
    unfold tbEntry
    rw [BitVec.getLsbD_setWidth, BitVec.getLsbD_or, BitVec.getLsbD_setWidth, hlow i hi, decide_eq_true hi, decide_eq_true (by omega)]
    rfl

def State.withTb (s : State) (tb : Sparse 33) : State := { s with tb := tb }

theorem run_needMappingOff (h : s.mm.mapen = false) : needMappingOff s = .ok ⟨⟩ s := by
  unfold needMappingOff
  refine bind_run (run_get s) ?_
  rw [h]
  rfl

theorem write3B_750 (h : s.mm.mapen = false) :
    writeReg750 0x3B v s = .ok ⟨⟩ (s.withTb (Sparse.set s.tb s.tbPage (tbEntry v))) :=
  (bind_run (run_needMappingOff h) rfl : (needMappingOff >>= fun _ => modify _) s = _)

theorem readTb_entry (h : s.mm.mapen = false) (hx : Sparse.get s.tb s.tbPage = tbEntry v) : readTb s = .ok v s := by
  obtain ⟨hne, hv⟩ := tbEntry_page v
  unfold readTb
  refine bind_run (run_needMappingOff h) (bind_run (run_get s) ?_)
  rw [hx, if_neg hne, hv]
  rfl

theorem tb_register (h750 : s.is750 = true) (hmap : s.mm.mapen = false) (hwf : Sparse.wfFrom 0 s.tb = true) :
    ∃ t, writeReg 0x3B v s = .ok ⟨⟩ t ∧ readReg 0x3B t = .ok v t ∧ t = { s with tb := t.tb }
      ∧ ∀ p, p ≠ s.mm.p0br.toNat / 512 → Sparse.get t.tb p = Sparse.get s.tb p := by
  have h3B : Apart 0x3B := fun _ _ => ⟨rfl, rfl⟩
  have hget (p : Nat) := Sparse.get_set s.tb s.tbPage p (tbEntry v) hwf
  have hread {tb : Sparse 33} (h : Sparse.get tb s.tbPage = tbEntry v) : readReg 0x3B (s.withTb tb) = .ok v (s.withTb tb) :=
    (h3B.read750 (s := s.withTb tb) h750).trans (readTb_entry (s := s.withTb tb) hmap h)
  refine ⟨s.withTb (Sparse.set s.tb s.tbPage (tbEntry v)), (h3B.write750 h750).trans (write3B_750 hmap), ?_, rfl, fun p hp => ?_⟩
  · exact hread ((hget s.tbPage).trans (if_pos rfl))
  · exact (hget p).trans (if_neg hp)

theorem errorRegisters750 (h : s.is750 = true) : ErrorRegisters750 s v := by
  have h17 : Apart 0x17 := fun _ _ => ⟨rfl, rfl⟩
  have h1D : Apart 0x1D := fun _ _ => ⟨rfl, rfl⟩
  have h24 : Apart 0x24 := fun _ _ => ⟨rfl, rfl⟩
  have h25 : Apart 0x25 := fun _ _ => ⟨rfl, rfl⟩
  have h26 : Apart 0x26 := fun _ _ => ⟨rfl, rfl⟩
  have h27 : Apart 0x27 := fun _ _ => ⟨rfl, rfl⟩
  have h37 : Apart 0x37 := fun _ _ => ⟨rfl, rfl⟩
  have reads {t : State} {x y : Long} (h : x = y) : (.ok x t : EStateM.Result Stop State Long) = .ok y t := by rw [h]
  have still (x : V750) : (s.withV750 x).is750 = true := h
  refine ⟨h17.read750 h, ?_, ?_, ?_, ?_, ⟨h37.read750 h, ?_⟩, ⟨h1D.read750 h, h1D.write750 h⟩, tb_register h, ?_⟩
  · refine ⟨_, h26.write750 h, h26.read750 (still _), ?_⟩
    rw [← mcsr_cleared]
    exact h17.read750 (still _)
  · exact ⟨_, h24.write750 h, (h24.read750 (still { s.v750 with tbdr := v.setWidth 4 })).trans (reads (setWidth_low (by decide)))⟩
  · exact ⟨_, h25.write750 h, (h25.read750 (still { s.v750 with cadr := v.getLsbD 0 })).trans (reads (bitL_low v))⟩
  · obtain ⟨u, x, hread, hx⟩ := read27_750 (s := s.withV750 { s.v750 with caer := v.setWidth 4 }) (v := v) rfl
    exact ⟨_, u, x, h27.write750 h, (h27.read750 (still _)).trans hread, hx⟩
  · exact ⟨_, h37.write750 h, rfl, rfl, rfl, rfl⟩
  · show ∀ n ∈ _, Refused n s v
    have absent {n : Nat} (hn : Apart n) := hn.refused750 (v := v) h
    simp only [List.forall_mem_cons]
    refine ⟨?_, ?_, ?_, ?_, ?_, ?_, ?_, ?_, ?_, ?_, ?_, ?_, fun _ h => nomatch h⟩ <;> exact absent (fun _ _ => ⟨rfl, rfl⟩) rfl rfl
end

end Sys2Proof.Machine
end

section
/-! The registers of the VAX-11/780, 11_processor_registers.md R230 to R247, and with them all of MTPR and MFPR. -/
namespace Sys2Proof.Machine

section
variable {s : State} {v : Long}

/-- The base of the P1 table is checked 2^23 higher, R143: its two low bits stay. -/
theorem field_add_base (v : Long) : field (v + 0x00800000) 0 2 = field v 0 2 := by
  have hsum : (v + 0x00800000).toNat = (v.toNat + 0x00800000) % 2 ^ 32 := BitVec.toNat_add v 0x00800000
  rw [lowField_toNat, lowField_toNat, hsum]
  omega

theorem p0br_ok (h : field v 30 2 = 2 ∧ field v 0 2 = 0) : ∃ t, writeReg 0x08 v s = .ok ⟨⟩ t ∧ readReg 0x08 t = .ok v t :=
  ⟨_, bind_run (checkBaseRegister_ok h s) rfl, rfl⟩

theorem p0br_bad (h : ¬ (field v 30 2 = 2 ∧ field v 0 2 = 0)) : writeReg 0x08 v s = .error (.exc reservedOperand) s :=
  bind_of_error _ (checkBaseRegister_bad h s)

theorem write0A (v : Long) : writeReg 0x0A v =
    (checkBaseRegister (v + 0x00800000) >>= fun _ => modify fun s => { s with mm := { s.mm with p1br := v } }) := rfl

theorem p1br_ok (h : field (v + 0x00800000) 30 2 = 2 ∧ field v 0 2 = 0) :
    ∃ t, writeReg 0x0A v s = .ok ⟨⟩ t ∧ readReg 0x0A t = .ok v t := by
  rw [← field_add_base v] at h
  rw [write0A]
  exact ⟨_, bind_run (checkBaseRegister_ok h s) rfl, rfl⟩

theorem p1br_bad (h : ¬ (field (v + 0x00800000) 30 2 = 2 ∧ field v 0 2 = 0)) :
    writeReg 0x0A v s = .error (.exc reservedOperand) s := by
  rw [← field_add_base v] at h
  rw [write0A]
  exact bind_of_error _ (checkBaseRegister_bad h s)

/-! ### Accelerator, R230, R231 -/

theorem accs_bits (x : V780) (fpa : Bool) : (x.accs fpa).getLsbD 15 = x.accEnb ∧ field (x.accs fpa) 0 8 = (if fpa then 1 else 0)
    ∧ (x.accs fpa).getLsbD 31 = ((x.accs fpa).getLsbD 29 || (x.accs fpa).getLsbD 28 || (x.accs fpa).getLsbD 27)
    ∧ x.accs fpa &&& 0x47FF7F00 = 0 := by
  have bits : ∀ (err : BitVec 3) (enb fpa : Bool), ∀ x, x = bitL (err != 0) <<< 31 ||| err.setWidth 32 <<< 27 ||| bitL enb <<< 15 ||| bitL fpa →
      x.getLsbD 15 = enb ∧ field x 0 8 = (if fpa then 1 else 0)
        ∧ x.getLsbD 31 = (x.getLsbD 29 || x.getLsbD 28 || x.getLsbD 27) ∧ x &&& 0x47FF7F00 = 0 := by
    simp only [forall_eq]
    decide
  exact bits x.accErr x.accEnb fpa _ rfl

/-- The trap address and the match address in one longword, R231. -/
def accMicro (a : BitVec 8) (m : BitVec 9) : Long := a.setWidth 32 <<< 16 ||| m.setWidth 32

theorem accMicro_getLsbD (a : BitVec 8) (m : BitVec 9) {i : Nat} (hi : i < 32) :
    (accMicro a m).getLsbD i = ((!decide (i < 16) && a.getLsbD (i - 16)) || m.getLsbD i) := by
  unfold accMicro
  rw [BitVec.getLsbD_or, BitVec.getLsbD_shiftLeft, BitVec.getLsbD_setWidth, BitVec.getLsbD_setWidth, decide_eq_true hi,
    decide_eq_true (show i - 16 < 32 by omega), Bool.true_and, Bool.true_and, Bool.true_and]

theorem accMicro_trap (a : BitVec 8) (m : BitVec 9) : field (accMicro a m) 16 8 = a.toNat := by
  unfold field
  congr 1
  refine BitVec.eq_of_getLsbD_eq fun i hi => ?_
  rw [BitVec.getLsbD_extractLsb', accMicro_getLsbD a m (by omega), BitVec.getLsbD_of_ge m (16 + i) (by omega), decide_eq_true hi,
    decide_eq_false (by omega), Nat.add_sub_cancel_left]
  simp

theorem accMicro_match (a : BitVec 8) (m : BitVec 9) : field (accMicro a m) 0 9 = m.toNat := by
  unfold field
  congr 1
  refine BitVec.eq_of_getLsbD_eq fun i hi => ?_
  rw [BitVec.getLsbD_extractLsb', accMicro_getLsbD a m (by omega), decide_eq_true hi, decide_eq_true (by omega)]
  simp

theorem accMicro_rest (a : BitVec 8) (m : BitVec 9) : accMicro a m &&& 0xFF00FE00 = 0 := by
  have hmask : ∀ i < 32, (0xFF00FE00 : Long).getLsbD i = decide (24 ≤ i ∨ (9 ≤ i ∧ i < 16)) := by decide
  refine BitVec.eq_of_getLsbD_eq fun i hi => ?_
  rw [BitVec.getLsbD_and, accMicro_getLsbD a m hi, hmask i hi, show (0 : Long).getLsbD i = false from BitVec.getLsbD_zero]
  by_cases h : 24 ≤ i ∨ (9 ≤ i ∧ i < 16)
  · rw [BitVec.getLsbD_of_ge m i (by omega)]
    by_cases h16 : i < 16
    · simp [h16]
    · simp [BitVec.getLsbD_of_ge a (i - 16) (by omega)]
  · simp [h]

/-! ### Quadword clear, R242 -/

theorem quad_aligned (v : Long) : (v &&& 0x3FFFFFF8).toNat / 8 * 8 = (v &&& 0x3FFFFFF8).toNat := by
  have hlow : (v &&& 0x3FFFFFF8) &&& 7 = 0 := by
    rw [BitVec.and_assoc, show (0x3FFFFFF8 : Long) &&& 7 = 0 by decide]
    exact BitVec.and_zero
  have h := congrArg BitVec.toNat hlow
  rw [BitVec.toNat_and, show (7 : Long).toNat = 2 ^ 3 - 1 from rfl, Nat.and_two_pow_sub_one_eq_mod] at h
  change _ = 0 at h
  omega

theorem write36_ram (h : s.hasRam (v &&& 0x3FFFFFF8).toNat = true) :
    writeReg780 0x36 v s = .ok ⟨⟩ (s.storeQuad (v &&& 0x3FFFFFF8).toNat 0) := by
  show (if s.hasRam (v &&& 0x3FFFFFF8).toNat then modify _ else busWriteError : M Unit) s = _
  rw [if_pos h]
  rfl

theorem write36_error (h : s.hasRam (v &&& 0x3FFFFFF8).toNat = false) : writeReg780 0x36 v s = busWriteError s := by
  show (if s.hasRam (v &&& 0x3FFFFFF8).toNat then modify _ else busWriteError : M Unit) s = _
  rw [h]
  rfl

theorem quadwordClear (h780 : s.is750 = false) : ∀ pa, pa = (v &&& 0x3FFFFFF8).toNat →
    (s.hasRam pa = true → s.MemOk → ∃ t, writeReg 0x36 v s = .ok ⟨⟩ t ∧ (∀ k < 8, t.byte (pa + k) = 0)
      ∧ (∀ a, ¬ (pa ≤ a ∧ a < pa + 8) → t.byte a = s.byte a)
      ∧ t = { s with mem := t.mem, badMem := t.badMem, v780 := (s.answered pa 8).v780 })
    ∧ (s.hasRam pa = false → ∃ t, writeReg 0x36 v s = .ok ⟨⟩ t ∧ t.pend.memWrite = true ∧ t = { s with pend := t.pend }) := by
  have h36 : Apart 0x36 := fun _ _ => ⟨rfl, rfl⟩
  rintro pa rfl
  have haligned := quad_aligned v
  refine ⟨fun hram hok => ⟨_, (h36.write780 h780).trans (write36_ram hram), fun k hk => ?_, fun a ha => ?_, ?_⟩,
    fun hram => ⟨_, (h36.write780 h780).trans (write36_error hram), rfl, rfl⟩⟩
  · refine (get_ramWrite s.mem _ 8 _ _ hok).trans ?_
    rw [haligned, if_pos (by omega)]
    exact congrArg (BitVec.setWidth 8) (BitVec.zero_ushiftRight (w := 128))
  · refine get_ramWrite_outside s.mem _ 8 _ a hok ?_
    rwa [haligned]
  · unfold State.storeQuad
    rw [haligned]

theorem registers780 (h : s.is750 = false) : Registers780 s v := by
  have h28 : Apart 0x28 := fun _ _ => ⟨rfl, rfl⟩
  have h29 : Apart 0x29 := fun _ _ => ⟨rfl, rfl⟩
  have h2C : Apart 0x2C := fun _ _ => ⟨rfl, rfl⟩
  have h2D : Apart 0x2D := fun _ _ => ⟨rfl, rfl⟩
  have h30 : Apart 0x30 := fun _ _ => ⟨rfl, rfl⟩
  have h31 : Apart 0x31 := fun _ _ => ⟨rfl, rfl⟩
  have h32 : Apart 0x32 := fun _ _ => ⟨rfl, rfl⟩
  have h33 : Apart 0x33 := fun _ _ => ⟨rfl, rfl⟩
  have h34 : Apart 0x34 := fun _ _ => ⟨rfl, rfl⟩
  have h35 : Apart 0x35 := fun _ _ => ⟨rfl, rfl⟩
  have h36 : Apart 0x36 := fun _ _ => ⟨rfl, rfl⟩
  have h3C : Apart 0x3C := fun _ _ => ⟨rfl, rfl⟩
  have still (x : V780) : State.is750 { s with v780 := x } = false := h
  have reads {t : State} {x y : Long} (h : x = y) : (.ok x t : EStateM.Result Stop State Long) = .ok y t := by rw [h]
  refine ⟨?_, ?_, ?_, ?_, ?_, ?_, ?_, ?_, ⟨h2D.read780 h, ?_⟩, ⟨⟨_, _, h31.read780 h⟩, h31.write780 h⟩,
    ⟨h35.read780 h, h35.write780 h⟩, h36.read780 h, quadwordClear h, ?_⟩
  · exact ⟨_, h2C.write780 h, h2C.read780 (still _), rfl⟩
  · exact ⟨_, h30.write780 h, h30.read780 (still _), rfl⟩
  · exact ⟨_, h32.write780 h, h32.read780 (still _), rfl⟩
  · exact ⟨_, h33.write780 h, h33.read780 (still _), rfl⟩
  · exact ⟨_, h34.write780 h, h34.read780 (still _), rfl⟩
  · exact ⟨_, _, h3C.write780 h, (h3C.read780 (still { s.v780 with mbrk := v.setWidth 13 })).trans (reads (setWidth_low (by decide))), rfl⟩
  · exact ⟨_, _, h28.write780 h, h28.read780 (still _), accs_bits { s.v780 with accEnb := v.getLsbD 15 && s.cfg.hasFPA } s.cfg.hasFPA⟩
  · refine ⟨_, _, h29.write780 h, h29.read780 (still _), accMicro_rest _ _, rfl, fun h31 => ?_, fun h15 => ?_⟩
    · exact (accMicro_trap _ _).trans (congrArg BitVec.toNat (if_pos h31))
    · refine (accMicro_match _ _).trans ((congrArg BitVec.toNat (if_pos h15)).trans ?_)
      rw [lowField_toNat, BitVec.toNat_setWidth]
  · exact ⟨_, h2D.write780 h, rfl⟩
  · show ∀ n ∈ _, Refused n s v
    have absent {n : Nat} (hn : Apart n) := hn.refused780 (v := v) h
    simp only [List.forall_mem_cons]
    refine ⟨?_, ?_, ?_, ?_, ?_, ?_, ?_, ?_, ?_, ?_, ?_, fun _ h => nomatch h⟩ <;> exact absent (fun _ _ => ⟨rfl, rfl⟩) rfl rfl
end

/-- Settles O59: MTPR and MFPR are their operands, the codes and the register; each register by its own write and read. -/
theorem processorRegisterTransfers : Obligations.ProcessorRegisterTransfers := by
  unfold Obligations.ProcessorRegisterTransfers
  refine ⟨?_, ?_, heldRegisters_hold, fun s v => ?_⟩
  · intro src procreg s s1 s2 s3 v n hready hv hn hwrite
    exact execute_ready_next hready (mtpr_ok hv hn hwrite)
  · intro procreg dst s s1 s2 s3 s4 s5 n v d k hready hn hd hk hread hstore
    exact execute_ready_next hready (mfpr_ok hn hd hk hread hstore)
  · refine ⟨p0br_ok, p0br_bad, p1br_ok, p1br_bad,
      ⟨rfl, noReg_read rfl rfl rfl, noReg_read rfl rfl rfl⟩, tbis_ok, astlvl_ok, astlvl_bad, softwareRequest, rfl,
      noReg_read rfl rfl rfl, noReg_write rfl rfl rfl, noReg_write rfl rfl rfl, fun n hn => refused_high hn, clockRegisters s v,
      consoleRegisters s v, errorRegisters750, registers780⟩

end Sys2Proof.Machine
end

section
/-! PROBEx, 49_system.md R1004, 21_memory_management.md R390, and HALT, R980. -/
namespace Sys2Proof.Machine

section
variable {s s1 s2 s3 s4 s5 : State} {va a : Long} {write : Bool} {mode pa : Nat} {w : Walk}

/-! ### Storing the M bit of the entry that was examined -/

theorem commit_ok {b : Nat} (hg : s.goodRam w.ptePa 4) (hsys : ∀ p, w.sysPa = some p → s.goodRam p 4) :
    ∃ t, commit ⟨b, some w⟩ s = .ok ⟨⟩ t := by
  cases hm : pteModified w.pte with
  | true => exact ⟨s, commit_modified hm⟩
  | false =>
    cases hspa : w.sysPa with
    | none => exact ⟨_, commit_unmodified_system hg hm hspa⟩
    | some p =>
      obtain ⟨t, n, hcommit, -⟩ := commit_unmodified_process (a := b) hg hm hspa (hsys p hspa)
      exact ⟨t, hcommit⟩

theorem commitMaybe_ok {b : Nat} (hg : s.goodRam w.ptePa 4) (hsys : ∀ p, w.sysPa = some p → s.goodRam p 4) :
    ∃ t, commitMaybe ⟨b, some w⟩ s = .ok ⟨⟩ t := by
  unfold commitMaybe
  dsimp only
  cases hm : pteModified w.pte with
  | true => exact ⟨s, rfl⟩
  | false =>
    rw [if_pos Bool.false_ne_true, bind_of_ok _ (run_drawBool s)]
    cases (Config.unpred s.draw).getLsbD 0 with
    | false => exact ⟨_, rfl⟩
    | true => exact commit_ok (b := b) (hg.withDraw _) fun p hp => (hsys p hp).withDraw _

/-! ### The accessibility of an address -/

theorem accessible_off (h : s.mm.mapen = false) : accessible va write mode s = .ok true s := by
  unfold accessible
  refine bind_run (run_get s) ?_
  rw [if_pos (by rw [h]; exact Bool.false_ne_true)]
  rfl

/-- What PROBEx makes of the outcome of the walk. -/
def probed (write : Bool) (mode : Nat) : Except Stop Walk → M Bool
  | .error (.exc e) => if e.offset = 0x20 then return false else raise e
  | .error e => throw e
  | .ok w => do
    if pteProt w.pte = 1 then refuse .reservedProtection
    if write ∧ pteValid w.pte then commitMaybe ⟨0, some w⟩
    return accessAllowed (pteProt w.pte) mode write

/-- With mapping on the walk decides. -/
theorem accessible_of_maps (hm : s.Maps) {r : Except Stop Walk} (hw : attempt (walk va write) s = .ok r s) :
    accessible va write mode s = probed write mode r s := by
  obtain ⟨hmap, htb⟩ := hm
  unfold accessible
  rw [bind_of_ok _ (run_get s), if_neg (not_not.mpr hmap), if_neg (fun h => htb h.1 h.2)]
  refine (bind_of_ok _ hw).trans ?_
  rcases r with (_ | _) | _ <;> rfl

theorem accessible_violation (hm : s.Maps) {ptref length : Bool}
    (hw : walk va write s = .error (.exc (accessViolation va write ptref length)) s) : accessible va write mode s = .ok false s :=
  accessible_of_maps hm (attempt_of_error hw)

theorem accessible_notValid (hm : s.Maps) {ptref : Bool} (hw : walk va write s = .error (.exc (notValid va write ptref)) s) :
    accessible va write mode s = .error (.exc (notValid va write ptref)) s :=
  accessible_of_maps hm (attempt_of_error hw)

theorem accessible_read (hm : s.Maps) (hw : walk va false s = .ok w s) (hcode : field w.pte 27 4 ≠ 1) :
    accessible va false mode s = .ok (accessAllowed (field w.pte 27 4) mode false) s := by
  refine (accessible_of_maps hm (attempt_of_ok hw)).trans ?_
  unfold probed
  dsimp only
  rw [if_neg (show ¬ pteProt w.pte = 1 from hcode), if_neg (fun h => Bool.false_ne_true h.1)]
  rfl

theorem accessible_write (hm : s.Maps) (hw : walk va true s = .ok w s) (hcode : field w.pte 27 4 ≠ 1) (hg : s.goodRam w.ptePa 4)
    (hsys : ∀ p, w.sysPa = some p → s.goodRam p 4) :
    ∃ t, accessible va true mode s = .ok (accessAllowed (field w.pte 27 4) mode true) t ∧ t.r = s.r ∧ t.psl = s.psl := by
  have hrun := accessible_of_maps (mode := mode) hm (attempt_of_ok hw)
  unfold probed at hrun
  dsimp only at hrun
  rw [if_neg (show ¬ pteProt w.pte = 1 from hcode)] at hrun
  by_cases hvalid : pteValid w.pte = true
  · obtain ⟨t, hcommit⟩ := commitMaybe_ok (b := 0) hg hsys
    rw [if_pos ⟨rfl, hvalid⟩] at hrun
    exact ⟨t, hrun.trans (bind_of_ok _ hcommit), (keeps_commitMaybe _ (status_busClosed s)).of_ok hcommit ⟨rfl, rfl⟩⟩
  · rw [if_neg (fun h => hvalid h.2)] at hrun
    exact ⟨s, hrun, rfl, rfl⟩

/-! ### PROBEx -/

theorem probe_ok {modeOp len base : Opnd} {m : Byte} {n : Word16} {x y : Bool} (hm : rd .b modeOp s = .ok m s1)
    (hn : rd .w len s1 = .ok n s2) (ha : adr .b base s2 = .ok a s3)
    (hx : accessible a write (max (m.toNat % 4) s3.prv) s3 = .ok x s4)
    (hy : accessible (a + n.setWidth 32 - 1) write (max (m.toNat % 4) s3.prv) s4 = .ok y s5) :
    probe write modeOp len base s = .ok none (s5.withCC false (!(x && y)) false false) := by
  have hmode : field m 0 2 = m.toNat % 4 := by
    unfold field
    rw [BitVec.extractLsb'_toNat, Nat.shiftRight_zero]
  rw [← hmode] at hx hy
  exact bind_run hm <| bind_run hn <| bind_run ha <| bind_run (run_get s3) <| bind_run hx <| bind_run hy rfl

/-- The clauses on system space. -/
theorem accessible_system (hm : s.Maps) (h : field va 30 2 = 2) :
    (s.mm.slr.toNat ≤ field va 9 21 → accessible va write mode s = .ok false s)
    ∧ (field va 9 21 < s.mm.slr.toNat → s.goodRam (systemPte s va) 4 → field (s.longAt (systemPte s va)) 27 4 ≠ 1 →
      accessible va false mode s = .ok (accessAllowed (field (s.longAt (systemPte s va)) 27 4) mode false) s)
    ∧ (field va 9 21 < s.mm.slr.toNat → s.goodRam (systemPte s va) 4 → field (s.longAt (systemPte s va)) 27 4 ≠ 1 →
      ∃ t, accessible va true mode s = .ok (accessAllowed (field (s.longAt (systemPte s va)) 27 4) mode true) t
        ∧ t.r = s.r ∧ t.psl = s.psl) := by
  refine ⟨fun hlength => accessible_violation hm (walk_systemShort h hlength), fun hlength hg hcode => ?_, fun hlength hg hcode => ?_⟩
  · have hread := accessible_read (mode := mode) hm (walk_systemPte h hlength hg) hcode
    exact hread
  · have hwrite := accessible_write (mode := mode) hm (walk_systemPte h hlength hg) hcode hg fun p hp => nomatch hp
    exact hwrite

/-- The system entry of the page table forbids kernel reads, or is not valid. -/
theorem accessible_table {x : Long} (hm : s.Maps) (h : field va 30 2 < 2) (ht : s.tableEntry va x) :
    (accessAllowed (field x 27 4) 0 false = false → accessible va write mode s = .ok false s)
    ∧ (accessAllowed (field x 27 4) 0 false = true → x.getLsbD 31 = false →
      accessible va write mode s = .error (.exc ⟨false, 0x24, [va, (if write then 4 else 0) + 2]⟩) s) := by
  have hw := walk_tableEntry (write := write) h ht
  refine ⟨fun hread => accessible_violation hm (hw.trans (if_pos hread)), fun hread hv => ?_⟩
  rw [if_neg (by simp [hread]), if_pos hv] at hw
  rw [accessible_notValid hm hw, notValid, faultWord_table]

theorem accessible_entry (hm : s.Maps) (h : field va 30 2 < 2) (he : s.entryAt va pa) :
    accessible va false mode s = .ok (accessAllowed (field (s.longAt pa) 27 4) mode false) s
    ∧ ∃ t, accessible va true mode s = .ok (accessAllowed (field (s.longAt pa) 27 4) mode true) t ∧ t.r = s.r ∧ t.psl = s.psl := by
  have ⟨⟨_, ⟨_, _, _, htable, _, _⟩, _, _, _⟩, hgood, hcode⟩ := he
  have hread := accessible_read (mode := mode) hm (walk_entryAt h he) hcode
  have hwrite := accessible_write (mode := mode) hm (walk_entryAt h he) hcode hgood fun p hp => by
    obtain rfl := Option.some.inj hp
    exact htable
  exact ⟨hread, hwrite⟩

/-! ### HALT, R980 -/

theorem halt_ready (h : Ready 0x00 s) :
    ∃ t, exec .halt s = .next t ∧ t.run = .halted .haltInstruction ∧ t.pc = s.pc + 1 ∧ t.psl = s.psl ∧ t.mem = s.mem
      ∧ ∀ k : Reg, k ≠ 15 → t.reg k = s.reg k := by
  obtain ⟨t, hrun, hhalt⟩ := run_haltAt (s := past 0x00 s) .haltInstruction rfl rfl
  refine ⟨t, execute_ready_next h (bind_run (run_get _) hrun), hhalt.run, ?_, hhalt.psl, hhalt.mem, fun k hk => ?_⟩
  · exact (congrArg (fun r : Vector Long 16 => r[(15 : Reg)]) hhalt.regs).trans (State.setReg_reg_same _ _ _)
  · exact (congrArg (fun r : Vector Long 16 => r[k]) hhalt.regs).trans (State.setReg_reg_ne _ _ hk.symm)
end

end Sys2Proof.Machine
end

section
/-! LDPCTX and SVPCTX, 49_system.md R995 to R997, and with them all of process context, PROBEx and HALT. -/
namespace Sys2Proof.Machine

section
variable {s s1 s2 s3 s4 t : State} {w : List Long} {pc psl : Long}

/-! ### The process control block -/

theorem setRegsFrom_eq (s : State) (n : Nat) (vs : List Long) :
    setRegsFrom s n vs = (vs.zipIdx n).foldl (fun t p => t.setReg (Fin.ofNat 16 p.2) p.1) s := by
  induction vs generalizing s n with
  | nil => rfl
  | cons x rest ih => exact ih (s.setReg _ x) (n + 1)

theorem setRegsFrom_zero (s : State) (vs : List Long) : setRegsFrom s 0 vs = s.withRegs vs := setRegsFrom_eq s 0 vs

theorem State.withRegs_frame (s : State) (vs : List Long) : ∃ r, s.withRegs vs = { s with r := r } := by
  unfold State.withRegs
  generalize vs.zipIdx = l
  induction l generalizing s with
  | nil => exact ⟨s.r, rfl⟩
  | cons p rest ih => exact ih (s.setReg (Fin.ofNat 16 p.2) p.1)

theorem keeps_readPcbs {P : State → Prop} (n k : Nat) (h : CycleClosed P) : Keeps P (readPcbs n k) := by
  induction k generalizing n with
  | zero => exact .pure _
  | succ k ih =>
    exact .bind (.bindGet fun s _ => .bind (keeps_physRead .other _ 4 h) fun _ => .pure _) fun _ => .bind (ih (n + 4)) fun _ => .pure _

/-- What LDPCTX asks of the block, R995. -/
theorem contextValid_iff (p0br p0lr p1br p1lr : Long) : contextValid p0br p0lr p1br p1lr = true ↔
    field p0br 30 2 = 2 ∧ field p0br 0 2 = 0 ∧ p0lr &&& 0xF8C00000 = 0 ∧ field p0lr 24 3 < 5
      ∧ field (p1br + 0x00800000) 30 2 = 2 ∧ field p1br 0 2 = 0 ∧ p1lr &&& 0x7FC00000 = 0 := by
  unfold contextValid
  rw [Bool.and_eq_true, Bool.and_eq_true, Bool.and_eq_true, Bool.and_eq_true, baseValid_iff, baseValid_iff, field_add_base,
    beq_iff_eq, beq_iff_eq, decide_eq_true_iff]
  simp only [and_assoc]

/-! ### LDPCTX -/

theorem putBit_interruptStack (x : Long) : putBit x 26 false = x &&& 0xFBFFFFFF := by
  refine BitVec.eq_of_getLsbD_eq fun i hi => ?_
  have hmask : ∀ j < 32, (0xFBFFFFFF : Long).getLsbD j = !decide (j = 26) := by decide
  unfold putBit
  rw [putField_getLsbD _ _ _ _ _ hi, BitVec.getLsbD_and, hmask i hi]
  by_cases h : i = 26
  · subst h
    rw [if_pos (by decide), decide_eq_true rfl, Bool.not_true, Bool.and_false]
    rfl
  · rw [if_neg (by omega), decide_eq_false h, Bool.not_false, Bool.and_true]

/-- The process of a control block takes the place of the one that ran. -/
def State.withContext (s : State) (w : List Long) : State :=
  { s.withRegs ((w.drop 4).take 14) with
    tb := s.tb.filter fun e => decide (0x400000 ≤ e.1)
    sp := ⟨w.getD 0 0, w.getD 1 0, w.getD 2 0, w.getD 3 0, s.sp.isp⟩
    mm := { s.mm with
      p0br := w.getD 20 0, p0lr := (w.getD 21 0).setWidth 22, p1br := w.getD 22 0, p1lr := (w.getD 23 0).setWidth 22 }
    astlvl := (w.getD 21 0).extractLsb' 24 3
    pme := (w.getD 23 0).getLsbD 31 }

/-- It runs on the kernel stack. -/
def State.onKernelStack (s t : State) (ksp : Long) : State :=
  if s.is then { (t.setReg 14 ksp) with sp := { t.sp with isp := s.reg 14 }, psl := t.psl &&& 0xFBFFFFFF } else t

theorem ldpctx_bad (hread : readPcbs 0 24 s = .ok w s1)
    (h : contextValid (w.getD 20 0) (w.getD 21 0) (w.getD 22 0) (w.getD 23 0) = false) :
    ldpctx s = .error (.exc reservedOperandAbort) s1 := by
  refine bind_run hread ?_
  dsimp only
  rw [h]
  rfl

theorem ldpctx_ok (hread : readPcbs 0 24 s = .ok w s1)
    (h : contextValid (w.getD 20 0) (w.getD 21 0) (w.getD 22 0) (w.getD 23 0) = true)
    (hpush : pushFrame 0 [w.getD 19 0, w.getD 18 0] (s1.onKernelStack (s1.withContext w) (w.getD 0 0)) = .ok ⟨⟩ s3) :
    ldpctx s = .ok none s3 := by
  refine bind_run hread ?_
  dsimp only
  rw [if_neg (not_not_intro h)]
  refine bind_run (run_get s1) ?_
  refine bind_run (a := ⟨⟩) (t := s1.onKernelStack (s1.withContext w) (w.getD 0 0)) ?_ (bind_run (attempt_of_ok hpush) rfl)
  unfold State.onKernelStack State.withContext
  obtain ⟨r, hr⟩ := s1.withRegs_frame ((w.drop 4).take 14)
  rw [setRegsFrom_zero, hr, ← putBit_interruptStack]
  unfold field
  rw [BitVec.ofNat_toNat]
  rfl

/-! ### SVPCTX -/

/-- The context is saved, and the interrupt stack taken up. -/
def State.offKernelStack (s t : State) : State :=
  { (t.setReg 14 t.sp.isp) with
    sp := { t.sp with ksp := s.reg 14 }
    psl := putBit (putField t.psl 16 5 (BitVec.ofNat 32 (max 1 s.ipl))) 26 true }

theorem svpctx_run (hpc : pop s = .ok pc s1) (hpsl : pop s1 = .ok psl s2)
    (hwrite : writePcbs 0 ([s2.sp.ksp, s2.sp.esp, s2.sp.ssp, s2.sp.usp] ++ ((List.range 14).map fun i => s2.reg (Fin.ofNat 16 i))
      ++ [pc, psl]) s2 = .ok ⟨⟩ s3) :
    (s2.is = true → svpctx s = .ok none s3)
    ∧ (s2.is = false → writePcbs 0 [s2.reg 14] s3 = .ok ⟨⟩ s4 → svpctx s = .ok none (s2.offKernelStack s4)) := by
  refine ⟨fun his => ?_, fun his hksp => ?_⟩
  · refine bind_run hpc <| bind_run hpsl <| bind_run (run_get s2) <| bind_run hwrite ?_
    rw [if_neg (not_not_intro his)]
    rfl
  · refine bind_run hpc <| bind_run hpsl <| bind_run (run_get s2) <| bind_run hwrite ?_
    rw [if_pos (by rw [his]; exact Bool.false_ne_true)]
    exact bind_run hksp rfl

theorem State.offKernelStack_is (s t : State) : (s.offKernelStack t).is = true :=
  (putField_getLsbD _ _ 26 1 26 (by decide)).trans (if_pos (by decide))

theorem State.offKernelStack_ipl (s t : State) : (s.offKernelStack t).ipl = max 1 s.ipl := by
  have hlt : max 1 s.ipl < 2 ^ 5 := Nat.max_lt.mpr ⟨by decide, BitVec.isLt _⟩
  show field (putBit _ 26 true) 16 5 = _
  unfold putBit
  rw [field_putField_ne _ _ _ _ _ _ (.inl (by decide)), field_putField _ _ 16 5 (by decide), field_ofNat_low (by decide),
    Nat.mod_eq_of_lt hlt]

theorem State.offKernelStack_cur (s t : State) : (s.offKernelStack t).cur = t.cur := by
  show field (putBit _ 26 true) 24 2 = field t.psl 24 2
  unfold putBit
  rw [field_putField_ne _ _ _ _ _ _ (.inl (by decide)), field_putField_ne _ _ _ _ _ _ (.inr (by decide))]
end

/-- Settles O60: LDPCTX and SVPCTX by their runs, PROBEx by the outcome of the walk for each end of its range, HALT by its halt. -/
theorem contextSwitchProbeAndHalt : Obligations.ContextSwitchProbeAndHalt := by
  unfold Obligations.ContextSwitchProbeAndHalt
  refine ⟨?_, ?_, ?_, ?_, fun s va write mode => ?_, fun s => halt_ready⟩
  · intro s s1 s2 s3 w t hready hread h1 h2 h3 h4 h5 h6 h7 ht hs2 hpush
    subst ht hs2
    exact execute_ready_next hready (ldpctx_ok hread ((contextValid_iff _ _ _ _).mpr ⟨h1, h2, h3, h4, h5, h6, h7⟩) hpush)
  · intro s s1 w hready hread hbad
    have hinvalid : contextValid (w.getD 20 0) (w.getD 21 0) (w.getD 22 0) (w.getD 23 0) = false := by
      refine Bool.eq_false_of_not_eq_true fun h => ?_
      obtain ⟨h1, h2, h3, h4, h5, h6, h7⟩ := (contextValid_iff _ _ _ _).mp h
      rcases hbad with hb | hb | hb | hb | hb | hb | hb
      exacts [hb h1, hb h2, hb h3, Nat.not_le.mpr h4 hb, hb h5, hb h6, hb h7]
    refine ⟨execute_ready_exc hready (ldpctx_bad hread hinvalid), fun hidle => ?_⟩
    have hsaw : (past 0x06 s).Saw s1 := (keeps_readPcbs 0 24 (saw_cycleClosed (s := past 0x06 s) hidle)).of_ok hread (.refl _)
    rw [hsaw]
    rfl
  · intro s s1 s2 s3 pc psl hready hpc hpsl hwrite
    refine ⟨fun his => execute_ready_next hready ((svpctx_run (s4 := s3) hpc hpsl hwrite).1 his), fun his s4 hksp => ?_⟩
    refine ⟨_, execute_ready_next hready ((svpctx_run hpc hpsl hwrite).2 his hksp), s2.offKernelStack_is s4, s2.offKernelStack_ipl s4,
      s2.offKernelStack_cur s4, rfl, State.setReg_reg_same _ _ _, rfl, fun k hk => State.setReg_reg_ne _ _ hk.symm⟩
  · intro e he modeOp len base s
    have hexec : exec (e.2.1 modeOp len base) s = execute e.1 (probe e.2.2 modeOp len base) s := by
      revert e
      simp only [List.forall_mem_cons]
      exact ⟨rfl, rfl, fun _ h => nomatch h⟩
    intro s1 s2 s3 s4 s5 m n a x y hready hm hn ha hx hy
    rw [hexec]
    exact execute_ready_next hready (probe_ok hm hn ha hx hy)
  · refine ⟨accessible_off, fun hmap htb h => accessible_system ⟨hmap, htb⟩ h, fun hmap htb => ?_⟩
    have hm : s.Maps := ⟨hmap, htb⟩
    refine ⟨fun h => accessible_violation hm (walk_reserved h), fun h => ⟨fun hb => accessible_violation hm (walk_beyondTable h hb),
      fun hin hno => accessible_violation hm ((walk_withinTable h hin).trans (procPte_noTable hno)),
      fun x ht => accessible_table hm h ht, fun pa he => accessible_entry hm h he⟩⟩

end Sys2Proof.Machine
end
